-- ==== Sys2Proof/Word.lean ====
section
/-!
DEFINITION. The word types of the register window and of byte strings (spec 00 R7, R15).
-/
namespace Sys2Proof

/-- One byte of a byte string. -/
abbrev Byte := BitVec 8

/-- One 32-bit register word (05 R135). -/
abbrev Word := BitVec 32

/-- A byte string, its first byte leftmost (00 R15). -/
abbrev Bytes := List Byte

end Sys2Proof
end

