-- ==== Sys2Proof/Machine/Bits.lean ====
section
/-!
DEFINITION. Bit fields of register words and byte order (spec 00 R10, R15).
-/
namespace Sys2Proof.Machine

/-- The mask of bits `hi` down to `lo`. -/
def fieldMask (hi lo : Nat) : Word := BitVec.ofNat 32 ((2 ^ (hi + 1 - lo) - 1) <<< lo)

/-- Field [hi:lo] of a word (00 R10). -/
def getBits (w : Word) (hi lo : Nat) : Nat := (w.toNat >>> lo) % 2 ^ (hi + 1 - lo)

/-- A word with field [hi:lo] replaced. -/
def putBits (w : Word) (hi lo : Nat) (v : Nat) : Word :=
  (w &&& ~~~ fieldMask hi lo) ||| (BitVec.ofNat 32 (v <<< lo) &&& fieldMask hi lo)

/-- Bit `n` of a word. -/
def getBit (w : Word) (n : Nat) : Bool := getBits w n n == 1

/-- A Bool as a one-bit number. -/
def b2n (b : Bool) : Nat := if b then 1 else 0

/-- The `n` little-endian bytes of a number (00 R15). -/
def leBytes : Nat → Nat → Bytes
  | 0, _ => []
  | n + 1, v => BitVec.ofNat 8 v :: leBytes n (v / 256)

/-- The `n` big-endian bytes of a number (00 R15, network byte order). -/
def beBytes (n v : Nat) : Bytes := (leBytes n v).reverse

/-- The number that little-endian bytes spell. -/
def leNat : Bytes → Nat
  | [] => 0
  | b :: t => b.toNat + 256 * leNat t

/-- The number that big-endian bytes spell. -/
def beNat (b : Bytes) : Nat := leNat b.reverse

/-- `n` zero bytes (03 R66). -/
def zeros (n : Nat) : Bytes := List.replicate n 0

/-- The bytewise XOR of two byte strings, as long as the shorter. -/
def xorBytes : Bytes → Bytes → Bytes
  | a :: s, b :: t => (a ^^^ b) :: xorBytes s t
  | _, _ => []

/-- The 32-bit word at byte offset `4 k` of a byte string, little-endian. -/
def wordAt (b : Bytes) (k : Nat) : Word := BitVec.ofNat 32 (leNat ((b.drop (4 * k)).take 4))

/-- Add with saturation at `top` (05 Table 05.4 "saturates at"). -/
def satAdd (top a n : Nat) : Nat := min top (a + n)

/-- Whether every byte is zero. -/
def allZero (b : Bytes) : Bool := b.all (· == 0)

/-- Number of bits set among the low `n` bits. -/
def popCount : Nat → Nat → Nat
  | 0, _ => 0
  | n + 1, v => v % 2 + popCount n (v / 2)

end Sys2Proof.Machine
end

