-- ==== Sys2Proof/Machine/RegMap.lean ====
section
/-!
DEFINITION. The register map: every register word of the window beyond the common header, as the owning tables of spec 04 to 21 and
chapter 22 place them, with each field's bits, access code, roles, guard and reset value (00 R10, 05 R134).
Reset values that a table gives as "OTP" or "Decode" stand here as 0 and are loaded by the operation that the spec names.
-/
namespace Sys2Proof.Machine

/-- The register roles (05 Table 05.3), T without its instance; `x` is an HT_FUNC that names no role (03 R86). -/
inductive RoleKind where
  | m | t | f | d | x
deriving DecidableEq, Repr

/-- The access codes (00 Table 00.6). -/
inductive Access where
  | rw | ro | w1c | w1s | wo | rc
deriving DecidableEq, Repr

/-- One field of a register word. -/
structure Fld where
  name : String
  hi : Nat
  lo : Nat
  acc : Access
  roles : List RoleKind
  guarded : Bool
  reset : Nat
deriving DecidableEq, Repr

/-- One register: its first offset in the page, how many consecutive words share the layout, its fields. -/
structure Reg where
  off : Nat
  words : Nat
  flds : List Fld
deriving DecidableEq, Repr

/-- Roles M, F and D. -/
def mfd : List RoleKind := [.m, .f, .d]
/-- Roles M and F. -/
def mf : List RoleKind := [.m, .f]
/-- Role F alone. -/
def fOnly : List RoleKind := [.f]
/-- Role M alone. -/
def mOnly : List RoleKind := [.m]
/-- Role D alone. -/
def dOnly : List RoleKind := [.d]
/-- Role T alone. -/
def tOnly : List RoleKind := [.t]
/-- All four roles. -/
def mtfd : List RoleKind := [.m, .t, .f, .d]
/-- Roles T and F. -/
def tf : List RoleKind := [.t, .f]
/-- Roles M and T. -/
def mt : List RoleKind := [.m, .t]
/-- Roles M, T and F. -/
def mtf : List RoleKind := [.m, .t, .f]

/-- The register words of the cru pages beyond the common header. -/
def cruRegs : List Reg :=
  [ ⟨0x040, 1, [⟨"SSC_EN", 0, 0, .rw, mf, false, 0⟩, ⟨"SSC_DEPTH", 4, 1, .rw, mf, false, 0⟩, ⟨"SSC_RATE", 6, 5, .rw, mf, false, 0⟩]⟩,
    ⟨0x044, 1, [⟨"LOCK", 0, 0, .ro, mfd, false, 0⟩, ⟨"ROOT_STABLE", 1, 1, .ro, mfd, false, 0⟩, ⟨"AON_STABLE", 2, 2, .ro, mfd, false, 0⟩, ⟨"RELOCKS", 15, 8, .ro, mfd, false, 0⟩, ⟨"EVT_LOST", 23, 16, .ro, mfd, false, 0⟩]⟩,
    ⟨0x048, 1, [⟨"CCE", 0, 0, .rw, mf, false, 1⟩, ⟨"PMU", 1, 1, .rw, mf, false, 1⟩, ⟨"TRS", 2, 2, .rw, mf, false, 1⟩]⟩,
    ⟨0x04C, 1, [⟨"MEA", 31, 0, .rw, mf, false, 0xffffffff⟩]⟩,
    ⟨0x050, 1, [⟨"MEB", 7, 0, .rw, mf, false, 0⟩]⟩,
    ⟨0x054, 1, [⟨"VDT", 17, 0, .rw, mf, false, 0⟩]⟩,
    ⟨0x058, 1, [⟨"GATED_HITS", 31, 0, .rc, mf, false, 0⟩]⟩,
    ⟨0x05C, 1, [⟨"MEB_ON", 6, 6, .rw, mOnly, false, 0⟩, ⟨"TRS_ON", 10, 10, .rw, mOnly, false, 1⟩]⟩,
    ⟨0x060, 1, [⟨"PSW_STATE", 12, 0, .ro, mfd, false, 0⟩]⟩,
    ⟨0x064, 1, [⟨"ENTER", 0, 0, .wo, mf, false, 0⟩, ⟨"EXIT", 1, 1, .wo, mf, false, 0⟩]⟩,
    ⟨0x068, 1, [⟨"LAST_CAUSE", 3, 0, .ro, mfd, false, 0⟩, ⟨"ENTRIES", 31, 16, .ro, mfd, false, 0⟩]⟩,
    ⟨0x06C, 1, [⟨"THROTTLE", 0, 0, .ro, mfd, false, 0⟩, ⟨"THROTTLE_COUNT", 31, 16, .ro, mfd, false, 0⟩]⟩ ]

/-- The register words of the sbx pages beyond the common header. -/
def sbxRegs : List Reg :=
  [ ⟨0x040, 1, [⟨"FAILS", 3, 0, .ro, mfd, false, 0⟩, ⟨"LAST_ERR", 15, 8, .ro, mfd, false, 0⟩, ⟨"RELOADED", 16, 16, .ro, mfd, false, 0⟩, ⟨"KEY_SLOT", 17, 17, .ro, mfd, false, 0⟩]⟩,
    ⟨0x044, 1, [⟨"SVN", 31, 0, .ro, mfd, false, 0⟩]⟩,
    ⟨0x048, 1, [⟨"RELOAD_LO", 31, 12, .rw, fOnly, false, 0⟩]⟩,
    ⟨0x04C, 1, [⟨"RELOAD_HI", 31, 0, .rw, fOnly, false, 0⟩]⟩,
    ⟨0x050, 1, [⟨"INDEX", 2, 0, .rw, mfd, false, 0⟩, ⟨"EXTEND", 8, 8, .wo, fOnly, false, 0⟩, ⟨"BUSY", 9, 9, .ro, mfd, false, 0⟩]⟩,
    ⟨0x060, 12, [⟨"MEAS_DATA0", 31, 0, .ro, mfd, false, 0⟩]⟩,
    ⟨0x090, 12, [⟨"MEAS_IN0", 31, 0, .wo, fOnly, false, 0⟩]⟩,
    ⟨0x0C0, 1, [⟨"HALT", 0, 0, .rw, dOnly, false, 0⟩, ⟨"HALTED", 1, 1, .ro, mfd, false, 0⟩]⟩,
    ⟨0x0C4, 1, [⟨"DEVID_IDX", 9, 0, .rw, mfd, false, 0⟩]⟩,
    ⟨0x0C8, 1, [⟨"DEVID_DATA", 31, 0, .ro, mfd, false, 0⟩]⟩ ]

/-- The register words of the lco pages beyond the common header. -/
def lcoRegs : List Reg :=
  [ ⟨0x040, 1, [⟨"STATE", 7, 0, .ro, mfd, false, 0⟩, ⟨"COPY_AGREE", 10, 8, .ro, mfd, false, 0⟩, ⟨"PENDING", 11, 11, .ro, mfd, false, 0⟩, ⟨"BUSY", 12, 12, .ro, mfd, false, 0⟩, ⟨"DBG_OPEN", 13, 13, .ro, mfd, false, 0⟩, ⟨"WIPING", 14, 14, .ro, mfd, false, 0⟩, ⟨"TOKEN_FAILS", 19, 16, .ro, mfd, false, 0⟩, ⟨"LAST_STAT", 31, 24, .ro, mfd, false, 0⟩]⟩,
    ⟨0x044, 1, [⟨"TARGET", 7, 0, .wo, mfd, true, 0⟩, ⟨"GO", 8, 8, .wo, mfd, true, 0⟩, ⟨"DBG_UNLOCK", 9, 9, .wo, mfd, true, 0⟩, ⟨"DBG_CLOSE", 10, 10, .wo, mf, false, 0⟩]⟩,
    ⟨0x048, 8, [⟨"TOKEN0", 31, 0, .wo, mfd, false, 0⟩]⟩,
    ⟨0x068, 1, [⟨"OTP_ADDR", 11, 0, .rw, mfd, false, 0⟩]⟩,
    ⟨0x06C, 1, [⟨"OTP_WDATA", 31, 0, .wo, mfd, false, 0⟩]⟩,
    ⟨0x070, 1, [⟨"OTP_RDATA", 31, 0, .ro, mfd, false, 0⟩]⟩,
    ⟨0x074, 1, [⟨"READ", 0, 0, .wo, mfd, false, 0⟩, ⟨"PROG", 1, 1, .wo, mfd, true, 0⟩]⟩,
    ⟨0x080, 1, [⟨"DBG_SEL", 7, 0, .rw, dOnly, false, 0⟩]⟩,
    ⟨0x084, 1, [⟨"DBG_ADDR", 31, 0, .rw, dOnly, false, 0⟩]⟩,
    ⟨0x088, 1, [⟨"DBG_DATA", 31, 0, .ro, dOnly, false, 0⟩]⟩,
    ⟨0x0C0, 1, [⟨"VALUE", 8, 0, .ro, mfd, false, 0⟩, ⟨"BUSY", 16, 16, .ro, mfd, false, 0⟩, ⟨"FAILED", 17, 17, .ro, mfd, false, 0⟩]⟩,
    ⟨0x0C4, 1, [⟨"TARGET", 8, 0, .wo, fOnly, true, 0⟩]⟩ ]

/-- The register words of the kvt pages beyond the common header. -/
def kvtRegs : List Reg :=
  [ ⟨0x040, 1, [⟨"OP", 7, 0, .wo, mfd, true, 0⟩, ⟨"SEQ", 15, 8, .wo, mfd, true, 0⟩, ⟨"KEYID", 31, 16, .wo, fOnly, true, 0⟩]⟩,
    ⟨0x044, 1, [⟨"ARG0", 31, 0, .rw, fOnly, false, 0⟩]⟩,
    ⟨0x048, 1, [⟨"PIN", 0, 0, .rw, fOnly, false, 0⟩, ⟨"PENDING_KEY", 1, 1, .rw, fOnly, false, 0⟩]⟩,
    ⟨0x04C, 1, [⟨"CSEQ", 7, 0, .ro, mfd, false, 0⟩, ⟨"CSTATUS", 15, 8, .ro, mfd, false, 0⟩, ⟨"BUSY", 16, 16, .ro, mfd, false, 0⟩, ⟨"ROOT_READY", 17, 17, .ro, mfd, false, 0⟩, ⟨"BN_READY", 18, 18, .ro, mfd, false, 0⟩]⟩,
    ⟨0x050, 1, [⟨"BASE", 18, 0, .rw, fOnly, true, 0⟩, ⟨"VALID", 31, 31, .rw, fOnly, true, 0⟩]⟩,
    ⟨0x054, 1, [⟨"LIVE", 13, 0, .ro, mfd, false, 0⟩, ⟨"PINNED", 29, 16, .ro, mfd, false, 0⟩]⟩,
    ⟨0x058, 1, [⟨"MISSES", 31, 0, .rc, mf, false, 0⟩]⟩,
    ⟨0x05C, 1, [⟨"POS0_VALID", 0, 0, .ro, mfd, false, 0⟩, ⟨"POS1_VALID", 1, 1, .ro, mfd, false, 0⟩, ⟨"SEND_POS", 2, 2, .ro, mfd, false, 0⟩]⟩,
    ⟨0x060, 1, [⟨"EPOCH0", 31, 0, .ro, mfd, false, 0⟩]⟩,
    ⟨0x064, 1, [⟨"EPOCH1", 31, 0, .ro, mfd, false, 0⟩]⟩,
    ⟨0x068, 1, [⟨"PKC_VALID", 12, 0, .ro, mfd, false, 0⟩]⟩,
    ⟨0x800, 512, [⟨"XBUF", 31, 0, .rw, fOnly, false, 0⟩]⟩ ]

/-- The register words of the ent pages beyond the common header. -/
def entRegs : List Reg :=
  [ ⟨0x040, 1, [⟨"DRBG_DATA", 31, 0, .ro, fOnly, false, 0⟩]⟩,
    ⟨0x044, 1, [⟨"STARTUP_FAILS", 7, 0, .ro, mfd, false, 0⟩, ⟨"CONT_FAILS", 15, 8, .ro, mfd, false, 0⟩, ⟨"RESEEDS", 31, 16, .ro, mfd, false, 0⟩]⟩ ]

/-- The register words of the jct pages beyond the common header. -/
def jctRegs : List Reg :=
  [ ⟨0x040, 1, [⟨"IDX", 9, 0, .rw, mfd, false, 0⟩]⟩,
    ⟨0x044, 1, [⟨"SW_BASE", 29, 0, .rw, mf, false, 0⟩, ⟨"SW_VALID", 31, 31, .rw, mf, false, 0⟩]⟩,
    ⟨0x048, 1, [⟨"SW_LIMIT", 29, 0, .rw, mf, false, 0⟩, ⟨"SW_CLASS", 31, 30, .rw, mf, false, 0⟩]⟩,
    ⟨0x04C, 1, [⟨"SW_ATTR", 24, 0, .rw, mf, false, 0⟩]⟩,
    ⟨0x050, 1, [⟨"AW0", 31, 0, .ro, mfd, false, 0⟩]⟩,
    ⟨0x054, 1, [⟨"AW1", 31, 0, .ro, mfd, false, 0⟩]⟩,
    ⟨0x058, 1, [⟨"AW2", 31, 0, .ro, mfd, false, 0⟩]⟩,
    ⟨0x05C, 1, [⟨"RESET_PEND", 0, 0, .ro, mfd, false, 0⟩]⟩,
    ⟨0x060, 1, [⟨"GO", 0, 0, .wo, mf, true, 0⟩, ⟨"RESTAGE", 1, 1, .wo, mf, false, 0⟩]⟩,
    ⟨0x064, 1, [⟨"STATUS", 7, 0, .ro, mfd, false, 0⟩, ⟨"ENTRY", 17, 8, .ro, mfd, false, 0⟩, ⟨"REASON", 23, 20, .ro, mfd, false, 0⟩, ⟨"BUSY", 24, 24, .ro, mfd, false, 0⟩]⟩,
    ⟨0x068, 1, [⟨"RLIST", 11, 0, .ro, mfd, false, 0⟩]⟩ ]

/-- The register words of the eng pages beyond the common header. -/
def engRegs : List Reg :=
  [ ⟨0x040, 1, [⟨"SLOTS_USED", 6, 0, .ro, mfd, false, 0⟩, ⟨"HOLD_REASON", 12, 8, .ro, mfd, false, 0⟩, ⟨"RESEAL_ACTIVE", 13, 13, .ro, mfd, false, 0⟩]⟩,
    ⟨0x044, 1, [⟨"TAG_REUSE", 31, 0, .rc, mf, false, 0⟩]⟩,
    ⟨0x048, 1, [⟨"AUTH_FAILS", 31, 0, .rc, mf, false, 0⟩]⟩,
    ⟨0x04C, 1, [⟨"RESEALS", 31, 0, .rc, mf, false, 0⟩]⟩,
    ⟨0x050, 1, [⟨"COMBINED", 31, 0, .rc, mf, false, 0⟩]⟩,
    ⟨0x054, 1, [⟨"COMB_SETS", 31, 0, .rc, mf, false, 0⟩]⟩ ]

/-- The register words of the ctc pages beyond the common header. -/
def ctcRegs : List Reg :=
  [ ⟨0x040, 1, [⟨"TIERB_WAYS", 3, 0, .rw, mf, true, 4⟩, ⟨"TREE_WAYS", 6, 4, .rw, mf, true, 2⟩]⟩,
    ⟨0x044, 1, [⟨"FLOOR", 4, 0, .rw, mf, true, 2⟩, ⟨"CEIL", 9, 5, .rw, mf, true, 0x10⟩]⟩,
    ⟨0x048, 1, [⟨"DEPTH", 4, 0, .ro, mfd, false, 8⟩, ⟨"OVERRIDE", 8, 8, .ro, mfd, false, 0⟩, ⟨"OVERRIDES", 31, 16, .ro, mfd, false, 0⟩]⟩,
    ⟨0x04C, 1, [⟨"DIRTY", 20, 0, .ro, mfd, false, 0⟩]⟩,
    ⟨0x050, 1, [⟨"PINNED", 20, 0, .ro, mfd, false, 0⟩]⟩,
    ⟨0x054, 1, [⟨"DIR_USED", 16, 0, .ro, mfd, false, 0⟩, ⟨"OWN_EN", 31, 31, .rw, mf, true, 1⟩]⟩,
    ⟨0x058, 1, [⟨"LOST", 31, 0, .rc, mf, false, 0⟩]⟩,
    ⟨0x05C, 1, [⟨"FORCED_WB", 31, 0, .rc, mf, false, 0⟩]⟩ ]

/-- The register words of the vdt pages beyond the common header. -/
def vdtRegs0 : List Reg :=
  [ ⟨0x040, 1, [⟨"SLOTS_USED", 6, 0, .ro, mfd, false, 0⟩, ⟨"HOLD_REASON", 12, 8, .ro, mfd, false, 0⟩, ⟨"GAUGE", 14, 13, .ro, mfd, false, 0⟩, ⟨"OVERRIDE", 15, 15, .ro, mfd, false, 0⟩, ⟨"OUTSTANDING", 26, 16, .ro, mfd, false, 0⟩]⟩,
    ⟨0x044, 1, [⟨"UDP_PORT", 15, 0, .rw, fOnly, true, 0⟩, ⟨"HOPLIM", 23, 16, .rw, fOnly, true, 0x40⟩, ⟨"VLAN_EN", 24, 24, .rw, fOnly, true, 0⟩]⟩,
    ⟨0x048, 1, [⟨"VID", 11, 0, .rw, fOnly, true, 0⟩, ⟨"PCP", 14, 12, .rw, fOnly, true, 0⟩]⟩,
    ⟨0x04C, 1, [⟨"OWN_MAC", 31, 0, .rw, fOnly, true, 0⟩]⟩,
    ⟨0x050, 1, [⟨"OWN_MAC", 15, 0, .rw, fOnly, true, 0⟩]⟩,
    ⟨0x054, 1, [⟨"NEXTHOP_MAC", 31, 0, .rw, fOnly, true, 0⟩]⟩,
    ⟨0x058, 1, [⟨"NEXTHOP_MAC", 15, 0, .rw, fOnly, true, 0⟩]⟩,
    ⟨0x05C, 2, [⟨"PREFIX", 31, 0, .rw, fOnly, true, 0⟩]⟩,
    ⟨0x064, 3, [⟨"MCAST_PREFIX", 31, 0, .rw, fOnly, true, 0⟩]⟩,
    ⟨0x070, 1, [⟨"WIDEST", 1, 0, .rw, mf, true, 0⟩, ⟨"NARROWEST", 3, 2, .rw, mf, true, 3⟩, ⟨"ERR_LIMIT", 15, 8, .rw, mf, true, 0x10⟩]⟩,
    ⟨0x074, 1, [⟨"RSP_TMO", 13, 0, .rw, mf, true, 0x64⟩]⟩,
    ⟨0x078, 1, [⟨"FLOW_IDX", 11, 0, .rw, fOnly, false, 0⟩]⟩,
    ⟨0x07C, 1, [⟨"KIND", 1, 0, .rw, fOnly, false, 0⟩, ⟨"DEST", 3, 2, .rw, fOnly, false, 0⟩, ⟨"BALLAST", 5, 4, .rw, fOnly, false, 0⟩, ⟨"DSCP", 11, 6, .rw, fOnly, false, 0⟩, ⟨"SAF", 12, 12, .rw, fOnly, false, 0⟩, ⟨"PEER_ID", 29, 16, .rw, fOnly, false, 0⟩]⟩,
    ⟨0x080, 1, [⟨"PEER_PORT", 4, 0, .rw, fOnly, false, 0⟩, ⟨"INSTANCE", 15, 8, .rw, fOnly, false, 0⟩, ⟨"KEYID", 31, 16, .rw, fOnly, false, 0⟩]⟩,
    ⟨0x084, 1, [⟨"GROUP", 31, 0, .rw, fOnly, false, 0⟩]⟩,
    ⟨0x088, 1, [⟨"CMD", 1, 0, .wo, fOnly, true, 0⟩]⟩,
    ⟨0x08C, 1, [⟨"CSTATUS", 7, 0, .ro, mfd, false, 0⟩, ⟨"VALID", 8, 8, .ro, mfd, false, 0⟩, ⟨"READY", 9, 9, .ro, mfd, false, 0⟩]⟩,
    ⟨0x090, 2, [⟨"SEND_COUNT", 31, 0, .ro, mfd, false, 0⟩]⟩,
    ⟨0x098, 2, [⟨"HIGH", 31, 0, .ro, mfd, false, 0⟩]⟩,
    ⟨0x0A0, 1, [⟨"WEPOCH", 31, 0, .ro, mfd, false, 0⟩]⟩ ]

/-- The register words of the vdt pages, continued. -/
def vdtRegs1 : List Reg :=
  [ ⟨0x0A4, 1, [⟨"MF_IDX", 13, 0, .rw, fOnly, false, 0⟩]⟩,
    ⟨0x0A8, 1, [⟨"MF_FLOW", 11, 0, .rw, fOnly, true, 0⟩, ⟨"MF_VALID", 31, 31, .rw, fOnly, true, 0⟩]⟩,
    ⟨0x0AC, 1, [⟨"MAP_IDX", 8, 0, .rw, fOnly, false, 0⟩, ⟨"MAP_POS", 16, 16, .rw, fOnly, false, 0⟩]⟩,
    ⟨0x0B0, 1, [⟨"MAP_DATA", 31, 0, .rw, fOnly, true, 0⟩]⟩,
    ⟨0x0C0, 1, [⟨"HELD_DROPS", 31, 0, .rc, mf, false, 0⟩]⟩,
    ⟨0x0C4, 1, [⟨"OVERSIZE_DROPS", 31, 0, .rc, mf, false, 0⟩]⟩,
    ⟨0x0C8, 1, [⟨"MALFORMED_DROPS", 31, 0, .rc, mf, false, 0⟩]⟩,
    ⟨0x0CC, 1, [⟨"EPOCH_DROPS", 31, 0, .rc, mf, false, 0⟩]⟩,
    ⟨0x0D0, 1, [⟨"MEMBER_DROPS", 31, 0, .rc, mf, false, 0⟩]⟩,
    ⟨0x0D4, 1, [⟨"FLOW_DROPS", 31, 0, .rc, mf, false, 0⟩]⟩,
    ⟨0x0D8, 1, [⟨"REPLAY_DROPS", 31, 0, .rc, mf, false, 0⟩]⟩,
    ⟨0x0DC, 1, [⟨"LATE_RSP", 31, 0, .rc, mf, false, 0⟩]⟩,
    ⟨0x0E0, 1, [⟨"GROUP_UNMATCHED", 31, 0, .rc, mf, false, 0⟩]⟩,
    ⟨0x0E4, 1, [⟨"SEAL_DROPS", 31, 0, .rc, mf, false, 0⟩]⟩,
    ⟨0x0E8, 1, [⟨"LINK_ERR_DROPS", 31, 0, .rc, mf, false, 0⟩]⟩,
    ⟨0x0EC, 1, [⟨"DENY_DROPS", 31, 0, .rc, mf, false, 0⟩]⟩,
    ⟨0x0F0, 1, [⟨"NI_DROPS", 31, 0, .rc, mf, false, 0⟩]⟩,
    ⟨0x0F4, 1, [⟨"RSP_TIMEOUTS", 31, 0, .rc, mf, false, 0⟩]⟩,
    ⟨0x0F8, 1, [⟨"INCARN", 7, 0, .ro, mfd, false, 0⟩]⟩,
    ⟨0x100, 1, [⟨"DSP_IDX", 3, 0, .rw, fOnly, false, 0⟩]⟩ ]

/-- The register words of the vdt pages, continued. -/
def vdtRegs2 : List Reg :=
  [ ⟨0x104, 1, [⟨"DSP_FLOW", 11, 0, .rw, fOnly, false, 0⟩, ⟨"DSP_FRAMES", 18, 12, .rw, fOnly, false, 0⟩]⟩,
    ⟨0x108, 1, [⟨"DSP_FSIZE", 13, 0, .rw, fOnly, false, 0⟩, ⟨"DSP_PERIOD", 31, 16, .rw, fOnly, false, 0⟩]⟩,
    ⟨0x10C, 1, [⟨"DSP_CMD", 1, 0, .wo, fOnly, true, 0⟩]⟩,
    ⟨0x110, 1, [⟨"DSP_CSTATUS", 7, 0, .ro, mfd, false, 0⟩, ⟨"DSP_ACTIVE", 8, 8, .ro, mfd, false, 0⟩, ⟨"DSP_STOPPING", 9, 9, .ro, mfd, false, 0⟩, ⟨"DSP_QUEUED", 16, 10, .ro, mfd, false, 0⟩]⟩,
    ⟨0x114, 1, [⟨"DSP_LOAD", 17, 0, .ro, mfd, false, 0⟩]⟩,
    ⟨0x118, 1, [⟨"SPARSE_TX", 31, 0, .rc, mf, false, 0⟩]⟩,
    ⟨0x11C, 1, [⟨"PAD_BYTES_TX", 31, 0, .rc, mf, false, 0⟩]⟩,
    ⟨0x120, 1, [⟨"DUMMY_TX", 31, 0, .rc, mf, false, 0⟩]⟩,
    ⟨0x124, 1, [⟨"DUMMY_RX", 31, 0, .rc, mf, false, 0⟩]⟩,
    ⟨0x128, 1, [⟨"BALLAST_DROPS", 31, 0, .rc, mf, false, 0⟩]⟩,
    ⟨0x12C, 1, [⟨"DISPATCH_LATE", 31, 0, .rc, mf, false, 0⟩]⟩,
    ⟨0x140, 1, [⟨"WIN_MEM", 5, 0, .rw, mf, true, 8⟩, ⟨"WIN_NI", 13, 8, .rw, mf, true, 2⟩]⟩,
    ⟨0x144, 1, [⟨"CRED_HOLD", 7, 0, .rw, mf, true, 2⟩, ⟨"CRED_TMO", 23, 8, .rw, mf, true, 0x3e8⟩]⟩,
    ⟨0x148, 1, [⟨"GONE_TMO", 15, 0, .rw, mf, true, 0xfa0⟩]⟩,
    ⟨0x14C, 1, [⟨"PEER_IDX", 13, 0, .rw, mfd, false, 0⟩]⟩,
    ⟨0x150, 1, [⟨"PEER_STATE", 1, 0, .ro, mfd, false, 0⟩, ⟨"INC_VALID", 8, 8, .ro, mfd, false, 0⟩, ⟨"PEER_INC", 23, 16, .ro, mfd, false, 0⟩]⟩,
    ⟨0x154, 1, [⟨"RSP_RSV", 16, 0, .ro, mfd, false, 0⟩]⟩,
    ⟨0x160, 1, [⟨"CRED_RET_TX", 31, 0, .rc, mf, false, 0⟩]⟩,
    ⟨0x164, 1, [⟨"CRED_EXPIRED", 31, 0, .rc, mf, false, 0⟩]⟩,
    ⟨0x168, 1, [⟨"PART_DROPS", 31, 0, .rc, mf, false, 0⟩]⟩ ]

/-- The register words of the vdt pages, continued. -/
def vdtRegs3 : List Reg :=
  [ ⟨0x16C, 1, [⟨"RSV_DROPS", 31, 0, .rc, mf, false, 0⟩]⟩,
    ⟨0x170, 1, [⟨"PEER_GONE_CMP", 31, 0, .rc, mf, false, 0⟩]⟩,
    ⟨0x174, 1, [⟨"PEER_EVENTS", 31, 0, .rc, mf, false, 0⟩]⟩ ]

/-- Every register word of the vdt pages beyond the common header. -/
def vdtRegs : List Reg := vdtRegs0 ++ vdtRegs1 ++ vdtRegs2 ++ vdtRegs3

/-- The register words of the ttb pages beyond the common header. -/
def ttbRegs : List Reg :=
  [ ⟨0x0C0, 1, [⟨"COMB_EN", 0, 0, .rw, mf, true, 1⟩]⟩,
    ⟨0x0C4, 1, [⟨"ORD_WAITING", 6, 0, .ro, mfd, false, 0⟩]⟩,
    ⟨0x0C8, 1, [⟨"ORD_FLAGS", 31, 0, .rc, mf, false, 0⟩]⟩,
    ⟨0x0CC, 1, [⟨"ORD_FAILED", 31, 0, .rc, mf, false, 0⟩]⟩,
    ⟨0x0D0, 1, [⟨"STALE_RSP", 31, 0, .rc, mf, false, 0⟩]⟩,
    ⟨0x0D4, 1, [⟨"UNIT_GONE_CMP", 31, 0, .rc, mf, false, 0⟩]⟩ ]

/-- The register words of the trs pages beyond the common header. -/
def trsRegs : List Reg :=
  [ ⟨0x040, 1, [⟨"CHUNK_TMO", 19, 0, .rw, mf, true, 0x2710⟩]⟩,
    ⟨0x044, 1, [⟨"CHUNKS_OPEN", 6, 0, .ro, mfd, false, 0⟩, ⟨"CT_HELD", 7, 7, .ro, mfd, false, 0⟩, ⟨"GROUPS_BUSY", 15, 8, .ro, mfd, false, 0⟩]⟩,
    ⟨0x048, 1, [⟨"CHUNKS", 31, 0, .rc, mf, false, 0⟩]⟩,
    ⟨0x04C, 1, [⟨"FAILED", 31, 0, .rc, mf, false, 0⟩]⟩,
    ⟨0x050, 1, [⟨"NOCHUNK", 31, 0, .rc, mf, false, 0⟩]⟩,
    ⟨0x054, 1, [⟨"MISMATCH", 31, 0, .rc, mf, false, 0⟩]⟩,
    ⟨0x058, 1, [⟨"EXCESS", 31, 0, .rc, mf, false, 0⟩]⟩,
    ⟨0x05C, 1, [⟨"TIMEOUTS", 31, 0, .rc, mf, false, 0⟩]⟩,
    ⟨0x060, 1, [⟨"RANGE", 31, 0, .rc, mf, false, 0⟩]⟩ ]

/-- The register words of the hgt pages beyond the common header. -/
def hgtRegs0 : List Reg :=
  [ ⟨0x040, 1, [⟨"PAIR", 5, 0, .rw, mfd, false, 0⟩, ⟨"DIR", 6, 6, .rw, mfd, false, 0⟩]⟩,
    ⟨0x044, 1, [⟨"BASE_LO", 31, 12, .rw, fOnly, false, 0⟩]⟩,
    ⟨0x048, 1, [⟨"BASE_HI", 31, 0, .rw, fOnly, false, 0⟩]⟩,
    ⟨0x04C, 1, [⟨"SLOT", 4, 0, .rw, fOnly, false, 0⟩, ⟨"COUNT", 8, 5, .rw, fOnly, false, 0⟩, ⟨"INST", 23, 16, .rw, fOnly, false, 0⟩]⟩,
    ⟨0x050, 1, [⟨"KEYID", 15, 0, .rw, fOnly, false, 0⟩]⟩,
    ⟨0x054, 1, [⟨"WIN_BASE", 29, 0, .rw, fOnly, false, 0⟩]⟩,
    ⟨0x058, 1, [⟨"WIN_LIMIT", 29, 0, .rw, fOnly, false, 0⟩]⟩,
    ⟨0x05C, 1, [⟨"CMD", 1, 0, .wo, fOnly, true, 0⟩]⟩,
    ⟨0x060, 1, [⟨"CSTATUS", 7, 0, .ro, mfd, false, 0⟩, ⟨"OPEN", 8, 8, .ro, mfd, false, 0⟩, ⟨"HELD", 9, 9, .ro, mfd, false, 0⟩, ⟨"KEM", 10, 10, .ro, mfd, false, 0⟩]⟩,
    ⟨0x064, 2, [⟨"SEQ", 31, 0, .ro, mfd, false, 0⟩]⟩,
    ⟨0x080, 8, [⟨"KEY0", 31, 0, .wo, fOnly, false, 0⟩]⟩,
    ⟨0x0A0, 1, [⟨"EQ_BASE_LO", 31, 12, .rw, mf, false, 0⟩]⟩,
    ⟨0x0A4, 1, [⟨"EQ_BASE_HI", 31, 0, .rw, mf, false, 0⟩]⟩,
    ⟨0x0A8, 1, [⟨"EQ_LOG2", 4, 0, .rw, mf, false, 6⟩, ⟨"EQ_EN", 8, 8, .rw, mf, false, 0⟩]⟩,
    ⟨0x0AC, 1, [⟨"EQ_CONS", 31, 0, .rw, mOnly, false, 0⟩]⟩,
    ⟨0x0B0, 1, [⟨"EQ_PROD", 31, 0, .ro, mfd, false, 0⟩]⟩,
    ⟨0x0B4, 2, [⟨"MSI_ADDR", 31, 0, .rw, mOnly, false, 0⟩]⟩,
    ⟨0x0BC, 1, [⟨"MSI_DATA", 31, 0, .rw, mOnly, false, 0⟩]⟩,
    ⟨0x0C0, 1, [⟨"MSI_GAP", 15, 0, .rw, mOnly, false, 0⟩]⟩,
    ⟨0x0D0, 1, [⟨"REC_OK", 31, 0, .rc, mf, false, 0⟩]⟩ ]

/-- The register words of the hgt pages, continued. -/
def hgtRegs1 : List Reg :=
  [ ⟨0x0D4, 1, [⟨"REC_FAIL", 31, 0, .rc, mf, false, 0⟩]⟩,
    ⟨0x0D8, 1, [⟨"EQ_FULL", 31, 0, .rc, mf, false, 0⟩]⟩,
    ⟨0x0DC, 1, [⟨"IDE_SETS", 3, 0, .ro, mfd, false, 0⟩]⟩,
    ⟨0x200, 128, [⟨"DB", 31, 0, .wo, mOnly, false, 0⟩]⟩ ]

/-- Every register word of the hgt pages beyond the common header. -/
def hgtRegs : List Reg := hgtRegs0 ++ hgtRegs1

/-- The register words of the cce pages beyond the common header. -/
def cceRegs : List Reg :=
  [ ⟨0x040, 1, [⟨"Q_SEL", 3, 0, .rw, mfd, false, 0⟩]⟩,
    ⟨0x044, 1, [⟨"OWNER_FW", 0, 0, .rw, fOnly, false, 0⟩, ⟨"INST", 15, 8, .rw, fOnly, false, 0⟩, ⟨"LOG2", 19, 16, .rw, fOnly, false, 0⟩]⟩,
    ⟨0x048, 1, [⟨"SQ_BASE", 29, 0, .rw, fOnly, false, 0⟩]⟩,
    ⟨0x04C, 1, [⟨"CQ_BASE", 29, 0, .rw, fOnly, false, 0⟩]⟩,
    ⟨0x050, 1, [⟨"RING_KEYID", 15, 0, .rw, fOnly, false, 0⟩]⟩,
    ⟨0x054, 1, [⟨"Q_CMD", 1, 0, .wo, fOnly, true, 0⟩]⟩,
    ⟨0x058, 1, [⟨"CSTATUS", 7, 0, .ro, mfd, false, 0⟩, ⟨"OPEN", 8, 8, .ro, mfd, false, 0⟩, ⟨"RUNNING", 9, 9, .ro, mfd, false, 0⟩, ⟨"PAIR", 11, 10, .ro, mfd, false, 0⟩]⟩,
    ⟨0x05C, 1, [⟨"PROD", 31, 0, .ro, mfd, false, 0⟩]⟩,
    ⟨0x060, 1, [⟨"DONE", 31, 0, .ro, mfd, false, 0⟩]⟩,
    ⟨0x064, 1, [⟨"DB", 31, 0, .wo, fOnly, false, 0⟩]⟩,
    ⟨0x068, 1, [⟨"PAIRS_BUSY", 3, 0, .ro, mfd, false, 0⟩]⟩,
    ⟨0x070, 1, [⟨"DESC_OK", 31, 0, .rc, mf, false, 0⟩]⟩,
    ⟨0x074, 1, [⟨"DESC_FAIL", 31, 0, .rc, mf, false, 0⟩]⟩,
    ⟨0x078, 1, [⟨"UNTRUSTED", 31, 0, .rc, mf, false, 0⟩]⟩ ]

/-- The register words of the inst pages beyond the common header. -/
def instRegs0 : List Reg :=
  [ ⟨0x040, 1, [⟨"GEN", 7, 0, .ro, mtfd, false, 0⟩, ⟨"SESSION", 8, 8, .ro, mtfd, false, 0⟩, ⟨"ALL_LOST", 9, 9, .ro, mtfd, false, 0⟩, ⟨"LOST", 16, 10, .ro, mtfd, false, 0⟩]⟩,
    ⟨0x044, 1, [⟨"GEN_DISCARDS", 31, 0, .rc, mtf, false, 0⟩]⟩,
    ⟨0x048, 1, [⟨"KS", 13, 0, .ro, mtfd, false, 0⟩]⟩,
    ⟨0x04C, 1, [⟨"SLICE", 31, 0, .ro, mtfd, false, 0⟩]⟩,
    ⟨0x080, 16, [⟨"T_REQ0", 31, 0, .rw, tOnly, false, 0⟩]⟩,
    ⟨0x0C0, 16, [⟨"T_RSP0", 31, 0, .ro, tOnly, false, 0⟩]⟩,
    ⟨0x100, 1, [⟨"T_SEQ", 7, 0, .wo, tOnly, false, 0⟩, ⟨"T_GO", 8, 8, .wo, tOnly, false, 0⟩]⟩,
    ⟨0x104, 1, [⟨"T_CSEQ", 7, 0, .ro, tf, false, 0⟩, ⟨"T_CSTATUS", 15, 8, .ro, tf, false, 0⟩, ⟨"T_BUSY", 16, 16, .ro, tf, false, 0⟩]⟩,
    ⟨0x140, 16, [⟨"M_REQ", 31, 0, .rw, mOnly, false, 0⟩]⟩,
    ⟨0x180, 16, [⟨"M_RSP", 31, 0, .ro, mOnly, false, 0⟩]⟩,
    ⟨0x1C0, 1, [⟨"M_SEQ", 7, 0, .wo, mOnly, false, 0⟩, ⟨"M_GO", 8, 8, .wo, mOnly, false, 0⟩]⟩,
    ⟨0x1C4, 1, [⟨"M_CSEQ", 7, 0, .ro, mf, false, 0⟩, ⟨"M_CSTATUS", 15, 8, .ro, mf, false, 0⟩, ⟨"M_BUSY", 16, 16, .ro, mf, false, 0⟩]⟩,
    ⟨0x200, 1, [⟨"WAIT_IDX", 3, 0, .rw, tOnly, false, 0⟩]⟩,
    ⟨0x204, 2, [⟨"WAIT_HANDLE", 31, 0, .rw, tOnly, false, 0⟩]⟩,
    ⟨0x20C, 2, [⟨"WAIT_TARGET", 31, 0, .rw, tOnly, false, 0⟩]⟩,
    ⟨0x214, 1, [⟨"WAIT_CMD", 1, 0, .wo, tOnly, false, 0⟩]⟩,
    ⟨0x218, 1, [⟨"WAIT_DONE", 15, 0, .w1c, tOnly, false, 0⟩, ⟨"WAIT_ARMED", 31, 16, .ro, tf, false, 0⟩]⟩,
    ⟨0x220, 2, [⟨"SIG_HANDLE", 31, 0, .rw, tOnly, false, 0⟩]⟩,
    ⟨0x228, 2, [⟨"SIG_VALUE", 31, 0, .rw, tOnly, false, 0⟩]⟩,
    ⟨0x230, 1, [⟨"SIG_GO", 0, 0, .wo, tOnly, false, 0⟩]⟩ ]

/-- The register words of the inst pages, continued. -/
def instRegs1 : List Reg :=
  [ ⟨0x234, 1, [⟨"SIG_STATUS", 7, 0, .ro, tOnly, false, 0⟩, ⟨"SIG_BUSY", 8, 8, .ro, tOnly, false, 0⟩]⟩,
    ⟨0x240, 4, [⟨"WAIT_STS", 31, 0, .ro, tOnly, false, 0⟩]⟩,
    ⟨0x300, 1, [⟨"INST_ACT", 18, 0, .ro, mtfd, false, 0⟩]⟩,
    ⟨0x304, 1, [⟨"INST_DONE", 7, 0, .wo, tOnly, false, 0⟩]⟩,
    ⟨0x308, 2, [⟨"INST_MSI_ADDR", 31, 0, .rw, mt, false, 0⟩]⟩,
    ⟨0x310, 1, [⟨"INST_MSI_DATA", 31, 0, .rw, mt, false, 0⟩]⟩,
    ⟨0x320, 1, [⟨"EVR_SEQ", 31, 0, .rw, tOnly, false, 0⟩]⟩,
    ⟨0x324, 1, [⟨"EVR_RSTATUS", 7, 0, .ro, tOnly, false, 0⟩, ⟨"EVR_BUSY", 8, 8, .ro, tOnly, false, 0⟩]⟩,
    ⟨0x340, 8, [⟨"EVR_DATA0", 31, 0, .ro, tOnly, false, 0⟩]⟩,
    ⟨0x400, 16, [⟨"CCE_DB", 31, 0, .wo, tOnly, false, 0⟩]⟩,
    ⟨0x500, 2, [⟨"I_ADMITTED", 31, 0, .ro, mtfd, false, 0⟩]⟩,
    ⟨0x508, 2, [⟨"I_HELD_CYCLES", 31, 0, .ro, mtfd, false, 0⟩]⟩,
    ⟨0x510, 2, [⟨"I_KEY_MISSES", 31, 0, .ro, mtfd, false, 0⟩]⟩,
    ⟨0x518, 2, [⟨"I_CTR_MISSES", 31, 0, .ro, mtfd, false, 0⟩]⟩,
    ⟨0x520, 2, [⟨"I_LINK_TX", 31, 0, .ro, mtfd, false, 0⟩]⟩,
    ⟨0x528, 2, [⟨"I_LINK_RX", 31, 0, .ro, mtfd, false, 0⟩]⟩,
    ⟨0x530, 2, [⟨"I_TRS_ELEMS", 31, 0, .ro, mtfd, false, 0⟩]⟩,
    ⟨0x538, 2, [⟨"I_CCE_BYTES", 31, 0, .ro, mtfd, false, 0⟩]⟩,
    ⟨0x540, 2, [⟨"I_HOST_BYTES", 31, 0, .ro, mtfd, false, 0⟩]⟩ ]

/-- Every register word of the inst pages beyond the common header. -/
def instRegs : List Reg := instRegs0 ++ instRegs1

/-- The register words of the imu pages beyond the common header. -/
def imuRegs : List Reg :=
  [ ⟨0x040, 1, [⟨"PASIDS_USED", 12, 0, .ro, mfd, false, 0⟩, ⟨"ACTIVE", 24, 16, .ro, mfd, false, 0⟩]⟩,
    ⟨0x044, 1, [⟨"GEN_DISCARDS", 31, 0, .rc, mf, false, 0⟩]⟩,
    ⟨0x048, 1, [⟨"SWITCHES", 31, 0, .rc, mf, false, 0⟩]⟩,
    ⟨0x04C, 1, [⟨"KS_FREE", 13, 0, .ro, mfd, false, 0x2000⟩, ⟨"CTCA_FREE", 17, 14, .ro, mfd, false, 0xa⟩, ⟨"CTCB_FREE", 21, 18, .ro, mfd, false, 4⟩, ⟨"ADM_FREE", 28, 22, .ro, mfd, false, 0x60⟩]⟩,
    ⟨0x050, 1, [⟨"TRS_FREE", 7, 0, .ro, mfd, false, 0xff⟩, ⟨"WATCHES", 18, 8, .ro, mfd, false, 0⟩]⟩ ]

/-- The register words of the tmp pages beyond the common header. -/
def tmpRegs : List Reg :=
  [ ⟨0x040, 1, [⟨"ZEROISE", 0, 0, .ro, mfd, false, 0⟩, ⟨"WARN", 1, 1, .ro, mfd, false, 0⟩, ⟨"CAUSE", 7, 2, .ro, mfd, false, 0⟩, ⟨"TEMP", 23, 16, .ro, mfd, false, 0⟩]⟩,
    ⟨0x044, 1, [⟨"T_WARN", 7, 0, .rw, mf, true, 0x69⟩]⟩,
    ⟨0x048, 1, [⟨"ALARMS", 15, 0, .ro, mfd, false, 0⟩]⟩ ]

/-- The register words of the wrc pages beyond the common header. -/
def wrcRegs : List Reg :=
  [ ⟨0x040, 1, [⟨"LEVEL", 2, 0, .ro, mfd, false, 0⟩, ⟨"L4_STEP", 5, 3, .ro, mfd, false, 0⟩, ⟨"WITHDRAWN", 6, 6, .ro, mfd, false, 0⟩, ⟨"OTP_WITHDRAWN", 7, 7, .ro, mfd, false, 0⟩, ⟨"REPLAY", 8, 8, .ro, mfd, false, 0⟩, ⟨"FAILED_L4", 10, 9, .ro, mfd, false, 0⟩]⟩,
    ⟨0x044, 1, [⟨"WD_COUNT", 3, 0, .rw, mOnly, true, 3⟩]⟩,
    ⟨0x048, 1, [⟨"WD_WINDOW", 16, 0, .rw, mOnly, true, 0x258⟩]⟩,
    ⟨0x04C, 1, [⟨"L4_LIMIT", 11, 0, .rw, mf, true, 0xfa0⟩]⟩,
    ⟨0x050, 1, [⟨"PORT_TMO", 16, 0, .rw, mf, true, 0x3e8⟩]⟩,
    ⟨0x054, 1, [⟨"SBX_WD", 9, 0, .rw, fOnly, true, 0x64⟩]⟩,
    ⟨0x058, 1, [⟨"SBX_KICK", 0, 0, .wo, fOnly, false, 0⟩]⟩,
    ⟨0x05C, 1, [⟨"RESUME", 0, 0, .wo, mOnly, true, 0⟩]⟩,
    ⟨0x060, 1, [⟨"WDR_SET", 6, 0, .ro, mfd, false, 0⟩, ⟨"WDR_CLR", 22, 16, .ro, mfd, false, 0⟩]⟩,
    ⟨0x070, 1, [⟨"CAP_LEVEL", 2, 0, .ro, mfd, false, 0⟩, ⟨"CAP_INST", 15, 8, .ro, mfd, false, 0⟩, ⟨"CAP_UNIT", 31, 16, .ro, mfd, false, 0⟩]⟩,
    ⟨0x074, 1, [⟨"CAP_CAUSE", 7, 0, .ro, mfd, false, 0⟩, ⟨"LOST", 15, 8, .ro, mfd, false, 0⟩, ⟨"DISCARDED", 31, 16, .ro, mfd, false, 0⟩]⟩,
    ⟨0x078, 2, [⟨"CAP_TIME", 31, 0, .ro, mfd, false, 0⟩]⟩,
    ⟨0x080, 1, [⟨"L1_COUNT", 31, 0, .rc, mf, false, 0⟩]⟩,
    ⟨0x084, 1, [⟨"L2_COUNT", 31, 0, .rc, mf, false, 0⟩]⟩,
    ⟨0x088, 1, [⟨"L3_COUNT", 31, 0, .rc, mf, false, 0⟩]⟩,
    ⟨0x08C, 1, [⟨"L4_TOTAL", 15, 0, .ro, mfd, false, 0⟩, ⟨"L4_IN_WINDOW", 19, 16, .ro, mfd, false, 0⟩]⟩,
    ⟨0x090, 1, [⟨"REPLAYS", 31, 0, .rc, mf, false, 0⟩]⟩,
    ⟨0x094, 1, [⟨"GUILTY", 31, 0, .rc, mf, false, 0⟩]⟩,
    ⟨0x098, 1, [⟨"NOT_REPRODUCED", 31, 0, .rc, mf, false, 0⟩]⟩ ]

/-- The register words of the inc pages beyond the common header. -/
def incRegs : List Reg :=
  [ ⟨0x040, 1, [⟨"HOLD", 0, 0, .rw, mf, false, 0⟩]⟩,
    ⟨0x044, 1, [⟨"DONE_SRC", 7, 0, .wo, mf, false, 0⟩, ⟨"DONE_INST", 15, 8, .wo, mf, false, 0⟩, ⟨"DONE_IV", 16, 16, .wo, mf, false, 0⟩]⟩,
    ⟨0x048, 1, [⟨"F_SRC", 7, 0, .ro, fOnly, false, 0⟩, ⟨"F_INST", 15, 8, .ro, fOnly, false, 0⟩, ⟨"F_IV", 16, 16, .ro, fOnly, false, 0⟩, ⟨"F_VALID", 17, 17, .ro, fOnly, false, 0⟩]⟩,
    ⟨0x04C, 1, [⟨"MGRMB_COUNT", 5, 0, .ro, mfd, false, 0⟩]⟩,
    ⟨0x050, 1, [⟨"MGRMB_POP", 0, 0, .wo, mOnly, false, 0⟩]⟩,
    ⟨0x060, 8, [⟨"MGRMB_DATA0", 31, 0, .ro, mOnly, false, 0⟩]⟩,
    ⟨0x080, 1, [⟨"SPURIOUS_DONE", 31, 0, .rc, mf, false, 0⟩]⟩,
    ⟨0x084, 1, [⟨"OVERRUNS", 31, 0, .rc, mf, false, 0⟩]⟩,
    ⟨0x088, 1, [⟨"DELIVERED", 31, 0, .rc, mf, false, 0⟩]⟩,
    ⟨0x08C, 1, [⟨"DISABLED_EVENTS", 31, 0, .rc, mf, false, 0⟩]⟩,
    ⟨0x400, 256, [⟨"TARGET", 1, 0, .rw, mf, true, 0⟩, ⟨"EN", 2, 2, .rw, mf, true, 1⟩, ⟨"ACTIVE", 8, 8, .ro, mfd, false, 0⟩, ⟨"PENDING", 9, 9, .ro, mfd, false, 0⟩, ⟨"OVERRUN", 10, 10, .w1c, mfd, false, 0⟩, ⟨"INST_SRC", 11, 11, .ro, mfd, false, 0⟩]⟩ ]

/-- The register words of the evr pages beyond the common header. -/
def evrRegs : List Reg :=
  [ ⟨0x040, 1, [⟨"FROZEN", 0, 0, .ro, mfd, false, 0⟩, ⟨"CLEARING", 1, 1, .ro, mfd, false, 0⟩, ⟨"TOKEN_FAILS", 7, 4, .ro, mfd, false, 0⟩]⟩,
    ⟨0x044, 1, [⟨"NEXT_SEQ", 31, 0, .ro, mfd, false, 0⟩]⟩,
    ⟨0x048, 1, [⟨"OLDEST", 31, 0, .ro, mfd, false, 0⟩]⟩,
    ⟨0x04C, 1, [⟨"CMD", 1, 0, .wo, mfd, true, 0⟩]⟩,
    ⟨0x050, 1, [⟨"RD_SEQ", 31, 0, .rw, mfd, false, 0⟩]⟩,
    ⟨0x054, 1, [⟨"RSTATUS", 7, 0, .ro, mfd, false, 0⟩, ⟨"BUSY", 8, 8, .ro, mfd, false, 0⟩]⟩,
    ⟨0x060, 8, [⟨"RD_DATA0", 31, 0, .ro, mfd, false, 0⟩]⟩,
    ⟨0x080, 8, [⟨"TOKEN0", 31, 0, .wo, mOnly, false, 0⟩]⟩,
    ⟨0x0A0, 12, [⟨"CLR_DIGEST0", 31, 0, .wo, fOnly, false, 0⟩]⟩,
    ⟨0x0D0, 12, [⟨"HEAD0", 31, 0, .ro, mfd, false, 0⟩]⟩,
    ⟨0x100, 1, [⟨"SPILL_BASE", 29, 0, .rw, fOnly, true, 0⟩, ⟨"SPILL_EN", 31, 31, .rw, fOnly, true, 0⟩]⟩,
    ⟨0x104, 1, [⟨"SPILL_BLOCKS", 16, 0, .rw, fOnly, true, 1⟩]⟩,
    ⟨0x108, 1, [⟨"IRQ_SEV", 3, 0, .rw, mf, false, 4⟩]⟩,
    ⟨0x10C, 1, [⟨"LOST_RECORDS", 31, 0, .rc, mf, false, 0⟩]⟩ ]

/-- The register words of the ttu pages beyond the common header. The must-be-zero bits of SET_DATE, SET_TIME and SET_NS are RW as 20 Table 20.9 gives them,
not reserved bits of 00 R11 (log entry 116). -/
def ttuRegs : List Reg :=
  [ ⟨0x040, 1, [⟨"VALID", 0, 0, .ro, mfd, false, 0⟩, ⟨"DISCIPLINED", 1, 1, .ro, mfd, false, 0⟩, ⟨"ENDED", 2, 2, .ro, mfd, false, 0⟩]⟩,
    ⟨0x044, 1, [⟨"DAY", 4, 0, .ro, mfd, false, 1⟩, ⟨"MONTH", 8, 5, .ro, mfd, false, 1⟩, ⟨"YEAR", 20, 9, .ro, mfd, false, 0x7d0⟩]⟩,
    ⟨0x048, 1, [⟨"SEC", 5, 0, .ro, mfd, false, 0⟩, ⟨"MIN", 11, 6, .ro, mfd, false, 0⟩, ⟨"HOUR", 16, 12, .ro, mfd, false, 0⟩]⟩,
    ⟨0x04C, 1, [⟨"NS", 29, 0, .ro, mfd, false, 0⟩]⟩,
    ⟨0x050, 2, [⟨"COUNT", 31, 0, .ro, mfd, false, 0⟩]⟩,
    ⟨0x060, 1, [⟨"SET_DATE", 20, 0, .rw, fOnly, false, 0xfa021⟩, ⟨"MBZ", 31, 21, .rw, fOnly, false, 0⟩]⟩,
    ⟨0x064, 1, [⟨"SET_TIME", 16, 0, .rw, fOnly, false, 0⟩, ⟨"MBZ", 31, 17, .rw, fOnly, false, 0⟩]⟩,
    ⟨0x068, 1, [⟨"SET_NS", 29, 0, .rw, fOnly, false, 0⟩, ⟨"MBZ", 31, 30, .rw, fOnly, false, 0⟩]⟩,
    ⟨0x06C, 1, [⟨"SET_GO", 0, 0, .wo, fOnly, true, 0⟩]⟩ ]

/-- The register words of the pmu pages beyond the common header. -/
def pmuRegs : List Reg :=
  [ ⟨0x040, 1, [⟨"EN", 0, 0, .rw, mf, true, 0⟩]⟩,
    ⟨0x044, 1, [⟨"INTERVAL", 19, 0, .rw, mf, true, 0x3e8⟩]⟩,
    ⟨0x048, 1, [⟨"RING_BASE", 29, 0, .rw, mf, true, 0⟩]⟩,
    ⟨0x04C, 1, [⟨"RING_LOG2", 3, 0, .rw, mf, true, 0⟩, ⟨"IRQ_SETS", 31, 16, .rw, mf, false, 0⟩]⟩,
    ⟨0x050, 1, [⟨"SET_SEQ", 31, 0, .ro, mfd, false, 0⟩]⟩,
    ⟨0x054, 1, [⟨"OLDEST_SET", 31, 0, .ro, mfd, false, 0⟩]⟩,
    ⟨0x058, 1, [⟨"RD_SET", 31, 0, .rw, mfd, false, 0⟩]⟩,
    ⟨0x05C, 1, [⟨"RD_REC", 6, 0, .rw, mfd, false, 0⟩, ⟨"RSTATUS", 15, 8, .ro, mfd, false, 0⟩, ⟨"BUSY", 16, 16, .ro, mfd, false, 0⟩]⟩,
    ⟨0x060, 8, [⟨"RD_DATA0", 31, 0, .ro, mfd, false, 0⟩]⟩,
    ⟨0x080, 1, [⟨"LOST_SETS", 31, 0, .rc, mf, false, 0⟩]⟩,
    ⟨0x084, 1, [⟨"WRONG_FETCH", 31, 0, .rc, mf, false, 0⟩]⟩,
    ⟨0x088, 1, [⟨"SETS_WRITTEN", 31, 0, .rc, mf, false, 0⟩]⟩ ]
end Sys2Proof.Machine
end

