-- ==== Sys2Proof/Machine/Units.lean ====
section
/-!
DEFINITION. Names: units and their pages (01 R19, 05 R128 to R130), roles (05 R132), statuses (05 R153), power domains (04 R109),
record codes and severities (22 R550, 19 Table 19.7, 20 Table 20.5), interrupt sources (20 R507).
-/
namespace Sys2Proof.Machine

/-- The four register roles; T carries the instance of its virtual function. `x` is the requester of a host access whose HT_FUNC lies
above 0x100: no role, so every access of it is denied (03 R86). -/
inductive Role where
  | m
  | t (inst : Fin 256)
  | f
  | d
  | x (func : Fin 255)
deriving DecidableEq, Repr

/-- The role that HT_FUNC gives a host access to the register window (03 R86). -/
def htRole (func : BitVec 9) : Role :=
  if func = 0 then .m
  else if h : func.toNat - 1 < 256 then .t ⟨func.toNat - 1, h⟩
  else .x ⟨func.toNat - 0x101, by have := func.isLt; omega⟩

/-- The role as a Roles column names it. -/
def Role.kind : Role → RoleKind
  | .m => .m
  | .t _ => .t
  | .f => .f
  | .d => .d
  | .x _ => .x

/-- The role code of record parameters (22 R550). -/
def Role.code : Role → Nat
  | .m => 0
  | .t _ => 1
  | .f => 2
  | .d => 3
  | .x _ => 4

/-- A number that tells apart the owners of a latch: each role, and the T role of each instance (05 R136). -/
def Role.key : Role → Nat
  | .m => 0
  | .f => 1
  | .d => 2
  | .t i => 3 + i.val
  | .x fn => 259 + fn.val

/-- Whether a role's accesses come over the host port (03 R86); F is SBX and D the debug port. -/
def Role.onHost : Role → Bool
  | .m | .t _ | .x _ => true
  | .f | .d => false

/-- What CRU can gate (04 Table 04.5). -/
inductive GateUnit where
  | cce | pmu | trs
  | eng (e : Fin 40)
  | span (n : Fin 18)
deriving DecidableEq, Repr

/-- What a progress watchdog watches (19 Table 19.2): memory engine, span, TRS lane group, HGT, CCE, IMU. -/
inductive Watched where
  | eng (e : Fin 40)
  | span (n : Fin 18)
  | group (g : Fin 8)
  | hgt | cce | imu
deriving DecidableEq, Repr

/-- An upset of one read-copy entry of the Junction table (09 R251): island, entry, the words as they now read, and whether their parity holds. -/
structure CopyUpset where
  island : Fin 8
  index : Fin 1024
  w0 : BitVec 32
  w1 : BitVec 32
  w2 : BitVec 32
  parityOk : Bool
deriving DecidableEq, Repr

/-- What a standard SPDM request asks, as SPDM 1.3 reads it (15 R394, R396): inside the profile without or with a drawn value, GET_DIGESTS, CHALLENGE, or outside the profile. -/
inductive SpdmAsk where
  | plain | random | digests | challenge
  | version | unsupported | tooLarge | algorithms | slot | sessionRequired
deriving DecidableEq, Repr

/-- The one status space (05 R153, Table 05.6). -/
inductive Status where
  | ok | unwritten | authFail | keyRetired | genStale | epochStale | unitGone | retry | notReady
  | denied | contextLost | aborted | poison | replay | oversize | classMismatch | untrustedResult
deriving DecidableEq, Repr

/-- The status codes of Table 05.6. -/
def Status.code : Status → Nat
  | .ok => 0x00
  | .unwritten => 0x01
  | .authFail => 0x02
  | .keyRetired => 0x03
  | .genStale => 0x04
  | .epochStale => 0x05
  | .unitGone => 0x06
  | .retry => 0x07
  | .notReady => 0x08
  | .denied => 0x09
  | .contextLost => 0x0A
  | .aborted => 0x0B
  | .poison => 0x0C
  | .replay => 0x0D
  | .oversize => 0x0E
  | .classMismatch => 0x0F
  | .untrustedResult => 0x10

/-- What a read of a KTAB entry through the memory path gives (08 R208): the granule of an entry never written, its 128 bytes, or the failing status
that the memory path completes the access with, one of Table 05.6. -/
inductive KtabRead where
  | unwritten
  | entry (bytes : List (BitVec 8))
  | fail (st : Status)
deriving DecidableEq, Repr

/-- The protection classes with the encodings of 02 Table 02.2. -/
inductive Cls where
  | s | i | e | p
deriving DecidableEq, Repr

/-- Class encoding (02 Table 02.2). -/
def Cls.code : Cls → Nat
  | .s => 0
  | .i => 1
  | .e => 2
  | .p => 3

/-- The class a two-bit field encodes. -/
def Cls.ofCode (n : Nat) : Cls :=
  if n % 4 = 0 then .s else if n % 4 = 1 then .i else if n % 4 = 2 then .e else .p

/-- Unit codes (01 Table 01.1). -/
def uSbx : Nat := 0x01
def uKvt : Nat := 0x02
def uEnt : Nat := 0x03
def uLco : Nat := 0x04
def uJct : Nat := 0x05
def uTtb : Nat := 0x06
def uMea : Nat := 0x07
def uMeb : Nat := 0x08
def uCtc : Nat := 0x09
def uVdt : Nat := 0x0A
def uTrs : Nat := 0x0B
def uHgt : Nat := 0x0C
def uCce : Nat := 0x0D
def uImu : Nat := 0x0E
def uInc : Nat := 0x0F
def uEvr : Nat := 0x10
def uTtu : Nat := 0x11
def uWrc : Nat := 0x12
def uPmu : Nat := 0x13
def uCru : Nat := 0x14
def uTmp : Nat := 0x15

/-- How many instances a unit has (01 Table 01.1). -/
def unitInstances (u : Nat) : Nat :=
  if u = uMea then 32 else if u = uMeb then 8 else if u = uVdt then 18
  else if 1 ≤ u && u ≤ 0x15 then 1 else 0

/-- The page of unit instance `n` of the unit with code `u` (05 R129). -/
def page (u n : Nat) : Nat := u * 0x20000 + n * 0x1000

/-- The page of virtual instance `i` (05 R128, R130). -/
def instPage (i : Nat) : Nat := 0x400000 + i * 0x1000

/-- The page of memory engine `e`: 0 to 31 are the MEA engines, 32 to 39 the MEB engines. -/
def engPage (e : Nat) : Nat := if e < 32 then page uMea e else page uMeb (e - 32)

def pgSbx : Nat := page uSbx 0
def pgKvt : Nat := page uKvt 0
def pgEnt : Nat := page uEnt 0
def pgLco : Nat := page uLco 0
def pgJct : Nat := page uJct 0
def pgTtb : Nat := page uTtb 0
def pgCtc : Nat := page uCtc 0
def pgTrs : Nat := page uTrs 0
def pgHgt : Nat := page uHgt 0
def pgCce : Nat := page uCce 0
def pgImu : Nat := page uImu 0
def pgInc : Nat := page uInc 0
def pgEvr : Nat := page uEvr 0
def pgTtu : Nat := page uTtu 0
def pgWrc : Nat := page uWrc 0
def pgPmu : Nat := page uPmu 0
def pgCru : Nat := page uCru 0
def pgTmp : Nat := page uTmp 0
/-- The page of span `n`. -/
def pgVdt (n : Nat) : Nat := page uVdt n

/-- The unit code of a unit page, from any offset in it. -/
def unitOf (off : Nat) : Nat := off / 0x20000

/-- The unit instance of a unit page, from any offset in it. -/
def uinstOf (off : Nat) : Nat := off % 0x20000 / 0x1000

/-- The base of the page that holds an offset. -/
def pageOf (off : Nat) : Nat := off / 0x1000 * 0x1000

/-- Whether an offset lies in an instance page (05 Table 05.1). -/
def isInstOff (off : Nat) : Bool := 0x400000 ≤ off && off < 0x500000

/-- The virtual instance of an instance page. -/
def instOf (off : Nat) : Nat := (off - 0x400000) / 0x1000

/-- Whether an offset lies in a mapped unit page (05 R129). -/
def isUnitOff (off : Nat) : Bool := off < 0x2C0000 && uinstOf off < unitInstances (unitOf off)

/-- Whether an offset is mapped (05 R128, R129). -/
def isMapped (off : Nat) : Bool := isUnitOff off || isInstOff off

/-- The power domain of a unit page: the PSW bit of 04 Table 04.3; none for PD_AON, and none for CTC, whose four
bank groups lie one in each tier-A domain. -/
def domainOf (u n : Nat) : Option Nat :=
  if u = uSbx then some 0
  else if u = uKvt || u = uEnt then some 1
  else if u = uMea then some (2 + n / 8)
  else if u = uMeb then some 6
  else if u = uVdt then some (7 + n / 6)
  else if u = uTrs then some 10
  else if u = uHgt then some 11
  else if u = uJct || u = uTtb || u = uCce || u = uImu || u = uInc || u = uPmu then some 12
  else none

/-- The power domain of any page; instance pages are IMU's (17 R436). -/
def pageDomain (pg : Nat) : Option Nat :=
  if isInstOff pg then some 12 else domainOf (unitOf pg) (uinstOf pg)

/-- The 13 switchable domains in the order CRU powers them on (04 R112), by PSW bit:
PD_KVT, PD_SBX, PD_MISC, PD_MEA0 to 3, PD_MEB, PD_VDT0 to 2, PD_TRS, PD_HGT. -/
def powerOrder : List Nat := [1, 0, 12, 2, 3, 4, 5, 6, 7, 8, 9, 10, 11]

/-- The detector bits each unit's ERR_STAT has, as a mask (the owning tables of ERR_STAT). -/
def errBits (u : Nat) : Nat :=
  if u = uSbx then 0x0F else if u = uKvt then 0x0F else if u = uEnt then 0x03
  else if u = uJct then 0x07 else if u = uMea || u = uMeb then 0xFF else if u = uCtc then 0x0F
  else if u = uVdt then 0xFF else if u = uTrs then 0x1F else if u = uHgt then 0xFF
  else if u = uCce then 0x0F else if u = uImu then 0x1F else if u = uInc then 0x01
  else if u = uEvr then 0x07 else if u = uTtu then 0x07 else if u = uWrc then 0x1F
  else if u = uPmu then 0x03 else if u = uCru then 0x7F else if u = uTmp then 0x7F else 0

/-- The security detectors among them, as a mask (05 R152 and the owning chapters). -/
def secBits (u : Nat) : Nat :=
  if u = uSbx then 0x01 else if u = uKvt then 0x01 else if u = uMea || u = uMeb then 0x01
  else if u = uCtc then 0x01 else if u = uVdt then 0x01 else if u = uHgt then 0x01
  else if u = uTmp then 0x3F else 0

/-- The interrupt source of a page's ERR_STAT (20 Table 20.1); instance pages have none. -/
def errSource (pg : Nat) : Option Nat :=
  if isInstOff pg then none
  else if unitOf pg = uMea then some (0x20 + uinstOf pg)
  else if unitOf pg = uMeb then some (0x40 + uinstOf pg)
  else if unitOf pg = uVdt then some (0x50 + uinstOf pg)
  else some (unitOf pg - 1)

/-- The page whose ERR_STAT a level source follows (20 Table 20.1). -/
def sourcePage (src : Nat) : Option Nat :=
  if src ≤ 0x14 then
    (if src = 0x06 || src = 0x07 || src = 0x09 then none else some (page (src + 1) 0))
  else if 0x20 ≤ src && src ≤ 0x3F then some (page uMea (src - 0x20))
  else if 0x40 ≤ src && src ≤ 0x47 then some (page uMeb (src - 0x40))
  else if 0x50 ≤ src && src ≤ 0x61 then some (page uVdt (src - 0x50))
  else none

/-- Pulse sources (20 Table 20.1). -/
def isPulseSource (src : Nat) : Bool :=
  [0x80, 0x81, 0x82, 0x83, 0x84, 0x86, 0x87, 0x88].contains src || (0xE0 ≤ src && src ≤ 0xF2)

/-- Instance-bearing sources (20 Table 20.1). -/
def isInstSource (src : Nat) : Bool := 0xE0 ≤ src && src ≤ 0xF2

/-- Whether Table 20.1 lists a source. -/
def isSource (src : Nat) : Bool := (sourcePage src).isSome || isPulseSource src

/-- Default target of a source (20 Table 20.1). -/
def defaultTarget (src : Nat) : Nat :=
  if src = 0x81 || src = 0x87 || src = 0x88 then 1
  else if src = 0x86 || src = 0xF0 then 2
  else if (0xE0 ≤ src && src ≤ 0xEF) || src = 0xF1 || src = 0xF2 then 3
  else 0

/-- A record code with its severity (22 R550, 20 R518). -/
structure RecCode where
  code : Nat
  sev : Nat
deriving DecidableEq, Repr

def rcBootFail : RecCode := ⟨0x0101, 3⟩
def rcDlLocked : RecCode := ⟨0x0102, 5⟩
def rcDlTimeout : RecCode := ⟨0x0103, 2⟩
def rcReloadDiff : RecCode := ⟨0x0104, 2⟩
def rcLcDecode (locked : Bool) : RecCode := ⟨0x0105, if locked then 5 else 2⟩
def rcLcCommand (refused : Bool) : RecCode := ⟨0x0106, if refused then 1 else 0⟩
def rcOtpFail : RecCode := ⟨0x0107, 3⟩
def rcWipeDone : RecCode := ⟨0x0108, 0⟩
def rcDbgHalt : RecCode := ⟨0x0109, 2⟩
def rcGatewayRefusal : RecCode := ⟨0x010A, 1⟩
def rcRootFail : RecCode := ⟨0x0201, 4⟩
def rcEntFail : RecCode := ⟨0x0202, 3⟩
def rcUnwrapFail : RecCode := ⟨0x0203, 4⟩
def rcKeyParity : RecCode := ⟨0x0204, 4⟩
def rcZeroise : RecCode := ⟨0x0205, 5⟩
def rcKvtCommand (refused : Bool) : RecCode := ⟨0x0206, if refused then 1 else 0⟩
def rcEpochRefused : RecCode := ⟨0x0207, 1⟩
def rcJoinFail : RecCode := ⟨0x0208, 1⟩
def rcAccessDenied : RecCode := ⟨0x0301, 1⟩
def rcMemAuthFail : RecCode := ⟨0x0302, 4⟩
def rcFillAuth : RecCode := ⟨0x0303, 4⟩
def rcMemPoison : RecCode := ⟨0x0304, 3⟩
def rcReseal : RecCode := ⟨0x0305, 3⟩
def rcLineLost : RecCode := ⟨0x0306, 3⟩
def rcTreeLimit : RecCode := ⟨0x0307, 3⟩
def rcJctCommit (refused : Bool) : RecCode := ⟨0x0308, if refused then 1 else 0⟩
def rcJctFault : RecCode := ⟨0x0309, 3⟩
def rcPortState : RecCode := ⟨0x030A, 2⟩
def rcSealFail : RecCode := ⟨0x0401, 4⟩
def rcBallastFail : RecCode := ⟨0x0402, 3⟩
def rcLinkOverride : RecCode := ⟨0x0403, 2⟩
def rcDispatchLate : RecCode := ⟨0x0404, 2⟩
def rcPeerState : RecCode := ⟨0x0405, 2⟩
def rcTrsDrop : RecCode := ⟨0x0406, 1⟩
def rcTrsRefused : RecCode := ⟨0x0407, 1⟩
def rcChunkTimeout : RecCode := ⟨0x0408, 3⟩
def rcHgtRecord (auth : Bool) : RecCode := ⟨0x0409, if auth then 4 else 1⟩
def rcCceRing : RecCode := ⟨0x040A, 3⟩
def rcRecoveryStart : RecCode := ⟨0x0501, 3⟩
def rcRecoveryEnd : RecCode := ⟨0x0502, 3⟩
def rcSuspect : RecCode := ⟨0x0503, 3⟩
def rcVerdict : RecCode := ⟨0x0504, 3⟩
def rcCaptureErr : RecCode := ⟨0x0505, 3⟩
def rcOpenHandle : RecCode := ⟨0x0506, 3⟩
def rcWithdrawn : RecCode := ⟨0x0507, 5⟩
def rcResumed : RecCode := ⟨0x0508, 0⟩
def rcTamper : RecCode := ⟨0x0509, 5⟩
def rcLevelTimeout : RecCode := ⟨0x050A, 3⟩
def rcPowerOn : RecCode := ⟨0x0601, 0⟩
def rcFrozen : RecCode := ⟨0x0602, 2⟩
def rcCleared : RecCode := ⟨0x0603, 2⟩
def rcLost : RecCode := ⟨0x0604, 2⟩
def rcSpillStop : RecCode := ⟨0x0605, 3⟩
def rcTimeSet : RecCode := ⟨0x0606, 0⟩
def rcDateRefused : RecCode := ⟨0x0607, 2⟩
def rcAonChange : RecCode := ⟨0x0608, 2⟩
def rcIncReset : RecCode := ⟨0x0609, 3⟩
def rcTimeEnd : RecCode := ⟨0x060A, 3⟩
def rcRegDenied : RecCode := ⟨0x0701, 1⟩
def rcEpochStale : RecCode := ⟨0x0702, 1⟩
def rcInjRefused : RecCode := ⟨0x0703, 1⟩
def rcCruEvent : RecCode := ⟨0x0704, 2⟩
def rcPowerState : RecCode := ⟨0x0705, 0⟩
def rcInstance : RecCode := ⟨0x0706, 0⟩
def rcImuLimit : RecCode := ⟨0x0707, 2⟩
def rcDetector (security : Bool) : RecCode := ⟨0x0708, if security then 4 else 3⟩

end Sys2Proof.Machine
end

