-- ==== Sys2Proof/Syntax.lean ====
section
/-!
DEFINITION. The commands: one constructor for each row of spec/opcode_table.json. The table gives no operand fields and no bits, so the
operands are those that the rule of each row names: what a partner, a party or a timer says when the command comes.
-/
namespace Sys2Proof
open Sys2Proof.Machine

/-- The commands of the block (spec/opcode_table.json). -/
inductive Instr where
  -- Power and clocks (04, 03)
  /-- PORST_N_ASSERT (R107). Assertion of PORST_N puts CRU in RESET asynchronously and resets every domain, PD_AON included. -/
  | porstNAssert
  /-- PORST_N_RELEASE (R107). Release of PORST_N moves CRU from RESET to PLL_WAIT and enables the PLL. -/
  | porstNRelease
  /-- LC_DECODE (R176). LCO reads the three life-cycle copies at margin and decodes the life-cycle state, or LOCKED, before POWER_SEQ. -/
  | lcDecode
  /-- PLL_LOCK_RISE (R107). The PLL lock indication rises and CRU enters PLL_COUNT. -/
  | pllLockRise
  /-- PLL_LOCK_FALL (R106). The lock indication falls: during PLL_COUNT the count restarts; while clocks run, the derived clocks stop and a clock alarm goes to TMP. -/
  | pllLockFall
  /-- PLL_LOCK_TIMEOUT (R104). 1 ms after PLL enable with no lock, CRU holds the PLL in reset for 10 µs and counts a relock. -/
  | pllLockTimeout
  /-- PLL_RESET_HOLD_END (R104). The 10 µs PLL reset hold ends and CRU enables the PLL again. -/
  | pllResetHoldEnd
  /-- PLL_STABILITY_COUNT_DONE (R103). 65,536 CK_REF cycles are counted after lock, ROOT_STABLE is set and CRU enters POWER_SEQ. -/
  | pllStabilityCountDone
  /-- AON_STABLE_COUNT_DONE (R103). 16,384 CK_AON cycles after PORST_N release CRU sets AON_STABLE. -/
  | aonStableCountDone
  /-- PSW_ACK_RECEIVED (R96). A power switch drives PSW_ACK to the value of PSW_EN. -/
  | pswAckReceived (d : Fin 13)
  /-- PSW_ACK_TIMEOUT (R96). PSW_ACK has not followed PSW_EN within 20 µs, so CRU leaves the domain isolated, sets PSW_TIMEOUT and records the event. -/
  | pswAckTimeout (d : Fin 13)
  /-- DOMAIN_ISOLATION_RELEASE (R112). 100 CK_REF cycles after PSW_ACK, CRU releases the domain's isolation. -/
  | domainIsolationRelease (d : Fin 13)
  /-- DOMAIN_RESET_RELEASE (R112). 16 CK_REF cycles after isolation release, at a CK_OBS edge, CRU releases the domain reset and powers the next domain. -/
  | domainResetRelease (d : Fin 13)
  /-- DOMAIN_OFF_DRAINED (R114). The domain's engines hold no admitted request, or the recovery bound passes, and CTC write-back begins. -/
  | domainOffDrained (d : Fin 13)
  /-- DOMAIN_OFF_WRITEBACK_DONE (R114). CTC finishes the domain's write-back, and CRU asserts isolation and deasserts PSW_EN. -/
  | domainOffWritebackDone (d : Fin 13)
  /-- SSC_CTRL_WRITE (R100). A write of CRU_SSC_CTRL is accepted, or refused whole when SSC_DEPTH exceeds 10. -/
  | sscCtrlWrite (role : Role) (v : Word)
  /-- SSC_APPLY (R100). At the next modulation period the new spread setting takes effect. -/
  | sscApply
  /-- SLEEP_ENTER (R107). A write of CRU_SLEEP_CTRL.ENTER moves CRU to SLEEP_ENTRY when the guard holds, or is refused with SLEEP_REFUSED. -/
  | sleepEnter (role : Role)
  /-- SLEEP_EXIT (R126). A write of CRU_SLEEP_CTRL.EXIT acts as wake trigger 0x7. -/
  | sleepExit (role : Role)
  /-- SLEEP_ENGINES_IDLE (R107). Every engine is idle in SLEEP_ENTRY, and CRU enters SLEEP and stops the clocks of Table 04.7. -/
  | sleepEnginesIdle
  /-- SLEEP_ENTRY_TIMEOUT (R107). 100 µs after ENTER with some engine not idle, CRU returns to RUN and sets SLEEP_REFUSED. -/
  | sleepEntryTimeout
  /-- WAKE_CLOCKS_RESTARTED (R107). The stopped clocks have restarted, and CRU moves from WAKE to RUN. -/
  | wakeClocksRestarted
  /-- PORT_WAKE_TIMEOUT (R125). 100 µs after a wake, a memory port whose up signal has not risen becomes down under R69. -/
  | portWakeTimeout (port : Fin 59)
  /-- CLK_EN_WRITE (R119). A write of a CRU_CLK_EN bit starts gating, or ungates the unit at the next CK_OBS edge. -/
  | clkEnWrite (role : Role) (reg : Fin 4) (v : Word)
  /-- GATE_UNIT_IDLE (R119). A unit that is being gated becomes idle, and its clock stops at the next CK_OBS edge. -/
  | gateUnitIdle (u : GateUnit)
  /-- GATE_IDLE_TIMEOUT (R119). A unit is still not idle 10 µs after its gating write, so CRU keeps its clock, restores the bit and sets GATE_REFUSED. -/
  | gateIdleTimeout (u : GateUnit)
  /-- PWR_CTRL_WRITE (R115). The manager requests PD_MEB or PD_TRS on or off through CRU_PWR_CTRL. -/
  | pwrCtrlWrite (role : Role) (v : Word)
  /-- PWR_OFF_IDLE_CHECK (R115). 10 µs after an off request, CRU refuses the request if the domain still holds work, and otherwise proceeds with power-off. -/
  | pwrOffIdleCheck (d : Fin 13)
  /-- THERMAL_WARNING_START (R497). The highest junction sensor reaches T_WARN, which starts the throttle of R123 and sets TEMP_WARN. -/
  | thermalWarningStart (temp : BitVec 8)
  /-- THERMAL_WARNING_END (R497). The sensor falls below T_WARN − 5 °C and the throttle ends. -/
  | thermalWarningEnd (temp : BitVec 8)
  /-- PORT_UP_SIGNAL_CHANGE (R69). A partner changes MA_UP, MB_UP, LK_UP or HP_UP. -/
  | portUpSignalChange (port : Fin 59) (up : Bool)
  /-- PORT_CLOCK_WINDOW (R70). A 1,000-cycle CK_REF window ends, and CRU judges each unrelated port clock against its range. -/
  | portClockWindow (edges : List Nat)
  /-- PORT_TRAIN_DONE (R79). A partner asserts its retraining done signal during an L4. -/
  | portTrainDone (port : Fin 59)
  /-- GAUGE_WINDOW (R321). A 10 µs demand window of a span ends, and the span judges whether to narrow or widen its gauge. -/
  | gaugeWindow (n : Fin 18)
  /-- GAUGE_ACK (R83). The MAC drives LK_GAUGE_ACK to the requested gauge. -/
  | gaugeAck (n : Fin 18)
  /-- GAUGE_ACK_TIMEOUT (R83). No gauge acknowledgement arrives within 100 µs, so the span keeps the reported gauge, records the event and sets GAUGE_TIMEOUT. -/
  | gaugeAckTimeout (n : Fin 18)
  /-- GAUGE_REQUEST_REPEAT (R83). 1 ms after a gauge timeout, the span repeats the request. -/
  | gaugeRequestRepeat (n : Fin 18)
  -- Registers (05)
  /-- REGISTER_WRITE (R147). A write to a register that has no row of its own, judged for reach, width, gating, reset, role and guard epoch. -/
  | registerWrite (role : Role) (off : BitVec 23) (len : Nat) (v : Word) (kt : KtabRead) (wst : Status) (breach perr : Bool)
  /-- RC_COUNTER_READ (R12). A read of an RC field returns the value and then clears it. -/
  | rcCounterRead (role : Role) (off : BitVec 23)
  /-- PAIR_LOW_READ (R136). A read of the low word of a 64-bit pair latches the high word for the reading role. -/
  | pairLowRead (role : Role) (off : BitVec 23)
  /-- PAIR_HIGH_WRITE (R136). A write of the high word of a pair is held for the writing role. -/
  | pairHighWrite (role : Role) (off : BitVec 23) (v : Word)
  /-- PAIR_LOW_WRITE (R136). A write of the low word of a pair commits both words, or the low word alone. -/
  | pairLowWrite (role : Role) (off : BitVec 23) (v : Word)
  /-- PAIR_LATCH_EXPIRE (R136). 1 µs after a low-word read, the latched high word is released. -/
  | pairLatchExpire (role : Role) (off : BitVec 23)
  /-- REGISTER_ACCESS_TIMEOUT (R137). An access is unanswered for 256 CK_MGT cycles, so it completes with UNIT_GONE and WRC treats it as a hang. -/
  | registerAccessTimeout (role : Role) (off : BitVec 23) (wr : Bool) (v : Word)
  /-- PAGE_ENABLE_WRITE (R141). A guarded PAGE_CTRL write that changes ENABLE puts the page's unit or engine in or out of service. -/
  | pageEnableWrite (role : Role) (pg : BitVec 11) (v : Word)
  /-- PAGE_SRESET (R142). A guarded write of SRESET = 1 starts an L1 reset of the page's engine. -/
  | pageSreset (role : Role) (pg : BitVec 11) (v : Word)
  /-- EXP_EPOCH_WRITE (R146). An unguarded PAGE_CTRL write sets the writing role's EXP_EPOCH. -/
  | expEpochWrite (role : Role) (pg : BitVec 11) (v : Word)
  /-- ERR_STAT_CLEAR (R149). A W1C write clears ERR_STAT bits unless their detector fires in the same cycle. -/
  | errStatClear (role : Role) (pg : BitVec 11) (v : Word) (firing : Word)
  /-- ERR_INJ_WRITE (R152). A write of ERR_INJ arms injection bits, or is refused with DENIED for security detectors outside the permitted life-cycle states. -/
  | errInjWrite (role : Role) (pg : BitVec 11) (v : Word)
  -- Boot (06)
  /-- SBX_RESET_RELEASE (R155). The PD_SBX reset is released, and SBX runs its boot ROM in ROOT_WAIT. -/
  | sbxResetRelease
  /-- ROOT_ATTEMPT_DONE (R157). A PUF regeneration attempt ends, and KVT reports the root ready or failed, or starts a 200 µs off period. -/
  | rootAttemptDone (array : List Word)
  /-- PUF_OFF_PERIOD_END (R157). The 200 µs PUF off period ends, and KVT starts the next regeneration attempt. -/
  | pufOffPeriodEnd
  /-- ENT_SAMPLE (R225). ENT takes a raw entropy sample and runs the continuous tests on it. -/
  | entSample (raw : Nat)
  /-- ENT_STARTUP_SET_DONE (R158). 1,024 start-up samples are gathered and tested, and ENT instantiates the DRBG, starts a new set, or enters FAILED. -/
  | entStartupSetDone (pass : Bool)
  /-- DRBG_INSTANTIATED (R158). The CTR_DRBG is instantiated and ENT enters READY. -/
  | drbgInstantiated
  /-- KEYGEN_QUEUE_TIMEOUT (R159). A queued key-generation command has waited 5 ms and completes with NOT_READY. -/
  | keygenQueueTimeout
  /-- ENT_DRBG_READ (R225). A read of ENT_DRBG_DATA returns 32 DRBG bits, or zero with NOT_READY. -/
  | entDrbgRead (role : Role)
  /-- DRBG_RESEED_DUE (R225). After 65,536 generate calls or 1 s, ENT starts gathering 512 samples to reseed. -/
  | drbgReseedDue
  /-- DRBG_RESEED_DONE (R225). The reseed samples are gathered and the DRBG is reseeded. -/
  | drbgReseedDone
  /-- DOE_DISCOVERY (R393). SBX answers a DOE Discovery object with the object types it serves. -/
  | doeDiscovery (index : BitVec 8)
  /-- DL_BEGIN (R161). A BEGIN download object opens a new download, or is answered DENIED or RETRY. -/
  | dlBegin (vid : BitVec 16) (typ cmd seq : BitVec 8) (len : Word) (extra : Bool)
  /-- DL_CHUNK (R161). A CHUNK object is stored at the expected offset, or is answered DENIED. -/
  | dlChunk (vid : BitVec 16) (typ seq : BitVec 8) (off : Word) (data : Bytes) (extra : Bool)
  /-- DL_END (R161). An END object with every declared byte moves SBX to VERIFY, or is answered DENIED. -/
  | dlEnd (vid : BitVec 16) (typ seq : BitVec 8) (extra : Bool)
  /-- DL_CANCEL (R161). A CANCEL object discards the download and is answered OK. -/
  | dlCancel (vid : BitVec 16) (typ seq : BitVec 8) (extra : Bool)
  /-- DOE_ABORT (R162). HD_ABORT discards only the object in progress. -/
  | doeAbort
  /-- DL_IDLE_TIMEOUT (R162). 1 s in DL_RECEIVE with no download object, so SBX discards the download and returns to DL_WAIT. -/
  | dlIdleTimeout
  /-- RELOAD_FETCH_DONE (R170). The reload image has been fetched from host memory, and SBX enters VERIFY. -/
  | reloadFetchDone (data : Bytes)
  /-- RELOAD_FETCH_FAIL (R155). An HM error or HP_UP low during the reload returns SBX to DL_WAIT. -/
  | reloadFetchFail
  /-- RELOAD_TIMEOUT (R155). 100 ms in RELOAD without the image returns SBX to DL_WAIT. -/
  | reloadTimeout
  /-- VERIFY_DONE (R166). The image checks end, and SBX enters MEASURE, or counts the failure and enters DL_WAIT or DL_LOCKED. -/
  | verifyDone
  /-- MEASURE_DONE (R174). The alias certificates are written, and SBX clears HELD, enters RUNNING and jumps to the image. -/
  | measureDone
  /-- MEAS_EXTEND (R173). Firmware sets EXTEND to extend a measurement register, or is refused with DENIED. -/
  | measExtend (role : Role) (v : Word)
  /-- MEAS_EXTEND_DONE (R173). The SHA-384 extend completes and BUSY clears. -/
  | measExtendDone
  /-- ARB_TARGET_WRITE (R169). A guarded write of LCO_ARB_CTRL.TARGET starts raising the anti-rollback value, or is refused. -/
  | arbTargetWrite (role : Role) (v : Word)
  -- Life cycle and debug (07)
  /-- LC_GO (R178). A guarded GO with TARGET starts a life-cycle transition, judged under R179. -/
  | lcGo (role : Role) (v : Word)
  /-- DBG_UNLOCK (R192). A guarded DBG_UNLOCK write in INTEGRATOR starts the debug token comparison, or is refused. -/
  | dbgUnlock (role : Role) (v : Word)
  /-- DBG_CLOSE (R193). A write of DBG_CLOSE closes the memory gateway until PORST_N. -/
  | dbgClose (role : Role) (v : Word)
  /-- TOKEN_COMPARE_DONE (R179). The 50 µs token comparison ends and the transition or unlock proceeds, or the token fails and is counted. -/
  | tokenCompareDone
  /-- OTP_PULSE_DONE (R180). An OTP programming pulse and its margin verify end, and programming moves on, repeats, or stops with ABORTED. -/
  | otpPulseDone (ok : Bool)
  /-- OTP_PROG (R189). A guarded PROG command programs an OTP word, or is refused. -/
  | otpProg (role : Role)
  /-- OTP_READ (R189). A READ command loads LCO_OTP_RDATA, subject to Table 07.4. -/
  | otpRead (role : Role)
  /-- DBG_DATA_READ (R195). A role-D read of LCO_DBG_DATA returns a gateway word and advances DBG_ADDR. -/
  | dbgDataRead (role : Role)
  /-- SBX_HALT (R196). A write of HALT = 1 stops both SBX cores at the next instruction boundary, or is refused. -/
  | sbxHalt (role : Role)
  /-- SBX_RESUME (R196). A write of HALT = 0 resumes the SBX cores. -/
  | sbxResume (role : Role)
  -- Keys (08)
  /-- GENERATE (R561). The KVT command draws a data key, writes a KEYED KTAB entry and places the origin record in XBUF. -/
  | generate (role : Role) (seq : BitVec 8) (keyId : BitVec 16) (kt : KtabRead) (wst : Status)
  /-- EXPORT (R561). The KVT command places a DOMAIN blob of a KeyID in XBUF. -/
  | keyExport (role : Role) (seq : BitVec 8) (keyId : BitVec 16) (kt : KtabRead)
  /-- IMPORT (R561). The KVT command opens a DOMAIN blob and writes a KEYED KTAB entry. -/
  | keyImport (role : Role) (seq : BitVec 8) (kt : KtabRead) (wst : Status)
  /-- LOAD (R217). The KVT command makes a KeyID's slot LIVE, optionally pinned. -/
  | load (role : Role) (seq : BitVec 8) (keyId : BitVec 16)
  /-- UNPIN (R222). The KVT command clears a slot's pin. -/
  | unpin (role : Role) (seq : BitVec 8) (keyId : BitVec 16)
  /-- KVT_STEP (R218). The KVT command advances a KeyID's step epoch by atomic replacement of its step key. -/
  | kvtStep (role : Role) (seq : BitVec 8) (keyId : BitVec 16) (kt : KtabRead)
  /-- STEP_KTAB_WRITE_DONE (R218). The KTAB write of a step advance completes, and KVT flips the slot's active bank or fails STEP. -/
  | stepKtabWriteDone (st : Status)
  /-- RETIRE (R219). The KVT command commits a KeyID's retirement, after which TTB refuses its new requests. -/
  | retire (role : Role) (seq : BitVec 8) (keyId : BitVec 16)
  /-- RETIRE_DRAIN_DONE (R219). No admitted request under the retiring KeyID remains, and CTC write-back begins. -/
  | retireDrainDone (keyId : BitVec 16)
  /-- RETIRE_WRITEBACK_DONE (R219). CTC has written back and invalidated the KeyID's lines, and KVT writes the KTAB entry RETIRED. -/
  | retireWritebackDone (keyId : BitVec 16) (kt : KtabRead)
  /-- RETIRE_KTAB_WRITE_DONE (R219). The RETIRED KTAB write completes, and KVT erases the slot and reports RETIRE complete. -/
  | retireKtabWriteDone (keyId : BitVec 16) (st : Status)
  /-- ENROL (R202). The KVT command starts PUF enrolment in MAKER, or is refused. -/
  | enrol (role : Role) (seq : BitVec 8)
  /-- ENROL_COMPLETE (R202). The enrolment helper data is fully programmed, or enrolment ends with ABORTED. -/
  | enrolComplete
  /-- JOIN_KEYGEN (R222). The KVT command makes ephemeral ECDH and ML-KEM key pairs in the join slot. -/
  | joinKeygen (role : Role) (seq : BitVec 8)
  /-- JOIN_RESPOND (R222). The KVT command answers a peer's keys with its own ECDH key and a ciphertext, holding both shared secrets. -/
  | joinRespond (role : Role) (seq : BitVec 8)
  /-- JOIN_DECAP (R222). The KVT command decapsulates the peer's ciphertext and holds the shared secrets. -/
  | joinDecap (role : Role) (seq : BitVec 8)
  /-- JOIN_FINISH (R222). The KVT command derives JTK from the shared secrets and the transcript hash, and erases the secrets. -/
  | joinFinish (role : Role) (seq : BitVec 8)
  /-- EPOCH_GENERATE (R222). The KVT command generates a pending domain epoch key. -/
  | epochGenerate (role : Role) (seq : BitVec 8)
  /-- EPOCH_WRAP (R222). The KVT command wraps an epoch key under JTK into an EPOCH blob. -/
  | epochWrap (role : Role) (seq : BitVec 8)
  /-- EPOCH_LOAD (R40). The KVT command loads a new domain epoch key beside the current one for receiving (phase 1). -/
  | epochLoad (role : Role) (seq : BitVec 8)
  /-- EPOCH_SEND (R40). The KVT command designates the new epoch key for sending and changes the configuration (phase 2). -/
  | epochSend (role : Role) (seq : BitVec 8)
  /-- EPOCH_KEY_ERASE (R40). 2 ms after phase 2, KVT erases the old epoch key and its pair-key cache entries. -/
  | epochKeyErase
  /-- PAIR_KEY_DELIVERED (R207). KVT delivers a pair key to a span from its cache, or after deriving it. -/
  | pairKeyDelivered (span : Fin 18)
  /-- KEY_LOAD_DONE (R215). The KTAB entry is read and the blob opened, and the slot becomes LIVE or the load ends with the status of R217. -/
  | keyLoadDone (keyId : BitVec 16) (kt : KtabRead)
  /-- KEY_LOAD_WAIT_TIMEOUT (R212). A load waiting for BN or a scrambling key for 5 ms ends with NOT_READY. -/
  | keyLoadWaitTimeout (keyId : BitVec 16)
  /-- SLOT_REMASK (R212). Every 4,096 CK_CTL cycles, KVT remasks the next slot round-robin. -/
  | slotRemask
  -- Junction (09)
  /-- JCT_GO (R249). A guarded GO starts judging the staged JCT table, or is refused with RETRY while a commit is judged. -/
  | jctGo (role : Role) (v : Word)
  /-- JCT_COMMIT_JUDGED (R249). The commit checks end, and the staged table becomes active and fills the reset list, or is refused with a reason. -/
  | jctCommitJudged
  /-- JCT_RESTAGE (R255). A write of RESTAGE copies the active table into the staged table. -/
  | jctRestage (role : Role) (v : Word)
  /-- JCT_COPY_SWEEP (R251). Each cycle, JCT compares one read-copy entry of every powered copy with the master. -/
  | jctCopySweep (upsets : List CopyUpset) (masterEcc : Bool)
  /-- JCT_ENTRY_RELOAD (R251). A read-copy entry found bad is reloaded from the master, and a held lookup is repeated. -/
  | jctEntryReload (island : Fin 8) (index : Fin 1024)
  /-- RESET_LIST_RANGE_DONE (R246). The engines finish resetting a reset-list range, and requests held under RESET_LIST for it proceed. -/
  | resetListRangeDone (ok : Bool)
  -- Memory engines, counter cache and coherence (10)
  /-- FM_REQUEST_SAMPLE (R257). A fabric request is sampled into an engine's ingress register and judged for refusal and admission. -/
  | fmRequestSample (e : Fin 40) (op aop : BitVec 4) (addr : BitVec 35) (home : BitVec 14) (link : BitVec 5) (gmask : BitVec 2) (keyId : BitVec 16) (pasid : BitVec 20) (ctx : BitVec 24) (tag : BitVec 10) (wdata : Bytes) (wbe : BitVec 256) (breach perr : Bool)
  /-- ORDER_FLAG_PROCEED (R331). Every predecessor of a flag has completed, so the flag proceeds as a store, completes as a pure ordering point, or fails. -/
  | orderFlagProceed
  /-- REQUEST_ADMIT (R258). Every admission condition of a held or new request is met, and TTB admits it with a snapshot. -/
  | requestAdmit (e : Fin 40)
  /-- MEM_WRITE_PRESENT (R269). Keystream and tags are ready, the ciphertext write is presented on the memory port and the slot is freed. -/
  | memWritePresent (e : Fin 40) (slot : Fin 128)
  /-- MEM_READ_DATA (R268). A read beat leaves the memory port queue, and is verified and decrypted or forwarded. -/
  | memReadData (e : Fin 40) (id : BitVec 8) (data : Bytes) (rerr perr : Bool)
  /-- MEM_WRITE_ACK (R77). The controller acknowledges a write, which releases reads and stores held under HAZARD. -/
  | memWriteAck (e : Fin 40) (id : BitVec 8)
  /-- METADATA_FILL_RETURN (R262). A counter-line, tree-node, tag-line or merge read returns to CTC and is verified and installed. -/
  | metadataFillReturn (e : Fin 40) (id : BitVec 8) (data : Bytes) (rerr perr : Bool)
  /-- PREFETCH_DEPTH_ADJUST (R279). After 4,096 prefetched lines are counted, CTC raises or lowers DEPTH. -/
  | prefetchDepthAdjust
  /-- PREFETCH_OVERRIDE_END (R279). The last safety cause ends, and DEPTH returns to its clamped earlier value. -/
  | prefetchOverrideEnd
  /-- CTC_PART_WRITE (R263). A guarded CTC_PART write starts a partition change, or is refused whole. -/
  | ctcPartWrite (role : Role) (v : Word)
  /-- CTC_PART_CHANGE_DONE (R263). The lines in ways that change partition are evicted, and admission resumes. -/
  | ctcPartChangeDone
  /-- CTC_PF_WRITE (R279). A guarded write of FLOOR and CEIL takes effect and clamps DEPTH, or is refused. -/
  | ctcPfWrite (role : Role) (v : Word)
  /-- RESEAL_CHECKPOINT_ACK (R275). The checkpoint line write is acknowledged and read back, and the re-seal proceeds or fails. -/
  | resealCheckpointAck (e : Fin 40) (data : Bytes)
  /-- RESEAL_FINISH (R275). The last re-seal write is presented, so the minors are set, the page is released and the overflowing write answers OK. -/
  | resealFinish (e : Fin 40)
  /-- GETS_RECEIVE (R283). The home takes a GETS, adds a sharer and sends DATA(S). -/
  | getsReceive (sender : BitVec 14) (tree : Fin 40) (idx : BitVec 32)
  /-- GETO_RECEIVE (R283). The home takes a GETO and invalidates sharers and recalls any owner before granting ownership. -/
  | getoReceive (sender : BitVec 14) (tree : Fin 40) (idx : BitVec 32)
  /-- COH_DATA_RECEIVE (R283). A requester installs a DATA copy in state S or O with its version. -/
  | cohDataReceive (home : BitVec 14) (tree : Fin 40) (idx : BitVec 32) (owned : Bool) (v : Word) (line : Bytes)
  /-- INV_RECEIVE (R283). A sharer drops its copy and answers INV_ACK. -/
  | invReceive (home : BitVec 14) (tree : Fin 40) (idx : BitVec 32) (v : Word)
  /-- INV_ACK_RECEIVE (R283). The home clears the sharer bit. -/
  | invAckReceive (sender : BitVec 14) (tree : Fin 40) (idx : BitVec 32) (v : Word)
  /-- RECALL_RECEIVE (R283). An owner takes a RECALL and prepares its write-back. -/
  | recallReceive (home : BitVec 14) (tree : Fin 40) (idx : BitVec 32) (v : Word)
  /-- RECALL_ANSWER (R285). The owner's admitted writes have left, and it sends WB. -/
  | recallAnswer (home : BitVec 14) (tree : Fin 40) (idx : BitVec 32)
  /-- WB_RECEIVE (R283). The home holds a WB until its counted WRITE_CTs arrive, then installs the line, advances V and answers WB_ACK. -/
  | wbReceive (sender : BitVec 14) (tree : Fin 40) (idx : BitVec 32) (v count : Word) (line : Bytes)
  /-- WB_ACK_RECEIVE (R283). The owner frees its retained copy. -/
  | wbAckReceive (home : BitVec 14) (tree : Fin 40) (idx : BitVec 32) (v : Word)
  /-- NACK_RECEIVE (R283). The requester takes a NACK and will resend after 1 µs. -/
  | nackReceive (home : BitVec 14) (tree : Fin 40) (idx : BitVec 32) (reason : BitVec 8)
  /-- NACK_RETRY (R283). 1 µs after a NACK, the requester sends its request again. -/
  | nackRetry (home : BitVec 14) (tree : Fin 40) (idx : BitVec 32)
  /-- WRITE_CT_RECEIVE (R283). The home checks the owner and the tag and writes the data and tag of a WRITE_CT. -/
  | writeCtReceive (sender : BitVec 14) (granule : BitVec 35) (v : Word) (major : BitVec 64) (minor : BitVec 12) (tag data : Bytes)
  /-- WB_HOLD_TIMEOUT (R285). A WB has been held 2 µs, so its missing WRITE_CTs are counted lost and the WB is applied. -/
  | wbHoldTimeout (tree : Fin 40) (idx : BitVec 32)
  /-- RECALL_REPEAT (R285). A RECALL is unanswered after 10 µs and is repeated, and after three the owner is gone. -/
  | recallRepeat (tree : Fin 40) (idx : BitVec 32)
  /-- INV_REPEAT (R479). An INV unanswered for 10 µs is repeated, and after three the sharer is gone. -/
  | invRepeat (tree : Fin 40) (idx : BitVec 32) (member : BitVec 14)
  -- Links and flow control (11, 18)
  /-- LR_FRAME_START (R301). A received frame's headers are judged against rows 1 to 9 of Table 11.6 and the frame is admitted, held or dropped. -/
  | lrFrameStart (n : Fin 18) (frame : Bytes) (perr : Bool)
  /-- LR_FRAME_END (R295). At LR_EOF the frame tag and row 11 are judged, the window updates, and the frame is handed on or dropped. -/
  | lrFrameEnd (n : Fin 18) (err nrReady : Bool)
  /-- HOME_MREQ_HANDOVER (R470). The home span reserves response space and hands a received MREQ to the engine's remote queue. -/
  | homeMreqHandover (n : Fin 18)
  /-- NT_FRAME_START (R309). An NT frame is admitted at NT_SOF, or queued for a dispatch entry, or refused. -/
  | ntFrameStart (n : Fin 18) (hdr : BitVec 128) (breach perr : Bool)
  /-- NT_FRAME_END (R309). NT_EOF arrives, and the sealed frame with its length is presented. -/
  | ntFrameEnd (n : Fin 18) (payload : Bytes) (perr : Bool)
  /-- SPAN_EGRESS_ADMIT (R308). A frame to be sent is refused, held, or admitted and sealed at the span. -/
  | spanEgressAdmit (n : Fin 18)
  /-- RESPONSE_TIMEOUT (R317). An outstanding remote request has no response after RSP_TMO and completes with RETRY. -/
  | responseTimeout (n : Fin 18) (idx : Fin 1024)
  /-- PEER_GONE_TIMEOUT (R477). GONE_TMO passes in SILENT, so the peer becomes GONE and its outstanding requests complete with UNIT_GONE. -/
  | peerGoneTimeout (n : Fin 18) (peer : BitVec 14)
  /-- FLOW_CMD_OPEN (R297). A guarded FLOW_CMD OPEN opens a flow entry, or is refused. -/
  | flowCmdOpen (role : Role) (n : Fin 18)
  /-- FLOW_CMD_CLOSE (R297). A guarded FLOW_CMD CLOSE closes a flow entry. -/
  | flowCmdClose (role : Role) (n : Fin 18)
  /-- FLOW_CMD_LOAD (R323). FLOW_CMD LOAD copies the selected entry into the staged words. -/
  | flowCmdLoad (role : Role) (n : Fin 18)
  /-- CREDIT_RETURN_DUE (R472). The freed-through count has advanced unsent for CRED_HOLD, so the span sends a credit-return dummy. -/
  | creditReturnDue (n : Fin 18) (flow : BitVec 12)
  /-- CRED_TMO_EXPIRE (R473). A full window has not advanced for CRED_TMO, so the span sets F to S and counts CRED_EXPIRED. -/
  | credTmoExpire (n : Fin 18) (flow : BitVec 12)
  -- Dispatch (14)
  /-- DSP_START (R387). A guarded DSP_CMD START starts a dispatch entry, or is refused. -/
  | dspStart (role : Role) (n : Fin 18)
  /-- DSP_STOP (R391). DSP_CMD STOP ends a dispatch entry at the end of its round. -/
  | dspStop (role : Role) (n : Fin 18)
  /-- DSP_CMD_LOAD (R392). DSP_CMD LOAD copies an entry into the staged fields. -/
  | dspCmdLoad (role : Role) (n : Fin 18)
  /-- DISPATCH_ROUND (R387). A dispatch round begins PERIOD after the previous one. -/
  | dispatchRound (n : Fin 18) (entry : Fin 16)
  /-- DISPATCH_SLOT (R388). At a slot the span takes the oldest real frame or a dummy and judges it for egress. -/
  | dispatchSlot (n : Fin 18) (entry : Fin 16)
  /-- DISPATCH_LATE_SEND (R390). A late dispatch frame is admitted and sent, and DISPATCH_LATE counts it. -/
  | dispatchLateSend (n : Fin 18) (entry : Fin 16)
  -- Reduction (13)
  /-- CT_DESCRIPTOR (R351). TRS judges a reduction descriptor from CT, and places it as a chunk, refuses it or holds it. -/
  | ctDescriptor (desc : BitVec 256) (breach perr : Bool)
  /-- TRS_CONTRIBUTION (R360). TRS takes a contribution frame from a span, judges its header and reserves its weight. -/
  | trsContribution (n : Fin 18)
  /-- CHUNK_END (R371). Every output write and payload has finished, so TRS presents the chunk's completion on CT. -/
  | chunkEnd (inst : Fin 256) (handle : BitVec 48)
  /-- TRS_NOCHUNK_TIMEOUT (R361). A contribution unmatched for 100 µs is dropped and counted in NOCHUNK. -/
  | trsNochunkTimeout (n : Fin 18)
  /-- CHUNK_TIMEOUT (R374). CHUNK_TMO elapses before completion, so the chunk ends with UNIT_GONE and is recorded. -/
  | chunkTimeout (inst : Fin 256) (handle : BitVec 48)
  -- Host gate and attestation (15)
  /-- HOST_MEM_ACCESS (R35). A host-initiated access to device memory is served for class P with HOST set, and otherwise completes with DENIED. -/
  | hostMemAccess (func : BitVec 9) (wr : Bool) (addr : BitVec 42) (len : BitVec 8) (data : Bytes) (breach perr : Bool)
  /-- H2D_DOORBELL (R401). The manager writes a pair's H2D doorbell with a produced count. -/
  | h2dDoorbell (role : Role) (pair : Fin 64) (v : Word)
  /-- D2H_DOORBELL (R401). The manager writes a pair's D2H doorbell with a consumed count. -/
  | d2hDoorbell (role : Role) (pair : Fin 64) (v : Word)
  /-- H2D_RECORD (R403). HGT fetches an H2D record and judges its header, sequence, tag and window. -/
  | h2dRecord (pair : Fin 64) (data : Bytes) (rerr perr : Bool)
  /-- H2D_RECORD_ACCESSES_DONE (R405). The record's memory accesses complete, and HGT writes its D2H ACK or DATA record. -/
  | h2dRecordAccessesDone (pair : Fin 64)
  /-- D2H_RECORD_ACKED (R405). HM_BVALID arrives for a D2H record, and HGT writes the index block and raises its source. -/
  | d2hRecordAcked (pair : Fin 64) (err : Bool)
  /-- HGT_CH_OPEN (R400). CH_CMD OPEN opens a channel of a pair with its key. -/
  | hgtChOpen (role : Role)
  /-- HGT_CH_CLOSE (R407). CH_CMD CLOSE closes a pair and erases its keys. -/
  | hgtChClose (role : Role)
  /-- HI_ACK (R408). The controller acknowledges an IDE key command on HI. -/
  | hiAck
  /-- HI_ACK_TIMEOUT (R408). HI_ACK is late beyond 1 µs, so HGT sets IDE_KEY and erases the key set. -/
  | hiAckTimeout
  /-- EQ_RECORD_ACKED (R415). An event record write completes, and EQ_PROD advances and an MSI may be written, or EQ_EN clears on error. -/
  | eqRecordAcked (err : Bool)
  /-- EQ_CONS_WRITE (R415). The manager writes EQ_CONS, which is accepted or refused with DENIED. -/
  | eqConsWrite (role : Role) (v : Word)
  /-- MSI_GAP_END (R415). MSI_GAP ends, and HGT writes one MSI if records were added during the gap. -/
  | msiGapEnd
  /-- SPDM_REQUEST (R394). SBX answers a standard SPDM request within its fixed profile. -/
  | spdmRequest (sid : Option Word) (auth : Bool) (ask : SpdmAsk) (req : Bytes)
  /-- SPDM_GET_CERTIFICATE (R396). SBX returns slot-0 chain bytes once the chain is provisioned. -/
  | spdmGetCertificate (sid : Option Word) (auth : Bool) (slot : BitVec 8) (off len : BitVec 16)
  /-- SPDM_GET_MEASUREMENTS (R397). SBX returns the requested measurement blocks, signed. -/
  | spdmGetMeasurements (sid : Option Word) (auth : Bool) (index : BitVec 8) (signed : Bool) (req : Bytes)
  /-- SPDM_KEY_EXCHANGE (R400). SBX opens a secured session, mixing in the Sarub KEM element when present. -/
  | spdmKeyExchange (sid : Word) (dh : Bytes) (kem leaf : Option Bytes) (req : Bytes)
  /-- SPDM_END_SESSION (R395). A session ends, so its secrets are erased, its bounce pairs closed and its instance unbound. -/
  | spdmEndSession (sid : Word) (auth : Bool)
  /-- SESSION_IDLE_TIMEOUT (R395). 120 s without a message ends a session. -/
  | sessionIdleTimeout (sid : Word)
  /-- PQ_ATTEST (R398). SBX returns an ML-DSA signature over the last signed measurement hash and a nonce. -/
  | pqAttest (sid : Option Word) (auth : Bool) (nonce : Bytes)
  /-- PQ_CERT (R398). SBX returns bytes of the ML-DSA certificate chain. -/
  | pqCert (sid : Option Word) (auth : Bool) (off : Word) (len : BitVec 16)
  /-- SESSION_BIND (R399). SBX binds a mutually authenticated session to an instance whose owner credential it matches. -/
  | sessionBind (sid : Word) (auth : Bool) (inst : Fin 256)
  /-- CHANNEL_OPEN (R400). SBX checks the fields, derives the channel keys and opens a bounce pair. -/
  | channelOpen (sid : Word) (auth : Bool) (fields : Bytes)
  /-- CHANNEL_CLOSE (R407). SBX closes a bounce pair of the session. -/
  | channelClose (sid : Word) (auth : Bool) (pair : BitVec 8)
  /-- FLOW_OPEN (R413). A peer's domain message asks firmware to open the matching flow. -/
  | flowOpen (sid : Word) (auth : Bool) (peer : BitVec 14) (flow : BitVec 16) (kind sport rport inst : BitVec 8) (keyId : BitVec 16) (group : Word)
  /-- KEY_SHARE (R413). A peer's DOMAIN blob is imported and answered with the IMPORT status. -/
  | keyShare (sid : Word) (auth : Bool) (blob : Bytes) (kt : KtabRead) (wst : Status)
  /-- JOIN_OFFER (R411). A joiner takes the leader's offer of epoch, policy digest and ephemeral keys. -/
  | joinOffer (sid : Word) (auth : Bool) (fields key : Bytes) (bad : Fin 4)
  /-- JOIN_ACCEPT (R411). The leader takes the joiner's ECDH key and ciphertext. -/
  | joinAccept (peer : BitVec 14) (fields key : Bytes) (bad : Fin 4)
  /-- JOIN_CONFIRM (R411). The joiner takes the leader's signature over TJ. -/
  | joinConfirm (sid : Word) (auth : Bool) (sig : Bytes)
  /-- JOIN_CONFIRMED (R411). The leader takes the joiner's signature over TJ. -/
  | joinConfirmed (peer : BitVec 14) (sig : Bytes)
  /-- JOIN_EPOCH (R411). The joiner takes the EPOCH blob and membership and loads the epoch key. -/
  | joinEpoch (sid : Word) (auth : Bool) (fields : Bytes)
  /-- JOIN_LOADED (R411). The leader takes the joiner's EPOCH_LOAD status. -/
  | joinLoaded (peer : BitVec 14) (st : BitVec 8)
  /-- JOIN_SEND (R411). The joiner switches sending to the new epoch. -/
  | joinSend (sid : Word) (auth : Bool) (epoch : Word)
  /-- JOIN_SENT (R411). The leader takes the joiner's confirmation of sending under the new epoch. -/
  | joinSent (peer : BitVec 14) (st : BitVec 8)
  /-- JOIN_PEER_TIMEOUT (R410). A peer has not answered 10 s after POLL, so its join ends with RETRY. -/
  | joinPeerTimeout (peer : BitVec 14)
  /-- IDE_KM_QUERY (R408). SBX answers an IDE_KM QUERY. -/
  | ideKmQuery (sid : Word) (auth : Bool)
  /-- IDE_KM_KEY_PROG (R408). SBX loads an IDE key set through HI. -/
  | ideKmKeyProg (sid : Word) (auth : Bool) (port stream : BitVec 8) (sub : BitVec 2) (dir kset : Bool) (key iv : Bytes)
  /-- IDE_KM_K_SET_GO (R408). SBX switches to an IDE key set through HI. -/
  | ideKmKSetGo (sid : Word) (auth : Bool) (stream : BitVec 8) (sub : BitVec 2) (dir kset : Bool)
  /-- IDE_KM_K_SET_STOP (R408). SBX erases an IDE key set through HI. -/
  | ideKmKSetStop (sid : Word) (auth : Bool) (stream : BitVec 8) (sub : BitVec 2) (dir kset : Bool)
  /-- POLL (R410). The service command returns the next outgoing message to a peer. -/
  | poll
  /-- DELIVER (R410). The service command delivers a peer's answer to SBX. -/
  | deliver (peer : BitVec 16) (answer : Bytes)
  /-- CERT_PUT (R396). The service command supplies certificate chain bytes, checked at the last part. -/
  | certPut (chain : BitVec 8) (off : Word) (last : Bool) (bytes : Bytes)
  /-- DOMAIN_PLAN (R410). The service command sets epoch, role, own ID, pod and policy for a join. -/
  | domainPlan (epoch : Word) (plan : BitVec 8) (ownId pod : BitVec 16) (policy : Bytes)
  /-- DOMAIN_ADD (R410). The service command adds a joiner to the leader's plan, or is refused under R36. -/
  | domainAdd (peer pod : BitVec 16)
  /-- DOMAIN_GO (R411). The service command starts the leader's join exchanges. -/
  | domainGo
  -- Cipher engine (16)
  /-- CCE_Q_OPEN (R420). A guarded Q_CMD OPEN opens a CCE queue, or is refused. -/
  | cceQOpen (role : Role)
  /-- CCE_Q_CLOSE (R433). A guarded Q_CMD CLOSE stops fetching and completes when the running descriptor ends. -/
  | cceQClose (role : Role)
  /-- CCE_DOORBELL (R421). An owner's doorbell write advances a queue's PROD, or is ignored and counted. -/
  | cceDoorbell (role : Role) (q : Fin 16) (v : Word)
  /-- CCE_DESC_FETCHED (R426). A descriptor has been read and is judged, then started on a free pair. -/
  | cceDescFetched (q : Fin 16)
  /-- CCE_DESC_END (R422). A descriptor ends and its completion record is written, advancing DONE. -/
  | cceDescEnd (q : Fin 16) (core mul : Bool)
  -- Instances (17)
  /-- CREATE (R442). The M mailbox command moves an instance from FREE to ACTIVE with an owner credential. -/
  | create (inst : Fin 256) (seq gen : BitVec 8) (digest : BitVec 384)
  /-- PASID_ADD (R442). The M mailbox command maps a PASID to the instance. -/
  | pasidAdd (inst : Fin 256) (seq gen : BitVec 8) (pasid : Word)
  /-- PASID_DEL (R442). The M mailbox command unmaps a PASID. -/
  | pasidDel (inst : Fin 256) (seq gen : BitVec 8) (pasid : Word)
  /-- SLICE (R446). The M mailbox command sets all share fields of the instance in one commit, or is refused. -/
  | slice (inst : Fin 256) (seq gen : BitVec 8) (ks shares : Word)
  /-- SCRATCH (R442). The M mailbox command registers the instance's scratchpad ranges. -/
  | scratch (inst : Fin 256) (seq gen : BitVec 8) (ranges : BitVec 256)
  /-- BIND (R448). The M mailbox command binds a tenant KeyID to the instance. -/
  | bind (inst : Fin 256) (seq gen : BitVec 8) (keyId : Word) (kt : KtabRead)
  /-- UNBIND (R449). The M mailbox command removes the instance from a binding, retiring an unbound KeyID. -/
  | unbind (inst : Fin 256) (seq gen : BitVec 8) (keyId : Word)
  /-- INSTANCE_RESET (R450). The M mailbox command RESET increments the generation, unmaps PASIDs and drains the instance. -/
  | instanceReset (inst : Fin 256) (seq gen : BitVec 8)
  /-- SWITCH (R461). The M mailbox command starts a tenant switch to a new owner. -/
  | switch (inst : Fin 256) (seq gen : BitVec 8) (digest : BitVec 384)
  /-- DESTROY (R461). The M mailbox command starts a switch that returns the instance to FREE. -/
  | destroy (inst : Fin 256) (seq gen : BitVec 8)
  /-- MB_STEP (R442). The T mailbox command STEP advances a bound KeyID's step epoch through KVT. -/
  | mbStep (inst : Fin 256) (seq gen : BitVec 8) (keyId : Word) (kt : KtabRead)
  /-- CTX_LOSE (R452). The T mailbox command marks a context lost. -/
  | ctxLose (inst : Fin 256) (seq gen : BitVec 8) (ctx : Word)
  /-- OBJ_PAGE (R456). The T mailbox command registers the instance's object page. -/
  | objPage (inst : Fin 256) (seq gen : BitVec 8) (page : Word)
  /-- OBJ_CREATE (R457). The T mailbox command initialises an object slot and returns its handle. -/
  | objCreate (inst : Fin 256) (seq gen : BitVec 8) (slotKind : Word) (value : BitVec 64)
  /-- OBJ_DESTROY (R460). The T mailbox command invalidates an object slot and aborts its waits. -/
  | objDestroy (inst : Fin 256) (seq gen : BitVec 8) (handle : BitVec 64)
  /-- INSTANCE_DRAIN_DONE (R450). The instance's work has drained after a generation change, and it returns to ACTIVE or continues the switch. -/
  | instanceDrainDone (inst : Fin 256)
  /-- SCRUB_DONE (R91). SC_DVALID ends a scrub command with cleared or failed. -/
  | scrubDone (tag : BitVec 4) (failed : Bool)
  /-- SCRUB_TIMEOUT (R91). A scrub command has no done signal within its bound and ends with ABORTED. -/
  | scrubTimeout (tag : BitVec 4)
  /-- SWITCH_BLOCK_SCRUB_DONE (R462). The scrub of block state of the instance finishes. -/
  | switchBlockScrubDone (inst : Fin 256)
  /-- SIG_GO (R458). The tenant signals an object by handle with a UMAX or ADD. -/
  | sigGo (role : Role) (inst : Fin 256)
  /-- WAIT_ARM (R459). The tenant arms a wait slot with a handle and target. -/
  | waitArm (role : Role) (inst : Fin 256)
  /-- WAIT_CANCEL (R459). The tenant cancels a wait slot, which ends with ABORTED. -/
  | waitCancel (role : Role) (inst : Fin 256)
  -- Interrupts, recorder and time (20)
  /-- INTERRUPT_DELIVER (R511). INC delivers a pending state to its target's sink. -/
  | interruptDeliver (target : Fin 4)
  /-- INC_DONE (R513). M or F completes a delivered source through INC_DONE. -/
  | incDone (role : Role) (v : Word)
  /-- INST_DONE (R513). The tenant completes a delivered source through INST_DONE. -/
  | instDone (role : Role) (inst : Fin 256) (v : Word)
  /-- INC_HOLD_WRITE (R510). A write of INC_CTRL.HOLD stops or resumes every delivery. -/
  | incHoldWrite (role : Role) (v : Word)
  /-- INC_SOURCE_WRITE (R514). A guarded write of a source's TARGET and EN is accepted while inactive, or refused. -/
  | incSourceWrite (role : Role) (src : Fin 256) (v : Word)
  /-- MGRMB_POP (R512). The manager removes the oldest manager mailbox record. -/
  | mgrmbPop (role : Role)
  /-- EVR_RECORD_WRITE (R560). EVR writes the next waiting record with the lowest TIME, chains it and spills full blocks. -/
  | evrRecordWrite
  /-- EVR_SPILL_WRITE_DONE (R521). A spill block write completes, and a failure stops spilling. -/
  | evrSpillWriteDone (st : Status)
  /-- EVR_RECORD_LOAD (R522). A role writes RD_SEQ to load a record from the ring or spill region. -/
  | evrRecordLoad (role : Role) (sq : Word) (rd : KtabRead)
  /-- EVR_FREEZE (R523). EVR_CMD FREEZE stops recording, or is refused. -/
  | evrFreeze (role : Role)
  /-- EVR_UNFREEZE (R523). EVR_CMD UNFREEZE ends a freeze and EVR writes FROZEN. -/
  | evrUnfreeze (role : Role)
  /-- EVR_FREEZE_TIMEOUT (R523). 10 ms after it began, a freeze ends and EVR writes FROZEN. -/
  | evrFreezeTimeout
  /-- EVR_CLEAR (R524). EVR_CMD CLEAR from M is judged and, if accepted, writes CLEARED and starts zeroing the ring. -/
  | evrClear (role : Role)
  /-- EVR_CLEAR_DONE (R524). The ring clear completes and CLEARING reads 0. -/
  | evrClearDone
  /-- EVR_CLR_DIGEST_WRITE (R524). The first write after PORST_N to each CLR_DIGEST word fixes it, and later writes are ignored. -/
  | evrClrDigestWrite (role : Role) (k : Fin 12) (v : Word)
  /-- SET_GO (R529). A guarded SET_GO sets the calendar, or is refused whole with BAD_DATE. -/
  | setGo (role : Role)
  /-- AON_CHANGEOVER (R528). At the first CK_AON edge after AON_STABLE, TTU moves its time base to the crystal. -/
  | aonChangeover
  /-- AON_EDGE_LOSS (R528). No CK_AON edge for 100 µs, so TTU returns to CK_REF, clears DISCIPLINED and records it. -/
  | aonEdgeLoss
  /-- AON_REDISCIPLINE (R528). After 16,384 regular CK_AON edges, TTU disciplines to the crystal again. -/
  | aonRediscipline
  /-- TIME_END_OF_RANGE (R532). C reaches its last count and stops, and TTU sets ENDED and records TIME_END. -/
  | timeEndOfRange
  /-- NOW_DATE_READ (R530). A read of NOW_DATE latches NOW_TIME and NOW_NS for the role. -/
  | nowDateRead (role : Role)
  /-- NOW_LATCH_EXPIRE (R530). 1 µs after NOW_DATE was read, the latch is released. -/
  | nowLatchExpire (role : Role)
  -- Observation (21)
  /-- PMU_EN_WRITE (R539). A guarded write of EN starts sampling, or is refused with DENIED, or stops sampling. -/
  | pmuEnWrite (role : Role) (v : Word)
  /-- PMU_INTERVAL_CLOSE (R536). An interval closes and PMU copies a sample set and restarts its counts. -/
  | pmuIntervalClose (ecc : Bool)
  /-- PMU_SLOT_WRITE_DONE (R540). A sample slot write completes, and a failure stops sampling and raises kind 0x2. -/
  | pmuSlotWriteDone (st : Status)
  /-- PMU_RECORD_LOAD (R541). A write of RD_REC loads a sample record for the role. -/
  | pmuRecordLoad (role : Role) (v : Word) (rd : KtabRead)
  -- Recovery (19)
  /-- ENGINE_WATCHDOG (R484). An item's crypto stage, or a unit's progress, passes its hang threshold, and WATCHDOG fires. -/
  | engineWatchdog (x : Watched)
  /-- SBX_WATCHDOG_EXPIRE (R486). SBX_WD passes without a kick, and SBX undergoes L2. -/
  | sbxWatchdogExpire
  /-- SBX_KICK (R486). Firmware writes WRC_SBX_KICK and rearms the SBX watchdog. -/
  | sbxKick (role : Role) (v : Word)
  /-- MEMORY_PORT_SILENCE (R485). A memory transaction is unanswered for PORT_TMO, and the engine undergoes L1. -/
  | memoryPortSilence (e : Fin 40)
  /-- HEARTBEAT_MISS (R487). 64 CK_AON cycles pass without a WRC heartbeat, and CRU starts an L4. -/
  | heartbeatMiss
  /-- L1_END (R490). The L1 ends, and replay follows for a watchdog hang. -/
  | l1End (unit : Fin 22) (inst : Fin 32)
  /-- L2_END (R490). The unit's reset is released, its key material erased and its isolation released. -/
  | l2End (unit : Fin 22) (inst : Fin 32)
  /-- L3_END (R490). The island has been powered on again under R112. -/
  | l3End (d : Fin 13)
  /-- L4_DRAIN_DONE (R492). Admission has stopped and dirty lines are written back, so all domains are switched off and on. -/
  | l4DrainDone
  /-- L4_RETRAIN_DONE (R492). Port retraining ends or its 1.5 s bound passes, and the SBX boot follows. -/
  | l4RetrainDone
  /-- LEVEL_TIMEOUT (R490). A recovery level exceeds its bound, so WRC records it and starts the next level. -/
  | levelTimeout (level : Fin 5) (unit : Fin 22) (inst : Fin 32)
  /-- REPLAY_DRY_RUN_END (R499). A suspect's 20 µs dry run ends without firing, clearing it, and replay moves on or resubmits. -/
  | replayDryRunEnd (unit : Fin 22) (inst : Fin 32)
  /-- WRC_RESUME (R504). A guarded RESUME authorises service after withdrawal and programs a WDR_CLR cell, or is refused. -/
  | wrcResume (role : Role) (v : Word)
  /-- MESH_CHECK (R495). Every 1 µs TMP drives a new mesh pattern and compares the return. -/
  | meshCheck (bad : BitVec 16)
  /-- TAMPER_ALARM (R496). A tamper condition raises an alarm, asserting the zeroise line and TM_ALARM_OUT and recording TAMPER. -/
  | tamperAlarm (bits : BitVec 6)
  /-- ZEROISE_RELEASE (R496). Every tamper condition has been absent for 1 ms, so TMP releases the zeroise line and WRC starts an L4. -/
  | zeroiseRelease
  -- Reads and late rows
  /-- REGISTER_READ (R133). A register read is judged for reach, width, gating, reset and role, and is refused with DENIED and recorded as REG_DENIED, counted in GATED_HITS or ROLE_DENIED, or answered RETRY. -/
  | registerRead (role : Role) (off : BitVec 23) (len : Nat) (breach : Bool)
  /-- LOCKSTEP_MISMATCH (R21). The SBX lockstep cores' outputs disagree, setting LOCKSTEP and starting an L4 at once, or ending a running L4 and starting a new one. -/
  | lockstepMismatch
  /-- SUPPLY_LOSS (R184). A block supply is lost, interrupting OTP programming and any transition so that the next decode follows Table 07.3. -/
  | supplyLoss
  /-- DOMAIN_HELD_OFF_END (R490). The 1 ms during which an L3 holds its domain off expires, and CRU starts powering the domain on under R112. -/
  | domainHeldOffEnd (d : Fin 13)
  /-- CHUNK_ROWS_CLEARED (R376). The rows of a chunk that ended early are cleared at one row per cycle, which frees them for a held descriptor and lets a removed lane group pass to its new instance. -/
  | chunkRowsCleared (group : Fin 8)
deriving DecidableEq, Repr

end Sys2Proof
end

