-- ==== Sys2Proof/Config.lean ====
section
/-!
DEFINITION. The functions and values that the spec names but does not compute: the content of the published standards
(00_scope, Table 00.4 and "Out of scope") and every value that comes from a physical or random source.
Each is a constant with no body, so no statement can rest on a particular value.
-/
namespace Sys2Proof
namespace Config

/-- FIPS 180-4 SHA-384 of a byte string, 48 bytes (00 Table 00.4). -/
opaque sha384 : Bytes → Bytes

/-- SP 800-185 KMAC256 of key, input, customisation string, with the output length in bytes (00 Table 00.4). -/
opaque kmac256 : Bytes → Bytes → Bytes → Nat → Bytes

/-- FIPS 197 AES-256 of one 16-byte block under a 32-byte key (00 Table 00.4). -/
opaque aes256 : Bytes → Bytes → Bytes

/-- FIPS 197 AES-256 inverse cipher of one 16-byte block under a 32-byte key (00 Table 00.4). -/
opaque aes256Inv : Bytes → Bytes → Bytes

/-- SP 800-38D GCM tag under key, IV, additional data and ciphertext, 16 bytes (00 Table 00.4). -/
opaque gcmTag : Bytes → Bytes → Bytes → Bytes → Bytes

/-- SP 800-38D GCM encryption of a text under key and IV; its own inverse (00 Table 00.4). -/
opaque gcmCrypt : Bytes → Bytes → Bytes → Bytes

/-- SP 800-38F AES-256-KWP wrap of a text under a key (00 Table 00.4). -/
opaque kwpWrap : Bytes → Bytes → Bytes

/-- SP 800-38F AES-256-KWP unwrap: none where the integrity check fails (00 Table 00.4). -/
opaque kwpUnwrap : Bytes → Bytes → Option Bytes

/-- FIPS 186-5 ECDSA P-384 verification: public key, message, signature (00 Table 00.4). -/
opaque ecdsaVerify : Bytes → Bytes → Bytes → Bool

/-- FIPS 186-5 ECDSA P-384 signature: private key, message, drawn value (00 Table 00.4). -/
opaque ecdsaSign : Bytes → Bytes → Nat → Bytes

/-- FIPS 204 ML-DSA-87 verification: public key, context string, message, signature (00 Table 00.4). -/
opaque mldsaVerify : Bytes → Bytes → Bytes → Bytes → Bool

/-- FIPS 204 ML-DSA-87 signature: private key, context string, message, drawn value (00 Table 00.4). -/
opaque mldsaSign : Bytes → Bytes → Bytes → Nat → Bytes

/-- ECDH P-384 public key of a private key (00 Table 00.4). -/
opaque ecdhPublic : Bytes → Bytes

/-- ECDH P-384 shared secret of a private key and a peer's public key; none where the point is invalid (00 Table 00.4). -/
opaque ecdhShared : Bytes → Bytes → Option Bytes

/-- FIPS 203 ML-KEM-1024 encapsulation key of a seed (00 Table 00.4). -/
opaque kemPublic : Bytes → Bytes

/-- FIPS 203 ML-KEM-1024 encapsulation under a public key with a drawn value: ciphertext and shared secret; none where the key check fails. -/
opaque kemEncaps : Bytes → Nat → Option (Bytes × Bytes)

/-- FIPS 203 ML-KEM-1024 decapsulation with a seed: the shared secret; none where the input check fails. -/
opaque kemDecaps : Bytes → Bytes → Option Bytes

/-- DMTF SPDM key schedule (HKDF) of a secret and a label, with the output length in bytes (00 Table 00.4). -/
opaque spdmDerive : Bytes → Bytes → Nat → Bytes

/-- SHA-384 HKDF-Extract of a salt and input keying material (15 R400). -/
opaque hkdfExtract : Bytes → Bytes → Bytes

/-- SHA-384 HKDF-Expand of a key and an info string, with the output length in bytes (15 R400). -/
opaque hkdfExpand : Bytes → Bytes → Nat → Bytes

/-- bin_str of SPDM 1.3: length, label, context (15 R400): the standard's. -/
opaque binStr : Nat → Bytes → Bytes → Bytes

/-- The transcript that SPDM 1.3 hashes or signs, from the request and the response: the standard's. -/
opaque spdmTranscript : Bytes → Bytes → Bytes

/-- The answer of SPDM 1.3 to a request inside the profile, with a drawn value where it needs one: the standard's. -/
opaque spdmAnswer : Bytes → Nat → Bytes

/-- The certificate chain of slot 0 as SPDM 1.3 lays it out: the chain supplied and the alias certificate (15 R396): the standard's. -/
opaque spdmCertChain : Bytes → Bytes → Bytes

/-- The public key of a chain's leaf where every signature in the chain verifies (15 R396), by kind: 0 ECDSA, 1 ML-DSA: X.509's. -/
opaque chainLeaf : Nat → Bytes → Option Bytes

/-- The DER ML-DSA alias certificate and the ML-DSA chain as R398 returns them: the chain supplied and the alias certificate. -/
opaque mldsaChain : Bytes → Bytes → Bytes

/-- A drawn value: the `n`-th draw of the CTR_DRBG, of a raw noise source or of another physical source (08 R225). -/
opaque drawn : Nat → Nat → Bytes

/-- A word of the PUF array as one enrolment read gives it, by the draw of the read and the word's number (08 R202): a property of the part. -/
opaque pufRead : Nat → Nat → Word

/-- A word of the raw PUF array (07 Table 07.6). -/
opaque pufArray : Nat → Word

/-- A word of the boot ROM (07 Table 07.6). -/
opaque bootRom : Nat → Word

/-- The words of the SBX cores' registers behind gateway code 0x05 (07 Table 07.6; no table gives their number). -/
opaque gateCoreWords : Nat

/-- The words of the JCT, TTB and IMU tables behind gateway code 0x08 (07 Table 07.6; no table gives their number). -/
opaque gateTableWords : Nat

/-- ECDSA P-384 public key of a private scalar, x ‖ y, 96 bytes (FIPS 186-5). -/
opaque ecdsaPublic : Bytes → Bytes

/-- ML-DSA-87 public key of a key-generation seed, 2,592 bytes (FIPS 204). -/
opaque mldsaPublic : Bytes → Bytes

/-- The private scalar (b mod (n − 1)) + 1 of FIPS 186-5 from 64 bytes (06 R171): the group order is that standard's. -/
opaque ecdsaScalar : Bytes → Bytes

/-- The part of an X.509 v3 alias certificate that is signed, in DER (06 R171, R172): issuer public key, alias public key, serial number, the two ends of the
validity period, and the fwids digest and svn of its TCG DICE TcbInfo extension: the encoding is X.509's. -/
opaque certTbs : Bytes → Bytes → Bytes → Bytes → Bytes → Bytes → Nat → Bytes

/-- An X.509 certificate in DER of its signed part and its signature: the encoding is X.509's. -/
opaque certDer : Bytes → Bytes → Bytes

/-- The deterministic nonce of RFC 6979 for a private key and a message. -/
opaque rfc6979 : Bytes → Bytes → Nat

/-- The code of a port kind in a PORT_STATE record: 22 Table 22.8 names the field and gives no code. -/
opaque portKindCode : Nat → Nat

/-- The cause code of a PORT_STATE record: 22 Table 22.8 names the field and gives no code. -/
opaque portCauseCode : Nat → Nat

/-- The word that gives unit code and unit instance in parameter 2 of RECOVERY_END and LEVEL_TIMEOUT: 19 Table 19.7 gives no layout. -/
opaque unitInstCode : Nat → Nat → Nat

/-- The record code of the capture record that gives a bank group's dirty-line count: 19 R489 asks for it and no table gives the code. -/
opaque dirtyCaptureCode : Nat

/-- The kind of the sleep override in a LINK_OVERRIDE record: 11 R322 asks for a record and 22 Table 22.8 gives no kind for sleep. -/
opaque sleepOverrideKind : Nat

/-- The next pattern of the mesh LFSR: 19 Table 19.6 names the LFSR and gives no polynomial. -/
opaque meshNext : Nat → Nat

/-- The SP 800-90B continuous tests: whether a raw sample fails after the samples before it (08 R225): the standard's. -/
opaque contTestFails : List Nat → Nat → Bool

/-- The body of a COH frame (11 Table 11.3): no table gives the layout of a message. Kind, tree code, line index, version, second number, line. -/
opaque cohMessage : Nat → Nat → Nat → Nat → Nat → Bytes → Bytes

/-- The op header of a WRITE_CT frame: 11 Table 11.3 names it and no table gives its layout. KeyID, address, version. -/
opaque writeCtHeader : Nat → Nat → Nat → Bytes

/-- The result of an operation whose value the spec leaves open, by its draw. -/
opaque freeNat : Nat → Nat

/-- A byte string whose content the spec leaves open, by its draw. -/
opaque freeBytes : Nat → Bytes

end Config
end Sys2Proof
end

