-- ==== Sys2Proof/Machine/Tbl.lean ====
section
/-!
DEFINITION. Tables in one canonical form: a list of (key, value) pairs with keys strictly rising and no entry equal to what an
unlisted key reads as. Every addressed store of the block is one of these, so equal contents are equal data.
-/
namespace Sys2Proof.Machine

/-- A sparse table: keys strictly rising, no entry equal to the value of an unlisted key. -/
abbrev Tbl (α : Type) := List (Nat × α)

/-- The value listed at a key, if any. -/
def tblFind {α : Type} : Tbl α → Nat → Option α
  | [], _ => none
  | (k, v) :: t, a => if a = k then some v else tblFind t a

/-- The value at a key; `d` is what an unlisted key reads as. -/
def tblGet {α : Type} (d : α) (t : Tbl α) (a : Nat) : α := (tblFind t a).getD d

/-- List a value at a key, replacing one listed there. -/
def tblPut {α : Type} : Tbl α → Nat → α → Tbl α
  | [], a, x => [(a, x)]
  | (k, v) :: t, a, x =>
    if a < k then (a, x) :: (k, v) :: t
    else if a = k then (k, x) :: t
    else (k, v) :: tblPut t a x

/-- Unlist a key. -/
def tblDel {α : Type} (t : Tbl α) (a : Nat) : Tbl α := t.filter (fun e => e.1 != a)

/-- Write a value at a key whose unlisted value is `d`, keeping the canonical form. -/
def tblSet {α : Type} [DecidableEq α] (d : α) (t : Tbl α) (a : Nat) (x : α) : Tbl α :=
  if x = d then tblDel t a else tblPut t a x

/-- Unlist every key from `lo` up to and not including `hi`. -/
def tblClear {α : Type} (t : Tbl α) (lo hi : Nat) : Tbl α := t.filter (fun e => !(lo ≤ e.1 && e.1 < hi))

/-- The canonical form: keys strictly rising. -/
def tblSorted {α : Type} : Tbl α → Bool
  | [] => true
  | [_] => true
  | a :: b :: t => a.1 < b.1 && tblSorted (b :: t)

/-- The canonical form of a table whose unlisted value at key `a` is `d a`. -/
def tblWf {α : Type} [DecidableEq α] (d : Nat → α) (t : Tbl α) : Bool :=
  tblSorted t && t.all (fun e => e.2 != d e.1)

end Sys2Proof.Machine
end

