-- ==== Sys2Proof/Machine/State.lean ====
section
/-!
DEFINITION. The state of the block: every register, table, buffer, counter, mode and pin the spec gives it, as plain data, and the
queue of waiting commands. Software-visible register words stand in `regs`; what the units hold beside them stands in one
structure per unit.
-/
namespace Sys2Proof.Machine

/-- A waiting event record before it is numbered (20 Table 20.3). -/
structure Rec where
  code : Nat
  sev : Nat
  unit : Nat
  uinst : Nat
  inst : Option Nat
  time : Nat
  p1 : Word
  p2 : Word
  p3 : Word
deriving DecidableEq, Repr

/-- A written record: its sequence and the two CHAIN bytes beside the record (20 R517, R519). -/
structure RecW where
  body : Rec
  seq : Nat
  chain : Bytes
deriving DecidableEq, Repr

/-- The record buffer of one unit instance: at most four records, how many were lost since (20 R520), and whether an injection lost one of them (05 R151). -/
structure EvBuf where
  recs : List Rec
  lost : Nat
  inj : Bool
deriving DecidableEq, Repr

/-- A freeze in progress (20 R523). -/
structure Freeze where
  count : Nat
  first : Nat
  sev : Nat
  start : Nat
deriving DecidableEq, Repr

/-- One role's record read: RD_SEQ, the loaded bytes, RSTATUS (20 R522). -/
structure RdPort where
  seq : Nat
  data : Bytes
  status : Nat
deriving DecidableEq, Repr

/-- EVR, the Train Register (20 R517 to R526, R560). Buffers are keyed by page base; key 1 is the register interconnect's (05 R133). `spilling` are the blocks
whose spill write is out, `spill` the first and last block held in the spill region, `cleared` the sequence of the latest CLEARED record. -/
structure Evr where
  bufs : Tbl EvBuf
  handed : List Rec
  ring : Tbl RecW
  nextSeq : Nat
  oldest : Nat
  head : Bytes
  frozen : Option Freeze
  lastFreezeEnd : Option Nat
  clearing : Bool
  tokenFails : Nat
  digestWritten : List Nat
  spilling : List Nat
  spill : Option (Nat × Nat)
  cleared : Nat
  rd : Tbl RdPort
deriving DecidableEq, Repr

/-- One activation state that is not inactive (20 R509): pending until delivered; `done` when a level source's completion was accepted. -/
structure Act where
  src : Nat
  inst : Option Nat
  delivered : Bool
  done : Bool
  status : Nat
  p1 : Word
  p2 : Word
  p3 : Word
  time : Nat
deriving DecidableEq, Repr

/-- One manager-mailbox record with its SEQ (20 R512, 15 Table 15.10). -/
structure MbRec where
  act : Act
  seq : Nat
deriving DecidableEq, Repr

/-- INC (20 R507 to R516). -/
structure Inc where
  acts : List Act
  mailbox : List MbRec
  mbSeq : Nat
deriving DecidableEq, Repr

/-- TTU, the Station Clock (20 R527 to R532): the count C in ns, the base B in 1/64 ns, the CK_REF cycles since the crystal edge,
consecutive regular crystal edges, and the phase of the ideal crystal against CK_REF in 1/64 ns (the model's own, log entry 4). -/
structure Ttu where
  c : Nat
  base : Nat
  n : Nat
  edges : Nat
  phase : Nat
  disciplined : Bool
  valid : Bool
  ended : Bool
  lost : Bool
  now : Tbl (Word × Word)
deriving DecidableEq, Repr

/-- The CRU states of 04 Table 04.2. -/
inductive CruSt where
  | reset | pllWait | pllCount | powerSeq | run | sleepEntry | sleep | wake
deriving DecidableEq, Repr

/-- CRU state codes (04 Table 04.2). -/
def CruSt.code : CruSt → Nat
  | .reset => 0
  | .pllWait => 1
  | .pllCount => 2
  | .powerSeq => 3
  | .run => 4
  | .sleepEntry => 5
  | .sleep => 6
  | .wake => 7

/-- A switchable power domain on its way on or off (04 R112 to R114); `heldOff` is the 1 ms of 19 Table 19.4; `isolated` is a domain whose units stay
isolated while its L3 waits for another one (19 R491). -/
inductive DomSt where
  | off | waitAck | waitIso | waitReset | on | draining | writeback | offAck | heldOff | failed | isolated
deriving DecidableEq, Repr

/-- CRU (04). `pswEn` and `pswAck` are the PSW pins;
`dead` are the domains of KVT, SBX and MISC that failed at power-up: they keep the block HELD until the next PORST_N (04 R113). -/
structure Cru where
  st : CruSt
  porst : Bool
  pllHold : Bool
  dom : Tbl DomSt
  pswEn : BitVec 13
  pswAck : BitVec 13
  events : List Rec
  gating : List GateUnit
  gated : List GateUnit
  sscPending : Option Word
  sscActive : Word
  wakeHeld : List Nat
  pwrReq : List Nat
  dead : List Nat
deriving DecidableEq, Repr

/-- One port towards the surroundings (03 R69, R70, R79); `training` while its retraining request is asserted. -/
structure Port where
  sig : Bool
  inRange : Bool
  windows : Nat
  training : Bool
  trainFailed : Bool
  up : Bool
deriving DecidableEq, Repr

/-- TMP (19 R495 to R497): the conditions present, the pattern driven on the mesh, the nets that mismatched at the last comparison. -/
structure Tmp where
  present : BitVec 6
  mesh : Nat
  mismatches : Nat
deriving DecidableEq, Repr

/-- A recovery of level 1 to 3 in progress (19 R490). Level 1 names an engine page; levels 2 and 3 a unit page and, at 3, its domain. -/
structure Recov where
  level : Nat
  unit : Nat
  inst : Nat
  cause : Nat
  start : Nat
  replay : Bool
deriving DecidableEq, Repr

/-- A block recovery in progress (19 R492): its step of Table 19.5 and its trigger time. -/
structure L4 where
  step : Nat
  start : Nat
deriving DecidableEq, Repr

/-- A suspect of an engine hang (19 R498), with the generation of its instance at the hang and the number of its items that are retained. -/
structure Suspect where
  inst : Nat
  ctx : Nat
  gen : Nat
  items : Nat
deriving DecidableEq, Repr

/-- The SBX boot states (06 Table 06.1). -/
inductive BootSt where
  | reset | rootWait | reload | dlWait | dlReceive | verify | measure | running | dlLocked | lcRefused | rootFault
deriving DecidableEq, Repr

/-- Boot state codes (06 Table 06.1). -/
def BootSt.code : BootSt → Nat
  | .reset => 0x00
  | .rootWait => 0x01
  | .reload => 0x02
  | .dlWait => 0x03
  | .dlReceive => 0x04
  | .verify => 0x05
  | .measure => 0x06
  | .running => 0x07
  | .dlLocked => 0x08
  | .lcRefused => 0x09
  | .rootFault => 0x0A

/-- SBX in boot (06). `image` is the received image as it stands in SRAM and the manifest buffer; `retained` the digest kept in PD_AON; `afterPorst` whether the last SBX reset was PORST_N;
`endSeq` the END object still unanswered; `slotMatched` and `svn` what VERIFY found; `extend` an extend in progress; `cdiHandle` the handle of CDI_1, `certs` the two alias certificates (R171,
R172), ECDSA first; `handoff` the handoff record as the boot ROM placed it at SRAM 0xE_0000 (R172). -/
structure Sbx where
  boot : BootSt
  romMode : Bool
  afterPorst : Bool
  declared : Nat
  image : Bytes
  viaReload : Bool
  endSeq : Option Nat
  svn : Nat
  slotMatched : Nat
  arbAtVerify : Nat
  debugAtVerify : Bool
  retained : Option Bytes
  meas : Tbl Bytes
  extend : Option (Nat × Bytes)
  devid : Bytes
  halted : Bool
  hdError : Bool
  cdiHandle : Option Nat
  aliasKeys : Option (Bytes × Bytes)
  certs : Option (Bytes × Bytes)
  handoff : Bytes
deriving DecidableEq, Repr

/-- ENT (06 R158, 08 R225). -/
inductive EntSt where
  | off | startup | instantiating | ready | failed
deriving DecidableEq, Repr

/-- Entropy state: samples gathered in the running set, whether a sample set is being gathered for a reseed, the DRBG's state, generate calls
since the last instantiation or reseed, and the previous raw samples the continuous tests look at. -/
structure Ent where
  st : EntSt
  samples : Nat
  reseeding : Bool
  reseedSamples : Nat
  calls : Nat
  drbg : Option Nat
  window : List Nat
deriving DecidableEq, Repr

/-- Decoded life-cycle states (07 Table 07.1). -/
inductive Lc where
  | maker | integrator | fielded | returned | scrapped | locked
deriving DecidableEq, Repr

/-- Life-cycle codes (07 Table 07.1). -/
def Lc.code : Lc → Nat
  | .maker => 0x01
  | .integrator => 0x02
  | .fielded => 0x03
  | .returned => 0x04
  | .scrapped => 0x05
  | .locked => 0x06

/-- The life-cycle word of a state (07 Table 07.1); LOCKED has none. -/
def Lc.word : Lc → Word
  | .maker => 0x00000000
  | .integrator => 0x000000FF
  | .fielded => 0x0000FFFF
  | .returned => 0x00FFFFFF
  | .scrapped => 0xFFFFFFFF
  | .locked => 0

/-- An LCO operation in progress (07 R179, R180, R186, R189; 06 R169; 19 R502, R504; 08 R202). Word operations program one OTP word to `value`;
`pulses` counts the pulses given to the byte, word or cell in programming. -/
inductive LcoOp where
  | compareGo (target : Lc)
  | compareUnlock
  | helperErase (target : Lc) (word pulses : Nat)
  | transition (target : Lc) (copy byte pulses : Nat)
  | prog (word : Nat) (value : Word) (pulses : Nat)
  | arb (role : Role) (target cell pulses : Nat)
  | wdrSet (cell pulses : Nat)
  | wdrClr (cell pulses : Nat)
  | wipe (word pulses done : Nat)
  | enrol (word pulses : Nat) (helper : List Word)
  | enrolEnd (ok : Bool)
deriving DecidableEq, Repr

/-- LCO (07). `otp` is the 4,096-word array, blank words unlisted; `nextOps` are the withdrawal cells and the enrolment that wait for the operation in progress, oldest first. -/
structure Lco where
  lc : Lc
  decoded : Bool
  pendingLc : Bool
  op : Option LcoOp
  unlocked : Bool
  gateClosed : Bool
  otp : Tbl Word
  wipeRecorded : Bool
  nextOps : List LcoOp
deriving DecidableEq, Repr

/-- A 256-bit key in masked form: the mask, the key XOR the mask, and one parity bit for each 32-bit word of the two shares (08 R212). -/
structure Masked where
  m : Bytes
  x : Bytes
  par : List Bool
deriving DecidableEq, Repr

/-- An erased register of a masked key. -/
def Masked.zero : Masked := ⟨[], [], []⟩

/-- One bank of a key slot (08 R212). -/
structure Bank where
  ek : Masked
  tk : Masked
  sk : Masked
  gk : Masked
deriving DecidableEq, Repr

/-- An erased bank. -/
def Bank.empty : Bank := ⟨Masked.zero, Masked.zero, Masked.zero, Masked.zero⟩

/-- The slot states of 08 Table 08.7; EMPTY is an unlisted slot. -/
inductive SlotSt where
  | loading | live | retiring | erasing
deriving DecidableEq, Repr

/-- Whom a slot is charged to (08 R216): an instance's share or the unshared pool. -/
inductive Charge where
  | inst (i : Nat)
  | pool
deriving DecidableEq, Repr

/-- A key slot that is not EMPTY (08 R212, R215). `used` is the model's use counter for the LRU order. -/
structure Slot where
  keyId : Nat
  st : SlotSt
  banks : Option (Bank × Bank)
  active : Bool
  pinned : Bool
  charge : Charge
  used : Nat
  kidEpoch : Nat
  stepEpoch : Nat
  policy : Nat
deriving DecidableEq, Repr

/-- A key load (08 R216, R217): running loads name their slot; waiting misses do not yet. `cmd` when a LOAD command waits on it. -/
structure Load where
  keyId : Nat
  slot : Option Nat
  charge : Charge
  cmd : Bool
  pin : Bool
deriving DecidableEq, Repr

/-- A domain epoch key with its number (02 R38, R39). -/
structure EpochKey where
  num : Nat
  key : Masked
deriving DecidableEq, Repr

/-- A pair-key cache entry (08 R207); the list stands most recently used first. -/
structure PairKey where
  pos : Nat
  lo : Nat
  hi : Nat
  key : Bytes
deriving DecidableEq, Repr

/-- The join slot (08 R222). -/
structure JoinSlot where
  ecdh : Option Bytes
  kem : Option Bytes
  ssEcdh : Option Bytes
  ssKem : Option Bytes
  jtk : Option Masked
deriving DecidableEq, Repr

/-- The stages of a retirement (08 R219). `orphan` is no retirement any more: a reset or a zeroise ended it while the write of its RETIRED entry was out. -/
inductive RetStage where
  | drain | writeback | ktab | ktabFailed | orphan
deriving DecidableEq, Repr

/-- Root regeneration (06 R157): the attempt number that is running, an off period after an attempt, or the outcome. -/
inductive RootSt where
  | idle
  | attempt (n : Nat)
  | offPeriod (n : Nat)
  | ready | failed | absent
deriving DecidableEq, Repr

/-- The KVT command in execution or queued for entropy (08 R222): operation, SEQ, KeyID, ARG0, and the inputs it holds. -/
structure KCmd where
  op : Nat
  seq : Nat
  keyId : Nat
  arg0 : Nat
  arg1 : Nat
  inputs : Bytes
deriving DecidableEq, Repr

/-- KVT (08). `bn` is held in PD_AON. `internal` holds the two banks of each filled internal slot by the low byte of its KeyID. -/
structure Kvt where
  rootSt : RootSt
  root : Option Masked
  dkek : Option Masked
  pos0 : Option EpochKey
  pos1 : Option EpochKey
  sendPos : Nat
  pendingKey : Option EpochKey
  cdi1 : Option Bytes
  scramble : Option Nat
  maskGen : Option Nat
  bn : Option Bytes
  slots : Tbl Slot
  internal : Tbl (Bank × Bank)
  loads : List Load
  pkc : List PairKey
  pairWait : List (Nat × Nat × Nat × Nat)
  queue : List KCmd
  cmd : Option KCmd
  join : JoinSlot
  retiring : Tbl RetStage
  serial : Nat
  remask : Nat
  useClock : Nat
  refuseAll : Bool
  zeroised : Bool
deriving DecidableEq, Repr

/-- The domain as SBX installed it (02 R36 to R42): current epoch number, own ID, pod, configuration, member map per epoch position. -/
inductive Configuration where
  | singleNode | pod | fullDomain
deriving DecidableEq, Repr

/-- A member of an epoch: accelerator ID and pod number (02 R36). -/
structure Member where
  id : Nat
  pod : Nat
deriving DecidableEq, Repr

/-- Domain state (02 R36 to R42). `next` is the plan that takes effect at phase 2. -/
structure Domain where
  epoch : Nat
  ownId : Nat
  pod : Nat
  config : Configuration
  members : List Member
  nextOwnId : Nat
  nextPod : Nat
  nextConfig : Configuration
  nextMembers : List Member
deriving DecidableEq, Repr

/-- A JCT entry (09 Table 09.7); the default is the invalid entry of zeros. -/
structure JEntry where
  valid : Bool
  base : Nat
  limit : Nat
  cls : Cls
  ksrc : Nat
  prio : Nat
  ballast : Nat
  host : Bool
  remote : Bool
  ro : Bool
deriving DecidableEq, Repr

/-- The entry of zeros. -/
def JEntry.zero : JEntry := ⟨false, 0, 0, .s, 0, 0, 0, false, false, false⟩

/-- One entry of a read copy as it stands in its island: the words and whether their parity holds (09 R251). -/
structure JCopy where
  entry : JEntry
  parityOk : Bool
deriving DecidableEq, Repr

/-- JCT (09 R247 to R253). `copies` lists the read-copy entries that differ from the master, by island × 1,024 + index: islands 0 to 3 are
PD_MEA0 to 3, 4 is PD_MEB, 5 to 7 are PD_VDT0 to 2. `goEmpty`: the reset list was empty when the judging under way began (R249). -/
structure Jct where
  active : Tbl JEntry
  staged : Tbl JEntry
  copies : Tbl JCopy
  sweep : Nat
  judging : Bool
  reloads : List (Nat × Nat)
  goEmpty : Bool
deriving DecidableEq, Repr

/-- A tree node (09 Table 09.6) without its MAC: eight child counters and INIT flags. -/
structure Node where
  cnt : List Nat
  init : List Bool
deriving DecidableEq, Repr

/-- The node of zeros (09 R240). -/
def Node.zero : Node := ⟨List.replicate 8 0, List.replicate 8 false⟩

/-- A range of the reset list (09 R245): pages `lo` to `hi` under a KeyID in class S or I. -/
structure ResetRange where
  lo : Nat
  hi : Nat
  keyId : Nat
  clsI : Bool
deriving DecidableEq, Repr

/-- The tree anchor (09 R242). `nodes` holds the on-die tree nodes by `anchorKey`; `kmap` the KeyID map; `resets` the reset list, oldest first;
`jct` the retained copy of the active table. `limits` names the child counters that have reached their largest value, by tree, level, index and child
(R241: until PORST_N). -/
structure Anchor where
  nodes : Tbl Node
  kmap : Tbl Bool
  resets : List ResetRange
  jct : Tbl JEntry
  limits : List (Nat × Nat × Nat × Nat)
deriving DecidableEq, Repr

/-- What a line of CTC holds (09 R234, R237, R233). A tag slot that is not valid is `none` (10 R266). -/
inductive LineData where
  | ctr (major : Nat) (minors : List Nat) (clsI reseal : Bool)
  | tag (slots : List (Option Bytes))
  | node (n : Node)
deriving DecidableEq, Repr

/-- Which metadata unit a CTC line is: a counter line, a tag line, or a tree node of a level (09 R229). -/
inductive LineKind where
  | ctr
  | tag
  | node (level : Nat)
deriving DecidableEq, Repr

/-- One resident CTC line (10 R260 to R266). `tree` is the tree code of 09 R239; `age` the model's use counter for the age order;
`keyId` and `kidEpoch` are those under which it was verified or written; `home` is set for a copy of a pod home's line. -/
structure Line where
  tree : Nat
  kind : LineKind
  idx : Nat
  way : Nat
  keyId : Nat
  kidEpoch : Nat
  slot : Nat
  dirty : Bool
  pins : Nat
  charge : Option Nat
  age : Nat
  prefetched : Bool
  data : LineData
deriving DecidableEq, Repr

/-- A fill outstanding at CTC (10 R262): the line it will install, the memory transaction that reads it, whether its data has returned and
waits for a key, whom it is charged to, whether a demand or a prefetch started it,
and the line whose write-back waits for it (10 R265). -/
structure Fill where
  tree : Nat
  kind : LineKind
  idx : Nat
  way : Nat
  keyId : Nat
  clsI : Bool
  charge : Option Nat
  prefetch : Bool
  merge : Bool
  returned : Option Bytes
  wb : Option (LineKind × Nat)
deriving DecidableEq, Repr

/-- CTC (10 R262 to R267, R278, R279). `clock` orders ages; `hits` and `counted` are the counts toward the next DEPTH adjustment;
`overrideThermal` and `overrideAuth` the safety causes that hold; `savedDepth` the DEPTH before an override. -/
structure Ctc where
  lines : List Line
  fills : List Fill
  clock : Nat
  counted : Nat
  hits : Nat
  overrideThermal : Bool
  overrideAuth : Bool
  savedDepth : Nat
  partChange : Option Word
deriving DecidableEq, Repr

/-- Directory states of a home line (10 R281). -/
inductive DirSt where
  | u
  | s (sharers : List Nat)
  | o (owner : Nat)
deriving DecidableEq, Repr

/-- A waiting demand of the directory (10 R281): member ID and whether it wants ownership. -/
structure Demand where
  member : Nat
  own : Bool
deriving DecidableEq, Repr

/-- A WB held at the home until its counted WRITE_CTs arrive (10 R285). -/
structure HeldWb where
  src : Nat
  v : Nat
  missing : Nat
  data : LineData
deriving DecidableEq, Repr

/-- A directory entry (10 R281): line, state, version, waiting demands, a held WB, WRITE_CTs received under the current V, unanswered RECALLs and INVs, age,
whether its line is pinned. -/
structure DirEntry where
  tree : Nat
  idx : Nat
  st : DirSt
  v : Nat
  queue : List Demand
  heldWb : Option HeldWb
  wct : Nat
  recalls : Nat
  invs : List (Nat × Nat)
  age : Nat
  pinned : Bool
deriving DecidableEq, Repr

/-- A member's copy of a pod home's line (10 R281): state O or S, version, the line, how many WRITE_CTs were sent under V, whether a RECALL
waits for the owner's admitted writes, whether the WB was sent and the copy is only retained. -/
structure Copy where
  home : Nat
  tree : Nat
  idx : Nat
  owned : Bool
  v : Nat
  data : LineData
  sent : Nat
  recalled : Bool
  retained : Bool
deriving DecidableEq, Repr

/-- A coherence request this member has outstanding (10 R283): `nacked` while it waits to resend. -/
structure CohReq where
  home : Nat
  tree : Nat
  idx : Nat
  own : Bool
  nacked : Bool
deriving DecidableEq, Repr

/-- A WRITE_CT at its home (10 Table 10.10): sender, page and granule, V, counter, tag, ciphertext. -/
structure HeldCt where
  sender : Nat
  page : Nat
  granule : Nat
  v : Nat
  major : Nat
  minor : Nat
  tag : Bytes
  data : Bytes
deriving DecidableEq, Repr

/-- Coherence state (10 R281 to R286): the home's directory, this member's copies and its requests; `late` holds the demands that wait for a free directory
entry, each with tree code and line index, `cts` the WRITE_CTs that wait for their key or for the way of their tag line. -/
structure Coh where
  dir : List DirEntry
  copies : List Copy
  reqs : List CohReq
  late : List (Nat × Nat × Demand)
  cts : List HeldCt
deriving DecidableEq, Repr

/-- The source of a memory-engine request (09 Table 09.9, 18 R468; CCE's `tag` is its descriptor's number in the model times 8, plus the kind of access; IMU's is 0 for the first value of an object, 1 for a signal, 2 + n for the read of wait slot n): the FM port, a remote requester over a span, TRS, HGT for a record or for a host access, CCE, or an internal unit
through the service register. -/
inductive Src where
  | fm
  | remote (span sender flow index seq inc : Nat) (gflow : Option Nat)
  | trs (handle : Nat) (row : Nat)
  | hgt (pair : Nat)
  | host (tag : Nat)
  | cce (queue : Nat) (tag : Nat)
  | imu (inst : Nat) (tag : Nat)
  | service (unit : Nat)
deriving DecidableEq, Repr

/-- A request as presented to an engine (03 R71, 12 R325): operation 0 read, 1 write, 2 combinable read, 3 atomic, 4 ordering flag. `addr` is a byte
address; `link` is FM_LINK, or the unit incarnation of the span that handed a remote request over (18 R476). `wdata` and `wbe` cover the 256 B pair. `inst` and `gen` are the instance that the PASID or the issuing unit names, with its generation. -/
structure Req where
  src : Src
  op : Nat
  aop : Nat
  addr : Nat
  home : Nat
  link : Nat
  gmask : Nat
  keyId : Nat
  pasid : Nat
  ctx : Nat
  tag : Nat
  wdata : Bytes
  wbe : List Bool
  inst : Option Nat
  gen : Nat
deriving DecidableEq, Repr

/-- The admission snapshot (01 Table 01.4), without the admission slot and traffic class that the table of slots gives. -/
structure Snap where
  inst : Option Nat
  gen : Nat
  pasid : Nat
  keyId : Nat
  kslot : Nat
  cls : Cls
  jentry : Nat
  traffic : Nat
  ctx : Nat
  kidEpoch : Nat
deriving DecidableEq, Repr

/-- Where an admitted request stands. -/
inductive Stage where
  | readWait
  | writeReady
  | presented
  | rmwWait
  | remoteWait
  | combined (leader : Nat)
  | reseal
deriving DecidableEq, Repr

/-- An admitted request in one of the engine's 96 slots (01 R24, 10 R257): request, snapshot, the key material it took at admission (08 R213),
the counters (granule, major, minor) it uses, whether its response was presented, its place in admission order, and the winning entry's BALLAST. -/
structure Adm where
  req : Req
  snap : Snap
  ek : Bytes
  tk : Bytes
  sk : Bytes
  ctrs : List (Nat × Nat × Nat)
  stage : Stage
  responded : Bool
  order : Nat
  ballast : Nat
deriving DecidableEq, Repr

/-- What a memory transaction is for (10, 03 R76). -/
inductive TxFor where
  | slotRead (slot : Nat)
  | slotWrite (granules : List Nat)
  | fill (kind : LineKind) (idx : Nat)
  | writeback
  | checkpoint
  | resealRead
  | resumeRead
  | dryRun
deriving DecidableEq, Repr

/-- A memory transaction (03 R76): purpose, channel byte offset, write or read, bytes. -/
structure Tx where
  purpose : TxFor
  offset : Nat
  wr : Bool
  len : Nat
deriving DecidableEq, Repr

/-- The steps of a re-seal (10 R275, R276). -/
inductive ResealStep where
  | checkpoint
  | readBack
  | granules
  | resume
  | path
deriving DecidableEq, Repr

/-- The re-seal machine (10 R275): channel page, slot of the overflowing write, its granule, old major, old minors, step, mismatches, granules whose
reads are outstanding, the stored data read, the responses that wait for its end, the units it has pinned. -/
structure Reseal where
  page : Nat
  slot : Option Nat
  granule : Nat
  major : Nat
  minors : List Nat
  step : ResealStep
  mismatches : Nat
  left : List Nat
  got : Tbl Bytes
  replies : List (Nat × Bytes)
  pins : List (LineKind × Nat)
deriving DecidableEq, Repr

/-- A combine set (12 R338, 11 R318): the first member's slot, the others' slots in admission order, when it opened. -/
structure CombSet where
  leader : Nat
  members : List Nat
  opened : Nat
deriving DecidableEq, Repr

/-- One memory engine (10 R256 to R277, 12 R337, R338, 18 R468). `full` holds the channel pages that take no more writes (10 R277); `clock` orders admissions; `turn` is true when the remote queue is next (12 R337). `txs` are the transactions presented and not
answered, by identifier, `txq` those that wait for an identifier, for the port, or for a write of their units (03 R76, R77), oldest first with their data. -/
structure Eng where
  ingress : Option Req
  hold : Nat
  slots : Tbl Adm
  txs : Tbl Tx
  txq : List (Tx × Bytes)
  full : List Nat
  reseal : Option Reseal
  sets : List CombSet
  remoteQ : List Req
  service : List Req
  clock : Nat
  turn : Bool
deriving DecidableEq, Repr

/-- Instance states (17 R437). -/
inductive InstSt where
  | free | active | resetting | switching | destroying | scrubPending
deriving DecidableEq, Repr

/-- Instance state codes (17 R437). -/
def InstSt.code : InstSt → Nat
  | .free => 0
  | .active => 1
  | .resetting => 2
  | .switching => 3
  | .destroying => 4
  | .scrubPending => 5

/-- A scratchpad range of an instance (17 Table 17.2 SCRATCH, 03 R91); length 0 is an empty range. -/
structure ScRange where
  tgt : Nat
  base : Nat
  len : Nat
deriving DecidableEq, Repr

/-- An object slot (17 R454, R457): kind, serial, whether it is valid. -/
structure Obj where
  event : Bool
  serial : Nat
  valid : Bool
deriving DecidableEq, Repr

/-- A watch of an engine for a wait slot (17 R459): the object by its index, its word address, the target. -/
structure Watch where
  engine : Nat
  inst : Nat
  slot : Nat
  obj : Nat
  addr : Nat
  target : Nat
deriving DecidableEq, Repr

/-- A RESET, SWITCH or DESTROY in progress (17 R450, R461): CMD, sequence number, whether the drain ended, KeyIDs still to retire, the KeyID
in retirement, whether the block scrub ended, ranges still to clear, the ranges being cleared by SC_TAG with the time their command was given, whether one was aborted, the new owner. -/
structure InstSeq where
  cmd : Nat
  seq : Nat
  drained : Bool
  keys : List Nat
  retiring : Option Nat
  scrubbed : Bool
  ranges : List ScRange
  out : List (Nat × ScRange × Nat)
  aborted : Bool
  owner : Bytes
deriving DecidableEq, Repr

/-- A mailbox command that waits for another unit (17 R441): CMD, sequence number, its KeyID or object slot. CMD 0x100 marks one that SBX has not taken yet:
`arg` is its place in the order of GO, `kt` what the KTAB read of the command gives. -/
structure MbWait where
  cmd : Nat
  seq : Nat
  arg : Nat
  kt : KtabRead
deriving DecidableEq, Repr

/-- An instance record (17). Generation, shares, session bit and counts stand in its page's registers. `mWait` and `tWait` are the commands of its
mailboxes that wait; `sig` the handle of a signal in flight. -/
structure InstRec where
  st : InstSt
  owner : Bytes
  lost : List Nat
  scratch : List ScRange
  objPage : Option Nat
  objs : Tbl Obj
  seq : Option InstSeq
  mWait : Option MbWait
  tWait : Option MbWait
  sig : Option Nat
deriving DecidableEq, Repr

/-- The record of a free instance. -/
def InstRec.free : InstRec := ⟨.free, [], [], [], none, [], none, none, none, none⟩

/-- IMU (17). `pasids` maps a PASID to its instance, `binds` a KeyID to the instances bound to it, `lastEpoch` the last KeyID epoch bound plus
one (R49), `leaving` the instances from whose binding a KeyID is retiring, `todo` IMU's own accesses that wait for room in a remote queue. -/
structure Imu where
  inst : Tbl InstRec
  pasids : Tbl Nat
  binds : Tbl (List Nat)
  lastEpoch : Tbl Nat
  leaving : Tbl (List Nat)
  watches : List Watch
  todo : List Req
deriving DecidableEq, Repr

/-- IMU at PORST_N (17 R436). -/
def Imu.reset : Imu := ⟨[], [], [], [], [], [], []⟩

/-- What a unit gets back for a memory access of its own: the access, its status and data (18 R476). -/
structure Reply where
  src : Src
  addr : Nat
  st : Nat
  data : Bytes
deriving DecidableEq, Repr

/-- A store outstanding at the ordering unit (12 R331): engine and tag of its FM port, instance, sampling order. -/
structure Store where
  engine : Nat
  tag : Nat
  inst : Nat
  order : Nat
deriving DecidableEq, Repr

/-- A waiting ordering flag (12 R331, R332): request, engine, sampling order, predecessors still open, the earliest failed one and its status. -/
structure OrdFlag where
  req : Req
  engine : Nat
  order : Nat
  preds : List Nat
  failed : Option (Nat × Nat)
deriving DecidableEq, Repr

/-- TTB's ordering unit (12 R331 to R335) and the replies waiting for their units. -/
structure Ttb where
  clock : Nat
  stores : List Store
  flags : List OrdFlag
  replies : List Reply
deriving DecidableEq, Repr

/-- A flow entry (11 Table 11.5) with its window state (R302, R303), its send window (18 R471: `sent` is S, `freed` is F, `told` the count
last carried to the peer), and per kind of record the millisecond of the last one and the failures counted since (R307, 14 R383). -/
structure Flow where
  valid : Bool
  kind : Nat
  dest : Nat
  ballast : Nat
  dscp : Nat
  saf : Bool
  peerId : Nat
  peerPort : Nat
  inst : Nat
  keyId : Nat
  group : Nat
  count : Nat
  high : Option Nat
  bitmap : Nat
  wepoch : Nat
  rst : Bool
  sent : Nat
  freed : Nat
  told : Nat
  sealRec : Option (Nat × Nat)
  ballastRec : Option (Nat × Nat)
deriving DecidableEq, Repr

/-- The flow entry of zeros (11 R323). -/
def Flow.zero : Flow := ⟨false, 0, 0, 0, 0, false, 0, 0, 0, 0, 0, 0, none, 0, 0, false, 0, 0, 0, none, none⟩

/-- A peer entry (18 R477, R478): 0 UP, 1 SILENT, 2 GONE; when it became SILENT; the recorded incarnation. -/
structure Peer where
  st : Nat
  since : Nat
  inc : Option Nat
deriving DecidableEq, Repr

/-- Key material of a flow in a ready set (11 R304): flow, receive or send, epoch number, key; the list stands most recently used first. -/
structure SpanKey where
  flow : Nat
  rx : Bool
  epoch : Nat
  key : Bytes
deriving DecidableEq, Repr

/-- A received frame in the span (11 R301, R304): bytes from the seal header on, flow, sequence and epoch, length on LR, end (LR_ERR) once at LR_EOF, NR ready at
its end. Its key material is taken at its admission (08 R213): `key` the frame's key, `ks` for a forwarded response the encryption, tag and step keys of its
KeyID; `wait` is the KeyID whose load it waits for, `fail` the status with which its request ends where that load came to nothing. -/
structure RxFrame where
  body : Bytes
  flow : Nat
  seq : Nat
  epoch : Nat
  size : Nat
  ended : Option Bool
  nrReady : Bool
  key : Option Bytes
  ks : Option (Bytes × Bytes × Bytes)
  wait : Option Nat
  fail : Option Nat
deriving DecidableEq, Repr

/-- An outstanding entry (11 R312): request, engine, flow, SEQ and INCARN of its frame, peer, GFLOW when it went out combinable. -/
structure OutReq where
  req : Req
  engine : Nat
  flow : Nat
  seq : Nat
  inc : Nat
  peer : Nat
  gflow : Option Nat
deriving DecidableEq, Repr

/-- A network-interface payload (11 R293, 14 R379): the source ID of NR_HDR, flow, PASID, context, KeyID, the instance and generation it was admitted with, class
asked, payload. -/
structure NiItem where
  peer : Nat
  flow : Nat
  pasid : Nat
  ctx : Nat
  keyId : Nat
  inst : Option Nat
  gen : Nat
  cls : Nat
  data : Bytes
  trs : Option Nat
deriving DecidableEq, Repr

/-- The coherence messages of 10 Table 10.10 but WRITE_CT; a line goes as its 64 bytes without a MAC. -/
inductive CohMsg where
  | gets
  | geto
  | data (owned : Bool) (v : Nat) (line : Bytes)
  | inv (v : Nat)
  | invAck (v : Nat)
  | recall (v : Nat)
  | wb (v count : Nat) (line : Bytes)
  | wbAck (v : Nat)
  | nack (reason : Nat)
deriving DecidableEq, Repr

/-- Something that waits at a span for egress (11 R308): an FM request in an engine's ingress register, a flag's store, a response with its
reservation, a group response, a coherence message, a WRITE_CT, a payload, a credit-return dummy. -/
inductive TxItem where
  | fm (engine : Nat)
  | flag (req : Req) (engine : Nat)
  | rsp (req : Req) (st cls ballast rsv : Nat) (desc : List (Nat × Nat × Bytes)) (data : Bytes)
  | grp (reqs : List Req) (cls ballast rsv gflow : Nat) (desc : List (Nat × Nat × Bytes)) (data : Bytes)
  | coh (peer tree idx : Nat) (m : CohMsg)
  | writeCt (peer keyId addr : Nat) (v : Nat) (desc : Nat × Nat × Bytes) (data : Bytes)
  | ni (x : NiItem)
  | credit (flow : Nat)
deriving DecidableEq, Repr

/-- The NT frame being taken (11 R309): refused with a status, for a dispatch entry, or admitted with its sequence and epoch. -/
inductive NtIn where
  | refused (hdr : NiItem) (st : Nat)
  | dispatch (hdr : NiItem) (entry : Nat)
  | admitted (hdr : NiItem) (seq epoch : Nat) (key : Bytes)
deriving DecidableEq, Repr

/-- A dispatch entry (14 R387): `queue` oldest first, `slot` the next slot of the round, `late` slots not yet sent, millisecond of the last record. -/
structure Dsp where
  flow : Nat
  frames : Nat
  fsize : Nat
  period : Nat
  stopping : Bool
  running : Bool
  queue : List NiItem
  slot : Nat
  late : List (Option NiItem)
  lateMs : Option Nat
deriving DecidableEq, Repr

/-- The lane gauge of a span (11 R320 to R322, 03 R83): requested code while not acknowledged, windows below half of the next narrower gauge, windows
without LR_ERR, bytes sent and received in this window, LR_ERR frames in the running millisecond, the overrides, and a request to repeat. -/
structure Gauge where
  req : Option Nat
  repeats : Option Nat
  low : Nat
  clean : Nat
  tx : Nat
  rx : Nat
  errMs : Nat
  errs : Nat
  thermal : Bool
  integrity : Bool
  sleep : Bool
deriving DecidableEq, Repr

/-- One span (11, 14, 18). `mf` is the memory-flow map (MF_VALID at bit 31); `barred` the highest epoch number under which it seals nothing more
(R300); `memQ` MREQs before handover, with their frame sizes; `trsQ` contributions for TRS; `nrHeld` payloads that wait for NR_READY, each with its NR_STAT and the sequence number of its
frame where that was accepted. -/
structure Span where
  flows : Tbl Flow
  mf : Tbl Word
  peers : Tbl Peer
  keys : List SpanKey
  rx : List RxFrame
  memQ : List (Req × Nat)
  trsQ : List (NiItem × Nat)
  nrHeld : List (Nat × NiItem × Option Nat)
  outQ : List TxItem
  outst : Tbl OutReq
  rsv : Nat
  nt : Option NtIn
  dsp : Tbl Dsp
  gauge : Gauge
  barred : Nat
  grants : Nat
deriving DecidableEq, Repr

/-- A span after PORST_N (11 R323). -/
def Span.reset : Span :=
  ⟨[], [], [], [], [], [], [], [], [], [], 0, none, [], ⟨none, none, 0, 0, 0, 0, 0, 0, false, false, false⟩, 0, 0⟩

/-- One accumulator (13 R346): the 320-bit value, the three flags, the committed and the reserved count. -/
structure Elem where
  acc : BitVec 320
  nan : Bool
  pinf : Bool
  ninf : Bool
  done : Nat
  rsv : Nat
deriving DecidableEq, Repr

/-- A cleared accumulator (13 R347). -/
def Elem.zero : Elem := ⟨0, false, false, false, 0, 0⟩

/-- A reduction descriptor (13 Table 13.2). `laddr` and `oaddr` are granule numbers PA[41:7]. -/
structure TDesc where
  handle : Nat
  inFmt : Nat
  outFmt : Nat
  write : Bool
  sendR : Bool
  sendX : Bool
  sat : Bool
  loc : Bool
  elems : Nat
  expect : Nat
  pasid : Nat
  ctx : Nat
  keyId : Nat
  span : Nat
  flow : Nat
  laddr : Nat
  oaddr : Nat
deriving DecidableEq, Repr

/-- A staged frame (13 R362): span, flow and SEQ while the span's verdict is out, chunk (none once TRS dropped the frame), first element, weight, the
converted elements. -/
structure Staged where
  span : Nat
  flow : Nat
  seq : Nat
  chunk : Option Nat
  off : Nat
  weight : Nat
  vals : List Elem
deriving DecidableEq, Repr

/-- An open chunk (13 R347, R364, R371): the model's own number `id`, instance and generation, descriptor, lane group, rows it still occupies, acceptance time,
elements, total of committed weight × count, local data by pair address, accesses not yet presented and those outstanding by address,
payloads at the span, and whether the sum is complete. -/
structure Chunk where
  id : Nat
  inst : Nat
  gen : Nat
  desc : TDesc
  group : Nat
  rows : Nat
  start : Nat
  elems : Tbl Elem
  total : Nat
  loc : Tbl Bytes
  todo : List Req
  waits : List Nat
  payloads : Nat
  summed : Bool
deriving DecidableEq, Repr

/-- Rows of an ended chunk that are being cleared (13 R376). -/
structure Clearing where
  group : Nat
  inst : Nat
  rows : Nat
deriving DecidableEq, Repr

/-- TRS (13). `desc` is the judging register; `comps` the completions that wait for the end of a reset; `refused` and `drops` keep per instance, and per instance ×
2^48 + HANDLE, the millisecond of the last record and the count since; `failing` the lane group whose detector fired. -/
structure Trs where
  desc : Option (BitVec 256)
  chunks : List Chunk
  staged : List Staged
  clearing : List Clearing
  comps : List (Nat × Nat)
  nextId : Nat
  refused : Tbl (Nat × Nat)
  drops : Tbl (Nat × Nat)
  failing : Option Nat
deriving DecidableEq, Repr

/-- TRS with no chunk (13 R347). -/
def Trs.reset : Trs := ⟨none, [], [], [], [], 0, [], [], none⟩

/-- A bounce ring (15 R401): host address, log₂ of slot size and of slot count. -/
structure Ring where
  base : Nat
  slot : Nat
  count : Nat
deriving DecidableEq, Repr

/-- An open bounce pair (15 R400, R401): instance and generation, KeyID, window pages, rings, keys, whether ss_KEM is mixed in, the session that opened it,
the H2D count produced by the manager, taken by HGT, and expected next, the D2H counts produced and consumed. -/
structure Pair where
  inst : Nat
  gen : Nat
  keyId : Nat
  lo : Nat
  hi : Nat
  h2d : Ring
  d2h : Ring
  keyH : Bytes
  keyD : Bytes
  kem : Bool
  session : Option Nat
  prodH : Nat
  takenH : Nat
  expH : Nat
  prodD : Nat
  consD : Nat
deriving DecidableEq, Repr

/-- A record in flight (15 R403 to R405): pair, read or write, length, DEV_ADDR, BOFF, the SEQ of its header, its status, whether its D2H record is written and
waits for HM_BVALID, accesses not presented and outstanding, pairs read, whether a written granule was met. -/
structure HgtRec where
  pair : Nat
  rd : Bool
  len : Nat
  dev : Nat
  boff : Nat
  seq : Nat
  st : Nat
  acking : Bool
  todo : List Req
  waits : List Nat
  got : Tbl Bytes
  met : Bool
deriving DecidableEq, Repr

/-- A host-initiated access to device memory (01 R35): the model's own number, write or read, byte address, bytes, instance, accesses not presented and outstanding, pairs
read, first failing status. -/
structure HostAcc where
  id : Nat
  wr : Bool
  addr : Nat
  len : Nat
  inst : Option Nat
  todo : List Req
  waits : List Nat
  got : Tbl Bytes
  st : Nat
deriving DecidableEq, Repr

/-- An HI command (03 R85): code, key set, key and IV, and whether an IDE_KM message waits for its end. -/
structure HiCmd where
  cmd : Nat
  stream : Nat
  sub : Nat
  dir : Nat
  kset : Nat
  key : Bytes
  iv : Bytes
  answers : Bool
deriving DecidableEq, Repr

/-- HGT (15). `cfg` holds the channel registers by channel × 256 + offset; `hi` the HI commands, the driven one first; `ide` the loaded key sets; `eq` the event records
that wait for HM_BVALID; `eqSeq` the records since EQ_EN was last set; `gap` whether MSI_GAP runs, `gapMore` whether records were added in it. -/
structure Hgt where
  cfg : Tbl Word
  pairs : Tbl Pair
  recs : List HgtRec
  hosts : List HostAcc
  nextId : Nat
  hi : List HiCmd
  ide : List (Nat × Nat × Nat × Nat)
  eq : List MbRec
  eqSeq : Nat
  gap : Bool
  gapMore : Bool
deriving DecidableEq, Repr

/-- HGT with every pair closed (15 R416). -/
def Hgt.reset : Hgt := ⟨[], [], [], [], 0, [], [], [], 0, false, false⟩

/-- Where a CCE descriptor stands (16 R422, R426, R430, R431): being read, read and not judged, waiting for a pair or for its key, reading the state record, in the
first pass of TWO_PASS, reading source or additional data, waiting for its writes, zeroing, saving the state record, ending, its completion record
being written or written, or ended by an L1 reset with its record still to write. -/
inductive CceStage where
  | fetch | fetched | pair | key | restore | first | src | aad | drain | zero | save | ending | record | done | held
deriving DecidableEq, Repr

/-- A descriptor of a queue (16): the model's own number, ring count, stage, the 128 bytes and the status of their read, pair, key, final status, accesses not presented and
outstanding, data read by pair address, additional data, bytes processed and turned into writes, output not yet written, ciphertext hashed, chaining value, GHASH
accumulator, GCM IV, bytes of earlier descriptors of the chain, whether one of them or this one released output, bytes that hold released
output, the tag of the first pass, the tag to report, whether a zero write failed, the status of the completion record's write. -/
structure CceJob where
  id : Nat
  n : Nat
  stage : CceStage
  desc : Bytes
  pair : Nat
  key : Bytes
  st : Nat
  todo : List Req
  waits : List (Nat × Nat)
  got : Tbl Bytes
  add : Bytes
  pos : Nat
  wpos : Nat
  out : Bytes
  ct : Bytes
  chain : Bytes
  acc : Bytes
  iv : Bytes
  addBefore : Nat
  dataBefore : Nat
  relBefore : Bool
  released : Bool
  held : Nat
  tag1 : Option Bytes
  tagOut : Bytes
  zeroBad : Bool
  ringSt : Nat
deriving DecidableEq, Repr

/-- A CCE queue (16 R420 to R423): owner, its generation, ring size and bases, ring KeyID, whether it is open, closing, stopped, PROD, DONE, the ring counts
submitted while CCE was disabled or gated (first, and one past the last), the descriptor in work. -/
structure CceQ where
  opened : Bool
  closing : Bool
  stopped : Bool
  fw : Bool
  inst : Nat
  gen : Nat
  log2 : Nat
  sq : Nat
  cq : Nat
  ringKey : Nat
  prod : Nat
  done : Nat
  gone : List (Nat × Nat)
  job : Option CceJob
deriving DecidableEq, Repr

/-- A queue after reset: closed (16 R435). -/
def CceQ.zero : CceQ := ⟨false, false, false, false, 0, 0, 0, 0, 0, 0, 0, 0, [], none⟩

/-- CCE (16). `cfg` holds the queue registers by queue × 256 + offset; `turn` the queue that a pair took last. -/
structure Cce where
  cfg : Tbl Word
  queues : Tbl CceQ
  turn : Nat
  nextId : Nat
deriving DecidableEq, Repr

/-- CCE with every queue closed (16 R435). -/
def Cce.reset : Cce := ⟨[], [], 0, 0⟩

/-- A guilty-context replay (19 R498 to R500): engine page, suspects still to run (the first is running), how many ran, the retained descriptors of a memory
engine in admission order, by slot, whether the L1 before it has ended and dry runs are under way, and the guilty suspect once its L1 has begun. -/
structure Replay where
  page : Nat
  suspects : List Suspect
  ran : Nat
  items : List (Nat × Adm)
  running : Bool
  guilty : Option Suspect
deriving DecidableEq, Repr

/-- WRC (19). Times are TTU counts in ns. -/
structure Wrc where
  running : List Recov
  l3wait : List Recov
  lastL1 : Tbl Nat
  lastL2 : Tbl Nat
  lastL3 : Tbl Nat
  l4 : Option L4
  l4Starts : List Nat
  failedL4 : Nat
  replays : List Replay
  capBuf : List Rec
  sbxWdArmed : Bool
  everRunning : Bool
  withdrawnAgain : Bool
  protoTimes : Tbl Nat
deriving DecidableEq, Repr

/-- A joiner's exchange in a session (15 R411): the leader's alias key, the fields of JOIN_OFFER, TJ once JOIN_ACCEPT was sent, whether JOIN_CONFIRM verified. -/
structure JoinIn where
  key : Bytes
  offer : Bytes
  tj : Bytes
  confirmed : Bool
deriving DecidableEq, Repr

/-- An SPDM session (15 R395, R399, R400): SHA-384 of the leaf certificate of a requester that authenticated, the secret S, whether the KEM is mixed in, the open
count c, the bound instance, the time of the last message, the last signed measurement hash, TH2, the exchange of a joiner. -/
structure Session where
  leaf : Option Bytes
  secret : Bytes
  kem : Bool
  opens : Nat
  inst : Option Nat
  last : Nat
  m : Option Bytes
  th2 : Bytes
  join : Option JoinIn
deriving DecidableEq, Repr

/-- What DOMAIN_PLAN gave (15 R410, R412). -/
structure Plan where
  epoch : Nat
  leader : Bool
  ownId : Nat
  pod : Nat
  digest : Bytes
deriving DecidableEq, Repr

/-- Where a joiner of the leader stands (15 Table 15.9), by the message sent last. -/
inductive JoinStage where
  | idle | offered | confirmed | epochSent | loaded | sendSent | done
deriving DecidableEq, Repr

/-- A joiner of the leader's plan (15 R410, R411): ID, pod, stage, TH2 of its session, the fields of JOIN_OFFER, TJ, its alias key, when POLL handed out the request
that is not answered, whether an answer was delivered and not taken. -/
structure Joiner where
  id : Nat
  pod : Nat
  stage : JoinStage
  th2 : Bytes
  offer : Bytes
  tj : Bytes
  key : Bytes
  polled : Option Nat
  answered : Bool
deriving DecidableEq, Repr

/-- SBX's DOE service (15 R393 to R413): sessions by ID, the last signed measurement hash outside a session, the accepted chains and the bytes CERT_PUT gathered,
the session with the IDE role, the plan, the policy digest of the current epoch, the leader's joiners, the outgoing messages, whether DOMAIN_GO runs. -/
structure Att where
  sessions : Tbl Session
  m : Option Bytes
  ecdsa : Option Bytes
  mldsa : Option Bytes
  put : Tbl Bytes
  ide : Option Nat
  plan : Option Plan
  digest : Bytes
  joiners : List Joiner
  outbox : List (Nat × Bytes)
  going : Bool
deriving DecidableEq, Repr

/-- No session, no chain, no plan (15 R395, R396). -/
def Att.reset : Att := ⟨[], none, none, none, [], none, none, [], [], [], false⟩

/-- PMU (21). `next` numbers the next set, `start` the beginning of the interval; `down` the engines out of service at its beginning with their page's EPOCH, `hot`
whether the throttle was active in it, the pages where an L1 or L2 began in it; `admitted`, `pf`, `pfHit` count in it. `gap` tells that the set before was lost, `lost` the numbers of lost sets; `buf` is the
set in the buffer with its number and the slot being written; `last` the last set written completely; `rd` the record copies by role, with the record index in `seq`. -/
structure Pmu where
  next : Nat
  start : Nat
  down : Tbl Nat
  hot : Bool
  resets : List Nat
  admitted : Tbl Nat
  pf : Nat
  pfHit : Nat
  gap : Bool
  lost : List Nat
  buf : Option (Nat × Nat × Bytes)
  last : Option Nat
  rd : Tbl RdPort
deriving DecidableEq, Repr

/-- PMU after a reset (21 R538). -/
def Pmu.reset : Pmu := ⟨0, 0, [], false, [], [], 0, 0, false, [], none, none, []⟩

/-- Whose port an output leaves by: 03 Tables 03.1 to 03.6, and the completions of the register window. -/
inductive OutPort where
  | fm | memRead | memWrite | lt | nr | hmRead | hmWrite | ht | reg | ct | sc | hi | doe | deliver
deriving DecidableEq, Repr

/-- One thing the block puts out: port, the number of the instance of that port (engine, span, role key), tag, status, address, bytes. -/
structure Out where
  port : OutPort
  num : Nat
  tag : Nat
  st : Nat
  addr : Nat
  data : Bytes
deriving DecidableEq, Repr

/-- Reasons a step can stop with a fault: none. Every event the spec describes leaves a next state (05 R153), so no meaning raises a fault. -/
inductive Fault where
  /-- No meaning of this model raises it; it stands so that the type has a member. Safe. -/
  | never
deriving DecidableEq, Repr

/-- Reasons a step can be refused. -/
inductive Refusal where
  /-- Raised by the dispatch for a command without a meaning in this model, by its mnemonic. Safe: the model stops where the hardware goes on. -/
  | notModelled (mnemonic : String)
deriving DecidableEq, Repr

/-- The state of the block. `regs` is keyed by window offset; a register word that is not listed reads as its reset value (RegMap).
`latch` and `hold` are the pair latches and the held high words of 05 R136, keyed by role key × 2^23 + offset of the low word; `exps` the
copies of EXP_EPOCH (05 R146), keyed by role key × 2^11 + page number; `epochs` and `epochAll` the epoch file (05 R145): the EPOCH of a page is
the sum of its own count and of the count of events that advance every page, modulo 2^24. `denied` keeps per role key the millisecond of the last
REG_DENIED record and the refusals counted since (05 R133). `incarn` holds the 4-bit unit incarnations by page (18 R476); `maps` the member maps, keyed by epoch position × 512 + word (11 R323). `free` counts the free values drawn: it is the model's own. `out` lists what the
block has put out, oldest first: it is the model's own. `pending` is the queue of waiting commands. -/
structure State where
  regs : Tbl Word
  latch : Tbl Word
  hold : Tbl Word
  exps : Tbl Nat
  epochAll : Nat
  epochs : Tbl Nat
  held : Bool
  withdrawn : Bool
  denied : Tbl (Nat × Nat)
  cru : Cru
  ports : Tbl Port
  tmp : Tmp
  wrc : Wrc
  sbx : Sbx
  ent : Ent
  lco : Lco
  kvt : Kvt
  dom : Domain
  jct : Jct
  anchor : Anchor
  ctc : Ctc
  coh : Coh
  engs : Tbl Eng
  incarn : Tbl Nat
  ttb : Ttb
  spans : Tbl Span
  maps : Tbl Word
  trs : Trs
  hgt : Hgt
  cce : Cce
  imu : Imu
  inc : Inc
  evr : Evr
  ttu : Ttu
  pmu : Pmu
  att : Att
  free : Nat
  out : List Out
  pending : List Instr
deriving DecidableEq, Repr

/-- A port at power-on: its up signal has not been seen high and no clock window has been judged (03 R69, R70). -/
def Port.zero : Port := ⟨false, false, 0, false, false, false⟩

/-- CRU while PORST_N is asserted (04 R107): state RESET, no switch enabled. -/
def Cru.reset : Cru where
  st := .reset
  porst := true
  pllHold := false
  dom := []
  pswEn := 0
  pswAck := 0
  events := []
  gating := []
  gated := []
  sscPending := none
  sscActive := 0
  wakeHeld := []
  pwrReq := []
  dead := []

/-- TMP at reset: no condition present; the mesh pattern starts at 0 (DESIGN CHOICE, log entry 5). -/
def Tmp.reset : Tmp := ⟨0, 0, 0⟩

/-- WRC at reset: no recovery, no stored L4 start (19 R501). -/
def Wrc.reset : Wrc where
  running := []
  l3wait := []
  lastL1 := []
  lastL2 := []
  lastL3 := []
  l4 := none
  l4Starts := []
  failedL4 := 0
  replays := []
  capBuf := []
  sbxWdArmed := false
  everRunning := false
  withdrawnAgain := false
  protoTimes := []

/-- SBX in reset (06 Table 06.2, R171: every SBX reset sets ROM_MODE; R173: every SBX reset clears the measurement registers). -/
def Sbx.reset : Sbx where
  boot := .reset
  romMode := true
  afterPorst := true
  declared := 0
  image := []
  viaReload := false
  endSeq := none
  svn := 0
  slotMatched := 0
  arbAtVerify := 0
  debugAtVerify := false
  retained := none
  meas := []
  extend := none
  devid := []
  halted := false
  hdError := false
  cdiHandle := none
  aliasKeys := none
  certs := none
  handoff := []

/-- ENT before PD_KVT is released. -/
def Ent.reset : Ent := ⟨.off, 0, false, 0, 0, none, []⟩

/-- LCO before the decode of a blank part (07 R175, log entry 6). -/
def Lco.reset : Lco := ⟨.locked, false, false, none, false, false, [], false, []⟩

/-- An empty join slot (08 R222). -/
def JoinSlot.empty : JoinSlot := ⟨none, none, none, none, none⟩

/-- KVT at reset: no root, no slot (08 R200, R212). -/
def Kvt.reset : Kvt where
  rootSt := .idle
  root := none
  dkek := none
  pos0 := none
  pos1 := none
  sendPos := 0
  pendingKey := none
  cdi1 := none
  scramble := none
  maskGen := none
  bn := none
  slots := []
  internal := []
  loads := []
  pkc := []
  pairWait := []
  queue := []
  cmd := none
  join := JoinSlot.empty
  retiring := []
  serial := 0
  remask := 0
  useClock := 0
  refuseAll := false
  zeroised := false

/-- The domain at reset: single node, own ID 0, epoch 0 (02 R37, R38; the pod number is log entry 7). -/
def Domain.reset : Domain := ⟨0, 0, 0, .singleNode, [], 0, 0, .singleNode, []⟩

/-- JCT with empty tables (09 R247). -/
def Jct.reset : Jct := ⟨[], [], [], 0, false, [], false⟩

/-- The cleared tree anchor (04 R110, 09 R242). -/
def Anchor.reset : Anchor := ⟨[], [], [], [], []⟩

/-- CTC with no resident line (10 R260); DEPTH is saved as its reset value 8 (10 Table 10.15). -/
def Ctc.reset : Ctc := ⟨[], [], 0, 0, 0, false, false, 8, none⟩

/-- No coherence state (10 R281). -/
def Coh.reset : Coh := ⟨[], [], [], [], []⟩

/-- An idle engine (10 R256). -/
def Eng.idle : Eng := ⟨none, 0, [], [], [], [], none, [], [], [], 0, false⟩

/-- INC with every state inactive (20 R509). -/
def Inc.reset : Inc := ⟨[], [], 0⟩

/-- EVR at PORST_N: record 0 is next and H of −1 is 48 zero bytes (20 R519). -/
def Evr.reset : Evr where
  bufs := []
  handed := []
  ring := []
  nextSeq := 0
  oldest := 0
  head := zeros 48
  frozen := none
  lastFreezeEnd := none
  clearing := false
  tokenFails := 0
  digestWritten := []
  spilling := []
  spill := none
  cleared := 0
  rd := []

/-- TTU at PORST_N: C is 0 and the time base is CK_REF (20 R527, R528). -/
def Ttu.reset : Ttu := ⟨0, 0, 0, 0, 0, false, false, false, false, []⟩

/-- The block right after reset: PORST_N asserted, CRU in RESET (04 R107), the block HELD (03 R68), ST_HELD high, OTP of a blank part,
nothing waiting. -/
def State.reset : State where
  regs := []
  latch := []
  hold := []
  exps := []
  epochAll := 0
  epochs := []
  held := true
  withdrawn := false
  denied := []
  cru := Cru.reset
  ports := []
  tmp := Tmp.reset
  wrc := Wrc.reset
  sbx := Sbx.reset
  ent := Ent.reset
  lco := Lco.reset
  kvt := Kvt.reset
  dom := Domain.reset
  jct := Jct.reset
  anchor := Anchor.reset
  ctc := Ctc.reset
  coh := Coh.reset
  engs := []
  incarn := []
  ttb := ⟨0, [], [], []⟩
  spans := []
  maps := []
  trs := Trs.reset
  hgt := Hgt.reset
  cce := Cce.reset
  imu := Imu.reset
  inc := Inc.reset
  evr := Evr.reset
  ttu := Ttu.reset
  pmu := Pmu.reset
  att := Att.reset
  free := 0
  out := []
  pending := []

end Sys2Proof.Machine
end

