-- ==== Sys2Proof/Machine/Ops.lean ====
section
/-!
DEFINITION. The named operations every meaning is built from: the register file, the epoch file, the clocks and domains, outputs and free
values, event records, interrupt events and detector firings.
-/
namespace Sys2Proof.Machine

/-! ### The register file (05, 22) -/

/-- The common page header of 05 Table 05.4, with role T on instance pages. -/
def headerRegs (inst : Bool) : List Reg :=
  let e := if inst then mtfd else mfd
  [ ⟨0x000, 1, [⟨"UNIT", 15, 0, .ro, mtfd, false, 0⟩, ⟨"UINST", 23, 16, .ro, mtfd, false, 0⟩]⟩,
    ⟨0x004, 1, [⟨"STEPPING", 7, 0, .ro, mtfd, false, 0xC0⟩, ⟨"LAYOUT", 15, 8, .ro, mtfd, false, 1⟩, ⟨"FW_IF", 23, 16, .ro, mtfd, false, 0⟩]⟩,
    ⟨0x008, 1, [⟨"CAPS", 31, 0, .ro, mtfd, false, 0⟩]⟩,
    ⟨0x00C, 1, [⟨"ENABLE", 0, 0, .rw, e, false, 0⟩, ⟨"SRESET", 1, 1, .wo, mfd, false, 0⟩, ⟨"EXP_EPOCH", 31, 8, .rw, e, false, 0⟩]⟩,
    ⟨0x010, 1, [⟨"STATE", 7, 0, .ro, mtfd, false, 0⟩, ⟨"HELD", 8, 8, .ro, mtfd, false, 0⟩, ⟨"RECOVERY", 9, 9, .ro, mtfd, false, 0⟩, ⟨"WITHDRAWN", 10, 10, .ro, mtfd, false, 0⟩]⟩,
    ⟨0x014, 1, [⟨"EPOCH", 23, 0, .ro, mtfd, false, 0⟩]⟩,
    ⟨0x018, 1, [⟨"ERR_STAT", 31, 0, .w1c, mfd, false, 0⟩]⟩,
    ⟨0x01C, 1, [⟨"ERR_MASK", 31, 0, .rw, mf, false, 0⟩]⟩,
    ⟨0x020, 1, [⟨"ERR_INJ", 31, 0, .w1s, mfd, false, 0⟩]⟩,
    ⟨0x024, 1, [⟨"DETECTED", 15, 0, .rc, mfd, false, 0⟩, ⟨"STALE", 23, 16, .rc, mfd, false, 0⟩, ⟨"ROLE_DENIED", 31, 24, .rc, mfd, false, 0⟩]⟩,
    ⟨0x028, 1, [⟨"SEL", 7, 0, .rw, mfd, false, 0⟩]⟩ ]

/-- The registers of a unit's pages beyond the header (22 Tables 22.3 to 22.7). -/
def unitRegs (u : Nat) : List Reg :=
  if u = uSbx then sbxRegs else if u = uKvt then kvtRegs else if u = uEnt then entRegs else if u = uLco then lcoRegs
  else if u = uJct then jctRegs else if u = uTtb then ttbRegs else if u = uMea then engRegs else if u = uMeb then engRegs
  else if u = uCtc then ctcRegs else if u = uVdt then vdtRegs else if u = uTrs then trsRegs else if u = uHgt then hgtRegs
  else if u = uCce then cceRegs else if u = uImu then imuRegs else if u = uInc then incRegs else if u = uEvr then evrRegs
  else if u = uTtu then ttuRegs else if u = uWrc then wrcRegs else if u = uPmu then pmuRegs else if u = uCru then cruRegs
  else if u = uTmp then tmpRegs else []

/-- Whether register `r` covers page offset `o`. -/
def regCovers (o : Nat) (r : Reg) : Bool := r.off ≤ o && o < r.off + 4 * r.words

/-- The register at window offset `a`; none where no table places one (22 R548). -/
def regAt (a : Nat) : Option Reg :=
  let o := a % 0x1000 / 4 * 4
  if o < 0x40 then (headerRegs (isInstOff a)).find? (regCovers o)
  else if isInstOff a then instRegs.find? (regCovers o)
  else (unitRegs (unitOf a)).find? (regCovers o)

/-- The word of the fields' reset values. -/
def fldsReset (fs : List Fld) : Word := fs.foldl (fun w f => putBits w f.hi f.lo f.reset) 0

/-- The pages whose ENABLE is fixed at 1 (05 Table 05.5). -/
def enableFixed (u : Nat) : Bool :=
  u = uSbx || u = uKvt || u = uEnt || u = uLco || u = uEvr || u = uTtu || u = uWrc || u = uCru || u = uTmp

/-- What an unlisted register word reads as: its reset value (22 R547). INC source words take their target from 20 Table 20.1; ENABLE is 1 on
the fixed pages (05 Table 05.5). -/
def regReset (a : Nat) : Word :=
  if a % 0x1000 = 0x00C then (if !isInstOff a && enableFixed (unitOf a) then 1 else 0)
  else if !isInstOff a && unitOf a = uInc && 0x400 ≤ a % 0x1000 && a % 0x1000 < 0x800 then
    (let src := (a % 0x1000 - 0x400) / 4
     if isSource src then putBits (putBits 4 1 0 (defaultTarget src)) 11 11 (b2n (isInstSource src)) else 0)
  else match regAt a with
    | some r => fldsReset r.flds
    | none => 0

/-- The stored word at a window offset. -/
def rawReg (s : State) (a : Nat) : Word := tblGet (regReset a) s.regs a

/-- The state with a word stored at a window offset. -/
def setReg (s : State) (a : Nat) (v : Word) : State := { s with regs := tblSet (regReset a) s.regs a v }

/-- Field [hi:lo] of the word at a window offset. -/
def getFld (s : State) (a hi lo : Nat) : Nat := getBits (rawReg s a) hi lo

/-- Write field [hi:lo] of the word at a window offset. -/
def setFld (s : State) (a hi lo v : Nat) : State := setReg s a (putBits (rawReg s a) hi lo v)

/-- Whether bit `n` of the word at a window offset is 1. -/
def regBit (s : State) (a n : Nat) : Bool := getFld s a n n == 1

/-- Set or clear bit `n` of the word at a window offset. -/
def setRegBit (s : State) (a n : Nat) (b : Bool) : State := setFld s a n n (b2n b)

/-- Add to a counter field that saturates at its all-ones value. -/
def incSat (s : State) (a hi lo n : Nat) : State := setFld s a hi lo (satAdd (2 ^ (hi + 1 - lo) - 1) (getFld s a hi lo) n)

/-- Add to a counter field that wraps. -/
def incWrap (s : State) (a hi lo n : Nat) : State := setFld s a hi lo ((getFld s a hi lo + n) % 2 ^ (hi + 1 - lo))

/-- Return the registers from offset `lo` up to and not including `hi` of a page to their reset values. -/
def resetRegs (s : State) (pg lo hi : Nat) : State := { s with regs := tblClear s.regs (pg + lo) (pg + hi) }

/-! ### OTP and integration declarations (22 R549, 03 R97) -/

/-- An OTP word (07 R188); a blank word reads zero. -/
def otpWord (s : State) (w : Nat) : Word := tblGet 0 s.lco.otp w

/-- The bytes of OTP words `w` to `w + n − 1`, little-endian (22 R549). -/
def otpBytes (s : State) (w : Nat) : Nat → Bytes
  | 0 => []
  | n + 1 => otpBytes s w n ++ leBytes 4 (otpWord s (w + n)).toNat

/-- The value of thermometer cells from word `w`: the lowest unprogrammed cell of `n` (06 R168). -/
def thermometer (s : State) (w : Nat) : Nat → Nat
  | 0 => 0
  | n + 1 =>
    let below := thermometer s w n
    if below = n ∧ getBit (otpWord s (w + n / 32)) (n % 32) then n + 1 else below

/-- INT_MEB_PRESENT (03 Table 03.7). -/
def mebPresent (s : State) : Nat := getBits (otpWord s 0x006) 7 0
/-- INT_SCRUB_RATE (03 Table 03.7). -/
def scrubRate (s : State) : Nat := getBits (otpWord s 0x006) 15 8
/-- INT_SCRATCH_COUNT (03 Table 03.7). -/
def scratchCount (s : State) : Nat := getBits (otpWord s 0x006) 23 16
/-- INT_VDT_PRESENT (03 Table 03.7). -/
def vdtPresent (s : State) : Nat := getBits (otpWord s 0x007) 17 0

/-- Whether OTP declares the engine or span of a page absent (03 R97). -/
def pageAbsent (s : State) (pg : Nat) : Bool :=
  if isInstOff pg then false
  else if unitOf pg = uMeb then !(mebPresent s).testBit (uinstOf pg)
  else if unitOf pg = uVdt then !(vdtPresent s).testBit (uinstOf pg)
  else false

/-! ### Free values, outputs, time -/

/-- The next value that the spec leaves open, and the state after it was drawn. -/
def drawNat (s : State) : Nat × State := (Config.freeNat s.free, { s with free := s.free + 1 })

/-- The next byte string that the spec leaves open, and the state after it was drawn. -/
def drawFree (s : State) : Bytes × State := (Config.freeBytes s.free, { s with free := s.free + 1 })

/-- `n` bytes from the DRBG or another physical source, and the state after the draw (08 R225). -/
def drawBytes (s : State) (n : Nat) : Bytes × State := (Config.drawn s.free n, { s with free := s.free + 1 })

/-- Put something out at a port. -/
def emit (s : State) (o : Out) : State := { s with out := s.out ++ [o] }

/-- The accesses of a host-memory transfer of `n` bytes: at most 4,096 B each (03 Table 03.5). -/
def hmParts (addr n : Nat) : List (Nat × Nat) := (List.range ((n + 4095) / 4096)).map (fun k => (addr + 4096 * k, min 4096 (n - 4096 * k)))

/-- Read host memory through HM; the status field of the output holds HM_LEN, where 0 stands for 4,096 B (03 Table 03.5). -/
def hmRead (s : State) (id addr n : Nat) : State :=
  (hmParts addr n).foldl (fun t p => emit t ⟨.hmRead, 0, id, p.2 % 4096, p.1, []⟩) s

/-- Write host memory through HM; the status field of the output holds HM_LEN. -/
def hmWrite (s : State) (id addr : Nat) (b : Bytes) : State :=
  (hmParts addr b.length).foldl (fun t p => emit t ⟨.hmWrite, 0, id, p.2 % 4096, p.1, (b.drop (p.1 - addr)).take p.2⟩) s

/-- The TTU count that stamps records and events (20 R530). -/
def now (s : State) : Nat := s.ttu.c

/-! ### Power domains and gating (04) -/

/-- The state of a switchable domain, by PSW bit. -/
def domSt (s : State) (d : Nat) : DomSt := (tblFind s.cru.dom d).getD .off

/-- Set the state of a switchable domain. -/
def setDom (s : State) (d : Nat) (x : DomSt) : State :=
  { s with cru := { s.cru with dom := tblSet .off s.cru.dom d x } }

/-- Whether a domain is powered, released from isolation and out of reset (04 R111, R112). -/
def domUp (s : State) (d : Nat) : Bool :=
  match domSt s d with
  | .on | .draining | .writeback => true
  | _ => false

/-- Whether the domain of a page is up; PD_AON always is. -/
def pageUp (s : State) (pg : Nat) : Bool :=
  match pageDomain pg with
  | some d => domUp s d
  | none => true

/-- The GateUnit of a page, if CRU can gate it (04 Table 04.5). -/
def gateOf (pg : Nat) : Option GateUnit :=
  if isInstOff pg then none
  else
    let u := unitOf pg
    let n := uinstOf pg
    if u = uCce then some .cce
    else if u = uPmu then some .pmu
    else if u = uTrs then some .trs
    else if u = uMea then (if h : n < 40 then some (.eng ⟨n, h⟩) else none)
    else if u = uMeb then (if h : n + 32 < 40 then some (.eng ⟨n + 32, h⟩) else none)
    else if u = uVdt then (if h : n < 18 then some (.span ⟨n, h⟩) else none)
    else none

/-- Whether the clock of a page's unit or engine is stopped, or the engine is declared absent (04 R121, 05 R131). -/
def pageGated (s : State) (pg : Nat) : Bool :=
  pageAbsent s pg || (match gateOf pg with
    | some g => s.cru.gated.contains g
    | none => false)

/-- Whether admission to a page's unit or engine has stopped, because its clock is to stop: TTB was asked to admit nothing to it, or the unit to accept no
work (04 R119, log 121). -/
def admissionStopped (s : State) (pg : Nat) : Bool := match gateOf pg with
  | some g => s.cru.gating.contains g
  | none => false

/-- Whether the derived clocks run: from POWER_SEQ on (04 Table 04.2). -/
def clocksRun (s : State) : Bool :=
  match s.cru.st with
  | .reset | .pllWait | .pllCount => false
  | _ => true

/-- Whether the register window is reachable (04 R107). -/
def windowOpen (s : State) : Bool :=
  match s.cru.st with
  | .run | .sleepEntry | .sleep | .wake => true
  | _ => false

/-- Whether ENABLE of a page reads 1 (05 R141). -/
def enabled (s : State) (pg : Nat) : Bool := regBit s (pg + 0x00C) 0

/-! ### The epoch file (05 R144, R145) -/

/-- The key under which `epochs` counts the events that advance the EPOCH of every instance page: a reset of IMU reaches them all. No page has
this base. -/
def instEpochs : Nat := 1

/-- The EPOCH of a page. -/
def epochOf (s : State) (pg : Nat) : Nat :=
  (s.epochAll + tblGet 0 s.epochs pg + (if isInstOff pg then tblGet 0 s.epochs instEpochs else 0)) % 0x1000000

/-- The page whose resets a page follows: an instance page follows IMU's (17 R436, 05 R138). -/
def ownerPage (pg : Nat) : Nat := if isInstOff pg then pgImu else pg

/-- PAGE_STATE.RECOVERY of a page; that of the instance pages is IMU's (05 R138, R145). -/
def inRecovery (s : State) (pg : Nat) : Bool := regBit s (ownerPage pg + 0x010) 9

/-- Whether a page's unit can take new work: up, clocked, enabled, not in recovery (04 R120, 05 R141, R138). -/
def inService (s : State) (pg : Nat) : Bool :=
  pageUp s pg && !pageGated s pg && enabled s pg && !inRecovery s pg

/-- An event that advances one page's EPOCH. -/
def bumpEpoch (s : State) (pg : Nat) : State :=
  { s with epochs := tblSet 0 s.epochs pg ((tblGet 0 s.epochs pg + 1) % 0x1000000) }

/-- An event that advances every page's EPOCH: a change of HELD or WITHDRAWN. -/
def bumpAll (s : State) : State := { s with epochAll := (s.epochAll + 1) % 0x1000000 }

/-- The key of a role's copy of EXP_EPOCH on a page (05 R146). -/
def expKey (r : Role) (pg : Nat) : Nat := r.key * 0x800 + pg / 0x1000

/-- A role's EXP_EPOCH on a page. -/
def expEpoch (s : State) (r : Role) (pg : Nat) : Nat := tblGet 0 s.exps (expKey r pg)

/-- Set a role's EXP_EPOCH on a page. -/
def setExpEpoch (s : State) (r : Role) (pg v : Nat) : State :=
  { s with exps := tblSet 0 s.exps (expKey r pg) (v % 0x1000000) }

/-- Change PAGE_STATE.HELD on every page (06 R154, 03 R68). -/
def setHeld (s : State) (b : Bool) : State := if s.held = b then s else bumpAll { s with held := b }

/-- The status with which a held or withdrawn block answers (03 R68); none in service. -/
def blockStatus (s : State) : Option Nat :=
  if s.withdrawn then some Status.unitGone.code else if s.held then some Status.notReady.code else none

/-- Whether SBX's firmware runs: RUNNING, its cores not halted, its clock not stopped in SLEEP (06 R155, 07 R196, 04 R124). -/
def sbxRuns (s : State) : Bool := s.sbx.boot = .running && !s.sbx.halted && s.cru.st != .sleep

/-- Change PAGE_STATE.WITHDRAWN on every page (19 R502). -/
def setWithdrawn (s : State) (b : Bool) : State := if s.withdrawn = b then s else bumpAll { s with withdrawn := b }

/-- Change PAGE_STATE.RECOVERY of a unit page (05 R145). A recovery that reaches IMU reaches every instance page. -/
def setRecovery (s : State) (pg : Nat) (b : Bool) : State :=
  if regBit s (pg + 0x010) 9 = b then s
  else
    let s := bumpEpoch (setRegBit s (pg + 0x010) 9 b) pg
    if pg = pgImu then bumpEpoch s instEpochs else s

/-- Enter a CRU state (04 Table 04.2; PAGE_STATE of the CRU page). -/
def setCru (s : State) (x : CruSt) : State :=
  if s.cru.st = x then s else bumpEpoch { s with cru := { s.cru with st := x } } pgCru

/-- Enter an SBX boot state (06 Table 06.1). -/
def setBoot (s : State) (x : BootSt) : State :=
  if s.sbx.boot = x then s else bumpEpoch { s with sbx := { s.sbx with boot := x } } pgSbx

/-- Enter an ENT state (06 R158). -/
def setEnt (s : State) (x : EntSt) : State :=
  if s.ent.st = x then s else bumpEpoch { s with ent := { s.ent with st := x } } pgEnt

/-- Enter a decoded life-cycle state (07 R175). -/
def setLc (s : State) (x : Lc) : State :=
  let s := setFld s (pgLco + 0x040) 7 0 x.code
  if s.lco.lc = x then s else bumpEpoch { s with lco := { s.lco with lc := x } } pgLco

/-! ### Interrupt events (20 R507 to R516) -/

/-- The register word of a source. -/
def srcReg (src : Nat) : Nat := pgInc + 0x400 + 4 * src

/-- Whether an activation state names the source and instance. -/
def isAct (src : Nat) (inst : Option Nat) (a : Act) : Bool := a.src = src && a.inst == inst

/-- Whether a source belongs to a unit or engine that OTP declares absent (20 R507). -/
def srcAbsent (s : State) (src : Nat) : Bool :=
  match sourcePage src with
  | some pg => pageAbsent s pg
  | none => false

/-- The view bits ACTIVE and PENDING of a source (20 Table 20.6) follow the activation states. -/
def refreshSrc (s : State) (src : Nat) : State :=
  let on := s.inc.acts.any (fun a => a.src = src)
  let pend := s.inc.acts.any (fun a => a.src = src && !a.delivered)
  setRegBit (setRegBit s (srcReg src) 8 on) (srcReg src) 9 pend

/-- An event reaches INC (20 R509, R514): discarded while EN is 0, lost with OVERRUN while its state is active, otherwise pending. -/
def irqEvent (s : State) (src : Nat) (inst : Option Nat) (st p1 p2 p3 : Nat) : State :=
  let inst := if isInstSource src then inst else none
  if !isSource src || srcAbsent s src || !domUp s 12 || !enabled s pgInc then s
  else if !regBit s (srcReg src) 2 then incSat s (pgInc + 0x08C) 31 0 1
  else if s.inc.acts.any (isAct src inst) then
    incSat (setRegBit s (srcReg src) 10 true) (pgInc + 0x084) 31 0 1
  else
    let a : Act := ⟨src, inst, false, false, st, BitVec.ofNat 32 p1, BitVec.ofNat 32 p2, BitVec.ofNat 32 p3, now s⟩
    refreshSrc { s with inc := { s.inc with acts := s.inc.acts ++ [a] } } src

/-- The level of a page's ERR_STAT source (20 R508). -/
def errLevel (s : State) (pg : Nat) : Bool := (rawReg s (pg + 0x018) &&& ~~~ rawReg s (pg + 0x01C)) != 0

/-- An event of a page's level source, with the contents of 20 Table 20.1. -/
def errEvent (s : State) (pg : Nat) : State :=
  match errSource pg with
  | some src => irqEvent s src none 0 (rawReg s (pg + 0x018)).toNat (rawReg s (pg + 0x024)).toNat (epochOf s pg)
  | none => s

/-- After a change of ERR_STAT or ERR_MASK: a level source whose completion was accepted becomes inactive once its level is 0 (20 R509). -/
def levelFall (s : State) (pg : Nat) : State :=
  match errSource pg with
  | some src =>
    if errLevel s pg then s
    else refreshSrc { s with inc := { s.inc with acts := s.inc.acts.filter (fun a => !(a.src = src && a.done)) } } src
  | none => s

/-! ### Detectors (05 R149, R151) -/

/-- Whether injection is armed for a detector of a page. -/
def injArmed (s : State) (pg bit : Nat) : Bool := regBit s (pg + 0x020) bit

/-- A detector fires: its bit is set, DETECTED counts, an armed injection clears, and the page's source raises an event where the
bit became set unmasked (05 R149, 20 R508). -/
def fireBit (s : State) (pg bit : Nat) : State :=
  let rising := !regBit s (pg + 0x018) bit
  let s := setRegBit s (pg + 0x018) bit true
  let s := incSat s (pg + 0x024) 15 0 1
  let s := setRegBit s (pg + 0x020) bit false
  if rising && !regBit s (pg + 0x01C) bit then errEvent s pg else s

/-- Parameter 3 of a record of a firing: bit 31 is set when the firing was injected (05 R151). -/
def injP3 (inj : Bool) (p3 : Nat) : Nat := p3 % 0x80000000 + (if inj then 0x80000000 else 0)

/-! ### Event records (20 R517 to R523, 22 R550) -/

/-- A record raised now. -/
def mkRec (s : State) (c : RecCode) (unit uinst : Nat) (inst : Option Nat) (p1 p2 p3 : Nat) : Rec :=
  ⟨c.code, c.sev, unit, uinst, inst, now s, BitVec.ofNat 32 p1, BitVec.ofNat 32 p2, BitVec.ofNat 32 p3⟩

/-- A unit's record while the recorder is frozen: counted, with the first code and the highest severity (20 R523). -/
def freezeCount (f : Freeze) (r : Rec) : Freeze :=
  { f with count := f.count + 1, first := if f.count = 0 then r.code else f.first, sev := max f.sev r.sev }

/-- Place a record in the buffer with the given key; a record that finds it full is counted as lost and EVR's LOST fires, as it does at the next record
while its injection is armed (20 R520, 05 R151). -/
def pushRec (s : State) (key : Nat) (r : Rec) : State :=
  match s.evr.frozen with
  | some f => { s with evr := { s.evr with frozen := some (freezeCount f r) } }
  | none =>
    let b := (tblFind s.evr.bufs key).getD ⟨[], 0, false⟩
    let inj := injArmed s pgEvr 2
    if b.recs.length < 4 ∧ b.lost = 0 ∧ inj = false then
      { s with evr := { s.evr with bufs := tblPut s.evr.bufs key ⟨b.recs ++ [r], 0, false⟩ } }
    else
      let s := { s with evr := { s.evr with bufs := tblPut s.evr.bufs key ⟨b.recs, b.lost + 1, b.inj || inj⟩ } }
      fireBit (incSat s (pgEvr + 0x10C) 31 0 1) pgEvr 2

/-- Hand a record to EVR from the CRU or WRC buffer (04 R105, 19 R489). -/
def handRec (s : State) (r : Rec) : State :=
  match s.evr.frozen with
  | some f => { s with evr := { s.evr with frozen := some (freezeCount f r) } }
  | none => { s with evr := { s.evr with handed := s.evr.handed ++ [r] } }

/-- The buffer key of a page: its base; instance pages use IMU's (20 R520). -/
def bufKey (pg : Nat) : Nat := if isInstOff pg then pgImu else pg

/-- UNIT of a record about a page: 0x00 for an instance page (20 Table 20.3). -/
def recUnit (pg : Nat) : Nat := if isInstOff pg then 0 else unitOf pg

/-- UINST of a record about a page. -/
def recUinst (pg : Nat) : Nat := if isInstOff pg then 0 else uinstOf pg

/-- INSTANCE of a record about a page: that of an instance page. -/
def recInst (pg : Nat) : Option Nat := if isInstOff pg then some (instOf pg) else none

/-- A record that the unit of a page raises about no instance but that of an instance page. -/
def record (s : State) (pg : Nat) (c : RecCode) (p1 p2 p3 : Nat) : State :=
  pushRec s (bufKey pg) (mkRec s c (recUnit pg) (recUinst pg) (recInst pg) p1 p2 p3)

/-- A record that the unit of a page raises about an instance, where there is one. -/
def recordInst (s : State) (pg : Nat) (c : RecCode) (inst : Option Nat) (p1 p2 p3 : Nat) : State :=
  pushRec s (bufKey pg) (mkRec s c (recUnit pg) (recUinst pg) inst p1 p2 p3)

/-! ### Firings with their records -/

/-- A detector fires and is recorded under a code of its own. -/
def fireAs (s : State) (pg bit : Nat) (c : RecCode) (inst : Option Nat) (p1 p2 p3 : Nat) : State :=
  let inj := injArmed s pg bit
  recordInst (fireBit s pg bit) pg c inst p1 p2 (injP3 inj p3)

/-- Whether a detector is a security detector (05 R152). -/
def isSecurity (pg bit : Nat) : Bool := (secBits (unitOf pg)).testBit bit

/-- A detector without a record code of its own fires: DETECTOR (22 Table 22.8, R550). -/
def fire (s : State) (pg bit : Nat) : State :=
  let inj := injArmed s pg bit
  let s := fireBit s pg bit
  record s pg (rcDetector (isSecurity pg bit)) pg (bit + 0x100 * uinstOf pg) (injP3 inj (getFld s (pg + 0x024) 15 0))

/-! ### CRU events (04 R105) -/

/-- A CRU event with its third parameter: into EVR once CK_OBS runs, otherwise into the buffer of eight; a further one is lost, as is the next one
while EVT_OVERRUN is armed (04 R105, 05 R151). -/
def cruEventAs (s : State) (kind arg p3 : Nat) : State :=
  let r := mkRec s rcCruEvent uCru 0 none kind arg p3
  if injArmed s pgCru 5 then fire (incSat s (pgCru + 0x044) 23 16 1) pgCru 5
  else if clocksRun s then pushRec s pgCru r
  else if s.cru.events.length < 8 then { s with cru := { s.cru with events := s.cru.events ++ [r] } }
  else fire (incSat s (pgCru + 0x044) 23 16 1) pgCru 5

/-- A CRU event that no injection made. -/
def cruEvent (s : State) (kind arg : Nat) : State := cruEventAs s kind arg 0

/-- A CRU detector that CRU_EVENT records (22 Table 22.8) fires. -/
def fireCru (s : State) (bit kind arg : Nat) : State :=
  let inj := injArmed s pgCru bit
  cruEventAs (fireBit s pgCru bit) kind arg (injP3 inj 0)

/-- Once CK_OBS runs, CRU passes its buffered events to EVR (04 R105). -/
def flushCruEvents (s : State) : State :=
  let s' := { s with cru := { s.cru with events := [] } }
  s.cru.events.foldl handRec s'

/-! ### Counts of items (21 R536) -/

/-- PMU counts an admitted item of an engine by its number of 21 R534. -/
def pmuItem (s : State) (n : Nat) : State :=
  { s with pmu := { s.pmu with admitted := tblSet 0 s.pmu.admitted n (tblGet 0 s.pmu.admitted n + 1) } }

/-! ### Completions -/

/-- A register access completes: status and data return to the role (05 R133 to R139). -/
def regDone (s : State) (r : Role) (off : Nat) (st : Status) (data : Word) : State :=
  emit s ⟨.reg, r.key, 0, st.code, off, leBytes 4 data.toNat⟩

/-- A command of a page whose trigger does not hold has no effect. -/
def onlyIf (c : Bool) (s t : State) : State := if c then t else s

end Sys2Proof.Machine
end

