-- ==== Sys2Proof/Machine/Reset.lean ====
section
/-!
DEFINITION. What a reset does to one unit: its registers (05 R140, R150, 22), its items, its incarnation (18 R476).
-/
namespace Sys2Proof.Machine

/-- Whether a register word of a unit page, by page offset, is reset by PORST_N only (06 Table 06.8, 07 R198, 08 R224, 11 R323, 19 R506, 20 R533). -/
def porstOnly (u o : Nat) : Bool :=
  if u = uLco || u = uEvr || u = uTtu || u = uWrc || u = uCru || u = uTmp then true
  else if u = uSbx then o = 0x048 || o = 0x04C
  else if u = uKvt then o = 0x050
  else if u = uVdt then o = 0x0F8
  else if u = uInc then o = 0x040 || (0x400 ≤ o && o < 0x800)
  else false

/-- Whether a listed register word survives a reset of its page at a level: header words by 05 Table 05.4, R141, R150; PAGE_STATE is kept by
its own operations; unit words by `porstOnly`; the SBX registers and its ERR_STAT survive L2 (06 Table 06.8, 19 R506). -/
def keepsReg (level u o : Nat) : Bool :=
  if o = 0x00C then level ≤ 2
  else if o = 0x010 then true
  else if o = 0x018 then level = 1 || (u = uSbx && level = 2)
  else if o = 0x024 then level = 1
  else if o < 0x040 then false
  else porstOnly u o || (u = uSbx && level = 2)

/-- TIERB_WAYS is 0 where INT_MEB_PRESENT is 0 (10 Table 10.15). -/
def ctcWays (s : State) : State := onlyIf (mebPresent s = 0) s (setFld s (pgCtc + 0x040) 3 0 0)

/-- The registers of a unit page after a reset at a level (05 R140); EXP_EPOCH returns to 0. The count of failed verifications stands in PD_AON (06 R167).
An ERR_STAT bit that the reset leaves set and unmasks raises the page's source, and a level that falls ends it (20 R508, R509). -/
def resetPage (s : State) (pg level : Nat) : State :=
  let u := unitOf pg
  let t := { s with
    regs := s.regs.filter (fun e => !(pg ≤ e.1 && e.1 < pg + 0x1000) || keepsReg level u (e.1 % 0x1000))
    exps := s.exps.filter (fun e => e.1 % 0x800 != pg / 0x1000) }
  let t := onlyIf (u = uSbx) t (setFld t (pgSbx + 0x040) 3 0 (getFld s (pgSbx + 0x040) 3 0))
  let t := onlyIf (u = uCtc) t (ctcWays t)
  let uncovered := rawReg s (pg + 0x01C) &&& ~~~ rawReg t (pg + 0x01C) &&& rawReg t (pg + 0x018)
  levelFall (onlyIf (uncovered != 0) t (errEvent t pg)) pg

/-- The unit incarnation advances at the start of every reset that reaches the unit (18 R476). -/
def bumpIncarn (s : State) (pg : Nat) : State :=
  { s with incarn := tblSet 0 s.incarn pg ((tblGet 0 s.incarn pg + 1) % 16) }

/-- The state of a memory engine. -/
def engAt (s : State) (e : Nat) : Eng := (tblFind s.engs e).getD Eng.idle

/-- Set the state of a memory engine. -/
def setEng (s : State) (e : Nat) (x : Eng) : State := { s with engs := tblSet Eng.idle s.engs e x }

/-- The state of a port: 0 to 31 MA, 32 to 39 MB, 40 to 57 link, 58 host. -/
def portAt (s : State) (p : Nat) : Port := (tblFind s.ports p).getD Port.zero

/-- Set the state of a port. -/
def setPort (s : State) (p : Nat) (x : Port) : State := { s with ports := tblSet Port.zero s.ports p x }

/-- The engine number of an engine page. -/
def engOfPage (pg : Nat) : Nat := if unitOf pg = uMea then uinstOf pg else 32 + uinstOf pg

end Sys2Proof.Machine
end

