-- ==== Sys2Proof/Machine/JctOps.lean ====
section
/-!
DEFINITION. The physical address map (09 R226, R227), the Junction table and its winner (R247, R248, R252), the reset list (R245) and the KeyID map
(R242).
-/
namespace Sys2Proof.Machine

/-! ### Address map (09 R226, R227) -/

/-- Whether a page number lies in the tier-A data range, pages 0 to 0x422_FFFF (09 Table 09.1). -/
def inTierA (pg : Nat) : Bool := pg < 0x4230000

/-- The tier-B port whose data range holds a page, if one does (09 Table 09.1). -/
def tierBPort (pg : Nat) : Option Nat :=
  if 0x10000000 ≤ pg ∧ pg < 0x30000000 ∧ (pg - 0x10000000) % 0x4000000 < 0x3ADB000 then some ((pg - 0x10000000) / 0x4000000) else none

/-- The engine of a data page: channel PA[16:12] in tier A, 32 + port in tier B (09 R227). -/
def engineOfPage (pg : Nat) : Option Nat :=
  if inTierA pg then some (pg % 32)
  else (tierBPort pg).map (· + 32)

/-- The channel page of a data page: its index within its channel or port (09 R227). -/
def channelPage (pg : Nat) : Nat := if inTierA pg then pg / 32 else (pg - 0x10000000) % 0x4000000

/-- The data page of an engine's channel page. -/
def pageOfChannel (e l : Nat) : Nat := if e < 32 then l * 32 + e else 0x10000000 + (e - 32) * 0x4000000 + l

/-- Whether two pages lie in one data range of Table 09.1. -/
def sameRange (a b : Nat) : Bool := (inTierA a && inTierA b) || ((tierBPort a).isSome && tierBPort a == tierBPort b)

/-! ### Entries (09 Table 09.7) -/

/-- Word 0 of an entry. -/
def JEntry.w0 (e : JEntry) : Word := putBits (putBits 0 29 0 e.base) 31 31 (b2n e.valid)

/-- Word 1 of an entry. -/
def JEntry.w1 (e : JEntry) : Word := putBits (putBits 0 29 0 e.limit) 31 30 e.cls.code

/-- Word 2 of an entry. -/
def JEntry.w2 (e : JEntry) : Word :=
  BitVec.ofNat 32 (e.ksrc + e.prio * 0x10000 + e.ballast * 0x100000 + b2n e.host * 0x400000 + b2n e.remote * 0x800000 + b2n e.ro * 0x1000000)

/-- The entry that three words spell. -/
def JEntry.ofWords (a b c : Word) : JEntry where
  valid := getBit a 31
  base := getBits a 29 0
  limit := getBits b 29 0
  cls := Cls.ofCode (getBits b 31 30)
  ksrc := getBits c 15 0
  prio := getBits c 19 16
  ballast := getBits c 21 20
  host := getBit c 22
  remote := getBit c 23
  ro := getBit c 24

/-- Entry `i` of a table. -/
def jEntry (t : Tbl JEntry) (i : Nat) : JEntry := tblGet JEntry.zero t i

/-- Whether an entry covers a page (09 R248). -/
def JEntry.covers (e : JEntry) (pg : Nat) : Bool := e.valid && e.base ≤ pg && pg ≤ e.limit

/-- The winner for a page in a table: the covering entry of highest PRIO, the lowest index among equals (09 R248, R252). -/
def winner (t : Tbl JEntry) (pg : Nat) : Option (Nat × JEntry) :=
  t.foldl (fun best x =>
    if x.2.covers pg then
      match best with
      | some y => if y.2.prio < x.2.prio then some x else some y
      | none => some x
    else best) none

/-- The class and KeyID source under which class S or I protects a page in a table; none for other pages. -/
def protOf (t : Tbl JEntry) (pg : Nat) : Option (Bool × Nat) :=
  match winner t pg with
  | some (_, e) => if e.cls = .s then some (false, e.ksrc) else if e.cls = .i then some (true, e.ksrc) else none
  | none => none

/-! ### Page segments -/

/-- Insert into a rising list without repeats. -/
def insertNat (a : Nat) : List Nat → List Nat
  | [] => [a]
  | b :: t => if a < b then a :: b :: t else if a = b then b :: t else b :: insertNat a t

/-- The page numbers at which the winner can change in a table. -/
def cuts (t : Tbl JEntry) (c : List Nat) : List Nat :=
  t.foldl (fun c x => if x.2.valid && x.2.base ≤ x.2.limit then insertNat (x.2.limit + 1) (insertNat x.2.base c) else c) c

/-- The segments [a, b − 1] between neighbouring cuts. -/
def segments : List Nat → List (Nat × Nat)
  | a :: b :: t => (a, b - 1) :: segments (b :: t)
  | _ => []

/-- Join neighbouring reset ranges under one KeyID and class. -/
def joinRanges : List ResetRange → List ResetRange
  | [] => []
  | r :: t =>
    match joinRanges t with
    | [] => [r]
    | x :: u => if r.hi + 1 = x.lo ∧ r.keyId = x.keyId ∧ r.clsI = x.clsI ∧ sameRange r.hi x.lo then ⟨r.lo, x.hi, r.keyId, r.clsI⟩ :: u else r :: x :: u

/-! ### KeyID map (09 R242) -/

/-- The internal KeyIDs that 08 Table 08.3 assigns. -/
def internalAssigned (k : Nat) : Bool := (0xFF00 ≤ k && k ≤ 0xFF03) || (0xFF10 ≤ k && k ≤ 0xFF1F)

/-- Whether a KeyID is a tenant KeyID (02 Table 02.1). -/
def isTenant (k : Nat) : Bool := 0x0001 ≤ k && k ≤ 0xFEFF

/-- A KeyID's map bit; those of the internal KeyIDs read 1 from the drawing of BN (09 R242). -/
def mapBit (s : State) (k : Nat) : Bool := if k < 0xFF00 then tblGet false s.anchor.kmap k else s.kvt.bn.isSome

/-- Set or clear a tenant KeyID's map bit. -/
def setMapBit (s : State) (k : Nat) (b : Bool) : State :=
  { s with anchor := { s.anchor with kmap := tblSet false s.anchor.kmap k b } }

/-! ### Reset list (09 R244, R245) -/

/-- JCT_RLIST reads the number of ranges on the list (09 Table 09.12). -/
def setResets (s : State) (l : List ResetRange) : State :=
  setFld { s with anchor := { s.anchor with resets := l } } (pgJct + 0x068) 11 0 l.length

/-- Whether a page is on the reset list (09 R246). -/
def onResetList (s : State) (pg : Nat) : Bool := s.anchor.resets.any (fun r => r.lo ≤ pg && pg ≤ r.hi)

/-- The ranges that a commit of table `new` over table `old` adds: pages it gives class S or I under a KeyID whose map bit is 1 that were not so
before (09 R245). An old granule of such a page reads as UNWRITTEN, where 02 R59 by itself would give AUTH_FAIL (log entry 117). -/
def mappingRanges (s : State) (old new : Tbl JEntry) : List ResetRange :=
  joinRanges ((segments (cuts new (cuts old []))).filterMap (fun g =>
    match protOf new g.1 with
    | some (i, k) => if mapBit s k && protOf old g.1 != some (i, k) then some ⟨g.1, g.2, k, i⟩ else none
    | none => none))

/-- The ranges that writing `k`'s KTAB entry KEYED adds (09 R245). -/
def newKeyRanges (s : State) (k : Nat) : List ResetRange :=
  joinRanges ((segments (cuts s.jct.active [])).filterMap (fun g =>
    match protOf s.jct.active g.1 with
    | some (i, k') => if k' = k then some ⟨g.1, g.2, k, i⟩ else none
    | none => none))

/-- Whether the reset list has room for a new key's ranges (09 R245). -/
def resetRoom (s : State) (k : Nat) : Bool := s.anchor.resets.length + (newKeyRanges s k).length ≤ 2048

/-- KVT writes a KeyID's entry KEYED: its map bit is set and its pages join the reset list (09 R242, R245). -/
def keyedWritten (s : State) (k : Nat) : State :=
  let s := setMapBit s k true
  setResets s (s.anchor.resets ++ newKeyRanges s k)

/-- KVT writes a KeyID's entry RETIRED: its map bit clears and its ranges leave the list (09 R242, R245). -/
def retiredWritten (s : State) (k : Nat) : State :=
  let s := setMapBit s k false
  setResets s (s.anchor.resets.filter (fun r => r.keyId != k))

/-! ### Reads of the table -/

/-- The island whose read copy an engine uses: 0 to 3 PD_MEA, 4 PD_MEB (09 R251). -/
def islandOfEngine (e : Nat) : Nat := if e < 32 then e / 8 else 4

/-- The read-copy entries of an island that cover a page: the master's, with the entries that differ in this copy. -/
def copyEntry (s : State) (isl i : Nat) : JCopy :=
  (tblFind s.jct.copies (isl * 1024 + i)).getD ⟨jEntry s.jct.active i, true⟩

/-- The island whose read copy a link request uses: that of its span, 5 to 7 (09 R251, log 104). -/
def islandOfSpan (n : Nat) : Nat := 5 + n / 6

/-- The indexes an island's copy could hold as valid: the master's and those that differ. -/
def copyIndexes (s : State) (isl : Nat) : List Nat :=
  (s.jct.copies.filter (fun x => x.1 / 1024 = isl)).foldl (fun l x => insertNat (x.1 % 1024) l) (s.jct.active.map Prod.fst)

/-- An island's copy as a table. -/
def copyTable (s : State) (isl : Nat) : Tbl JEntry :=
  (copyIndexes s isl).map (fun i => (i, (copyEntry s isl i).entry))

/-- The entries of an island's copy that fail parity (09 R251): a lookup that meets one waits for its reload. -/
def copyBad (s : State) (isl : Nat) : List Nat := (copyIndexes s isl).filter (fun i => !(copyEntry s isl i).parityOk)

/-- The covering entries with the highest PRIO, lowest index first (09 R252). -/
def equalWinners (t : Tbl JEntry) (pg : Nat) : List Nat :=
  match winner t pg with
  | some (_, e) => (t.filter (fun x => x.2.covers pg && x.2.prio = e.prio)).map Prod.fst
  | none => []

/-- A reload of a read-copy entry is due; COPY_PARITY is set and the index recorded (09 R251). -/
def copyFault (s : State) (isl i : Nat) : State :=
  if s.jct.reloads.contains (isl, i) then s
  else
    let s := fireAs s pgJct 1 rcJctFault none i (copyEntry s isl i).entry.base 2
    { s with jct := { s.jct with reloads := s.jct.reloads ++ [(isl, i)] } }

/-! ### The JCT stage of the internal units (09 R253, R254) -/

/-- A refusal at the JCT stage is counted (09 R253). -/
def jctDeny (s : State) : State := incSat s (pgJct + 0x024) 15 0 1

/-- The table by which a service access to an engine is judged: the copy of its island, an entry that fails parity reloaded first (09 R251). -/
def serviceTable (s : State) (e : Nat) : Tbl JEntry :=
  let isl := islandOfEngine e
  (copyTable s isl).map (fun x => if (copyEntry s isl x.1).parityOk then x else (x.1, jEntry s.jct.active x.1))

/-- JCT's refusal of an access that KVT, EVR or PMU places in a service register: an internal KeyID, no instance (09 R253, Table 09.9, 18 R468). -/
def serviceRefusal (s : State) (pg keyId : Nat) (wr : Bool) : Option Status :=
  match (engineOfPage pg).bind (fun e => winner (serviceTable s e) pg) with
  | none => some .denied
  | some (_, x) => if wr && x.ro then some .denied else if x.cls = .p then some .classMismatch else if keyId != x.ksrc then some .denied else none

/-- The status code that a service access ends with: JCT's refusal, which is counted, or what the memory path gives. -/
def serviceEnd (s : State) (pg keyId : Nat) (wr : Bool) (st : Nat) : State × Nat :=
  match serviceRefusal s pg keyId wr with
  | some d => (jctDeny s, d.code)
  | none => (s, st)

/-- What a service read gives: JCT's refusal, or the answer of the memory path. -/
def serviceRead (s : State) (pg keyId : Nat) (r : KtabRead) : State × KtabRead :=
  match serviceRefusal s pg keyId false with
  | some d => (jctDeny s, .fail d)
  | none => (s, r)

/-- JCT after a reset of its page: the staged table equals the active table and no commit is judged (09 R255). -/
def flushJct (s : State) : State :=
  { s with jct := { s.jct with staged := s.jct.active, judging := false, reloads := [] } }

/-- JCT after PD_MISC is released: the master and read copies reload from the anchor (09 R242, R255). -/
def jctRelease (s : State) : State :=
  setResets { s with jct := { Jct.reset with active := s.anchor.jct, staged := s.anchor.jct } } s.anchor.resets

end Sys2Proof.Machine
end

