-- ==== Sys2Proof/Machine/Respond.lean ====
section
/-!
DEFINITION. How a memory-engine request is answered (03 R71 to R74, 12 R331, R332): on the FM port, into a span's egress queue, or to the internal unit
that sent it.
-/
namespace Sys2Proof.Machine

/-- The state of a span. -/
def spanAt (s : State) (n : Nat) : Span := (tblFind s.spans n).getD Span.reset

/-- Set the state of a span. -/
def setSpan (s : State) (n : Nat) (x : Span) : State := { s with spans := tblSet Span.reset s.spans n x }

/-- Change the state of a span. -/
def mapSpan (s : State) (n : Nat) (f : Span → Span) : State := setSpan s n (f (spanAt s n))

/-- The current generation of an instance (17 Table 17.13). -/
def instGen (s : State) (i : Nat) : Nat := getFld s (instPage i + 0x040) 7 0

/-- Whether an item's generation is still its instance's (01 R28). -/
def genFresh (s : State) (i : Option Nat) (g : Nat) : Bool :=
  match i with
  | some i => instGen s i = g
  | none => true

/-- A reply for an item that is no more is discarded and counted (18 R476). -/
def staleRsp (s : State) : State := incSat s (pgTtb + 0x0D0) 31 0 1

/-- Items completed with UNIT_GONE because their target's reset began (18 Table 18.5). -/
def countGone (s : State) (n : Nat) : State := incSat s (pgTtb + 0x0D4) 31 0 n

/-- A completion discarded under R28 is counted (17 R451). -/
def genDiscard (s : State) (i : Option Nat) : State :=
  match i with
  | some i => incSat (incSat s (instPage i + 0x044) 31 0 1) (pgImu + 0x044) 31 0 1
  | none => s

/-- Add to a per-instance counter pair (21 R544). -/
def instCount (s : State) (i : Option Nat) (o n : Nat) : State :=
  match i with
  | some i =>
    let a := instPage i + o
    let v := (rawReg s a).toNat + (rawReg s (a + 4)).toNat * 0x100000000 + n
    setReg (setReg s a (BitVec.ofNat 32 v)) (a + 4) (BitVec.ofNat 32 (v / 0x100000000))
  | none => s

/-- The earliest-sampled failed predecessor (12 R332). -/
def earlier (a : Option (Nat × Nat)) (order st : Nat) : Option (Nat × Nat) :=
  match a with
  | some x => if x.1 < order then some x else some (order, st)
  | none => some (order, st)

/-- A store of an FM port completed: it is no open predecessor any more (12 R331, R332). -/
def storeDone (s : State) (e tag st : Nat) : State :=
  match s.ttb.stores.find? (fun x => x.engine = e && x.tag = tag) with
  | some x =>
    { s with ttb := { s.ttb with
      stores := s.ttb.stores.filter (· != x)
      flags := s.ttb.flags.map (fun f =>
        if f.preds.contains x.order then
          { f with preds := f.preds.filter (· != x.order), failed := if st = 0 then f.failed else earlier f.failed x.order st }
        else f) } }
  | none => s

/-- Whether a request is a store: write, atomic, ordering flag (12 R324). -/
def Req.isStore (q : Req) : Bool := q.op = 1 || q.op = 3 || q.op = 4

/-- The bytes [a, a + n) of what a list of pairs holds. -/
def gather (t : Tbl Bytes) (a n : Nat) : Bytes :=
  let p := a / 256
  (((List.range ((a + n + 255) / 256 - p)).flatMap (fun i => (tblFind t (p + i)).getD (zeros 256))).drop (a % 256)).take n

/-- The accesses of a byte range, one per 256 B pair it meets: pair address, granules, data placed in the pair, enables. -/
def rangePairs (a n : Nat) (data : Bytes) : List (Nat × Nat × Bytes × List Bool) :=
  (List.range ((a + n + 255) / 256 - a / 256)).map (fun i =>
    let p := a / 256 + i
    let lo := max a (256 * p) - 256 * p
    let hi := min (a + n) (256 * p + 256) - 256 * p
    let piece := (data.drop (256 * p + lo - a)).take (hi - lo)
    let mask := b2n (lo < 128) + 2 * b2n (128 < hi)
    (256 * p, mask, zeros lo ++ piece ++ zeros (256 - hi), List.replicate lo false ++ List.replicate (hi - lo) true ++ List.replicate (256 - hi) false))

/-- A host-initiated access whose accesses have all been answered completes on HT; a denied one is recorded (01 R35, 03 R85, R87). -/
def hostEnd (s : State) (h : HostAcc) : State :=
  if h.todo != [] || h.waits != [] then s
  else
    let s := { s with hgt := { s.hgt with hosts := s.hgt.hosts.filter (fun x => x.id != h.id) } }
    let s := if h.st = Status.denied.code then recordInst s pgHgt rcAccessDenied h.inst (h.inst.getD 0) 0 0 else s
    let data := if h.wr then [] else if h.st = 0 then gather h.got h.addr h.len else zeros h.len
    emit s ⟨.ht, 0, h.id, h.st, h.addr, data⟩

/-- An answer to a host-initiated access (01 R35). -/
def hostReply (s : State) (id addr st : Nat) (data : Bytes) : State :=
  match s.hgt.hosts.find? (fun h => h.id = id) with
  | none => staleRsp s
  | some h =>
    let h := { h with waits := h.waits.erase (addr / 256), st := if h.st = 0 then st else h.st, got := if data = [] then h.got else tblPut h.got (addr / 256) data }
    hostEnd { s with hgt := { s.hgt with hosts := s.hgt.hosts.map (fun x => if x.id = id then h else x) } } h

/-- The response to a request of engine `e`, with what a home's span needs for it: class, BALLAST of the entry, descriptors. Every status but OK comes
with zero data (03 R66). -/
def respondAs (s : State) (e : Nat) (q : Req) (st cls ballast : Nat) (desc : List (Nat × Nat × Bytes)) (data : Bytes) : State :=
  let s := if st = Status.authFail.code then incSat s (engPage e + 0x048) 31 0 1 else s
  let data := if st = 0 then data else []
  match q.src with
  | .fm =>
    let s := if q.isStore then storeDone s e q.tag st else s
    emit s ⟨.fm, e, q.tag, st, q.addr, if data = [] then zeros 256 else data⟩
  | .remote n _ _ _ _ _ g =>
    let rsv := match g with
      | some _ => 578
      | none => 450
    if q.link = tblGet 0 s.incarn (pgVdt n) then mapSpan s n (fun x => { x with outQ := x.outQ ++ [.rsp q st cls ballast rsv desc data] })
    else staleRsp s
  | .host id => hostReply s id q.addr st data
  | src => { s with ttb := { s.ttb with replies := s.ttb.replies ++ [⟨src, q.addr, st, data⟩] } }

/-- The response to a request that no entry won. -/
def respond (s : State) (e : Nat) (q : Req) (st : Nat) (data : Bytes) : State := respondAs s e q st 0 0 [] data

end Sys2Proof.Machine
end

