-- ==== Sys2Proof/Machine/HgtEnds.lean ====
section
/-!
DEFINITION. How HGT's pairs, records and IDE key sets end (15 R407, R409), and the HI port (03 R85).
-/
namespace Sys2Proof.Machine

/-- Set the state of HGT. -/
def setHgt (s : State) (x : Hgt) : State := { s with hgt := x }

/-- Drive an HI command (03 Table 03.5). -/
def hiDrive (s : State) (c : HiCmd) : State := emit s ⟨.hi, 0, c.cmd, c.stream, c.sub + 4 * c.dir + 8 * c.kset, c.key ++ c.iv⟩

/-- An HI command joins the queue; it is driven at once where nothing else is. -/
def hiPush (s : State) (c : HiCmd) : State :=
  let t := setHgt s { s.hgt with hi := s.hgt.hi ++ [c] }
  if s.hgt.hi = [] then hiDrive t c else t

/-- The driven command is over; the next is driven. -/
def hiPop (s : State) : State :=
  let rest := s.hgt.hi.drop 1
  let t := setHgt s { s.hgt with hi := rest }
  match rest with
  | c :: _ => hiDrive t c
  | [] => t

/-- IDE_SETS (15 Table 15.12). -/
def ideRefresh (s : State) : State := setFld s (pgHgt + 0x0DC) 3 0 s.hgt.ide.length

/-- HGT erases every loaded IDE key set through HI (15 R409). -/
def ideErase (s : State) : State := s.hgt.ide.foldl (fun t k => hiPush t ⟨2, k.1, k.2.1, k.2.2.1, k.2.2.2, [], [], false⟩) s

/-- A pair closes: both keys are erased, its record in flight ends without a D2H record (15 R407). -/
def pairClose (s : State) (p : Nat) : State :=
  let n := (s.hgt.recs.filter (fun r => r.pair = p)).length
  incSat (setHgt s { s.hgt with pairs := tblDel s.hgt.pairs p, recs := s.hgt.recs.filter (fun r => r.pair != p) }) (pgHgt + 0x0D4) 31 0 n

/-- Every pair that meets a condition closes. -/
def pairCloseWhere (s : State) (f : Pair → Bool) : State := (s.hgt.pairs.filter (fun x => f x.2)).foldl (fun t x => pairClose t x.1) s

/-- A reset of HGT (15 R407, R409, R416): every pair closes, replies still to come are discarded; from L2 on the IDE key sets are erased. -/
def hgtReset (s : State) (level : Nat) : State :=
  let s := pairCloseWhere s (fun _ => true)
  let s := if 2 ≤ level then ideErase s else s
  setHgt s { s.hgt with cfg := [], recs := [], hosts := [], eq := [], eqSeq := 0, gap := false, gapMore := false }

/-- The zeroise line at HGT (15 R407, R409, 01 R27). -/
def hgtZeroise (s : State) : State := ideErase (pairCloseWhere s (fun _ => true))

end Sys2Proof.Machine
end

