-- ==== Sys2Proof/Machine/AttEnds.lean ====
section
/-!
DEFINITION. How SPDM sessions end (15 R395), and what SBX puts into the DOE read mailbox.
-/
namespace Sys2Proof.Machine

/-- A response object: session (0 outside one), code, status or error, bytes. -/
def doeSay (s : State) (sid code st : Nat) (b : Bytes) : State := emit s ⟨.doe, sid, code, st, 0, b⟩

/-- Set the DOE service's state. -/
def setAtt (s : State) (x : Att) : State := { s with att := x }

/-- A session ends (15 R395): its secrets are erased, its bounce pairs close, its instance is unbound. The IDE role ends with it (R408). -/
def sessionEnd (s : State) (sid : Nat) : State :=
  match tblFind s.att.sessions sid with
  | none => s
  | some x =>
    let s := pairCloseWhere s (fun p => p.session = some sid)
    let s := match x.inst with
      | some i => setRegBit s (instPage i + 0x040) 8 false
      | none => s
    setAtt s { s.att with sessions := tblDel s.att.sessions sid, ide := if s.att.ide = some sid then none else s.att.ide }

/-- Every session ends, and every join with it; a running DOMAIN_GO is answered with ABORTED. -/
def sessionsEnd (s : State) : State :=
  let s := s.att.sessions.foldl (fun t x => sessionEnd t x.1) s
  let go := s.att.going
  let s := setAtt s { s.att with joiners := [], outbox := [], going := false }
  if go then doeSay s 0 0xB2 Status.aborted.code [] else s

/-- An SBX reset ends every session and loses what SRAM held (15 R395, R396). -/
def attReset (s : State) : State :=
  let s := setAtt s { s.att with going := false }
  setAtt (sessionsEnd s) Att.reset

end Sys2Proof.Machine
end

