-- ==== Sys2Proof/Machine/CceEnds.lean ====
section
/-!
DEFINITION. How CCE's descriptors and queues end early (16 R433, Table 16.4, R435) and its status registers.
-/
namespace Sys2Proof.Machine

/-- A queue of CCE. -/
def cceQ (s : State) (q : Nat) : CceQ := (tblFind s.cce.queues q).getD CceQ.zero

/-- Set a queue of CCE. -/
def setCceQ (s : State) (q : Nat) (x : CceQ) : State := { s with cce := { s.cce with queues := tblSet CceQ.zero s.cce.queues q x } }

/-- Set the descriptor in work of a queue. -/
def setJob (s : State) (q : Nat) (j : CceJob) : State := setCceQ s q { cceQ s q with job := some j }

/-- Little-endian field of a descriptor (16 Table 16.1). -/
def CceJob.fld (j : CceJob) (i n : Nat) : Nat := leNat ((j.desc.drop i).take n)

/-- Bit `n` of the descriptor's FLAGS. -/
def CceJob.flag (j : CceJob) (n : Nat) : Bool := (j.fld 1 1).testBit n

/-- Whether a descriptor holds a pair (16 R417). -/
def CceJob.onPair (j : CceJob) : Bool := [.key, .restore, .first, .src, .aad, .drain, .zero, .save].contains j.stage

/-- Whether a descriptor has been started and has not ended. -/
def CceJob.running (j : CceJob) : Bool := j.onPair || j.stage = .pair

/-- The queues with the descriptors they have in work. -/
def cceJobs (s : State) : List (Nat × CceJob) := s.cce.queues.filterMap (fun x => x.2.job.map (fun j => (x.1, j)))

/-- PAIRS_BUSY (16 Table 16.7). -/
def cceRefresh (s : State) : State :=
  setFld s (pgCce + 0x068) 3 0 ((List.range 4).foldl (fun a p => if (cceJobs s).any (fun j => j.2.onPair && j.2.pair = p) then a + 2 ^ p else a) 0)

/-- A descriptor ends: its key material, chaining values and unreleased blocks are erased (16 R418); what it has outstanding is waited for. -/
def CceJob.ended (j : CceJob) (st : Nat) : CceJob :=
  { j with stage := .ending, key := [], st := st, todo := [], got := [], add := [], out := [], ct := [], chain := [], acc := [], tag1 := none,
           tagOut := if st = 0 then j.tagOut else [] }

/-- The descriptor of a queue ends with a status. -/
def cceEnd (s : State) (q : Nat) (j : CceJob) (st : Nat) : State := cceRefresh (setJob s q (j.ended st))

/-- Every running descriptor that meets a condition ends with a status. -/
def cceEndWhere (s : State) (st : Nat) (p : CceQ → CceJob → Bool) : State :=
  ((cceJobs s).filter (fun x => x.2.running && p (cceQ s x.1) x.2)).foldl (fun t x => cceEnd t x.1 x.2 st) s

/-- A key load failed: the descriptor that waits for it ends with its status (16 R418, 08 R217). -/
def cceKeyFail (s : State) (k st : Nat) : State := cceEndWhere s st (fun _ j => j.stage = .key && j.fld 2 2 = k)

/-- The retirement of a KeyID starts (16 Table 16.4). -/
def cceRetired (s : State) (k : Nat) : State :=
  cceEndWhere s Status.keyRetired.code (fun _ j => j.fld 2 2 = k || j.fld 22 2 = k || j.fld 30 2 = k)

/-- IMU marks a context of an instance lost (16 Table 16.4). -/
def cceCtxLost (s : State) (i c : Nat) : State :=
  cceEndWhere s Status.contextLost.code (fun x j => !x.fw && x.inst = i && j.fld 80 3 = c)

/-- The generation of an instance changed: its descriptors are discarded and counted, its queues closed (16 Table 16.4, 01 R28). -/
def cceGone (s : State) (i : Nat) : State :=
  cceRefresh ((s.cce.queues.filter (fun x => x.2.opened && !x.2.fw && x.2.inst = i)).foldl (fun t x =>
    let t := if x.2.job.isSome then genDiscard t (some i) else t
    setCceQ t x.1 { x.2 with opened := false, closing := false, stopped := false, job := none, gone := [] }) s)

/-- The OPEN_HANDLE records of running descriptors: queue and SEQ (16 Table 16.4, 19 Table 19.7). -/
def cceHandles (s : State) : List Rec :=
  ((cceJobs s).filter (fun x => x.2.running)).map (fun x =>
    let o := if (cceQ s x.1).fw then none else some (cceQ s x.1).inst
    mkRec s rcOpenHandle uCce 0 o (o.getD 0) (x.2.n % 2 ^ 32) (x.1 * 0x10000))

/-- A reset of CCE begins (16 Table 16.4, R435): every queue is closed; at L1 the completion records of running descriptors are still to be written. -/
def cceReset (s : State) (level : Nat) : State :=
  let keep (x : CceQ) : CceQ :=
    match x.job with
    | some j =>
      let kept (j : CceJob) : CceQ :=
        { CceQ.zero with fw := x.fw, inst := x.inst, gen := x.gen, log2 := x.log2, sq := x.sq, cq := x.cq, ringKey := x.ringKey,
                         job := some { j with stage := .held, waits := [] } }
      if level != 1 then CceQ.zero
      else if j.onPair then kept (j.ended Status.unitGone.code)
      else if [CceStage.ending, .record, .done, .held].contains j.stage then kept j
      else CceQ.zero
    | none => CceQ.zero
  let s := if level = 2 then (cceHandles s).foldl (fun t r => pushRec t pgCce r) s else s
  cceRefresh (s.cce.queues.foldl (fun t x => setCceQ t x.1 (keep x.2)) { s with cce := { s.cce with cfg := [] } })

/-- The zeroise line (01 R27, 16 Table 16.4): every running descriptor ends without a record of its own, every queue is closed. -/
def cceZeroise (s : State) : State :=
  let s := (cceHandles s).foldl (fun t r => pushRec t pgCce r) s
  cceRefresh (s.cce.queues.foldl (fun t x => setCceQ t x.1 { x.2 with opened := false, closing := false, stopped := false, job := none, gone := [] }) s)

/-- The reset of CCE is over: the records that were kept are due (16 Table 16.4). -/
def cceResume (s : State) : State :=
  (cceJobs s).foldl (fun t x => if x.2.stage = .held then setJob t x.1 { x.2 with stage := .ending } else t) s

end Sys2Proof.Machine
end

