-- ==== Sys2Proof/Machine/Crypto.lean ====
section
/-!
DEFINITION. The key ladder (08 Table 08.2): which key is derived from which, over the opaque functions of the standards. Integers in X are
big-endian with the width the table gives (08 R204).
-/
namespace Sys2Proof.Machine

/-- A customisation string in ASCII without a terminator (08 R204). -/
def ascii (s : String) : Bytes := s.toList.map (fun c => BitVec.ofNat 8 c.toNat)

/-- KMAC256 with the customisation string of Table 08.2 and `n` bytes of output. -/
def kdf (k x : Bytes) (name : String) (n : Nat) : Bytes := Config.kmac256 k x (ascii name) n

/-- The root of message M (08 R200). -/
def kRoot (m : Bytes) : Bytes := kdf m [0] "SRB-ROOT" 32

/-- The PUF check value (08 R200). -/
def kPufCheck (m : Bytes) : Bytes := kdf m [1] "SRB-PUFCHK" 48

/-- The device DICE secret. -/
def kDice (root : Bytes) : Bytes := kdf root [0] "SRB-DICE" 32

/-- The device wrapping key DKEK. -/
def kDkek (root bn : Bytes) : Bytes := kdf root bn "SRB-DKEK" 32

/-- The internal key of internal KeyID `k`. -/
def kInternal (root bn : Bytes) (k : Nat) : Bytes := kdf root (bn ++ beBytes 2 k) "SRB-INTKEY" 32

/-- The domain wrapping key of epoch `e`. -/
def kDomkek (epochKey : Bytes) (e : Nat) : Bytes := kdf epochKey (beBytes 4 e) "SRB-DOMKEK" 32

/-- The join transport key. -/
def kJtk (ssKem ssEcdh th : Bytes) : Bytes := kdf (ssKem ++ ssEcdh) th "SRB-JOIN" 32

/-- The pair key of two accelerator IDs under epoch `e`. -/
def kPair (epochKey : Bytes) (a b e : Nat) : Bytes :=
  kdf epochKey (beBytes 2 (min a b) ++ beBytes 2 (max a b) ++ beBytes 4 e) "SRB-PAIR" 32

/-- The encryption key of a KeyID at a KeyID epoch. -/
def kEnc (dk : Bytes) (keyId kidEpoch : Nat) : Bytes := kdf dk (beBytes 2 keyId ++ beBytes 4 kidEpoch) "SRB-ENCKEY" 32

/-- The tag key of a KeyID at a KeyID epoch. -/
def kTag (dk : Bytes) (keyId kidEpoch : Nat) : Bytes := kdf dk (beBytes 2 keyId ++ beBytes 4 kidEpoch) "SRB-TAGKEY" 32

/-- The step key of a KeyID at a KeyID epoch and step epoch. -/
def kStep (dk : Bytes) (keyId kidEpoch step : Nat) : Bytes :=
  kdf dk (beBytes 2 keyId ++ beBytes 4 kidEpoch ++ beBytes 4 step) "SRB-STEPKEY" 32

/-- The group key of a KeyID at a KeyID epoch. -/
def kGroup (dk : Bytes) (keyId kidEpoch : Nat) : Bytes := kdf dk (beBytes 2 keyId ++ beBytes 4 kidEpoch) "SRB-GROUPKEY" 32

/-- The key commitment of an origin record. -/
def kCommit (dk : Bytes) : Bytes := kdf dk [] "SRB-KCOMMIT" 32

/-- CDI_1 (06 R171). -/
def kCdi1 (dice meas0 meas1 : Bytes) : Bytes := kdf dice (meas0 ++ meas1) "SRB-CDI1" 32

/-- The device identity seed (06 R171). -/
def kIdSeed (dice : Bytes) : Bytes := kdf dice [0] "SRB-IDK" 96

/-- The alias seed (06 R171). -/
def kAliasSeed (cdi1 : Bytes) : Bytes := kdf cdi1 [0] "SRB-ALIAS" 96

/-- The ECDSA private scalar of a 96 B seed (06 R171). -/
def seedEcdsa (seed : Bytes) : Bytes := Config.ecdsaScalar (seed.drop 32)

/-- The ML-DSA key-generation seed of a 96 B seed (06 R171). -/
def seedMldsa (seed : Bytes) : Bytes := seed.take 32

end Sys2Proof.Machine
end

