-- ==== Sys2Proof/Machine/MetaLayout.lean ====
section
/-!
DEFINITION. Memory protection layout (09): where a granule's metadata lies, the inputs of keystream, tags and MACs, the byte layout of counter
lines, tag lines and tree nodes, and the keys a KeyID has on die (08 R205, R212).
-/
namespace Sys2Proof.Machine

/-! ### Channel layout (09 R228, R229) -/

/-- Whether an engine is a tier-A engine. -/
def isTierA (e : Nat) : Bool := e < 32

/-- Start of TAG (09 Table 09.2). -/
def tagBase (e : Nat) : Nat := if e < 32 then 0x211800000 else 0x3ADB000000
/-- Start of CTR (09 Table 09.2). -/
def ctrBase (e : Nat) : Nat := if e < 32 then 0x235800000 else 0x3EDB000000
/-- Start of TREE (09 Table 09.2). -/
def treeBase (e : Nat) : Nat := if e < 32 then 0x23E800000 else 0x3FDB000000

/-- LEVk (09 Table 09.3). -/
def levOff (e k : Nat) : Nat :=
  if e < 32 then
    (if k = 1 then 0 else if k = 2 then 0x1200000 else if k = 3 then 0x1440000 else if k = 4 then 0x1488000 else if k = 5 then 0x1491000 else 0x1492200)
  else
    (if k = 1 then 0 else if k = 2 then 0x20000000 else if k = 3 then 0x24000000 else if k = 4 then 0x24800000 else if k = 5 then 0x24900000 else 0x24920000)

/-- Channel byte offset of a metadata unit (09 R229): tag line `g >> 3`, counter line `l`, node of a level. -/
def metaOff (e : Nat) (k : LineKind) (idx : Nat) : Nat :=
  match k with
  | .tag => tagBase e + 64 * idx
  | .ctr => ctrBase e + 64 * idx
  | .node v => treeBase e + levOff e v + 64 * idx

/-- Channel byte offset of granule `i` of channel page `l` (09 R227). -/
def granuleOff (l i : Nat) : Nat := l * 4096 + i * 128

/-! ### Domain addresses and cipher inputs (09 R230 to R233, R236, R239) -/

/-- Accelerator-ID part of the domain address for a KeyID (09 R230, 01 R31). -/
def daId (home keyId : Nat) : Nat := if keyId < 0xFF00 then home else 0

/-- DA[55:7] of granule `i` of a data page. -/
def da7 (home keyId pg i : Nat) : Nat := daId home keyId * 2 ^ 35 + pg * 32 + i

/-- DA[55:12] of a data page. -/
def da12 (home keyId pg : Nat) : Nat := daId home keyId * 2 ^ 30 + pg

/-- The cipher input X_i of classes S and I, and the tag's IV with i = 0 (09 R232, R233). -/
def xBlock (d i major minor : Nat) : Bytes := beBytes 16 ((d * 8 + i) * 2 ^ 76 + major * 4096 + minor)

/-- The keystream of a granule under a key; class E has major and minor zero (09 R232). -/
def keystream (key : Bytes) (d major minor : Nat) : Bytes :=
  (List.range 8).flatMap (fun i => Config.aes256 key (xBlock d i major minor))

/-- The 64-bit tag of a class S or I granule (09 R233). -/
def granuleTag (tk ct : Bytes) (d keyId : Nat) (clsI : Bool) (major minor : Nat) : Bytes :=
  (Config.gcmTag tk (xBlock d 0 major minor) (ct ++ beBytes 2 keyId ++ [if clsI then 1 else 0] ++ zeros 5) []).take 8

/-- The 12-bit minors as 48 bytes, in the bit order of R234. -/
def minorsBytes (m : List Nat) : Bytes := leBytes 48 (m.foldr (fun x a => a * 4096 + x % 4096) 0)

/-- Minor `i` of 48 bytes. -/
def minorOf (b : Bytes) (i : Nat) : Nat := leNat b / 2 ^ (12 * i) % 4096

/-- Bytes 0 to 55 of a counter line and its byte 63 (09 Table 09.5). -/
def ctrAad (major : Nat) (minors : List Nat) (clsI reseal : Bool) : Bytes :=
  leBytes 8 major ++ minorsBytes minors ++ [BitVec.ofNat 8 (b2n clsI + 2 * b2n reseal)]

/-- The 56-bit MAC of a counter line (09 R236). -/
def ctrMac (tk : Bytes) (d version : Nat) (aad : Bytes) : Bytes :=
  (Config.gcmTag tk ([0x4C, 0] ++ beBytes 6 d ++ beBytes 7 version ++ [0]) aad []).take 7

/-- A counter line as it stands in memory (09 Table 09.5). -/
def ctrBytes (major : Nat) (minors : List Nat) (clsI reseal : Bool) (mac : Bytes) : Bytes :=
  leBytes 8 major ++ minorsBytes minors ++ mac ++ [BitVec.ofNat 8 (b2n clsI + 2 * b2n reseal)]

/-- Bytes 0 to 55 of a node and its byte 63 (09 Table 09.6). -/
def nodeAad (n : Node) : Bytes :=
  n.cnt.flatMap (leBytes 7) ++ [BitVec.ofNat 8 (n.init.foldr (fun b a => a * 2 + b2n b) 0)]

/-- The 56-bit MAC of an in-memory node (09 R239). -/
def nodeMac (tk : Bytes) (e level idx version : Nat) (n : Node) : Bytes :=
  (Config.gcmTag tk ([0x4E, BitVec.ofNat 8 e, BitVec.ofNat 8 level, 0] ++ beBytes 4 idx ++ beBytes 7 version ++ [0]) (nodeAad n) []).take 7

/-- A node as it stands in memory (09 Table 09.6). -/
def nodeBytes (n : Node) (mac : Bytes) : Bytes := (nodeAad n).take 56 ++ mac ++ (nodeAad n).drop 56

/-- The node that 64 bytes spell. -/
def nodeOfBytes (b : Bytes) : Node :=
  ⟨(List.range 8).map (fun j => leNat ((b.drop (7 * j)).take 7)), (List.range 8).map (fun j => ((b.getD 63 0).toNat).testBit j)⟩

/-- The MAC bytes of a stored line or node. -/
def macOf (b : Bytes) : Bytes := (b.drop 56).take 7

/-! ### Keys on die (08 R205, R212, R213) -/

/-- The parity bits of a share, one for each 32-bit word (08 R212). -/
def shareParity (b : Bytes) : List Bool := (List.range ((b.length + 3) / 4)).map (fun i => popCount 32 (wordAt b i).toNat % 2 = 1)

/-- A key under a mask, with the parity of its share words (08 R212). -/
def Masked.make (mask key : Bytes) : Masked := ⟨mask, xorBytes mask key, shareParity mask ++ shareParity (xorBytes mask key)⟩

/-- The key of a masked pair. -/
def Masked.val (k : Masked) : Bytes := xorBytes k.m k.x

/-- Whether every share word of a masked key holds its parity (08 R214). -/
def Masked.ok (k : Masked) : Bool := k.par == shareParity k.m ++ shareParity k.x

/-- Whether every share word of a bank holds its parity. -/
def Bank.ok (b : Bank) : Bool := b.ek.ok && b.tk.ok && b.sk.ok && b.gk.ok

/-- The keys of a KeyID as an engine takes them at admission. -/
structure KeySet where
  ek : Bytes
  tk : Bytes
  sk : Bytes
  gk : Bytes
deriving DecidableEq, Repr

/-- The slot of a KeyID: a KeyID occupies at most one (08 R215). -/
def slotOf (s : State) (k : Nat) : Option (Nat × Slot) := s.kvt.slots.find? (fun x => x.2.keyId = k)

/-- The LIVE slot of a KeyID, or the one whose retirement still lets admitted work and write-backs use it (08 R215, R219). -/
def keyedSlot (s : State) (k : Nat) : Option (Nat × Slot) :=
  match slotOf s k with
  | some (n, x) => if x.st = .live ∨ x.st = .retiring then some (n, x) else none
  | none => none

/-- The keys of a bank. -/
def Bank.keys (b : Bank) : KeySet := ⟨b.ek.val, b.tk.val, b.sk.val, b.gk.val⟩

/-- The active bank of a slot. -/
def Slot.bank (x : Slot) : Option Bank := x.banks.map (fun b => if x.active then b.2 else b.1)

/-- The active bank's keys of a slot. -/
def Slot.keys (x : Slot) : Option KeySet := x.bank.map Bank.keys

/-- The keys of an internal KeyID: of its slot, or derived from root and BN with KeyID epoch 0 on its next use (08 R205, R559). -/
def internalKeys (s : State) (k : Nat) : Option KeySet :=
  match s.kvt.root, s.kvt.bn with
  | some r, some bn =>
    if internalAssigned k && s.kvt.scramble.isSome then
      (match tblFind s.kvt.internal (k - 0xFF00) with
       | some b => some b.1.keys
       | none =>
         let dk := kInternal r.val bn k
         some ⟨kEnc dk k 0, kTag dk k 0, [], kGroup dk k 0⟩)
    else none
  | _, _ => none

/-- The keys of a KeyID, where its slot holds them. -/
def keysOf (s : State) (k : Nat) : Option KeySet :=
  if 0xFF00 ≤ k then internalKeys s k
  else match keyedSlot s k with
    | some (_, x) => x.keys
    | none => none

/-- The KeyID epoch under which a KeyID is in force: that of its slot, or without one the epoch of its binding (02 R49); 0 for internal KeyIDs (08 R205). -/
def kidEpochOf (s : State) (k : Nat) : Nat :=
  if 0xFF00 ≤ k then 0
  else match keyedSlot s k with
    | some (_, x) => x.kidEpoch
    | none => tblGet 0 s.imu.lastEpoch k

/-- The TK that seals lines under a KeyID and KeyID epoch. -/
def lineKey (s : State) (k ep : Nat) : Option Bytes :=
  if 0xFF00 ≤ k then (keysOf s k).map KeySet.tk
  else match keyedSlot s k with
    | some (_, x) => if x.kidEpoch = ep then x.keys.map KeySet.tk else none
    | none => none

end Sys2Proof.Machine
end

