-- ==== Sys2Proof/Machine/CtcOps.lean ====
section
/-!
DEFINITION. CTC as shared operations (09 R237 to R241, 10 R262 to R267): the tree and its on-die nodes, resident lines, ways and eviction,
write-back, fills and their verification.
-/
namespace Sys2Proof.Machine

/-! ### The tree (09 R238, R240) -/

/-- The on-die node of a level and index in the anchor: 42 nodes of tier A, then 37 per tier-B port (09 R242). -/
def anchorKey (e level idx : Nat) : Nat :=
  if e < 32 then (if level = 7 then idx else if level = 8 then 36 + idx else 41)
  else 42 + 37 * (e - 32) + (if level = 7 then idx else if level = 8 then 32 + idx else 36)

/-- The path from the root to line `l` of engine `e`: level, index and child position (09 R229, R238). -/
def pathOf (e l : Nat) : List (Nat × Nat × Nat) :=
  let n6 := l / 2 ^ 18
  let g := if e < 32 then 9 * e + n6 else n6
  [(9, 0, g / 64 % 8), (8, g / 64, g / 8 % 8), (7, g / 8, g % 8), (6, n6, l / 2 ^ 15 % 8), (5, l / 2 ^ 15, l / 2 ^ 12 % 8),
   (4, l / 2 ^ 12, l / 2 ^ 9 % 8), (3, l / 2 ^ 9, l / 64 % 8), (2, l / 64, l / 8 % 8), (1, l / 8, l % 8)]

/-- The parent of a tree node: level, index, child position (09 R238). -/
def nodeParent (e level idx : Nat) : Nat × Nat × Nat :=
  if level = 6 then (let g := if e < 32 then 9 * e + idx else idx; (7, g / 8, g % 8))
  else (level + 1, idx / 8, idx % 8)

/-- A resident line of CTC. -/
def findLine (s : State) (e : Nat) (k : LineKind) (idx : Nat) : Option Line :=
  s.ctc.lines.find? (fun x => x.tree = e && x.kind = k && x.idx = idx)

/-- Whether a line is the one named. -/
def isLine (e : Nat) (k : LineKind) (idx : Nat) (x : Line) : Bool := x.tree = e && x.kind = k && x.idx = idx

/-- Change a resident line. -/
def mapLine (s : State) (e : Nat) (k : LineKind) (idx : Nat) (f : Line → Line) : State :=
  { s with ctc := { s.ctc with lines := s.ctc.lines.map (fun x => if isLine e k idx x then f x else x) } }

/-- Drop a resident line. A prefetched line that goes without a hit counts toward the next DEPTH adjustment (10 R279). -/
def dropLine (s : State) (x : Line) : State :=
  { s with ctc := { s.ctc with
    lines := s.ctc.lines.filter (fun y => !isLine x.tree x.kind x.idx y)
    counted := s.ctc.counted + b2n x.prefetched } }

/-- A tree node that is on die or resident (09 R238). -/
def nodeAt (s : State) (e level idx : Nat) : Option Node :=
  if 7 ≤ level then some (tblGet Node.zero s.anchor.nodes (anchorKey e level idx))
  else match findLine s e (.node level) idx with
    | some x => (match x.data with | .node n => some n | _ => none)
    | none => none

/-- Change a tree node that is on die or resident; a resident one becomes dirty. -/
def mapNode (s : State) (e level idx : Nat) (f : Node → Node) : State :=
  if 7 ≤ level then
    (let k := anchorKey e level idx
     { s with anchor := { s.anchor with nodes := tblSet Node.zero s.anchor.nodes k (f (tblGet Node.zero s.anchor.nodes k)) } })
  else mapLine s e (.node level) idx (fun x => { x with dirty := true, data := match x.data with | .node n => .node (f n) | d => d })

/-- Child entry `j` of a node: counter and INIT flag (09 R237). -/
def Node.entry (n : Node) (j : Nat) : Nat × Bool := (n.cnt.getD j 0, n.init.getD j false)

/-- A node with the INIT flag of child `j` set or cleared. -/
def Node.setInit (n : Node) (j : Nat) (b : Bool) : Node := { n with init := n.init.set j b }

/-- A node with every INIT flag set. -/
def Node.allInit (n : Node) : Node := { n with init := List.replicate 8 true }

/-- The child entry of the parent of a unit: of a counter line, or of a tree node; none while the parent is not on die. -/
def parentEntry (s : State) (e : Nat) (k : LineKind) (idx : Nat) : Option (Nat × Bool) :=
  match k with
  | .ctr => (nodeAt s e 1 (idx / 8)).map (fun n => n.entry (idx % 8))
  | .node v =>
    let (pl, pi, j) := nodeParent e v idx
    (nodeAt s e pl pi).map (fun n => n.entry j)
  | .tag => none

/-- Whether every in-memory node of a line's path is resident. -/
def pathComplete (s : State) (e l : Nat) : Bool := (pathOf e l).all (fun p => (nodeAt s e p.1 p.2.1).isSome)

/-- The largest child counter (09 R241). -/
def cntMax : Nat := 0xFFFFFFFFFFFFFF

/-- Whether an entry on a line's path has INIT set, as far as the path is on die: a read then takes the line as reset (09 R240). A resident node holds
the flags that its ancestors give it, so the nearest node of the path that is on die decides for those below it. -/
def pathInit (s : State) (e l : Nat) : Bool :=
  (pathOf e l).any (fun p => match nodeAt s e p.1 p.2.1 with
    | some n => (n.entry p.2.2).2
    | none => false)

/-- Whether the on-die entries of levels 9 and 8 above a level-7 node are reset (09 R238): only their INIT flags act. -/
def topInit (s : State) (e idx7 : Nat) : Bool :=
  (((nodeAt s e 9 0).getD Node.zero).entry (idx7 / 8)).2 || (((nodeAt s e 8 (idx7 / 8)).getD Node.zero).entry (idx7 % 8)).2

/-- Whether the entry of a tree node in its parent, or one on die above it, is reset (09 R240). -/
def nodeReset (s : State) (e level idx : Nat) : Bool :=
  let p := nodeParent e level idx
  ((nodeAt s e p.1 p.2.1).any (fun n => (n.entry p.2.2).2)) || (level = 6 && topInit s e p.2.1)

/-- A write below set flags pushes them down to its line (09 R240): each set flag of the path moves into the node child below it. It is carried out when the
line is written to memory, which needs the path on die (log 106). -/
def pushDown (s : State) (e l : Nat) : State :=
  (pathOf e l).foldl (fun t p =>
    match nodeAt t e p.1 p.2.1 with
    | some n =>
      if (n.entry p.2.2).2 then
        (let t := mapNode t e p.1 p.2.1 (fun n => n.setInit p.2.2 false)
         if p.1 = 1 then t
         else match (pathOf e l).find? (fun q => q.1 + 1 = p.1) with
           | some q => mapNode t e q.1 q.2.1 Node.allInit
           | none => t)
      else t
    | none => t) s

/-! ### Sets and ways (10 R263, R264) -/

/-- The bank group of an engine's metadata (10 R263). -/
def bankGroup (e : Nat) : Nat := if e < 32 then e / 8 else (e - 32) % 4

/-- The set of a metadata unit (10 R263). -/
def setOf (e : Nat) (k : LineKind) (idx : Nat) : Nat :=
  let m := metaOff e k idx / 64
  let t := if e < 32 then e % 8 else (e - 32) / 4
  ((m % 2 ^ 14) ^^^ (m / 2 ^ 14 % 2 ^ 14) ^^^ (m / 2 ^ 28 % 2 ^ 14) ^^^ (t * 2 ^ 11)) % 2 ^ 14

/-- The partitions: 0 tree nodes, 1 tier-B lines, 2 tier-A lines (10 R263). -/
def partOf (e : Nat) (k : LineKind) : Nat := match k with
  | .node _ => 0
  | _ => if e < 32 then 2 else 1

/-- First way and number of ways of a partition under CTC_PART (10 R263). -/
def partWays (s : State) (p : Nat) : Nat × Nat :=
  let t := getFld s (pgCtc + 0x040) 6 4
  let b := getFld s (pgCtc + 0x040) 3 0
  if p = 0 then (0, t) else if p = 1 then (t, b) else (t + b, 16 - t - b)

/-- Whether two units share a set of a bank group and a partition. -/
def sameSet (e : Nat) (k : LineKind) (idx : Nat) (e' : Nat) (k' : LineKind) (idx' : Nat) : Bool :=
  bankGroup e = bankGroup e' && setOf e k idx = setOf e' k' idx' && partOf e k = partOf e' k'

/-- The CTC share of an instance in a tier's partition, in ways (17 Table 17.3). -/
def ctcShare (s : State) (i e : Nat) : Nat :=
  if e < 32 then getFld s (instPage i + 0x04C) 3 0 else getFld s (instPage i + 0x04C) 7 4

/-- The lines of the set and partition of a unit. -/
def setLines (s : State) (e : Nat) (k : LineKind) (idx : Nat) : List Line :=
  s.ctc.lines.filter (fun x => sameSet e k idx x.tree x.kind x.idx)

/-- Whether a line belongs to an instance above its share in the set, or to none (10 R264, 17 R445). -/
def aboveShare (s : State) (ls : List Line) (x : Line) : Bool :=
  match x.charge with
  | none => true
  | some i => ctcShare s i x.tree < (ls.filter (fun y => y.charge == some i)).length

/-- The least recently used line of a list. -/
def oldest : List Line → Option Line
  | [] => none
  | x :: t => match oldest t with
    | some y => if y.age < x.age then some y else some x
    | none => some x

/-- Whether a tree node has a resident dirty child (10 R265). -/
def dirtyChild (s : State) (x : Line) : Bool :=
  match x.kind with
  | .node v => s.ctc.lines.any (fun y => y.dirty && y.tree = x.tree && (match y.kind with
      | .node w => w + 1 = v && y.idx / 8 = x.idx
      | .ctr => v = 1 && y.idx / 8 = x.idx
      | .tag => false))
  | _ => false

/-! ### Memory transactions (03 R76, R77) -/

/-- The first key not listed in a rising table. -/
def firstGap {α : Type} : Tbl α → Nat → Nat
  | [], n => n
  | (k, _) :: t, n => if k = n then firstGap t (n + 1) else n

/-- Whether two runs of bytes share a 64 B unit. -/
def sameUnits (a n b m : Nat) : Bool := a / 64 < (b + m + 63) / 64 && b / 64 < (a + n + 63) / 64

/-- Whether a write of a 64 B unit that a read touches awaits its acknowledgement (03 R77). -/
def writeOpen (g : Eng) (t : Tx) : Bool := g.txs.any (fun x => x.2.wr && sameUnits x.2.offset x.2.len t.offset t.len)

/-- The beat of an engine's memory port in bytes (10 Table 10.1). -/
def beatOf (e : Nat) : Nat := if e < 32 then 512 else 256

/-- xx_MASK: the 64 B units of the beat that a transaction reads or writes (03 Table 03.3). -/
def txMask (e : Nat) (t : Tx) : Nat := (2 ^ ((t.len + 63) / 64) - 1) * 2 ^ (t.offset % beatOf e / 64)

/-- Whether an engine's memory port takes a transaction now: the block is in service (03 R68), the port is up, an identifier of the 256 is free, and no read overtakes a write of its units
(03 R69, R76, R77). -/
def mayPresent (s : State) (e : Nat) (earlier : List (Tx × Bytes)) (t : Tx) : Bool :=
  (blockStatus s).isNone && (portAt s e).up && (portAt s e).sig && (engAt s e).txs.length < 256
    && (t.wr || !(writeOpen (engAt s e) t || earlier.any (fun x => x.1.wr && sameUnits x.1.offset x.1.len t.offset t.len)))

/-- A transaction appears on the memory port under the first free identifier, at its beat with its mask (03 Table 03.3). -/
def presentTx (s : State) (e : Nat) (t : Tx) (data : Bytes) : State :=
  let g := engAt s e
  let id := firstGap g.txs 0
  emit (setEng s e { g with txs := tblPut g.txs id t }) ⟨if t.wr then .memWrite else .memRead, e, id, txMask e t, t.offset / beatOf e * beatOf e, data⟩

/-- A transaction that the port takes now is presented, another one waits in the engine. -/
def presentOr (e : Nat) (s : State) (x : Tx × Bytes) : State :=
  if mayPresent s e (engAt s e).txq x.1 then presentTx s e x.1 x.2 else setEng s e { engAt s e with txq := (engAt s e).txq ++ [x] }

/-- Present a read or a write of `len` bytes on an engine's memory port. -/
def present (s : State) (e : Nat) (p : TxFor) (wr : Bool) (off len : Nat) (data : Bytes) : State := presentOr e s (⟨p, off, wr, len⟩, data)

/-- The transactions that wait are presented in their order, as far as the port takes them. -/
def drainTx (s : State) (e : Nat) : State :=
  let q := (engAt s e).txq
  if q = [] then s else q.foldl (presentOr e) (setEng s e { engAt s e with txq := [] })

/-! ### Write-back (10 R265, R266) -/

/-- A LINE_LOST firing with its cause (10 R267). -/
def lineLost (s : State) (tree n cause : Nat) : State :=
  fireAs (incSat s (pgCtc + 0x058) 31 0 1) pgCtc 3 rcLineLost none tree n cause

/-- The data page of a channel line. -/
def linePage (e l : Nat) : Nat := pageOfChannel e l

/-- Increment the child counter of a unit in its parent (10 R265); at its largest value it stays and TREE_LIMIT is recorded (09 R241). -/
def bumpChild (s : State) (e : Nat) (k : LineKind) (idx : Nat) : State :=
  let go (pl pi j : Nat) : State :=
    match nodeAt s e pl pi with
    | some n =>
      let c := (n.entry j).1
      if c = cntMax then s
      else
        let s := mapNode s e pl pi (fun n => { n with cnt := n.cnt.set j (c + 1) })
        if c + 1 = cntMax then
          record { s with anchor := { s.anchor with limits := (e, pl, pi, j) :: s.anchor.limits } } (engPage e) rcTreeLimit e pl pi
        else s
    | none => s
  match k with
  | .ctr => go 1 (idx / 8) (idx % 8)
  | .node v => let p := nodeParent e v idx; go p.1 p.2.1 p.2.2
  | .tag => s

/-- Whether a line's home memory port is up (03 R69). -/
def homeUp (s : State) (x : Line) : Bool := (portAt s x.tree).up

/-- Write back one dirty unit, keeping it resident and clean. None where it cannot be written yet: its port is down (03 R69), its parent is not on
die, or for a line below set flags its path is not, its key is not in a slot, or a tag line has slots to merge. -/
def writeBack (s : State) (x : Line) : Option State :=
  let put (s : State) (b : Bytes) : State :=
    mapLine (present s x.tree .writeback true (metaOff x.tree x.kind x.idx) 64 b) x.tree x.kind x.idx (fun y => { y with dirty := false })
  if !homeUp s x then none
  else match x.data with
  | .tag slots => if slots.all Option.isSome then some (put s (slots.flatMap (fun o => o.getD []))) else none
  | .ctr major minors clsI reseal =>
    match lineKey s x.keyId x.kidEpoch with
    | none => none
    | some tk =>
      let d := da12 s.dom.ownId x.keyId (linePage x.tree x.idx)
      let aad := ctrAad major minors clsI reseal
      if clsI then some (put s (ctrBytes major minors clsI reseal (ctrMac tk d 0 aad)))
      else match parentEntry s x.tree x.kind x.idx with
        | none => none
        | some (_, i) =>
          if i && !pathComplete s x.tree x.idx then none
          else
            let s := bumpChild (if i then pushDown s x.tree x.idx else s) x.tree x.kind x.idx
            let v := ((parentEntry s x.tree x.kind x.idx).getD (0, false)).1
            some (put s (ctrBytes major minors clsI reseal (ctrMac tk d v aad)))
  | .node n =>
    match x.kind, (internalKeys s 0xFF00).map KeySet.tk, parentEntry s x.tree x.kind x.idx with
    | .node v, some tk, some _ =>
      let s := bumpChild s x.tree x.kind x.idx
      let ver := ((parentEntry s x.tree x.kind x.idx).getD (0, false)).1
      some (put s (nodeBytes n (nodeMac tk x.tree v x.idx ver n)))
    | _, _, _ => none

/-- The line as it now stands. -/
def reread (s : State) (x : Line) : Line := (findLine s x.tree x.kind x.idx).getD x

/-- Evict a line: a clean one is dropped, a dirty one is written back first. -/
def evict (s : State) (x : Line) : Option State :=
  if x.dirty then (writeBack s x).map (fun t => dropLine t x) else some (dropLine s x)

/-! ### Fills (10 R262) -/

/-- Whether a fill of a unit is outstanding. -/
def fillOf (s : State) (e : Nat) (k : LineKind) (idx : Nat) : Option Fill :=
  s.ctc.fills.find? (fun f => f.tree = e && f.kind = k && f.idx = idx)

/-- Whether a unit is known to be absent: an entry on its path has CNT 0 (09 R240). Levels 8 and 9 use only INIT. -/
def absent (s : State) (e : Nat) (k : LineKind) (idx : Nat) : Bool :=
  match k with
  | .tag => false
  | .ctr => (match parentEntry s e .ctr idx with | some (c, _) => c = 0 | none => false)
  | .node v => (match parentEntry s e (.node v) idx with | some (c, _) => c = 0 | none => false)

/-- Whether a line may leave: nothing pins it, and it is no dirty line whose home port is down (10 R260, 03 R69). -/
def mayLeave (s : State) (x : Line) : Bool := x.pins = 0 && (!x.dirty || homeUp s x)

/-- The victim of R264 in a set, for a fill charged to `ch`. -/
def victim (s : State) (ls : List Line) (k : LineKind) (ch : Option Nat) : Option Line :=
  let free := ls.filter (mayLeave s)
  match k with
  | .node _ => oldest (free.filter (fun x => !dirtyChild s x))
  | _ =>
    match oldest (free.filter (fun x => !x.dirty && aboveShare s ls x)) with
    | some x => some x
    | none => match oldest (free.filter (fun x => aboveShare s ls x)) with
      | some x => some x
      | none => oldest (free.filter (fun x => x.charge == ch))

/-- The tree node that a line's write-back waits for: the lowest of its path that is not on die (10 R265). -/
def wantedNode (s : State) (x : Line) : Option (Nat × Nat) :=
  let miss (v idx : Nat) : Bool := (nodeAt s x.tree v idx).isNone
  match x.kind with
  | .tag => none
  | .ctr =>
    (match x.data with
     | .ctr _ _ true _ => none
     | _ => ([(1, 8), (2, 64), (3, 2 ^ 9), (4, 2 ^ 12), (5, 2 ^ 15), (6, 2 ^ 18)] : List (Nat × Nat)).map (fun p => (p.1, x.idx / p.2))
        |>.find? (fun p => miss p.1 p.2))
  | .node v => if v < 6 && miss (v + 1) (x.idx / 8) then some (v + 1, x.idx / 8) else none

/-- A slot load that a write-back waits for: the line's KeyID has no key on die (08 R214, R216). It is charged to the instance that the line is charged to. -/
def wantKey (s : State) (x : Line) : State :=
  if x.keyId < 0xFF00 && (lineKey s x.keyId x.kidEpoch).isNone && !(s.kvt.loads.any (fun l => l.keyId = x.keyId)) then
    { s with kvt := { s.kvt with loads := s.kvt.loads ++ [⟨x.keyId, none, (match x.charge with | some i => .inst i | none => .pool), false, false⟩] } }
  else s

/-- A way of the partition of a unit that a partition change under way leaves in its partition (10 R263). -/
def wayStays (s : State) (e : Nat) (k : LineKind) (w : Nat) : Bool :=
  match s.ctc.partChange with
  | some v =>
    let t := getBits v 6 4
    let b := getBits v 3 0
    partOf e k = (if w < t then 0 else if w < t + b then 1 else 2)
  | none => true

/-- The dirty children of a tree node. -/
def dirtyKids (s : State) (x : Line) : List Line :=
  s.ctc.lines.filter (fun y => y.dirty && y.tree = x.tree && (match y.kind, x.kind with
    | .node w, .node v => w + 1 = v && y.idx / 8 = x.idx
    | .ctr, .node v => v = 1 && y.idx / 8 = x.idx
    | _, _ => false))

/-- Start what the write-back of a line waits for: the merge of its tag slots (10 R266), its key, or the missing node of its path in a way that
`way` finds (10 R265). -/
def startWanted (way : State → Nat → LineKind → Nat → State × Option Nat) (s : State) (x : Line) : State :=
  let read (s : State) (k : LineKind) (idx w : Nat) (merge : Bool) : State :=
    let s := present s x.tree (.fill k idx) false (metaOff x.tree k idx) 64 []
    { s with ctc := { s.ctc with fills := s.ctc.fills ++ [⟨x.tree, k, idx, w, 0xFF00, false, none, false, merge, none, some (x.kind, x.idx)⟩] } }
  match x.kind with
  | .tag =>
    (match x.data with
     | .tag slots => if slots.all Option.isSome || (fillOf s x.tree .tag x.idx).isSome then s else read s .tag x.idx x.way true
     | _ => s)
  | _ =>
    let s := match x.kind with
      | .ctr => wantKey s x
      | _ => s
    if x.kind = .ctr && (lineKey s x.keyId x.kidEpoch).isNone then s
    else match wantedNode s x with
    | some (v, idx) =>
      if (fillOf s x.tree (.node v) idx).isSome then s
      else match way s x.tree (.node v) idx with
        | (s, some w) => read s (.node v) idx w false
        | (s, none) => s
    | none => s

/-- Find a way for a unit (10 R264): a free way of the partition, or the way of the line evicted for it. With none, what the waiting write-back needs is
started; where dirty children hold every tree way, those of the least recently used node are written back first, and each is counted (10 R265, R266).
A path has at most seven in-memory units, which bounds the fuel. -/
def takeWayN : Nat → State → Nat → LineKind → Nat → Option Nat → State × Option Nat
  | fuel, s, e, k, idx, ch =>
    let (w0, n) := partWays s (partOf e k)
    let ls := setLines s e k idx
    let used := ls.map Line.way ++ (s.ctc.fills.filter (fun f => sameSet e k idx f.tree f.kind f.idx && !f.merge)).map Fill.way
    match (List.range n).find? (fun i => !used.contains (w0 + i) && wayStays s e k (w0 + i)) with
    | some i => (s, some (w0 + i))
    | none =>
      let more (s : State) (x : Line) : State := match fuel with
        | 0 => s
        | f + 1 => startWanted (fun t e k idx => takeWayN f t e k idx none) s x
      match victim s (ls.filter (fun x => wayStays s e k x.way)) k ch with
      | some x =>
        (match evict s x with
         | some t => (t, some x.way)
         | none => (more s x, none))
      | none =>
        match k with
        | .node _ =>
          (match oldest (ls.filter (mayLeave s)) with
           | some x => ((dirtyKids s x).foldl (fun t y => match writeBack t y with
               | some u => incSat u (pgCtc + 0x05C) 31 0 1
               | none => more t y) s, none)
           | none => (s, none))
        | _ => (s, none)

/-- Find a way for a unit. -/
def takeWay (s : State) (e : Nat) (k : LineKind) (idx : Nat) (ch : Option Nat) : State × Option Nat := takeWayN 7 s e k idx ch

/-- Start what the write-back of a line waits for. -/
def pathFill (s : State) (x : Line) : State := startWanted (fun t e k idx => takeWay t e k idx none) s x

/-- Install a unit in a way. -/
def install (s : State) (e : Nat) (k : LineKind) (idx way keyId ep slot : Nat) (ch : Option Nat) (pre : Bool) (d : LineData) : State :=
  { s with ctc := { s.ctc with
    clock := s.ctc.clock + 1
    lines := s.ctc.lines ++ [⟨e, k, idx, way, keyId, ep, slot, false, 0, ch, s.ctc.clock, pre, d⟩] } }

/-- Start the fill of one unit that is not resident: an absent one needs no read (09 R240). -/
def startFill (s : State) (e : Nat) (k : LineKind) (idx keyId : Nat) (clsI : Bool) (ch : Option Nat) (pre : Bool) : State :=
  if (findLine s e k idx).isSome || (fillOf s e k idx).isSome then s
  else
    match takeWay s e k idx ch with
    | (s, none) => s
    | (s, some w) =>
      if absent s e k idx && !(k = .ctr && clsI) then
        install s e k idx w keyId (kidEpochOf s keyId) 0 ch pre (match k with
          | .node v => .node (if nodeReset s e v idx then Node.zero.allInit else Node.zero)
          | _ => .ctr 0 (List.replicate 32 0) false false)
      else
        let s := present s e (.fill k idx) false (metaOff e k idx) 64 []
        { s with ctc := { s.ctc with fills := s.ctc.fills ++ [⟨e, k, idx, w, keyId, clsI, ch, pre, false, none, none⟩] } }

/-- A line resident under another KeyID or KeyID epoch is written back and invalidated; where it cannot go yet, what its write-back needs is started
(10 R262). -/
def clearOther (s : State) (e : Nat) (k : LineKind) (idx keyId : Nat) : State :=
  match findLine s e k idx with
  | some x =>
    if (x.keyId = keyId && x.kidEpoch = kidEpochOf s keyId) || !mayLeave s x then s
    else match evict s x with
      | some t => t
      | none => pathFill s x
  | none => s

/-- The in-memory nodes of a line's path that lie below the first one on die, in descending level (09 Table 09.10, 10 R262, R272). -/
def missingNodes (s : State) (e l : Nat) : List (Nat × Nat) :=
  ((([(1, 8), (2, 64), (3, 2 ^ 9), (4, 2 ^ 12), (5, 2 ^ 15), (6, 2 ^ 18)] : List (Nat × Nat)).map (fun p => (p.1, l / p.2))).takeWhile
    (fun p => (nodeAt s e p.1 p.2).isNone)).reverse

/-- Start the fills of a class S counter line's missing nodes, in descending level, and of the line; a class I line needs no node (10 R262). -/
def startCtr (s : State) (e l keyId : Nat) (clsI : Bool) (ch : Option Nat) (pre : Bool) : State :=
  let s := clearOther s e .ctr l keyId
  let s := if clsI then s
    else if ((findLine s e .ctr l).any (fun x => x.keyId = keyId)) then s
    else (missingNodes s e l).foldl (fun t p => startFill t e (.node p.1) p.2 0xFF00 false none pre) s
  startFill s e .ctr l keyId clsI ch pre

/-- Start the fill of a tag line. -/
def startTag (s : State) (e t keyId : Nat) (ch : Option Nat) : State :=
  let s := clearOther s e .tag t keyId
  match findLine s e .tag t with
  | some x =>
    if (fillOf s e .tag t).isSome then s
    else
      let s := present s e (.fill .tag t) false (metaOff e .tag t) 64 []
      { s with ctc := { s.ctc with fills := s.ctc.fills ++ [⟨e, .tag, t, x.way, keyId, false, ch, false, true, none, none⟩] } }
  | none => startFill s e .tag t keyId false ch false

/-- Remove a fill. -/
def dropFill (s : State) (f : Fill) : State :=
  { s with ctc := { s.ctc with fills := s.ctc.fills.filter (fun x => !(x.tree = f.tree && x.kind = f.kind && x.idx = f.idx)) } }

/-- What the verification of a returned fill finds (10 R262). -/
inductive FillEnd where
  | wait
  | good (d : LineData)
  | bad (level : Nat)
deriving DecidableEq, Repr

/-- The eight tags of a tag line. -/
def tagSlots (b : Bytes) : List (Option Bytes) := (List.range 8).map (fun i => some ((b.drop (8 * i)).take 8))

/-- Verify a returned fill: nodes and class S lines against their parent, class I lines by their MAC, both for class (10 R262, 09 R234, R236, R239, R240).
A fill that waits for its parent or its key stays as it is. A node below a set flag is installed with every flag set, which is what the flag above it says
of its children. -/
def judgeFill (s : State) (f : Fill) (b : Bytes) : FillEnd :=
  match f.kind with
  | .tag => .good (.tag (tagSlots b))
  | .node v =>
    match parentEntry s f.tree f.kind f.idx, (internalKeys s 0xFF00).map KeySet.tk with
    | some (0, _), _ => .good (.node (if nodeReset s f.tree v f.idx then Node.zero.allInit else Node.zero))
    | some (c, _), some tk =>
      let n := nodeOfBytes b
      if nodeMac tk f.tree v f.idx c n = macOf b then .good (.node (if nodeReset s f.tree v f.idx then n.allInit else n)) else .bad v
    | _, _ => .wait
  | .ctr =>
    let major := leNat (b.take 8)
    let minors := (List.range 32).map (minorOf ((b.drop 8).take 48))
    let fl := (b.getD 63 0).toNat
    let check (tk : Bytes) (v : Nat) : FillEnd :=
      let d := da12 s.dom.ownId f.keyId (linePage f.tree f.idx)
      let clsI := fl.testBit 0
      if fl < 4 && clsI = f.clsI && ctrMac tk d v (b.take 56 ++ [b.getD 63 0]) = macOf b
      then .good (.ctr major minors clsI (fl.testBit 1)) else .bad 0
    if f.clsI then
      (match (keysOf s f.keyId).map KeySet.tk with
       | some tk => check tk 0
       | none => .wait)
    else match parentEntry s f.tree .ctr f.idx with
      | none => .wait
      | some (c, _) =>
        if c = 0 || pathInit s f.tree f.idx then .good (.ctr 0 (List.replicate 32 0) false false)
        else match (keysOf s f.keyId).map KeySet.tk with
          | some tk => check tk c
          | none => .wait

/-- An armed injection into FILL_AUTH fails a fill that verified (05 R151). -/
def injectFill (s : State) (f : Fill) : FillEnd → FillEnd
  | .good d => if injArmed s pgCtc 0 && f.kind != .tag then .bad (match f.kind with | .node v => v | _ => 0) else .good d
  | r => r

/-- A tag line with the memory tags merged into its invalid slots (10 R266). -/
def mergeTags (s : State) (f : Fill) (b : Bytes) : State :=
  mapLine s f.tree .tag f.idx (fun x => { x with data := match x.data with
    | .tag slots => .tag ((slots.zip (tagSlots b)).map (fun p => if p.1.isSome then p.1 else p.2))
    | d => d })

/-- Prefetching stops for a safety cause (10 R279): 1 thermal throttle, 2 FILL_AUTH. -/
def overrideStart (s : State) (cause : Nat) : State :=
  let was := s.ctc.overrideThermal || s.ctc.overrideAuth
  let s := { s with ctc := { s.ctc with
    overrideThermal := s.ctc.overrideThermal || cause = 1
    overrideAuth := s.ctc.overrideAuth || cause = 2 } }
  if was then s
  else
    let s := { s with ctc := { s.ctc with savedDepth := getFld s (pgCtc + 0x048) 4 0 } }
    let s := incSat (setRegBit (setFld s (pgCtc + 0x048) 4 0 0) (pgCtc + 0x048) 8 true) (pgCtc + 0x048) 31 16 1
    record s pgCtc ⟨0x0705, 0⟩ 4 cause 1

/-- A safety cause ends; with the last one the override ends and DEPTH returns within FLOOR and CEIL (10 R279). -/
def overrideEnd (s : State) (cause : Nat) : State :=
  let was := s.ctc.overrideThermal || s.ctc.overrideAuth
  let s := { s with ctc := { s.ctc with
    overrideThermal := s.ctc.overrideThermal && cause != 1
    overrideAuth := s.ctc.overrideAuth && cause != 2 } }
  if was && !s.ctc.overrideThermal && !s.ctc.overrideAuth then
    let d := max (getFld s (pgCtc + 0x044) 4 0) (min (getFld s (pgCtc + 0x044) 9 5) s.ctc.savedDepth)
    record (setRegBit (setFld s (pgCtc + 0x048) 4 0 d) (pgCtc + 0x048) 8 false) pgCtc ⟨0x0705, 0⟩ 4 d 0
  else s

/-- A fill fails its MAC or class check: nothing is installed from its path (10 R262). The line whose write-back waits on it is lost (R265). -/
def fillFailed (s : State) (f : Fill) (level : Nat) : State :=
  let s := overrideStart (fireAs s pgCtc 0 rcFillAuth none f.tree level f.idx) 2
  dropFill s f

/-- Settle the returned fills that can be verified now, root end first; answers the failures and the fills installed. -/
def settleOnce (s : State) : State × List (Fill × Bool) :=
  (s.ctc.fills.filter (fun f => f.returned.isSome)).foldl (fun acc f =>
    let (t, out) := acc
    match f.returned with
    | none => acc
    | some b =>
      if f.merge then (dropFill (mergeTags t f b) f, out ++ [(f, true)])
      else match injectFill t f (judgeFill t f b) with
        | .wait => acc
        | .good d =>
          let t := dropFill t f
          (install t f.tree f.kind f.idx f.way f.keyId (kidEpochOf t f.keyId) ((slotOf t f.keyId).elim 0 Prod.fst) f.charge f.prefetch d, out ++ [(f, true)])
        | .bad lv => (fillFailed t f lv, out ++ [(f, false)])) (s, [])

/-- Settle until nothing more can be verified: a path has seven in-memory units. -/
def settle (s : State) : State × List (Fill × Bool) :=
  (List.range 8).foldl (fun acc _ =>
    let (t, o) := settleOnce acc.1
    (t, acc.2 ++ o)) (s, [])

/-- The dirty units that carry a KeyID, counter and tag lines. -/
def dirtyOf (s : State) (k : Nat) : List Line := s.ctc.lines.filter (fun x => x.dirty && x.keyId = k && partOf x.tree x.kind != 0)

/-- Write back a dirty unit, or start what its write-back waits for. -/
def writeBackOr (s : State) (x : Line) : State :=
  match writeBack s (reread s x) with
  | some t => t
  | none => if homeUp s x then pathFill s (reread s x) else s

/-- Write back every dirty counter and tag line of a KeyID (08 R216, R219). -/
def writeBackKey (s : State) (k : Nat) : State := (dirtyOf s k).foldl writeBackOr s

/-- Invalidate every counter and tag line of a KeyID (08 R219). -/
def invalidateKey (s : State) (k : Nat) : State :=
  (s.ctc.lines.filter (fun x => x.keyId = k && partOf x.tree x.kind != 0)).foldl dropLine s

/-- Dirty lines and nodes of a bank group. -/
def groupDirty (s : State) (g : Nat) : List Line := s.ctc.lines.filter (fun x => x.dirty && bankGroup x.tree = g)

/-- Write back the dirty units that meet a condition and whose home port is up: lines first, then nodes by rising level (10 R267, 03 R69). -/
def writeBackWhere (s : State) (sel : Line → Bool) : State :=
  let pass (t : State) (p : LineKind → Bool) : State :=
    (t.ctc.lines.filter (fun x => x.dirty && sel x && p x.kind && homeUp t x)).foldl writeBackOr t
  let s := pass s (fun k => k = .ctr || k = .tag)
  (List.range 6).foldl (fun t v => pass t (fun k => k = .node (v + 1))) s

/-- A bank group goes off: its lines go; each dirty one left is lost (10 R267). -/
def loseGroup (s : State) (g : Nat) : State :=
  let s := (groupDirty s g).foldl (fun t x => lineLost t x.tree x.idx 1) s
  { s with ctc := { s.ctc with
    lines := s.ctc.lines.filter (fun x => bankGroup x.tree != g)
    fills := s.ctc.fills.filter (fun f => bankGroup f.tree != g) } }

/-- The dirty lines and nodes that a zeroise leaves without a key: discarded, counted, one record per bank group with their number (08 R223). -/
def zeroiseCtc (s : State) : State :=
  [0, 1, 2, 3].foldl (fun t g =>
    let n := (groupDirty t g).length
    let t := { t with ctc := { t.ctc with lines := t.ctc.lines.filter (fun x => !(x.dirty && bankGroup x.tree = g)) } }
    if n = 0 then t else fireAs (incSat t (pgCtc + 0x058) 31 0 n) pgCtc 3 rcLineLost none (8 * g) n 4) s

end Sys2Proof.Machine
end

