-- ==== Sys2Proof/Machine/KvtOps.lean ====
section
/-!
DEFINITION. KVT as shared operations (08): the exchange buffer and completions, blobs, the choice of a key slot, key loads, pair keys, and what
zeroise and L2 erase.
-/
namespace Sys2Proof.Machine

/-! ### Exchange buffer and completions (08 R222) -/

/-- The first `4 n` bytes of XBUF. -/
def xbufWords (s : State) : Nat → Bytes
  | 0 => []
  | n + 1 => xbufWords s n ++ leBytes 4 (rawReg s (pgKvt + 0x800 + 4 * n)).toNat

/-- The first `n` bytes of XBUF. -/
def xbuf (s : State) (n : Nat) : Bytes := (xbufWords s ((n + 3) / 4)).take n

/-- Write words into a run of registers from a byte string. -/
def putWords (s : State) (a : Nat) : Bytes → State
  | [] => s
  | [p] => setReg s a (BitVec.ofNat 32 (leNat [p]))
  | [p, q] => setReg s a (BitVec.ofNat 32 (leNat [p, q]))
  | [p, q, r] => setReg s a (BitVec.ofNat 32 (leNat [p, q, r]))
  | p :: q :: r :: t :: u => putWords (setReg s a (BitVec.ofNat 32 (leNat [p, q, r, t]))) (a + 4) u

/-- Clear XBUF from byte `n` on (08 Table 08.9). -/
def clearXbuf (s : State) (n : Nat) : State := resetRegs s pgKvt (0x800 + n) 0x1000

/-- A mailbox command ends (17 R441): CSEQ, CSTATUS, BUSY and the mailbox source. `i` is the instance, `tenant` the T mailbox. -/
def mbDone (s : State) (i : Nat) (tenant : Bool) (cmd seq st : Nat) : State :=
  let a := instPage i + (if tenant then 0x104 else 0x1C4)
  let s := setReg s a (BitVec.ofNat 32 (seq % 0x100 + st % 0x100 * 0x100))
  let x := (tblFind s.imu.inst i).getD InstRec.free
  let x := if tenant then { x with tWait := none } else { x with mWait := none }
  let s := { s with imu := { s.imu with inst := tblSet InstRec.free s.imu.inst i x } }
  irqEvent s (if tenant then 0xF1 else 0xF0) (some i) st (cmd + seq % 0x100 * 0x100) 0 0

/-- The end of a KVT command is reported: CSTAT, source 0x80 and the KVT_COMMAND record (08 R222, 20 Table 20.1, 22 Table 22.8). -/
def kvtReport (s : State) (c : KCmd) (st : Nat) : State :=
  let a := pgKvt + 0x04C
  let s := setFld (setFld s a 7 0 c.seq) a 15 8 st
  let s := record s pgKvt (rcKvtCommand (st != 0)) c.op st c.keyId
  irqEvent s 0x80 none st (c.op + c.seq * 0x100) c.keyId 0

/-- A KVT command ends (08 R222): BUSY falls with the command in execution. -/
def kvtDone (s : State) (c : KCmd) (st : Nat) : State :=
  kvtReport (if s.kvt.cmd = some c then setRegBit { s with kvt := { s.kvt with cmd := none } } (pgKvt + 0x04C) 16 false else s) c st

/-- A command is in execution (08 Table 08.9 BUSY). -/
def kvtHold (s : State) (c : KCmd) : State := setRegBit { s with kvt := { s.kvt with cmd := some c } } (pgKvt + 0x04C) 16 true

/-! ### Blobs (08 R209, R210) -/

/-- The outer header of a blob. -/
def blobHeader (type keyId a b : Nat) : Bytes :=
  leBytes 2 0x4B42 ++ [1, BitVec.ofNat 8 type] ++ leBytes 2 keyId ++ [0, 0] ++ leBytes 4 a ++ leBytes 4 b

/-- A blob wrapped under a key. -/
def makeBlob (wk : Bytes) (type keyId a b policy : Nat) (owners key : Bytes) : Bytes :=
  let h := blobHeader type keyId a b
  h ++ Config.kwpWrap wk (h ++ leBytes 4 policy ++ zeros 4 ++ owners ++ key)

/-- Byte field of a blob, little-endian. -/
def blobField (b : Bytes) (i n : Nat) : Nat := leNat ((b.drop i).take n)

/-- Steps 1 and 2 of R210: MAGIC, VER, the zero fields, TYPE. -/
def blobOuterOk (b : Bytes) (type : Nat) : Bool :=
  b.length = 112 && blobField b 0 2 = 0x4B42 && blobField b 2 1 = 1 && blobField b 6 2 = 0
    && (type = 2 || blobField b 12 4 = 0) && (type != 3 || blobField b 4 2 = 0) && blobField b 3 1 = type

/-- What a blob opened to: policy, owners, key; or the failing step 3 or 4 of R210. -/
def openBlob (wk b : Bytes) : Nat ⊕ (Nat × Bytes × Bytes) :=
  match Config.kwpUnwrap wk (b.drop 16) with
  | none => .inl 3
  | some x =>
    if x.take 16 = b.take 16 ∧ allZero ((x.drop 20).take 4) ∧ x.length = 88 ∧ leNat ((x.drop 16).take 4) < 4
    then .inr (leNat ((x.drop 16).take 4), (x.drop 24).take 32, (x.drop 56).take 32) else .inl 4

/-- A blob fails step 3 or 4: UNWRAP_FAIL names the KeyID (08 R210). -/
def unwrapFail (s : State) (keyId type step : Nat) : State := fireAs s pgKvt 1 rcUnwrapFail none keyId type step

/-! ### KTAB entries (08 R208) -/

/-- A KTAB entry: STATE, KID_EPOCH, STEP_EPOCH, BLOB. -/
structure Kent where
  keyed : Bool
  kidEpoch : Nat
  stepEpoch : Nat
  blob : Bytes
deriving DecidableEq, Repr

/-- The bytes of a KTAB entry (08 Table 08.4). -/
def kentBytes (k : Nat) (x : Kent) : Bytes :=
  [if x.keyed then 1 else 2, 0] ++ leBytes 2 k ++ leBytes 4 x.kidEpoch ++ leBytes 4 x.stepEpoch ++ zeros 4 ++ (if x.keyed then x.blob else zeros 112)

/-- The byte address of a KTAB entry (08 R208). -/
def ktabAddr (s : State) (k : Nat) : Nat := 2 ^ 23 * getFld s (pgKvt + 0x050) 18 0 + 128 * k

/-- The status with which the write of a KTAB entry ends: judged by JCT under 0xFF03 (08 R208, 09 R254). -/
def ktabEnd (s : State) (k st : Nat) : State × Nat := serviceEnd s (ktabAddr s k / 4096) 0xFF03 true st

/-- What an answer on the memory path says of a KTAB entry: no entry, an entry, or a status; a failed read or check sets KTAB_AUTH (08 R208, Table 08.9). -/
def kentOf (k : Nat) : State × KtabRead → State × (Nat ⊕ Option Kent)
  | (s, .unwritten) => (s, .inr none)
  | (s, .fail st) => (fire s pgKvt 3, .inl st.code)
  | (s, .entry b) =>
    if (blobField b 0 1 = 1 ∨ blobField b 0 1 = 2) ∧ blobField b 2 2 = k ∧ b.length = 128 ∧ !injArmed s pgKvt 3 then
      (s, .inr (some ⟨blobField b 0 1 = 1, blobField b 4 4, blobField b 8 4, b.drop 16⟩))
    else (fire s pgKvt 3, .inl Status.authFail.code)

/-- What a KTAB read under 0xFF03 gives (08 R208). -/
def kentRead (s : State) (k : Nat) (r : KtabRead) : State × (Nat ⊕ Option Kent) := kentOf k (serviceRead s (ktabAddr s k / 4096) 0xFF03 r)

/-- Whether KTAB is in use (08 R208). -/
def ktabValid (s : State) : Bool := regBit s (pgKvt + 0x050) 31

/-- KVT places the write of a KTAB entry in the service register of its engine under 0xFF03 (18 R468): port number 40 stands for the service registers. What
JCT says of it, `ktabEnd` says. -/
def ktabWrite (s : State) (k : Nat) (x : Kent) : State := emit s ⟨.memWrite, 40, k, 0, ktabAddr s k, kentBytes k x⟩

/-! ### Slots (08 R212, R215, R216) -/

/-- The key-slot share of an instance (17 Table 17.3). -/
def ksShare (s : State) (i : Nat) : Nat := getFld s (instPage i + 0x048) 13 0

/-- The sum of the key-slot shares. -/
def ksSum (s : State) : Nat := (s.imu.inst.map (fun x => ksShare s x.1)).foldl (· + ·) 0

/-- Slots held under a charge. -/
def slotsHeld (s : State) (c : Charge) : Nat := (s.kvt.slots.filter (fun x => x.2.charge = c)).length

/-- The size of a charge: an instance's share, or the unshared pool (08 R216). -/
def chargeSize (s : State) : Charge → Nat
  | .inst i => ksShare s i
  | .pool => 8192 - ksSum s

/-- The least recently used slot that meets a condition. -/
def lruSlot (p : Slot → Bool) : Tbl Slot → Option (Nat × Slot)
  | [] => none
  | x :: t =>
    match lruSlot p t with
    | some y => if p x.2 && x.2.used < y.2.used then some x else some y
    | none => if p x.2 then some x else none

/-- Whether CTC holds dirty lines of a KeyID (08 R216). -/
def hasDirty (s : State) (k : Nat) : Bool := !(dirtyOf s k).isEmpty

/-- The choice of R216: an EMPTY slot within the share, an unpinned LIVE slot of it without dirty lines, or one whose lines must go back first. -/
inductive Pick where
  | slot (n : Nat)
  | evict (n : Nat)
  | flush (keyId : Nat)
  | none
deriving DecidableEq, Repr

/-- Choose a slot for a charge (08 R216). -/
def pickSlot (s : State) (c : Charge) : Pick :=
  let n := firstGap s.kvt.slots 0
  if slotsHeld s c < chargeSize s c && n < 8192 then .slot n
  else
    let mine (x : Slot) : Bool := x.charge = c && x.st = .live && !x.pinned
    match lruSlot (fun x => mine x && !hasDirty s x.keyId) s.kvt.slots with
    | some (m, _) => .evict m
    | none => match lruSlot mine s.kvt.slots with
      | some (_, x) => .flush x.keyId
      | none => .none

/-- KVT_SLOTS counts LIVE and pinned slots (08 Table 08.9). -/
def refreshSlots (s : State) : State :=
  let live := (s.kvt.slots.filter (fun x => x.2.st = .live)).length
  let pin := (s.kvt.slots.filter (fun x => x.2.pinned)).length
  setFld (setFld s (pgKvt + 0x054) 13 0 live) (pgKvt + 0x054) 29 16 pin

/-- A slot becomes EMPTY. -/
def dropSlot (s : State) (n : Nat) : State := refreshSlots { s with kvt := { s.kvt with slots := tblDel s.kvt.slots n } }

/-- A slot changes. -/
def putSlot (s : State) (n : Nat) (x : Slot) : State := refreshSlots { s with kvt := { s.kvt with slots := tblPut s.kvt.slots n x } }

/-- A key in masked form under a fresh mask of the mask generator (08 R212). -/
def maskKey (s : State) (k : Bytes) : Masked × State :=
  let (m, s) := drawBytes s 32
  (Masked.make m k, s)

/-- The bank that a data key derives for a KeyID at its epochs (08 Table 08.2). -/
def makeBank (s : State) (dk : Bytes) (k ep step : Nat) : Bank × State :=
  let (a, s) := maskKey s (kEnc dk k ep)
  let (b, s) := maskKey s (kTag dk k ep)
  let (c, s) := maskKey s (kStep dk k ep step)
  let (d, s) := maskKey s (kGroup dk k ep)
  (⟨a, b, c, d⟩, s)

/-! ### Held requests -/

/-- The KeyID that a request in engine `e`'s registers needs: the KeyID source of the winner in the island's read copy at a local home, its own at a remote
one (01 Table 01.4, R34, 09 R251). -/
def needKey (s : State) (e : Nat) (q : Req) : Nat :=
  if q.home != s.dom.ownId then q.keyId
  else match winner (copyTable s (islandOfEngine e)) (q.addr / 4096) with
    | some (_, j) => j.ksrc
    | none => q.keyId

/-- Whether an item of a span's egress queue is the request in engine `e`'s ingress register. -/
def isFmItem (e : Nat) : TxItem → Bool
  | .fm x => x = e
  | _ => false

/-- An engine's FM request leaves the egress queue it waits in. -/
def dropFmItem (s : State) (e : Nat) : State :=
  (List.range 18).foldl (fun t n =>
    if (spanAt t n).outQ.any (isFmItem e) then mapSpan t n (fun x => { x with outQ := x.outQ.filter (fun i => !isFmItem e i) }) else t) s

/-- Complete every request held under KEY_MISS for a KeyID, that of a remote home included (08 R217, 01 R34). -/
def completeHeld (s : State) (k st : Nat) : State :=
  (List.range 40).foldl (fun t e =>
    let g := engAt t e
    let t := match g.ingress with
      | some q =>
        if g.hold = 6 && needKey t e q = k then
          respond (setFld (setEng (dropFmItem t e) e { g with ingress := none, hold := 0 }) (engPage e + 0x040) 12 8 0) e q st []
        else t
      | none => t
    let g := engAt t e
    match g.service with
    | q :: r => if needKey t e q = k && (keysOf t k).isNone then respond (setEng t e { g with service := r }) e q st [] else t
    | [] => t) s

/-- The line fills under a KeyID are discarded and their ways are free again (10 R262). -/
def discardFills (s : State) (k : Nat) : State :=
  { s with ctc := { s.ctc with fills := s.ctc.fills.filter (fun f => !(f.keyId = k && partOf f.tree f.kind != 0 && !f.merge)) } }

/-! ### Key loads (08 R215 to R217) -/

/-- A load waits for BN, the root or a scrambling key (08 R203, R212). -/
def loadBlocked (s : State) : Bool := s.kvt.bn.isNone || s.kvt.scramble.isNone || s.kvt.dkek.isNone

/-- Whether a load of a KeyID runs or waits. -/
def loadOf (s : State) (k : Nat) : Option Load := s.kvt.loads.find? (fun l => l.keyId = k)

/-- Whether a KeyID is retiring for TTB (02 R47, 08 R219). -/
def isRetiring (s : State) (k : Nat) : Bool := match tblFind s.kvt.retiring k with
  | none | some .orphan => false
  | some _ => true

/-- Loads that hold a slot. -/
def loadsRunning (s : State) : Nat := (s.kvt.loads.filter (fun l => l.slot.isSome)).length

/-- The status with which a load of a KeyID ends before it starts, if one applies (07 R181, 08 R203, R208, R212, R223). An internal KeyID needs no table. -/
def loadRefused (s : State) (k : Nat) : Option Nat :=
  if s.kvt.refuseAll then some Status.denied.code
  else if s.kvt.zeroised then some Status.notReady.code
  else if k < 0xFF00 && !ktabValid s then some Status.notReady.code
  else if loadBlocked s && s.ent.st = .failed then some Status.notReady.code
  else none

/-- A load takes its slot: LOADING (08 Table 08.7). -/
def loadInto (s : State) (l : Load) (n : Nat) : State :=
  let s := putSlot s n ⟨l.keyId, .loading, none, false, l.pin, l.charge, s.kvt.useClock, 0, 0, 0⟩
  { s with kvt := { s.kvt with loads := s.kvt.loads.map (fun x => if x.keyId = l.keyId then { x with slot := some n } else x) } }

/-- Start a waiting load where R216 finds it a slot. Work that waits under an internal KeyID takes no hot slot: its wait is over once the key can be
derived (08 R203, R205). -/
def tryLoad (s : State) (l : Load) : State :=
  if 0xFF00 ≤ l.keyId then
    (if (internalKeys s l.keyId).isSome then { s with kvt := { s.kvt with loads := s.kvt.loads.filter (fun x => x.keyId != l.keyId) } } else s)
  else if loadBlocked s || 4 ≤ loadsRunning s then s
  else match pickSlot s l.charge with
    | .slot n => loadInto s l n
    | .evict n => loadInto (dropSlot s n) l n
    | .flush k =>
      let s := writeBackKey s k
      (match pickSlot s l.charge with
       | .evict n => loadInto (dropSlot s n) l n
       | _ => s)
    | .none => s

/-- Serve the waiting loads in order of arrival. -/
def serveLoads (s : State) : State :=
  (s.kvt.loads.filter (fun l => l.slot.isNone)).foldl tryLoad s

/-- Whom the load of a KeyID is charged to (08 R216): the instance that caused it, otherwise the unshared pool, and where the pool holds no slot the lowest
instance to which the KeyID is bound. -/
def loadCharge (s : State) (k : Nat) (inst : Option Nat) : Charge :=
  match inst with
  | some i => .inst i
  | none => if 0 < chargeSize s .pool then .pool else match (tblFind s.imu.binds k).getD [] with
    | i :: _ => .inst i
    | [] => .pool

/-- A miss or LOAD for a KeyID: it joins a load under way, starts one, or waits; 64 misses wait at most (08 R215, R216). -/
def startLoad (s : State) (l : Load) : State :=
  match loadOf s l.keyId with
  | some _ =>
    if l.cmd then { s with kvt := { s.kvt with loads := s.kvt.loads.map (fun x => if x.keyId = l.keyId then { x with cmd := true, pin := x.pin || l.pin } else x) } }
    else s
  | none =>
    if !l.cmd && 64 ≤ (s.kvt.loads.filter (fun x => x.slot.isNone)).length then s
    else tryLoad { s with kvt := { s.kvt with loads := s.kvt.loads ++ [l] } } l

/-- A forwarded response that waits in a span for a KeyID's key will end its request with a status (08 R217). -/
def spanKeyFail (s : State) (k st : Nat) : State :=
  let mark (r : RxFrame) : RxFrame := if r.wait = some k && r.ks.isNone then { r with fail := some (r.fail.getD st) } else r
  { s with spans := s.spans.map (fun x => (x.1, { x.2 with rx := x.2.rx.map mark })) }

/-- What waits for a KeyID's key ends with a status (08 R217): requests held at TTB, a CCE descriptor, returned fills, forwarded responses. -/
def endHeld (s : State) (k st : Nat) : State := spanKeyFail (discardFills (completeHeld (cceKeyFail s k st) k st) k) k st

/-- A key miss (08 R215): counted once per load. A load that would end before it starts ends at once with its status (08 R203, R212, R217). -/
def keyMiss (s : State) (k : Nat) (inst : Option Nat) : State :=
  match loadOf s k with
  | some _ => s
  | none =>
    let s := incSat s (pgKvt + 0x058) 31 0 1
    match loadRefused s k with
    | some st => endHeld s k st
    | none => startLoad s ⟨k, none, loadCharge s k inst, false, false⟩

/-- A load ends without a LIVE slot (08 R217): its slot is EMPTY, the requests held on it and a LOAD command complete with its status. -/
def loadEnds (s : State) (k st : Nat) : State :=
  match loadOf s k with
  | some l =>
    let s := { s with kvt := { s.kvt with loads := s.kvt.loads.filter (fun x => x.keyId != k) } }
    let s := match l.slot with
      | some n => dropSlot s n
      | none => s
    let s := match s.kvt.cmd with
      | some c => if l.cmd && c.op = 4 && c.keyId = k then kvtDone s c st else s
      | none => s
    serveLoads (endHeld s k st)
  | none => s

/-! ### The key bus (08 R213, R214) -/

/-- Whether the share words that a KeyID's key is read from hold their parity. -/
def shareOk (s : State) (k : Nat) : Bool :=
  if 0xFF00 ≤ k then (match tblFind s.kvt.internal (k - 0xFF00) with
    | some b => b.1.ok
    | none => true)
  else match keyedSlot s k with
    | some (_, x) => (x.bank.map Bank.ok).getD true
    | none => true

/-- A share word fails parity on a read for the key bus (08 R214): KEY_PARITY fires and the slot is erased. Slot 8,192 + n is internal slot n, in the
order of R212's remasking. -/
def keyParity (s : State) (k : Nat) : State :=
  if 0xFF00 ≤ k then
    fireAs { s with kvt := { s.kvt with internal := tblDel s.kvt.internal (k - 0xFF00) } } pgKvt 0 rcKeyParity none (8192 + (k - 0xFF00)) k 0
  else match slotOf s k with
    | some (n, _) => serveLoads (dropSlot (fireAs s pgKvt 0 rcKeyParity none n k 0) n)
    | none => s

/-- What a read for the key bus gives: no key, the key, or a parity failure (08 R214). -/
inductive BusRead where
  | absent
  | keys (x : KeySet)
  | parity
deriving DecidableEq, Repr

/-- A KeyID's key for an engine over the key bus. -/
def busRead (s : State) (k : Nat) : BusRead :=
  match keysOf s k with
  | none => .absent
  | some x => if injArmed s pgKvt 0 || !shareOk s k then .parity else .keys x

/-! ### Pair keys (08 R207) -/

/-- PKC_VALID counts the cache (08 Table 08.9). -/
def setPkc (s : State) (l : List PairKey) : State :=
  setFld { s with kvt := { s.kvt with pkc := l } } (pgKvt + 0x068) 12 0 l.length

/-- The epoch key of a position. -/
def epochKeyAt (s : State) (p : Nat) : Option EpochKey := if p = 0 then s.kvt.pos0 else s.kvt.pos1

/-- Whether a position holds an epoch newer than the current one (02 R38, R40): loaded by phase 1 and not designated yet. -/
def isNewer (s : State) (x : EpochKey) : Bool := s.dom.epoch < x.num

/-- The epoch key that SBX has designated for sending: that of the current epoch (02 R39, R40). -/
def sendKey (s : State) : Option EpochKey := (epochKeyAt s s.kvt.sendPos).filter (fun x => x.num = s.dom.epoch)

/-- The position that holds the older of two keys once phase 2 has committed (02 R40). -/
def olderPos (s : State) : Option Nat :=
  match s.kvt.pos0, s.kvt.pos1 with
  | some x, some y => if (sendKey s).isNone then none else if x.num < s.dom.epoch then some 0 else if y.num < s.dom.epoch then some 1 else none
  | _, _ => none

/-- KVT_EPOCH reports the loaded positions (08 Table 08.9). -/
def refreshEpochs (s : State) : State :=
  let s := setReg s (pgKvt + 0x05C) (BitVec.ofNat 32 (b2n s.kvt.pos0.isSome + 2 * b2n s.kvt.pos1.isSome + 4 * s.kvt.sendPos))
  let s := setReg s (pgKvt + 0x060) (BitVec.ofNat 32 ((s.kvt.pos0.map EpochKey.num).getD 0))
  setReg s (pgKvt + 0x064) (BitVec.ofNat 32 ((s.kvt.pos1.map EpochKey.num).getD 0))

/-- Set the epoch key of a position. -/
def setEpochKey (s : State) (p : Nat) (x : Option EpochKey) : State :=
  refreshEpochs { s with kvt := if p = 0 then { s.kvt with pos0 := x } else { s.kvt with pos1 := x } }

/-- The epoch key of an epoch number that is loaded. -/
def loadedEpoch (s : State) (e : Nat) : Option (Nat × EpochKey) :=
  match s.kvt.pos0, s.kvt.pos1 with
  | some x, some y => if x.num = e then some (0, x) else if y.num = e then some (1, y) else none
  | some x, none => if x.num = e then some (0, x) else none
  | none, some y => if y.num = e then some (1, y) else none
  | none, none => none

/-- Erase a position's key with its cache entries (08 R207, 02 R40). -/
def eraseEpoch (s : State) (p : Nat) : State := setPkc (setEpochKey s p none) (s.kvt.pkc.filter (fun x => x.pos != p))

/-- A pair key through the cache: the key and the state with the entry most recently used (08 R207). -/
def pairKey (s : State) (p a b : Nat) : Option Bytes × State :=
  match s.kvt.pkc.find? (fun x => x.pos = p && x.lo = min a b && x.hi = max a b) with
  | some x => (some x.key, setPkc s (x :: s.kvt.pkc.filter (· != x)))
  | none => match epochKeyAt s p with
    | some ek =>
      let k := kPair ek.key.val a b ek.num
      (some k, setPkc s ((⟨p, min a b, max a b, k⟩ :: s.kvt.pkc).take 4096))
    | none => (none, s)

/-! ### The root file and the views of KVT's state -/

/-- DKEK is derived once root and BN are held (08 Table 08.2, R203), except after a life-cycle zeroise (07 R181). -/
def deriveDkek (s : State) : State :=
  match s.kvt.root, s.kvt.bn with
  | some r, some bn =>
    if s.kvt.refuseAll then s
    else
      let (k, s) := maskKey s (kDkek r.val bn)
      { s with kvt := { s.kvt with dkek := some k } }
  | _, _ => s

/-- The internal slots are filled, both banks under fresh masks, once their keys can be derived (08 R205, R212). -/
def fillInternal (s : State) : State :=
  if s.kvt.root.isNone || s.kvt.bn.isNone || s.kvt.scramble.isNone || s.kvt.refuseAll then s
  else
    ([0x00, 0x01, 0x02, 0x03] ++ (List.range 16).map (· + 0x10)).foldl (fun t k =>
      if (tblFind t.kvt.internal k).isSome then t
      else match internalKeys t (0xFF00 + k) with
        | some ks =>
          let (a, t) := maskKey t ks.ek
          let (b, t) := maskKey t ks.tk
          let (c, t) := maskKey t ks.gk
          { t with kvt := { t.kvt with internal := tblPut t.kvt.internal k (⟨a, b, Masked.zero, c⟩, ⟨a, b, Masked.zero, c⟩) } }
        | none => t) s

/-- A KeyID's slot is used: it becomes the most recently used; an internal slot that an erasure emptied is filled again (08 R216, R559). -/
def touchSlot (s : State) (k : Nat) : State :=
  if 0xFF00 ≤ k then fillInternal s
  else match slotOf s k with
    | some (n, x) =>
      { s with kvt := { s.kvt with useClock := s.kvt.useClock + 1, slots := tblPut s.kvt.slots n { x with used := s.kvt.useClock + 1 } } }
    | none => s

/-- The read-only registers of KVT show what it holds (08 Table 08.9): ROOT_READY, BN_READY, slots, pair keys, epoch positions. -/
def kvtView (s : State) : State :=
  let s := setRegBit (setRegBit s (pgKvt + 0x04C) 17 s.kvt.root.isSome) (pgKvt + 0x04C) 18 s.kvt.bn.isSome
  refreshEpochs (refreshSlots (setPkc s s.kvt.pkc))

/-! ### Erasure -/

/-- Retirements in progress end before their last step and leave no mark (08 R219): the RETIRE command completes with the status, and the slot goes. -/
def endRetirements (s : State) (st : Nat) : State :=
  let s := match s.kvt.cmd with
    | some c => if c.op = 0x07 then kvtDone s c st else s
    | none => s
  let s := (s.kvt.retiring.filter (fun x => x.2 != .orphan)).foldl (fun t x => match slotOf t x.1 with
    | some (n, y) => if y.st = .retiring then dropSlot t n else t
    | none => t) s
  { s with kvt := { s.kvt with retiring := (s.kvt.retiring.filter (fun x => x.2 = .ktab || x.2 = .orphan)).map (fun x => (x.1, .orphan)) } }

/-- End what KVT has in work with a status: the command in execution, queued ones, and loads with the requests held on them (08 R219, R223,
18 Table 18.5). -/
def endKvtWork (s : State) (st : Nat) : State :=
  let s := match s.kvt.cmd with
    | some c => kvtDone s c st
    | none => s
  let s := s.kvt.queue.foldl (fun t c => kvtReport t c st) s
  let s := endRetirements (s.kvt.loads.foldl (fun t l => loadEnds t l.keyId st) s) st
  { s with kvt := { s.kvt with loads := [], queue := [], cmd := none, pairWait := [] } }

/-- The key material outside the root file is erased (08 R559): slots, pair keys, the join slot, working registers. -/
def eraseVolatile (s : State) : State :=
  refreshSlots (setPkc { s with kvt := { s.kvt with slots := [], internal := [], join := JoinSlot.empty, remask := 0 } } [])

/-- The root file is erased (08 R223, R559). -/
def eraseRoot (s : State) : State :=
  let s := setRegBit s (pgKvt + 0x04C) 17 false
  refreshEpochs { s with kvt := { s.kvt with
    root := none, dkek := none, pos0 := none, pos1 := none, pendingKey := none, cdi1 := none, scramble := none, maskGen := none } }

/-- The zeroise line reaches KVT (08 R223): everything but BN is erased, commands and loads end with ABORTED, CTC's dirty units are lost. -/
def kvtZeroise (s : State) : State :=
  let s := endKvtWork s Status.aborted.code
  let s := eraseRoot (eraseVolatile s)
  zeroiseCtc { s with kvt := { s.kvt with zeroised := true } }

/-- An L2 reset of KVT (08 R559): the root file stays. -/
def kvtL2 (s : State) : State := eraseVolatile (endKvtWork s Status.unitGone.code)

/-- PD_KVT loses its power (04 R110, 08 R559): the root file goes; BN stays in PD_AON. -/
def kvtPowerLoss (s : State) : State :=
  let s := eraseRoot (eraseVolatile (endKvtWork s Status.unitGone.code))
  { s with kvt := { s.kvt with rootSt := .idle, sendPos := 0, zeroised := false } }

end Sys2Proof.Machine
end

