-- ==== Sys2Proof/Machine/TrsEnds.lean ====
section
/-!
DEFINITION. How TRS chunks end early (13 R374 to R376) and the status registers of TRS.
-/
namespace Sys2Proof.Machine

/-- Set the state of TRS. -/
def setTrs (s : State) (x : Trs) : State := { s with trs := x }

/-- CHUNKS_OPEN, CT_HELD and GROUPS_BUSY (13 Table 13.12). -/
def trsRefresh (s : State) : State :=
  let s := setFld s (pgTrs + 0x044) 6 0 s.trs.chunks.length
  let s := setRegBit s (pgTrs + 0x044) 7 s.trs.desc.isSome
  let busy := (List.range 8).foldl (fun a g => if s.trs.chunks.any (fun c => c.group = g) then a + 2 ^ g else a) 0
  setFld s (pgTrs + 0x044) 15 8 busy

/-- The completion of a descriptor on CT (03 R90, 13 R352). -/
def ctComplete (s : State) (handle st : Nat) : State := emit s ⟨.ct, 0, 0, st, handle, leBytes 6 handle ++ [BitVec.ofNat 8 st, 0]⟩

/-- Present a completion, or keep it until the reset of TRS ends (13 R374). -/
def ctAnswer (s : State) (hold : Bool) (handle st : Nat) : State :=
  if hold then setTrs s { s.trs with comps := s.trs.comps ++ [(handle, st)] } else ctComplete s handle st

/-- The completions kept during a reset are presented after it. -/
def ctPresent (s : State) : State := s.trs.comps.foldl (fun t c => ctComplete t c.1 c.2) (setTrs s { s.trs with comps := [] })

/-- A chunk leaves: its rows are to be cleared, its staged frames add nothing more (13 R376). -/
def trsDrop (s : State) (c : Chunk) : State :=
  let x := s.trs
  let clr := if c.rows = 0 then x.clearing else x.clearing ++ [⟨c.group, c.inst, c.rows⟩]
  trsRefresh (setTrs s { x with
    chunks := x.chunks.filter (fun d => d.id != c.id)
    staged := x.staged.map (fun f => if f.chunk = some c.id then { f with chunk := none, vals := [] } else f)
    clearing := clr })

/-- A chunk ends early with a status (13 R374). -/
def trsEnd (s : State) (hold : Bool) (c : Chunk) (st : Nat) : State :=
  incSat (ctAnswer (trsDrop s c) hold c.desc.handle st) (pgTrs + 0x04C) 31 0 1

/-- Every chunk that meets a condition ends with a status. -/
def trsEndWhere (s : State) (hold : Bool) (st : Nat) (p : Chunk → Bool) : State :=
  (s.trs.chunks.filter p).foldl (fun t c => trsEnd t hold c st) s

/-- The chunks of an instance whose generation changed end: discarded and counted (01 R28, 13 Table 13.10). -/
def trsGone (s : State) (i : Nat) : State := (s.trs.chunks.filter (fun c => c.inst = i)).foldl (fun t c => genDiscard (trsDrop t c) (some i)) s

/-- The descriptor in the judging register ends with a status. -/
def trsDescEnd (s : State) (hold : Bool) (st : Nat) : State :=
  match s.trs.desc with
  | some d => trsRefresh (ctAnswer (setTrs s { s.trs with desc := none }) hold (d.toNat % 2 ^ 48) st)
  | none => s

/-- A reset of TRS begins (13 Table 13.10): L1 ends the chunks of the failing lane group, L2 and L3 every one; L4 presents nothing (R375). -/
def trsReset (s : State) (level : Nat) : State :=
  if level = 1 then
    (let s := trsEndWhere s true Status.unitGone.code (fun c => s.trs.failing = none || s.trs.failing = some c.group)
     setTrs s { s.trs with failing := none })
  else if level = 4 then trsRefresh (setTrs s { Trs.reset with nextId := s.trs.nextId })
  else
    let s := trsDescEnd (trsEndWhere s true Status.unitGone.code (fun _ => true)) true Status.unitGone.code
    trsRefresh (setTrs s { s.trs with staged := [], clearing := [], failing := none })

/-- The zeroise line (01 R27, 13 R376): every chunk ends with ABORTED, every row and staging entry is cleared. -/
def trsZeroise (s : State) : State :=
  let s := trsDescEnd (trsEndWhere s false Status.aborted.code (fun _ => true)) false Status.aborted.code
  trsRefresh (setTrs s { s.trs with staged := [], clearing := [] })

/-- The records of the open handles that a capture lists (13 R375, 19 R489): instance and HANDLE. -/
def trsHandles (s : State) : List Rec :=
  s.trs.chunks.map (fun c => mkRec s rcOpenHandle uTrs 0 (some c.inst) c.inst (c.desc.handle % 2 ^ 32) (c.desc.handle / 2 ^ 32))

end Sys2Proof.Machine
end

