-- ==== Sys2Proof/Machine/ImuOps.lean ====
section
/-!
DEFINITION. IMU as shared operations (17): instance records, lost contexts, wait slots and watches, the start of a KeyID's retirement, the change of a
generation, and the steps of a tenant switch.
-/
namespace Sys2Proof.Machine

/-! ### Records -/

/-- An instance record. -/
def instRec (s : State) (i : Nat) : InstRec := (tblFind s.imu.inst i).getD InstRec.free

/-- Replace what IMU holds. -/
def setImu (s : State) (x : Imu) : State := { s with imu := x }

/-- Set an instance record. -/
def setInst (s : State) (i : Nat) (x : InstRec) : State := setImu s { s.imu with inst := tblSet InstRec.free s.imu.inst i x }

/-- The sum of a field of SLICE over the instances. -/
def sliceSum (s : State) (hi lo : Nat) : Nat := s.imu.inst.foldl (fun n x => n + getFld s (instPage x.1 + 0x04C) hi lo) 0

/-- The union of the TRS masks of the instances but one. -/
def trsTaken (s : State) (but : Option Nat) : Nat :=
  s.imu.inst.foldl (fun m x => if some x.1 = but then m else m ||| getFld s (instPage x.1 + 0x04C) 31 24) 0

/-- The status words of the IMU page (17 Table 17.7). -/
def imuRefresh (s : State) : State :=
  let s := setFld s (pgImu + 0x040) 12 0 s.imu.pasids.length
  let s := setFld s (pgImu + 0x040) 24 16 ((s.imu.inst.filter (fun x => x.2.st != .free)).length)
  let a := pgImu + 0x04C
  let s := setFld s a 13 0 (8192 - ksSum s)
  let s := setFld s a 17 14 ((partWays s 2).2 - sliceSum s 3 0)
  let s := setFld s a 21 18 ((partWays s 1).2 - sliceSum s 7 4)
  let s := setFld s a 28 22 (96 - sliceSum s 14 8)
  setFld (setFld s (pgImu + 0x050) 7 0 (255 - trsTaken s none)) (pgImu + 0x050) 18 8 s.imu.watches.length

/-- An instance enters a state: a change advances the page's EPOCH (17 R437, 05 R144). -/
def setInstSt (s : State) (i : Nat) (st : InstSt) : State :=
  let x := instRec s i
  imuRefresh (setInst (if x.st = st then s else bumpEpoch s (instPage i)) i { x with st := st })

/-! ### Wait slots (17 R459) -/

/-- A wait slot ends with a status: WAIT_DONE, WAIT_STS, the watch goes, and the wait source raises an event. -/
def waitEnd (s : State) (i slot st : Nat) : State :=
  let a := instPage i + 0x218
  let s := setRegBit (setRegBit s a slot true) a (16 + slot) false
  let s := setFld s (instPage i + 0x240 + slot / 4 * 4) (8 * (slot % 4) + 7) (8 * (slot % 4)) st
  let s := setImu s { s.imu with watches := s.imu.watches.filter (fun w => !(w.inst = i && w.slot = slot)) }
  imuRefresh (irqEvent s 0xF2 (some i) st slot 0 0)

/-- The wait slots of an instance are cleared without a status (17 Table 17.4). -/
def waitClear (s : State) (i : Nat) : State :=
  let s := setImu s { s.imu with watches := s.imu.watches.filter (fun w => w.inst != i) }
  imuRefresh (setFld s (instPage i + 0x218) 31 16 0)

/-- A commit to bytes from address `a` on: every watch of a word in them whose target is reached ends with OK. -/
def watchCommit (s : State) (a : Nat) (b : Bytes) : State :=
  (s.imu.watches.filter (fun w => a ≤ w.addr && w.addr + 8 ≤ a + b.length && w.target ≤ leNat ((b.drop (w.addr - a)).take 8))).foldl
    (fun t w => waitEnd t w.inst w.slot 0) s

/-- Every wait on an object ends with ABORTED (17 R460). -/
def waitsAbort (s : State) (obj : Nat) : State :=
  (s.imu.watches.filter (fun w => w.obj = obj)).foldl (fun t w => waitEnd t w.inst w.slot Status.aborted.code) s

/-! ### Objects (17 R454 to R458) -/

/-- The instance that holds an object page. -/
def objPageOwner (s : State) (pg : Nat) : Option Nat := (s.imu.inst.find? (fun x => x.2.objPage = some pg)).map Prod.fst

/-- An object slot of an instance. -/
def objAt (s : State) (i slot : Nat) : Obj := (tblFind (instRec s i).objs slot).getD ⟨false, 0, false⟩

/-- Set an object slot. -/
def setObj (s : State) (i slot : Nat) (o : Obj) : State :=
  let x := instRec s i
  setInst s i { x with objs := tblSet ⟨false, 0, false⟩ x.objs slot o }

/-- A handle (17 R454). -/
def objHandle (s : State) (i slot : Nat) : Nat :=
  let o := objAt s i slot
  s.dom.ownId % 2 ^ 14 + b2n o.event * 2 ^ 14 + (i * 256 + slot) * 2 ^ 16 + o.serial % 2 ^ 16 * 2 ^ 32

/-- The KeyID of an object page: that of its JCT winner. -/
def objKey (s : State) (pg : Nat) : Nat :=
  match winner s.jct.active pg with
  | some (_, x) => x.ksrc
  | none => 0

/-- What a handle names for an instance that signals or waits (17 R458): index, word address, KeyID; none where it is refused. -/
def objOf (s : State) (i h : Nat) : Option (Nat × Nat × Nat) :=
  let n := h / 2 ^ 16 % 2 ^ 16
  let j := n / 256
  let slot := n % 256
  match (instRec s j).objPage with
  | none => none
  | some pg =>
    let k := objKey s pg
    if (objAt s j slot).valid && h = objHandle s j slot && ((tblFind s.imu.binds k).getD []).contains i then some (n, pg * 4096 + 8 * slot, k) else none

/-! ### Lost contexts (17 R452, R453) -/

/-- IMU marks a context of an instance lost, once; a mark that would exceed a limit sets ALL_LOST. Chunks and descriptors that carry it end. -/
def loseContext (s : State) (i c : Nat) : State :=
  let x := instRec s i
  if regBit s (instPage i + 0x040) 9 || x.lost.contains c then s
  else
    let total := s.imu.inst.foldl (fun n y => n + y.2.lost.length) 0
    if 64 ≤ x.lost.length || 4096 ≤ total then
      let s := fireAs (setRegBit s (instPage i + 0x040) 9 true) pgImu 2 rcImuLimit (some i) i 1 0
      let s := trsEndWhere s false Status.contextLost.code (fun d => d.inst = i)
      cceEndWhere s Status.contextLost.code (fun q _ => !q.fw && q.inst = i)
    else
      let s := setInst s i { x with lost := x.lost ++ [c] }
      let s := setFld s (instPage i + 0x040) 16 10 (x.lost.length + 1)
      cceCtxLost (trsEndWhere s false Status.contextLost.code (fun d => d.inst = i && d.desc.ctx = c)) i c

/-- The lost contexts of an instance are cleared. -/
def clearLost (s : State) (i : Nat) : State :=
  setFld (setRegBit (setInst s i { instRec s i with lost := [] }) (instPage i + 0x040) 9 false) (instPage i + 0x040) 16 10 0

/-! ### Retirement (08 R219) -/

/-- The units end what runs under a KeyID whose retirement starts: chunks, bounce pairs, descriptors (13 Table 13.10, 15 R407, 16 Table 16.4). -/
def retireUnits (s : State) (k : Nat) : State :=
  let s := trsEndWhere s false Status.keyRetired.code (fun c => c.desc.keyId = k)
  cceRetired (pairCloseWhere s (fun p => p.keyId = k)) k

/-- The retirement of a KeyID commits (08 R219): its load is abandoned, its slot is RETIRING, chunks, pairs and queues under it end. -/
def retireCommit (s : State) (k : Nat) : State :=
  let s := { s with kvt := { s.kvt with retiring := tblPut s.kvt.retiring k .drain } }
  let s := loadEnds s k Status.keyRetired.code
  let s := match slotOf s k with
    | some (n, x) => if x.st = .live then putSlot s n { x with st := .retiring } else s
    | none => s
  retireUnits s k

/-! ### The change of a generation (17 R450, R451, Table 17.4) -/

/-- The spans free what they hold outstanding for an instance; each entry counts as a discard. -/
def freeRemote (s : State) (i : Nat) : State :=
  (List.range 18).foldl (fun t n =>
    let gone := (spanAt t n).outst.filter (fun o => o.2.req.inst = some i)
    if gone = [] then t
    else
      let t := mapSpan t n (fun x => { x with outst := x.outst.filter (fun o => o.2.req.inst != some i) })
      gone.foldl (fun u o => genDiscard (if o.2.req.src = .fm && o.2.req.isStore then storeDone u o.2.engine o.2.req.tag 0 else u) (some i)) t) s

/-- The ordering unit discards the instance's waiting flags (12 R335). -/
def freeFlags (s : State) (i : Nat) : State :=
  let mine := s.ttb.flags.filter (fun f => f.req.inst = some i)
  let s := { s with ttb := { s.ttb with flags := s.ttb.flags.filter (fun f => f.req.inst != some i) } }
  let s := setFld s (pgTtb + 0x0C4) 6 0 s.ttb.flags.length
  mine.foldl (fun t _ => genDiscard t (some i)) s

/-- The commit of a generation change: the generation advances, the PASIDs are unmapped, and the instance's work ends (17 R450, Table 17.4). -/
def genCommit (s : State) (i : Nat) : State :=
  let s := incWrap s (instPage i + 0x040) 7 0 1
  let s := setImu s { s.imu with pasids := s.imu.pasids.filter (fun p => p.2 != i) }
  let s := freeFlags (freeRemote s i) i
  let s := pairCloseWhere (cceGone (trsGone s i) i) (fun p => p.inst = i)
  let s := setInst s i { instRec s i with sig := none }
  waitClear (setRegBit s (instPage i + 0x234) 8 false) i

/-- Whether the instance's work has drained: no admitted request and no access of a unit carries an old generation. -/
def drained (s : State) (i : Nat) : Bool :=
  let old (j : Option Nat) (g : Nat) : Bool := j = some i && g != instGen s i
  !(s.engs.any (fun e => e.2.slots.any (fun a => old a.2.snap.inst a.2.snap.gen) || e.2.remoteQ.any (fun q => old q.inst q.gen))
    || s.wrc.replays.any (fun r => r.items.any (fun a => old a.2.snap.inst a.2.snap.gen)))

/-! ### The tenant switch (17 R461 to R463) -/

/-- Change the sequence in progress of an instance. -/
def mapSeq (s : State) (i : Nat) (f : InstSeq → InstSeq) : State :=
  let x := instRec s i
  setInst s i { x with seq := x.seq.map f }

/-- Start the retirement of the next KeyID left without a binding; a KeyID whose KTAB write failed stays retiring and is not waited for. -/
def nextKey (s : State) (i : Nat) : List Nat → State
  | [] => mapSeq s i (fun q => { q with keys := [], retiring := none })
  | k :: ks =>
    match tblFind s.kvt.retiring k with
    | some .ktabFailed => nextKey s i ks
    | some .drain | some .writeback | some .ktab => mapSeq s i (fun q => { q with keys := ks, retiring := some k })
    | some .orphan | none => retireCommit (mapSeq s i (fun q => { q with keys := ks, retiring := some k })) k

/-- The instance leaves every binding; the KeyIDs left with none (17 Table 17.5 step 3). -/
def unbindAll (s : State) (i : Nat) : State × List Nat :=
  (s.imu.binds.filter (fun b => b.2.contains i)).foldl (fun a b =>
    let rest := b.2.filter (· != i)
    if rest = [] then
      (setImu a.1 { a.1.imu with binds := tblDel a.1.imu.binds b.1, leaving := tblPut a.1.imu.leaving b.1 [i] }, a.2 ++ [b.1])
    else (setImu a.1 { a.1.imu with binds := tblPut a.1.imu.binds b.1 rest }, a.2)) (s, [])

/-- The SC_TAGs in use (03 R91). -/
def scTags (s : State) : List Nat := s.imu.inst.flatMap (fun x => (x.2.seq.elim [] InstSeq.out).map Prod.fst)

/-- A scrub-bus command (03 R91). -/
def scDrive (s : State) (tag : Nat) (r : ScRange) : State := emit s ⟨.sc, 0, tag, 0, r.base, leBytes 1 r.tgt ++ leBytes 3 r.len⟩

/-- Give scrub-bus commands for the ranges of an instance while a tag is free (17 Table 17.5 step 5). -/
def scIssue (s : State) (i : Nat) : State :=
  let todo := (instRec s i).seq.elim [] InstSeq.ranges
  todo.foldl (fun t r =>
    match (List.range 16).find? (fun g => !(scTags t).contains g) with
    | some g => scDrive (mapSeq t i (fun q => { q with ranges := q.ranges.drop 1, out := q.out ++ [(g, r, now t)] })) g r
    | none => t) s

/-- The INSTANCE record (22 Table 22.8). -/
def recordInstance (s : State) (i cmd st : Nat) : State := recordInst s pgImu rcInstance (some i) i cmd st

/-- Step 6 once steps 3, 4 and 5 are complete (17 R461, R463). -/
def switchFinish (s : State) (i : Nat) : State :=
  match (instRec s i).seq with
  | none => s
  | some q =>
    if q.cmd = 0x08 || !q.drained || q.keys != [] || q.retiring.isSome || !q.scrubbed || q.ranges != [] || q.out != [] then s
    else
      let x := { instRec s i with seq := none }
      let st := if q.aborted then Status.aborted.code else 0
      let s := if q.aborted then setInstSt (fire (setInst s i x) pgImu 3) i .scrubPending
        else if q.cmd = 0x09 then setInstSt (setInst s i { x with owner := q.owner }) i .active
        else
          let s := setInstSt (setInst s i { x with owner := [], scratch := [] }) i .free
          imuRefresh (setReg (setReg s (instPage i + 0x048) 0) (instPage i + 0x04C) 0)
      let s := incSat s (pgImu + 0x048) 31 0 1
      mbDone (recordInstance s i q.cmd st) i false q.cmd q.seq st

/-- The drain of an instance is complete (17 R450, R461): a RESET returns to ACTIVE, a switch goes on with steps 3 and 5. -/
def drainDone (s : State) (i : Nat) : State :=
  match (instRec s i).seq with
  | none => s
  | some q =>
    if q.drained then s
    else if q.cmd = 0x08 then
      let s := setInstSt (setInst (clearLost s i) i { instRec (clearLost s i) i with seq := none }) i .active
      mbDone (recordInstance s i 0x08 0) i false 0x08 q.seq 0
    else
      let s := mapSeq s i (fun q => { q with drained := true, ranges := (instRec s i).scratch })
      let (s, ks) := unbindAll s i
      switchFinish (scIssue (nextKey s i ks) i) i

/-- A KeyID's retirement is over (08 R219): an UNBIND that waits for it completes, and the switches that wait for it go on. -/
def imuRetired (s : State) (k st : Nat) : State :=
  let s := setImu s { s.imu with leaving := if st = 0 then tblDel s.imu.leaving k else s.imu.leaving }
  (s.imu.inst.map Prod.fst).foldl (fun t i =>
    let x := instRec t i
    let t := match x.mWait with
      | some w => if w.cmd = 0x07 && w.arg = k then mbDone t i false 0x07 w.seq st else t
      | none => t
    match x.seq with
    | some q => if q.retiring = some k then switchFinish (nextKey t i q.keys) i else t
    | none => t) s

end Sys2Proof.Machine
end

