-- ==== Sys2Proof/Machine/EngEnds.lean ====
section
/-!
DEFINITION. What a memory-engine request selects (03 R71, 12 R325 to R327), and how an engine's slots empty (10 R260, Table 10.8).
-/
namespace Sys2Proof.Machine

/-! ### What a request selects -/

/-- The data page of a request. -/
def Req.page (q : Req) : Nat := q.addr / 4096

/-- The selected granules: position in the 256 B pair, granule number in the page (03 R71 FM_GMASK). -/
def Req.granules (q : Req) : List (Nat × Nat) :=
  ((List.range 2).filter (fun j => q.gmask.testBit j)).map (fun j => (j, (q.addr / 256 * 2 + j) % 32))

/-- The write enables of granule `j` of the pair. -/
def Req.enables (q : Req) (j : Nat) : List Bool := (q.wbe.drop (128 * j)).take 128

/-- The write data of granule `j` of the pair. -/
def Req.half (q : Req) (j : Nat) : Bytes := (q.wdata.drop (128 * j)).take 128

/-- Whether a write enables every byte of every selected granule: reservable (10 R260). -/
def Req.full (q : Req) : Bool := q.granules.all (fun g => (q.enables g.1).length = 128 && (q.enables g.1).all id)

/-- Whether no byte is enabled. -/
def Req.empty (q : Req) : Bool := q.wbe.all (!·)

/-- A write or a flag's store that enables whole granules. -/
def Req.fullWrite (q : Req) : Bool := (q.op = 1 || q.op = 4) && q.full

/-- A read or a combinable read. -/
def Req.isRead (q : Req) : Bool := q.op = 0 || q.op = 2

/-- A pure ordering point (12 R333). -/
def Req.pure (q : Req) : Bool := q.op = 4 && q.empty

/-- The first and the number of the enabled bytes of a granule of the pair. -/
def Req.word (q : Req) (j : Nat) : Nat × Nat :=
  let e := q.enables j
  ((e.takeWhile (!·)).length, (e.filter id).length)

/-- Whether an atomic has the shape R327 asks for. -/
def Req.atomicShape (q : Req) : Bool :=
  match q.granules with
  | [(j, _)] =>
    let (o, w) := q.word j
    (w = 4 || w = 8) && o % w = 0 && ((q.enables j).drop o |>.take w).all id && (q.enables (1 - j)).all (!·)
  | _ => false

/-- The refusals of R72, R326 and R327, which come before IMU. -/
def Req.malformed (q : Req) : Bool :=
  4 < q.op || q.gmask = 0 || (q.op = 3 && (9 < q.aop || !q.atomicShape)) || (q.op != 3 && q.aop != 0)

/-- Whether a request's home is this block (03 R73). -/
def Req.isLocal (s : State) (q : Req) : Bool := q.home = s.dom.ownId

/-- Channel line of a page. -/
def lineOf (q : Req) : Nat := channelPage q.page

/-- The tag lines that a request uses. -/
def tagLines (q : Req) : List Nat := (q.granules.map (fun g => (lineOf q * 32 + g.2) / 8)).eraseDups

/-- The lines a class S or I request uses. -/
def unitsOf (q : Req) : List (LineKind × Nat) := (.ctr, lineOf q) :: (tagLines q).map (fun t => (.tag, t))

/-! ### Slots -/

/-- Pin or unpin the lines of a request (10 R260). -/
def pinLines (s : State) (e : Nat) (q : Req) (up : Bool) : State :=
  (unitsOf q).foldl (fun t u => mapLine t e u.1 u.2 (fun x => { x with pins := if up then x.pins + 1 else x.pins - 1 })) s

/-- SLOTS_USED of an engine (10 Table 10.13). -/
def refreshEng (s : State) (e : Nat) : State :=
  let g := engAt s e
  let a := engPage e + 0x040
  setRegBit (setFld (setFld s a 6 0 g.slots.length) a 12 8 g.hold) a 13 g.reseal.isSome

/-- A slot is given its request's new record. -/
def putSlotAdm (s : State) (e n : Nat) (a : Adm) : State :=
  let g := engAt s e
  refreshEng (setEng s e { g with slots := tblPut g.slots n a }) e

/-- A slot is freed and its pins released; those of a write handed to the re-seal machine went at the hand-over (10 R260, R261). -/
def freeSlot (s : State) (e n : Nat) : State :=
  let g := engAt s e
  match tblFind g.slots n with
  | some a =>
    let s := if (a.snap.cls = .s || a.snap.cls = .i) && a.stage != .reseal then pinLines s e a.req false else s
    let g := engAt s e
    refreshEng (setEng s e { g with slots := tblDel g.slots n, sets := g.sets.filter (fun c => c.leader != n) }) e
  | none => s

/-- The response of an admitted request; one whose generation has changed is discarded and counted (01 R28). -/
def answer (s : State) (e : Nat) (a : Adm) (st : Nat) (desc : List (Nat × Nat × Bytes)) (data : Bytes) : State :=
  if genFresh s a.snap.inst a.snap.gen then respondAs s e { a.req with inst := a.snap.inst, gen := a.snap.gen } st a.snap.cls.code a.ballast desc data
  else
    let s := genDiscard s a.snap.inst
    if a.req.src = .fm && a.req.isStore then storeDone s e a.req.tag st else s

/-- An admitted request completes and leaves. -/
def finishSlot (s : State) (e n st : Nat) (desc : List (Nat × Nat × Bytes)) (data : Bytes) : State :=
  match tblFind (engAt s e).slots n with
  | some a => freeSlot (if a.responded then s else answer s e a st desc data) e n
  | none => s

end Sys2Proof.Machine
end

