-- ==== Sys2Proof/Machine/SpanEnds.lean ====
section
/-!
DEFINITION. How a span's outstanding requests and payloads end (11 R312, 03 R81), peer entries (18 R477), the gauge requests (11 R320 to R322), and
the frames that TRS has staged (13 R362).
-/
namespace Sys2Proof.Machine

/-- A register of a span. -/
def vReg (s : State) (n o : Nat) : Nat := (rawReg s (pgVdt n + o)).toNat

/-- OUTSTANDING, RSP_RSV of a span (11 Table 11.13, 18 Table 18.6). -/
def refreshSpan (s : State) (n : Nat) : State :=
  let x := spanAt s n
  setFld (setFld s (pgVdt n + 0x040) 26 16 x.outst.length) (pgVdt n + 0x154) 16 0 x.rsv

/-- An outstanding request completes at its FM port. -/
def completeOut (s : State) (n idx st : Nat) (data : Bytes) : State :=
  match tblFind (spanAt s n).outst idx with
  | some o =>
    let s := refreshSpan (mapSpan s n (fun x => { x with outst := tblDel x.outst idx })) n
    if genFresh s o.req.inst o.req.gen then respond s o.engine o.req st data
    else
      let s := genDiscard s o.req.inst
      if o.req.isStore then storeDone s o.engine o.req.tag st else s
  | none => s

/-- Every outstanding request of a span that meets a condition completes. -/
def completeWhere (s : State) (n st : Nat) (p : OutReq → Bool) : State :=
  ((spanAt s n).outst.filter (fun x => p x.2)).foldl (fun t x => completeOut t n x.1 st []) s

/-- A peer entry (18 R477). -/
def peerAt (s : State) (n id : Nat) : Peer := (tblFind (spanAt s n).peers id).getD ⟨0, 0, none⟩

/-- Set a peer entry. -/
def setPeer (s : State) (n id : Nat) (x : Peer) : State := mapSpan s n (fun y => { y with peers := tblSet ⟨0, 0, none⟩ y.peers id x })

/-- NR_HDR (03 Table 03.4): source ID, flow, PASID, KeyID, context. A payload that returns to its sender names this member as its source (log 108). -/
def nrHeader (x : NiItem) : Nat := x.peer % 2 ^ 14 + x.flow % 2 ^ 12 * 2 ^ 14 + x.pasid % 2 ^ 20 * 2 ^ 28 + x.keyId % 2 ^ 16 * 2 ^ 48 + x.ctx % 2 ^ 24 * 2 ^ 64

/-- A payload leaves on NR with NR_HDR and NR_STAT. -/
def emitNr (s : State) (n : Nat) (x : NiItem) (st : Nat) : State := emit s ⟨.nr, n, x.flow, st, nrHeader x, x.data⟩

/-- A payload returns on NR with a status and zero data (03 R81); one of TRS is answered to TRS. -/
def niReturn (s : State) (n : Nat) (x : NiItem) (st : Nat) : State :=
  match x.trs with
  | some h => { s with ttb := { s.ttb with replies := s.ttb.replies ++ [⟨.trs h 0xFFFF, 0, st, []⟩] } }
  | none => if genFresh s x.inst x.gen then emitNr s n { x with peer := s.dom.ownId, data := zeros x.data.length } st else genDiscard s x.inst

/-- The narrowest of the bounds in force: WIDEST, thermal (4 lanes), sleep (1 lane). -/
def gaugeFloor (s : State) (n : Nat) : Nat :=
  let g := (spanAt s n).gauge
  let w := getFld s (pgVdt n + 0x070) 1 0
  if g.sleep then 3 else if g.thermal then max w 1 else w

/-- Request a gauge on LK_GAUGE_REQ (port number of the pin output is the span), in place of a request that is not acknowledged yet (11 R322, 04 R124). -/
def gaugeDrive (s : State) (n g : Nat) : State :=
  if (spanAt s n).gauge.req.getD (getFld s (pgVdt n + 0x040) 14 13) = g then s
  else emit (mapSpan s n (fun x => { x with gauge := { x.gauge with req := some g, low := 0 } })) ⟨.lt, n, 0xFFFF, g, 0, []⟩

/-- Adaptation requests a gauge while no request is outstanding (11 R321). -/
def gaugeAsk (s : State) (n g : Nat) : State := if (spanAt s n).gauge.req.isSome then s else gaugeDrive s n g

/-- OVERRIDE of SPAN_STAT, and the record at its start or end (11 R322). -/
def gaugeOverride (s : State) (n kind : Nat) (on : Bool) : State :=
  let g := (spanAt s n).gauge
  record (setRegBit s (pgVdt n + 0x040) 15 (g.thermal || g.integrity || g.sleep)) (pgVdt n) rcLinkOverride n kind (b2n on)

/-- A change of a peer's state is counted and recorded (18 R477, 22 Table 22.8). -/
def peerState (s : State) (n id st : Nat) : State :=
  let x := peerAt s n id
  if x.st = st then s
  else record (incSat (setPeer s n id { x with st := st, since := now s }) (pgVdt n + 0x174) 31 0 1) (pgVdt n) rcPeerState n id st

/-- Add `k` to the reserved counts of a range. -/
def reserve (t : Tbl Elem) (off n : Nat) (k : Int) : Tbl Elem :=
  (List.range n).foldl (fun u j =>
    let e := tblGet Elem.zero u (off + j)
    tblSet Elem.zero u (off + j) { e with rsv := ((e.rsv : Int) + k).toNat }) t

/-- Replace a chunk. -/
def putChunk (s : State) (c : Chunk) : State :=
  setTrs s { s.trs with chunks := s.trs.chunks.map (fun d => if d.id = c.id then c else d) }

/-- A frame that the span did not pass has its reservations withdrawn (13 R362). -/
def trsWithdraw (s : State) (f : Staged) : State :=
  let s := setTrs s { s.trs with staged := s.trs.staged.erase f }
  match s.trs.chunks.find? (fun c => f.chunk = some c.id) with
  | some c => putChunk s { c with elems := reserve c.elems f.off f.vals.length (-(f.weight : Int)) }
  | none => s

end Sys2Proof.Machine
end

