-- ==== Sys2Proof/Machine/Flush.lean ====
section
/-!
DEFINITION. How the items inside and outside a unit end when its reset begins (10 Table 10.8, 13 Table 13.10, 16 Table 16.4, 18 Table 18.5),
when its power goes, when a port goes down (03 R69, R82), and when the zeroise line is asserted (01 R27, 08 R223); what a unit does once it is
released; and what sleep, gating and the throttle ask of the units (04).
-/
namespace Sys2Proof.Machine

/-! ### Pages -/

/-- The pages from instance `n` on, `k` of them. -/
def pagesFrom (u n : Nat) : Nat → List Nat
  | 0 => []
  | k + 1 => page u n :: pagesFrom u (n + 1) k

/-- Every unit page. -/
def allPages : List Nat :=
  [pgSbx, pgKvt, pgEnt, pgLco, pgJct, pgTtb] ++ pagesFrom uMea 0 32 ++ pagesFrom uMeb 0 8 ++ [pgCtc] ++ pagesFrom uVdt 0 18
    ++ [pgTrs, pgHgt, pgCce, pgImu, pgInc, pgEvr, pgTtu, pgWrc, pgPmu, pgCru, pgTmp]

/-- The state of a port's up signal path: whether the port is up (03 R69). -/
def portUp (s : State) (p : Nat) : Bool := ((tblFind s.ports p).getD Port.zero).up

/-! ### Memory engines -/

/-- The pins that a re-seal holds are released, and it is over. -/
def dropReseal (s : State) (e : Nat) : State :=
  match (engAt s e).reseal with
  | some r =>
    let s := r.pins.foldl (fun t u => mapLine t e u.1 u.2 (fun y => { y with pins := y.pins - 1 })) s
    refreshEng (setEng s e { engAt s e with reseal := none }) e
  | none => s

/-- Admitted requests that meet a condition end with a status and leave; one that was answered already only leaves (10 Table 10.8). -/
def endSlots (s : State) (e st : Nat) (p : Adm → Bool) : State :=
  ((engAt s e).slots.filter (fun x => p x.2)).foldl (fun t x => finishSlot t e x.1 st [] []) s

/-- The reads that an engine has outstanding are given up, and the fills that wait on them are over. With `acks` the writes still await xx_BVALID, and
nothing follows from it but that their units may be read again (03 R77); otherwise the port answers nothing more. With `keep` the writes that were not
presented yet wait on. -/
def dropTxs (s : State) (e : Nat) (acks keep : Bool) : State :=
  let kept := if acks then ((engAt s e).txs.filter (fun x => x.2.wr)).map (fun x => (x.1, { x.2 with purpose := .writeback })) else []
  let queued := if keep then ((engAt s e).txq.filter (fun x => x.1.wr)).map (fun x => ({ x.1 with purpose := .writeback }, x.2)) else []
  let s := setEng s e { engAt s e with txs := kept, txq := queued, sets := [] }
  { s with ctc := { s.ctc with fills := s.ctc.fills.filter (fun f => !(f.tree = e && f.returned.isNone)) } }

/-- A request that waits for an engine completes with UNIT_GONE, or is discarded (18 Table 18.5, 01 R28). -/
def goneReq (e : Nat) (s : State) (q : Req) : State :=
  countGone (if genFresh s q.inst q.gen then respond s e q Status.unitGone.code [] else genDiscard s q.inst) 1

/-- The requests that wait outside an engine for it end: its ingress register, remote queue and service register. -/
def endWaiting (s : State) (e : Nat) : State :=
  let g := engAt s e
  let s := refreshEng (setEng s e { g with ingress := none, hold := 0, remoteQ := [], service := [] }) e
  (g.ingress.toList ++ g.remoteQ ++ g.service).foldl (goneReq e) s

/-- A reset of a memory engine begins (10 Table 10.8, 18 Table 18.5); with its power goes what its port owed. -/
def engReset (s : State) (e level : Nat) : State :=
  endWaiting (dropTxs (dropReseal (endSlots s e Status.unitGone.code (fun _ => true)) e) e (level < 3) (level < 3)) e

/-- A tier-A bank group loses its power with its island: its lines, its directory entries and the copies it held go (10 R267, R281). -/
def bankGroupOff (s : State) (g : Nat) : State :=
  let s := loseGroup s g
  { s with coh :=
    ⟨s.coh.dir.filter (fun d => bankGroup d.tree != g), s.coh.copies.filter (fun c => bankGroup c.tree != g), s.coh.reqs.filter (fun r => bankGroup r.tree != g),
      s.coh.late.filter (fun d => bankGroup d.1 != g), s.coh.cts.filter (fun c => (engineOfPage c.page).all (fun e => bankGroup e != g))⟩ }

/-- An L2 of CTC: fills are given up, and the requests held for one complete with UNIT_GONE (18 Table 18.5). -/
def ctcReset (s : State) : State :=
  let s := { s with ctc := { s.ctc with fills := [] } }
  (List.range 40).foldl (fun t e =>
    let g := engAt t e
    match g.ingress with
    | some q => if 7 ≤ g.hold && g.hold ≤ 9 then goneReq e (refreshEng (setEng t e { g with ingress := none, hold := 0 }) e) q else t
    | none => t) s

/-! ### Spans -/

/-- A payload or request that waits for egress ends with a status; what carries no request of ours is discarded. -/
def endItem (n st : Nat) (s : State) (i : TxItem) : State :=
  match i with
  | .fm e =>
    (match (engAt s e).ingress with
     | some q => respond (refreshEng (setEng s e { engAt s e with ingress := none, hold := 0 }) e) e q st []
     | none => s)
  | .flag q e => respond s e q st []
  | .ni x => niReturn s n x st
  | _ => s

/-- Every item that waits for egress on a span ends; reservations of responses are released. -/
def endEgress (s : State) (n st : Nat) : State :=
  let q := (spanAt s n).outQ
  q.foldl (endItem n st) (refreshSpan (mapSpan s n (fun x => { x with outQ := [], rsv := 0, grants := 0 })) n)

/-- The queues of a span's dispatch entries end with a status; the round under way is over (14 R391). -/
def endDispatch (s : State) (n st : Nat) : State :=
  let items := (spanAt s n).dsp.flatMap (fun d => d.2.late.filterMap id ++ d.2.queue)
  let s := mapSpan s n (fun x => { x with dsp := x.dsp.map (fun d => (d.1, { d.2 with queue := [], late := [], running := false })) })
  items.foldl (fun t x => niReturn t n x st) s

/-- A payload held for NR ends with a status and zero data; an NT frame under way will be refused with it (03 R81, R84). -/
def endNi (s : State) (n st : Nat) : State :=
  let x := spanAt s n
  let s := mapSpan s n (fun y => { y with
    nrHeld := []
    nt := y.nt.map (fun t => match t with
      | .refused h k => .refused h k
      | .dispatch h _ => .refused h st
      | .admitted h _ _ _ => .refused h st) })
  x.nrHeld.foldl (fun t y => niReturn t n y.2.1 st) s

/-- The frames that TRS staged from a span whose verdict never comes (13 R362). -/
def endStaged (s : State) (n : Nat) : State := (s.trs.staged.filter (fun f => f.span = n)).foldl trsWithdraw s

/-- Every item of a span ends with a status; key material goes (01 R27, 18 Table 18.5). -/
def spanEnd (s : State) (n st : Nat) : State :=
  let s := completeWhere s n st (fun _ => true)
  let s := endNi (endDispatch (endEgress s n st) n st) n st
  let s := mapSpan (endStaged s n) n (fun x => { x with keys := [], rx := [] })
  { s with kvt := { s.kvt with pairWait := s.kvt.pairWait.filter (fun w => w.1 != n) } }

/-- The highest domain epoch number loaded (11 R300). -/
def topEpoch (s : State) : Nat := max ((s.kvt.pos0.map EpochKey.num).getD 0) ((s.kvt.pos1.map EpochKey.num).getD 0)

/-- A reset of a span (11 R300, R323, 14 R391, 18 Table 18.5): flows, maps, peers and dispatch entries survive L1 and L2. A cycle of its power clears them,
advances INCARN, and bars the epoch keys loaded before it. -/
def spanReset (s : State) (n level : Nat) : State :=
  let held := (spanAt s n).outst.length + (spanAt s n).rx.length + (spanAt s n).memQ.length
  let s := countGone (spanEnd s n Status.unitGone.code) held
  let top := topEpoch s
  let s := mapSpan s n (fun x => { x with
    memQ := [], trsQ := [],
    gauge := { Span.reset.gauge with thermal := x.gauge.thermal, sleep := x.gauge.sleep } })
  if level < 3 then s
  else incWrap (setSpan s n { Span.reset with barred := max top (spanAt s n).barred, gauge := { Span.reset.gauge with thermal := (spanAt s n).gauge.thermal } }) (pgVdt n + 0x0F8) 7 0 1

/-! ### Other units -/

/-- A mailbox command in service ends with UNIT_GONE (18 Table 18.5). One that SBX has not taken waits on. -/
def mbEnd (s : State) (i : Nat) : State :=
  let x := instRec s i
  let s := match x.mWait with
    | some w => if w.cmd = 0x100 then s else mbDone s i false w.cmd w.seq Status.unitGone.code
    | none => s
  match x.tWait with
  | some w => if w.cmd = 0x100 then s else mbDone s i true w.cmd w.seq Status.unitGone.code
  | none => s

/-- What SBX had in service for others ends (18 Table 18.5): mailbox commands, service objects and an extend. KVT finishes what it was given for a mailbox. -/
def sbxDrop (s : State) : State :=
  let s := (s.imu.inst.map Prod.fst).foldl mbEnd s
  let cut (c : KCmd) : KCmd := { c with arg1 := 0 }
  { s with
    kvt := { s.kvt with cmd := s.kvt.cmd.map cut, queue := s.kvt.queue.map cut }
    sbx := { s.sbx with extend := none, endSeq := none }
    att := { s.att with going := false } }

/-- An SBX reset (06 R155, R171, R173, 15 R395): the boot ROM will run again; the digest in PD_AON stays, and the block is HELD (R154). -/
def sbxReset (s : State) : State :=
  let s := attReset (sbxDrop s)
  let s := setBoot { s with sbx := { Sbx.reset with boot := s.sbx.boot, retained := s.sbx.retained, afterPorst := false }, wrc := { s.wrc with sbxWdArmed := false } } .reset
  setHeld s true

/-! ### IMU's sequences across resets (17 R436, R461) -/

/-- KVT forgets the retirements it runs: an UNBIND that waits for one ends with UNIT_GONE, a switch will ask for it again. -/
def seqHold (s : State) : State :=
  (s.imu.inst.map Prod.fst).foldl (fun t i =>
    let t := match (instRec t i).mWait with
      | some w => if w.cmd = 0x07 then mbDone t i false 0x07 w.seq Status.unitGone.code else t
      | none => t
    mapSeq t i (fun q => match q.retiring with
      | some k => { q with keys := k :: q.keys, retiring := none }
      | none => q)) s

/-- A sequence that has drained asks for its next retirement and gives its scrub commands again. -/
def seqResume (s : State) : State :=
  (s.imu.inst.map Prod.fst).foldl (fun t i => match (instRec t i).seq with
    | some q =>
      if q.drained then (let t := if q.retiring.isNone && q.keys != [] then nextKey t i q.keys else t
                         switchFinish (scIssue t i) i) else t
    | none => t) s

/-- After an L4 the generation of every instance that is not FREE has advanced (17 R436). -/
def genAll (s : State) : State := ((s.imu.inst.filter (fun x => x.2.st != .free)).map Prod.fst).foldl genCommit s

/-- An L2 of IMU (17 R436): the retention store stays; the mailboxes, waits, signals and scrub commands in its logic go. -/
def imuReset (s : State) : State :=
  let kept := [0x00C, 0x010, 0x014, 0x040, 0x044, 0x048, 0x04C]
  let s := { s with
    regs := s.regs.filter (fun r => !isInstOff r.1 || kept.contains (r.1 % 0x1000) || (0x300 ≤ r.1 % 0x1000 && r.1 % 0x1000 < 0x320) || 0x400 ≤ r.1 % 0x1000)
    exps := s.exps.filter (fun e => !isInstOff (e.1 % 0x800 * 0x1000)) }
  let s := (s.imu.inst.map Prod.fst).foldl (fun t i =>
    mapSeq (setInst t i { instRec t i with mWait := none, tWait := none, sig := none }) i (fun q => { q with ranges := q.out.map (fun o => o.2.1) ++ q.ranges, out := [] })) s
  imuRefresh (setImu s { s.imu with watches := [], todo := [] })

/-- An L2 of TTB: what waits in its ingress registers and its ordering unit ends with UNIT_GONE, and so do retirements in progress (08 R219). -/
def ttbReset (s : State) : State :=
  let s := endRetirements (seqHold s) Status.unitGone.code
  let fl := s.ttb.flags
  let s := setFld { s with ttb := { s.ttb with flags := [], stores := [] } } (pgTtb + 0x0C4) 6 0 0
  let s := fl.foldl (fun t f => goneReq f.engine t f.req) s
  (List.range 40).foldl (fun t e => match (engAt t e).ingress with
    | some q => goneReq e (refreshEng (setEng t e { engAt t e with ingress := none, hold := 0 }) e) q
    | none => t) s

/-! ### INC and PMU after a reset -/

/-- Every activation state becomes inactive and the manager mailbox empties; level sources whose level is 1 raise an event again;
INC_RESET carries the number of states lost (20 R516). -/
def incStateReset (s : State) : State :=
  let n := s.inc.acts.length
  let srcs := s.inc.acts.map Act.src
  let s := { s with inc := { s.inc with acts := [], mailbox := [] } }
  let s := srcs.foldl refreshSrc s
  let s := allPages.foldl (fun t pg => if errLevel t pg then errEvent t pg else t) s
  record s pgInc rcIncReset n 0 0

/-- The page of an observed engine by its number (21 R534). -/
def pmuPage (n : Nat) : Nat :=
  if n < 40 then engPage n else if n < 58 then pgVdt (n - 40) else if n < 66 then pgTrs else if n = 66 then pgHgt else pgCce

/-- Whether an observed engine is gated, disabled or off. -/
def pmuDown (s : State) (n : Nat) : Bool := !pageUp s (pmuPage n) || pageGated s (pmuPage n) || !enabled s (pmuPage n)

/-- Every count restarts at zero and a new interval begins (21 R536). -/
def pmuRestart (s : State) : State :=
  { s with pmu := { s.pmu with
    start := now s, hot := regBit s (pgCru + 0x06C) 0, resets := [], admitted := [], pf := 0, pfHit := 0
    down := ((List.range 68).filter (pmuDown s)).map (fun n => (n, epochOf s (pmuPage n))) } }

/-! ### Resets -/

/-- What happens to a unit's items and state when a reset at level 1 or 2 of its page begins, or when its domain loses its power (level 3). -/
def flushUnit (s : State) (pg level : Nat) : State :=
  let u := unitOf pg
  let n := uinstOf pg
  if u = uMea || u = uMeb then
    (let s := engReset s (engOfPage pg) level
     if level = 3 && u = uMea && n % 8 = 0 then bankGroupOff s (n / 8) else s)
  else if u = uVdt then spanReset s n level
  else if u = uTrs then trsReset s (if level = 3 && s.wrc.l4.isSome then 4 else level)
  else if u = uHgt then hgtReset s level
  else if u = uCce then cceReset s level
  else if u = uKvt then (if level = 3 then kvtPowerLoss (seqHold s) else kvtL2 (seqHold s))
  else if u = uEnt then setEnt { s with ent := { Ent.reset with st := s.ent.st } } .off
  else if u = uSbx then (if level = 3 then sbxReset s else sbxDrop s)
  else if u = uJct then (if level = 3 then { flushJct s with maps := [] } else flushJct s)
  else if u = uTtb then ttbReset s
  else if u = uCtc then ctcReset s
  else if u = uImu then imuReset s
  else if u = uPmu then { s with pmu := Pmu.reset }
  else s

/-- ENT starts (06 R158). -/
def entStart (s : State) : State := setEnt { s with ent := Ent.reset } .startup

/-- A reset of a page at level 1 or 2 ends: what was kept for its end is delivered, and the unit starts again (13 R374, 16 Table 16.4, 20 R516, 06 R158). -/
def unitBack (s : State) (pg : Nat) : State :=
  let u := unitOf pg
  if u = uTrs then ctPresent s
  else if u = uCce then cceResume s
  else if u = uEnt then entStart s
  else if u = uInc then incStateReset s
  else if u = uKvt then seqResume (kvtView s)
  else if u = uImu then seqResume (imuRefresh s)
  else if u = uTtb then seqResume s
  else if u = uJct then setResets s s.anchor.resets
  else if u = uHgt then ideRefresh s
  else if u = uPmu then pmuRestart s
  else if u = uVdt then
    (let g := (spanAt s (uinstOf pg)).gauge
     setRegBit s (pg + 0x040) 15 (g.thermal || g.integrity || g.sleep))
  else s

/-- How root regeneration starts with PD_KVT (06 R157): absent in RETURNED; in SCRAPPED and LOCKED the PUF array stays unpowered (07 R187). -/
def rootStart : Lc → RootSt
  | .returned => .absent
  | .scrapped | .locked => .idle
  | .maker | .integrator | .fielded => .attempt 1

/-- A domain is out of reset (04 R112 step 5): its units start (06 R157, R158, 09 R255, 13 R374, 20 R516). -/
def domainReleased (s : State) (d : Nat) : State :=
  if d = 1 then seqResume <| entStart <| kvtView { s with kvt := { s.kvt with rootSt := rootStart s.lco.lc } }
  else if d = 10 then ctPresent s
  else if d = 12 then seqResume (pmuRestart (incStateReset (imuRefresh (jctRelease s))))
  else s

/-! ### Suspects and retained items (19 R498) -/

/-- Insert a suspect in ascending instance and then context order, once; a further item of the same suspect is counted. -/
def insertSuspect (x : Suspect) : List Suspect → List Suspect
  | [] => [x]
  | y :: t => if x.inst < y.inst || (x.inst = y.inst && x.ctx < y.ctx) then x :: y :: t
    else if x.inst = y.inst && x.ctx = y.ctx then { y with items := y.items + x.items } :: t
    else y :: insertSuspect x t

/-- The instance and context of each item that an engine holds (19 R498). -/
def heldItems (s : State) (pg : Nat) : List (Nat × Nat) :=
  let u := unitOf pg
  let n := uinstOf pg
  let internal (q : Req) : Bool := match q.src with
    | .service _ => true
    | _ => false
  if u = uMea || u = uMeb then (engAt s (engOfPage pg)).slots.filterMap (fun x => if internal x.2.req then none else x.2.snap.inst.map (fun i => (i, x.2.snap.ctx)))
  else if u = uVdt then
      (spanAt s n).outst.filterMap (fun o => o.2.req.inst.map (fun i => (i, o.2.req.ctx)))
        ++ (spanAt s n).outQ.filterMap (fun i => match i with
          | .ni x => x.inst.map (fun j => (j, x.ctx))
          | _ => none)
  else if u = uTrs then (s.trs.chunks.filter (fun c => s.trs.failing = none || s.trs.failing = some c.group)).map (fun c => (c.inst, c.desc.ctx))
  else if u = uHgt then s.hgt.recs.filterMap (fun r => (tblFind s.hgt.pairs r.pair).map (fun p => (p.inst, 0)))
  else if u = uCce then (cceJobs s).filterMap (fun x => if x.2.running && !(cceQ s x.1).fw then some ((cceQ s x.1).inst, x.2.fld 80 3) else none)
  else []

/-- The suspects of an engine hang: the distinct pairs of instance and context of the items that the engine holds (19 R498). -/
def suspectsOf (s : State) (pg : Nat) : List Suspect :=
  (heldItems s pg).foldl (fun l p => insertSuspect ⟨p.1, p.2, instGen s p.1, 1⟩ l) []

/-- Whether an item was committed: a write or atomic whose commit has taken place (10 Tables 10.5, 10.6). -/
def Adm.committed (a : Adm) : Bool := !a.req.isRead && a.stage = .writeReady

/-- Insert an item in admission order. -/
def insertAdm (x : Nat × Adm) : List (Nat × Adm) → List (Nat × Adm)
  | [] => [x]
  | y :: t => if x.2.order < y.2.order then x :: y :: t else y :: insertAdm x t

/-- The items of a memory engine in admission order. -/
def retainedItems (s : State) (pg : Nat) : List (Nat × Adm) :=
  if unitOf pg = uMea || unitOf pg = uMeb then (engAt s (engOfPage pg)).slots.foldl (fun l x => insertAdm x l) [] else []

/-- The committed items of an engine in admission order; only a memory engine holds an item after its commit. -/
def committedItems (s : State) (pg : Nat) : List (Nat × Adm) := (retainedItems s pg).filter (fun x => x.2.committed)

/-- Items return to an engine from their commit state: same counter, same data, nothing answered again (19 R500). -/
def resubmit (s : State) (pg : Nat) (items : List (Nat × Adm)) : State :=
  let e := engOfPage pg
  items.foldl (fun t x =>
    let t := if x.2.snap.cls = .s || x.2.snap.cls = .i then pinLines t e x.2.req true else t
    putSlotAdm t e (firstGap (engAt t e).slots 0) x.2) s

/-- The reads of a dry run: every granule pair of the items, results discarded (19 R499). -/
def dryReads (s : State) (pg : Nat) (items : List (Nat × Adm)) : State :=
  if portUp s (engOfPage pg) then
    items.foldl (fun t x => present t (engOfPage pg) .dryRun false (granuleOff (lineOf x.2.req) ((x.2.req.granules.map Prod.snd).headD 0))
      (128 * x.2.req.granules.length) []) s
  else s

/-- The records of open handles that a capture lists for the pages reached (19 R489). -/
def openHandles (s : State) (pgs : List Nat) : List Rec :=
  (if pgs.contains pgTrs then trsHandles s else []) ++ (if pgs.contains pgCce then cceHandles s else [])

/-! ### Write-back before a domain goes off (04 R114, 10 R267) -/

/-- Write back a bank group's dirty units, or with 4 those of tier B. -/
def writebackGroup (s : State) (g : Nat) : State :=
  writeBackWhere s (fun x => if g = 4 then 32 ≤ x.tree else bankGroup x.tree = g)

/-- The dirty units of a bank group. -/
def dirtyLines (s : State) (g : Nat) : Nat := (groupDirty s g).length

/-! ### Ports (03 R69, R82) -/

/-- What is outstanding on a port when it goes down ends with UNIT_GONE; where LK_UP fell, the egress queue is discarded as well. Port numbers: 0 to 39
memory, 40 to 57 link, 58 host. A committed write that was not presented waits for the port. -/
def portFlush (s : State) (p : Nat) (linkFell : Bool) : State :=
  if p < 40 then dropTxs (dropReseal (endSlots s p Status.unitGone.code (fun a => !a.committed)) p) p false true
  else if p < 58 then
    (let s := completeWhere s (p - 40) Status.unitGone.code (fun _ => true)
     if linkFell then endEgress s (p - 40) Status.unitGone.code else s)
  else
    let hs := s.hgt.hosts
    let n := s.hgt.recs.length
    let s := incSat (setHgt s { s.hgt with hosts := [], recs := [] }) (pgHgt + 0x0D4) 31 0 n
    hs.foldl (fun t h => hostEnd t { h with todo := [], waits := [], st := Status.unitGone.code }) s

/-! ### Zeroise (01 R27, 08 R223) -/

/-- The items that a replay retains end with a status, and every replay is over (01 R27). -/
def endReplays (s : State) (st : Nat) : State :=
  s.wrc.replays.foldl (fun t r =>
    r.items.foldl (fun u x => if x.2.responded then u else answer u (engOfPage r.page) x.2 st [] []) t) { s with wrc := { s.wrc with replays := [] } }

/-- Every admitted request that has not presented its result ends with ABORTED, and keys, queues and key schedules in the engines go. -/
def abortAll (s : State) : State :=
  let st := Status.aborted.code
  let s := endReplays s st
  let s := (List.range 40).foldl (fun t e =>
    let t := dropReseal (endSlots t e st (fun _ => true)) e
    setEng t e { engAt t e with sets := [], txq := (engAt t e).txq.filter (fun x => x.1.purpose = .writeback), txs := (engAt t e).txs.filter (fun x => match x.2.purpose with
      | .fill .. | .writeback | .checkpoint => true
      | .slotWrite _ => true
      | _ => false) }) s
  let s := (List.range 18).foldl (fun t n => spanEnd t n st) s
  sessionsEnd (cceZeroise (hgtZeroise (trsZeroise s)))

/-- WITHDRAWN erases every hot key slot, every domain epoch key and the pair-key cache (19 R502). -/
def eraseKeys (s : State) : State :=
  let s := s.kvt.loads.foldl (fun t l => loadEnds t l.keyId Status.unitGone.code) s
  refreshEpochs (refreshSlots (setPkc { s with kvt := { s.kvt with slots := [], pos0 := none, pos1 := none, pendingKey := none } } []))

/-- The zeroise line reaches KVT (08 R223). -/
def zeroiseKvt (s : State) : State := kvtZeroise s

/-! ### Sleep, gating, throttle (04 R107, R119, R123, R124, 10 R279, 11 R322) -/

/-- The spans that are present and up. -/
def spansUp (s : State) : List Nat := (List.range 18).filter (fun n => !pageAbsent s (pgVdt n) && pageUp s (pgVdt n) && portUp s (40 + n))

/-- Every span that is present and up is asked for gauge 0b11 (04 R124). -/
def gaugeSleep (s : State) : State :=
  (spansUp s).foldl (fun t n =>
    let t := mapSpan t n (fun x => { x with gauge := { x.gauge with sleep := true } })
    gaugeDrive (gaugeOverride t n Config.sleepOverrideKind true) n 3) s

/-- After a wake each span asks for the gauge that adaptation chooses (04 R126). -/
def gaugeWake (s : State) : State :=
  (List.range 18).foldl (fun t n =>
    if (spanAt t n).gauge.sleep then
      (let t := mapSpan t n (fun x => { x with gauge := { x.gauge with sleep := false } })
       gaugeDrive (gaugeOverride t n Config.sleepOverrideKind false) n (gaugeFloor t n))
    else t) s

/-- The throttle holds every span at half its lanes at most (11 R322). -/
def gaugeThermal (s : State) (on : Bool) : State :=
  (spansUp s).foldl (fun t n =>
    if (spanAt t n).gauge.thermal = on then t
    else
      let t := gaugeOverride (mapSpan t n (fun x => { x with gauge := { x.gauge with thermal := on } })) n 2 on
      if (spanAt t n).gauge.req.getD (getFld t (pgVdt n + 0x040) 14 13) < gaugeFloor t n then gaugeDrive t n (gaugeFloor t n) else t) s

/-- Prefetching stops while the throttle holds (10 R279); PMU notes a throttle in its interval. -/
def prefetchThermal (s : State) (on : Bool) : State :=
  if on then overrideStart { s with pmu := { s.pmu with hot := true } } 1 else overrideEnd s 1

/-- Whether an instance is in the middle of a tenant switch (04 Table 04.2). -/
def midSwitch (s : State) : Bool := s.imu.inst.any (fun x => x.2.seq.isSome)

/-- Whether TRS has an open chunk. -/
def trsOpen (s : State) : Bool := !s.trs.chunks.isEmpty || s.trs.desc.isSome

/-- Whether a span holds no admitted request. -/
def spanIdle (s : State) (n : Nat) : Bool :=
  let x := spanAt s n
  x.outst.isEmpty && x.outQ.isEmpty && x.rx.isEmpty && x.memQ.isEmpty && x.trsQ.isEmpty && x.nrHeld.isEmpty && x.nt.isNone && x.rsv = 0
    && x.dsp.all (fun d => d.2.queue.isEmpty && d.2.late.isEmpty)

/-- Whether an item at a span waits to be admitted: a request, a flag's store, a payload (11 R308). -/
def TxItem.unadmitted : TxItem → Bool
  | .fm _ | .flag .. | .ni _ => true
  | _ => false

/-- Whether a unit or engine holds no admitted request, open chunk or queued descriptor (04 R119). -/
def gateIdle (s : State) (u : GateUnit) : Bool :=
  match u with
  | .cce => s.cce.queues.all (fun q => q.2.job.isNone && q.2.prod = q.2.done)
  | .pmu => s.pmu.buf.isNone
  | .trs => !trsOpen s
  | .eng e => (engAt s e.val).slots.isEmpty && (engAt s e.val).txs.isEmpty && (engAt s e.val).txq.isEmpty
  | .span n => spanIdle (mapSpan s n.val (fun x => { x with outQ := x.outQ.filter (fun i => !i.unadmitted) })) n.val

/-- Whether every engine is idle (04 Table 04.2). -/
def enginesIdle (s : State) : Bool :=
  (List.range 40).all (fun e => (engAt s e).slots.isEmpty) && (List.range 18).all (spanIdle s) && !trsOpen s && s.hgt.recs.isEmpty
    && (cceJobs s).all (fun j => !j.2.running)

/-! ### Domain epochs (02 R40, 18 R477) -/

/-- The commit of phase 2 returns every peer entry to UP (18 R477). -/
def epochSent (s : State) : State :=
  (List.range 18).foldl (fun t n => (spanAt t n).peers.foldl (fun u p => peerState u n p.1 0) t) s

/-- An epoch position is erased: the spans hold no key of an epoch that is not loaded (11 R304), and the position's member map is empty (11 R323). -/
def epochErased (s : State) (p : Nat) : State :=
  let live := (s.kvt.pos0.map EpochKey.num).toList ++ (s.kvt.pos1.map EpochKey.num).toList
  let s := { s with
    maps := s.maps.filter (fun m => m.1 / 512 != p)
    kvt := { s.kvt with pairWait := s.kvt.pairWait.filter (fun w => w.2.1 != p) } }
  (List.range 18).foldl (fun t n => mapSpan t n (fun x => { x with keys := x.keys.filter (fun k => live.contains k.epoch) })) s

end Sys2Proof.Machine
end

