-- ==== Sys2Proof/Machine/Recovery.lean ====
section
/-!
DEFINITION. WRC and TMP as shared operations (19): captures, the levels L1 to L4 and their escalation, withdrawal, tamper alarms, and the
containing action of a detector firing.
-/
namespace Sys2Proof.Machine

/-! ### Captures (19 R489, R505) -/

/-- A capture record: into EVR once CK_OBS runs, otherwise into WRC's buffer of 64, where a further one is lost (19 R489). -/
def wrcRec (s : State) (r : Rec) : State :=
  if clocksRun s then handRec s r
  else if s.wrc.capBuf.length < 64 then { s with wrc := { s.wrc with capBuf := s.wrc.capBuf ++ [r] } }
  else incSat s (pgWrc + 0x074) 15 8 1

/-- A record that WRC raises. -/
def wrcRecord (s : State) (c : RecCode) (p1 p2 p3 : Nat) : State := wrcRec s (mkRec s c uWrc 0 none p1 p2 p3)

/-- RECOVERY_END or WITHDRAWN: the record and the event of source 0x88 (20 Table 20.1). -/
def wrcEnd (s : State) (c : RecCode) (p1 p2 p3 : Nat) : State :=
  irqEvent (wrcRecord s c p1 p2 p3) 0x88 none 0 c.code p1 p2

/-- Once CK_OBS runs, WRC passes its buffered records to EVR (19 R489). -/
def flushCapture (s : State) : State :=
  let s' := { s with wrc := { s.wrc with capBuf := [] } }
  s.wrc.capBuf.foldl handRec s'

/-- The RECOVERY_START record and the summary in WRC_CAP (19 R489, Tables 19.7, 19.11). -/
def captureStart (s : State) (level u n cause : Nat) : State :=
  let s := setReg s (pgWrc + 0x070) (putBits (putBits (putBits 0 2 0 level) 15 8 n) 31 16 u)
  let s := setFld s (pgWrc + 0x074) 7 0 cause
  let s := setReg s (pgWrc + 0x078) (BitVec.ofNat 32 (now s))
  let s := setReg s (pgWrc + 0x07C) (BitVec.ofNat 32 (now s / 0x100000000))
  wrcRecord s rcRecoveryStart (level + u * 0x10000) n cause

/-- The SUSPECT record of a suspect among retained items: how many it has, and how many of them are committed (19 Table 19.7). -/
def recordSuspect (s : State) (items : List (Nat × Adm)) (x : Suspect) : State :=
  let com := (items.filter (fun a => a.2.committed && a.2.snap.inst == some x.inst && a.2.snap.ctx == x.ctx)).length
  wrcRecord s rcSuspect x.inst x.ctx (x.items % 0x100 + com % 0x100 * 0x100)

/-- One SUSPECT record per suspect (19 R489, R498). -/
def captureSuspects (s : State) (pg : Nat) : State :=
  (suspectsOf s pg).foldl (fun t x => recordSuspect t (retainedItems s pg) x) s

/-- One CAPTURE_ERR record per page whose ERR_STAT or ERR_COUNT is not zero (19 R489, 05 R150). -/
def captureErrs (s : State) (pgs : List Nat) : State :=
  pgs.foldl (fun t pg =>
    let e := rawReg s (pg + 0x018)
    let c := rawReg s (pg + 0x024)
    if e = 0 ∧ c = 0 then t else wrcRecord t rcCaptureErr pg e.toNat c.toNat) s

/-! ### Reach (19 Table 19.3) -/

/-- What L2 reaches for a failing page (19 Table 19.3). -/
def l2Pages (pg : Nat) : List Nat :=
  let u := unitOf pg
  let n := uinstOf pg
  if u = uMea then pagesFrom uMea (n / 8 * 8) 8
  else if u = uMeb then pagesFrom uMeb 0 8
  else if u = uVdt then pagesFrom uVdt (n / 6 * 6) 6
  else if u = uKvt || u = uEnt then [pgKvt, pgEnt]
  else [pg]

/-- The pages of a domain. -/
def domainPages (d : Nat) : List Nat := allPages.filter (fun pg => pageDomain pg = some d)

/-- The pages of every switchable domain, and CTC's. -/
def switchedPages : List Nat := allPages.filter (fun pg => (pageDomain pg).isSome || pg = pgCtc)

/-- The units with an engine in 01 Table 01.2 (05 R142). -/
def isEnginePage (pg : Nat) : Bool :=
  !isInstOff pg && [uMea, uMeb, uVdt, uTrs, uHgt, uCce].contains (unitOf pg)

/-! ### Levels (19 R482 to R494) -/

/-- A discarded trigger (19 R491, R502). -/
def discardTrigger (s : State) : State := incSat s (pgWrc + 0x074) 31 16 1

/-- The highest level in progress (19 Table 19.10). -/
def refreshLevel (s : State) : State :=
  let l := if s.wrc.l4.isSome then 4 else s.wrc.running.foldl (fun m r => max m r.level) 0
  setFld s (pgWrc + 0x040) 2 0 l

/-- REPLAY of WRC_STAT (19 Table 19.10). -/
def refreshReplay (s : State) : State := setRegBit s (pgWrc + 0x040) 8 (s.wrc.replays.any Replay.running)

/-- Set the step of the L4 in progress (19 Table 19.10). -/
def setL4Step (s : State) (k : Nat) : State :=
  match s.wrc.l4 with
  | some l => setFld { s with wrc := { s.wrc with l4 := some { l with step := k } } } (pgWrc + 0x040) 5 3 k
  | none => setFld s (pgWrc + 0x040) 5 3 0

/-- A recovery enters the list of those in progress. -/
def addRunning (s : State) (r : Recov) : State :=
  refreshLevel { s with wrc := { s.wrc with running := s.wrc.running ++ [r] } }

/-- A reset of one page at a level begins: incarnation, items, registers, RECOVERY (05 R138, 18 R476, Table 18.5). -/
def beginReset (s : State) (pg level : Nat) : State :=
  let s := bumpIncarn s pg
  let s := if level ≤ 2 then { s with pmu := { s.pmu with resets := pg :: s.pmu.resets } } else s
  let s := flushUnit s pg level
  setRecovery (resetPage s pg level) pg true

/-- L1 of an engine starts: capture, then the engine stops, its items end and its queues clear (19 Table 19.4). `replay` asks for
guilty-context replay after it (19 R499), which replaces one of the engine that was under way. -/
def startL1 (s : State) (pg cause : Nat) (replay : Bool) : State :=
  let items := retainedItems s pg
  let sus := suspectsOf s pg
  let s := captureSuspects (captureStart s 1 (unitOf pg) (uinstOf pg) cause) pg
  let s := incSat s (pgWrc + 0x080) 31 0 1
  let others := s.wrc.replays.filter (fun r => r.page != pg)
  let s := refreshReplay { s with wrc := { s.wrc with replays := if replay then others ++ [⟨pg, sus, 0, items, false, none⟩] else others } }
  addRunning (beginReset s pg 1) ⟨1, unitOf pg, uinstOf pg, cause, now s, replay⟩

/-- L2 of a unit starts: capture, isolation, reset of everything it reaches (19 Tables 19.3, 19.4). -/
def startL2 (s : State) (pg cause : Nat) : State :=
  let pgs := l2Pages pg
  let s := captureErrs (captureStart s 2 (unitOf pg) (uinstOf pg) cause) pgs
  let s := incSat s (pgWrc + 0x084) 31 0 1
  addRunning (pgs.foldl (fun t p => beginReset t p 2) s) ⟨2, unitOf pg, uinstOf pg, cause, now s, false⟩

/-- The island of a failing page (19 Table 19.3): its domain, or the tier-A domain of a CTC bank group. -/
def islandOf (pg n : Nat) : Option Nat := if unitOf pg = uCtc then some (2 + n % 4) else pageDomain pg

/-- Insert a waiting L3 in ascending PSW bit order (19 R491). -/
def insertL3 (r : Recov) : List Recov → List Recov
  | [] => [r]
  | x :: t => if r.inst < x.inst then r :: x :: t else x :: insertL3 r t

/-- L3 of an island starts, or waits isolated for the one in progress: capture, then step 1 of R114 (19 Table 19.4, R491). -/
def startL3 (s : State) (d u cause : Nat) : State :=
  let r : Recov := ⟨3, u, d, cause, now s, false⟩
  if s.wrc.running.any (fun x => x.level = 3) then
    setDom ((domainPages d).foldl (fun t p => setRecovery t p true) { s with wrc := { s.wrc with l3wait := insertL3 r s.wrc.l3wait } }) d .isolated
  else
    let pgs := domainPages d
    let s := captureErrs (captureStart s 3 u d cause) pgs
    let s := (openHandles s pgs).foldl wrcRec s
    let s := incSat s (pgWrc + 0x088) 31 0 1
    let s := pgs.foldl (fun t p => setRecovery t p true) s
    addRunning (setDom s d .draining) r

/-- The order in which L4 switches the domains off (19 Table 19.5 step 3). -/
def offOrder : List Nat := powerOrder.reverse

/-- The freeze ends and EVR writes one FROZEN record (20 R523). -/
def endFreeze (s : State) : State :=
  match s.evr.frozen with
  | some f =>
    let s := { s with evr := { s.evr with frozen := none, lastFreezeEnd := some (now s) } }
    let s := setRegBit s (pgEvr + 0x040) 0 false
    pushRec s pgEvr (mkRec s rcFrozen uEvr 0 none f.count (f.first + f.sev * 0x10000) ((now s - f.start) / 1000))
  | none => s

/-- A domain loses its power: its units' state and registers go (04 R111, R114, Table 04.4). -/
def losePower (s : State) (d : Nat) : State :=
  let s := (domainPages d).foldl (fun t p => resetPage (flushUnit (bumpIncarn t p) p 3) p 3) s
  { setFld (setDom s d .off) (pgCru + 0x060) d d 0 with
    cru := { (setDom s d .off).cru with pswEn := s.cru.pswEn &&& ~~~ BitVec.ofNat 13 (2 ^ d) } }

/-- The L4 starts within WD_WINDOW before now (19 R501). -/
def startsInWindow (s : State) : Nat :=
  let w := getFld s (pgWrc + 0x048) 16 0 * 1000000000
  (s.wrc.l4Starts.filter (fun t => now s - t ≤ w)).length

/-- An OTP operation starts; LC_STAT.BUSY, or ARB_STAT.BUSY for an increment. -/
def opStart (s : State) (o : LcoOp) : State :=
  let s := { s with lco := { s.lco with op := some o } }
  match o with
  | .arb _ _ _ _ => setRegBit s (pgLco + 0x0C0) 16 true
  | _ => setRegBit s (pgLco + 0x040) 12 true

/-- An OTP operation is over; a withdrawal cell that waits is programmed next (19 R502, R504). -/
def opOver (s : State) : State :=
  let s := setRegBit (setRegBit { s with lco := { s.lco with op := none } } (pgLco + 0x040) 12 false) (pgLco + 0x0C0) 16 false
  match s.lco.nextOps with
  | o :: t => opStart { s with lco := { s.lco with nextOps := t } } o
  | [] => s

/-- Start programming a withdrawal cell, or wait for the OTP operation in progress (19 R502, R504). -/
def startWdrCell (s : State) (op : LcoOp) : State :=
  match s.lco.op with
  | none => opStart s op
  | some _ => { s with lco := { s.lco with nextOps := s.lco.nextOps ++ [op] } }

/-- Ports that the L4 capture lists: memory and link ports (19 R489). -/
def capturePorts : List Nat := List.range 58

/-- The capture of an L4 (19 R489): its start, the errors, the open chunks and descriptors, a PORT_STATE per memory and link port, and the dirty-line count
per bank group. -/
def captureL4 (s : State) (u n cause : Nat) : State :=
  let s := captureErrs (captureStart s 4 u n cause) switchedPages
  let s := (openHandles s switchedPages).foldl wrcRec s
  let s := capturePorts.foldl (fun t p =>
    wrcRecord t rcPortState (Config.portKindCode (if p < 32 then 0 else if p < 40 then 1 else 2) % 0x100
      + (if p < 32 then p else if p < 40 then p - 32 else p - 40) * 0x100)
      (b2n ((tblFind s.ports p).getD Port.zero).up) (Config.portCauseCode 0)) s
  [0, 1, 2, 3].foldl (fun t g => wrcRecord t ⟨Config.dirtyCaptureCode, 3⟩ g (dirtyLines s g) 0) s

/-- WITHDRAWN is entered in place of an L4 (19 R502): capture and record, the data domains drained and switched off, the keys erased,
WITHDRAWN on every page, the next WDR_SET cell programmed. -/
def withdraw (s : State) (u n cause : Nat) : State :=
  let cell := getFld s (pgWrc + 0x060) 6 0
  let s := captureL4 s u n cause
  let s := wrcEnd s rcWithdrawn (startsInWindow s + 1) s.wrc.failedL4 (min 64 (cell + 1))
  let s := [0, 1, 2, 3].foldl writebackGroup s
  let s := (offOrder.filter (fun d => !([0, 1, 11, 12].contains d))).foldl losePower s
  let s := setWithdrawn (eraseKeys s) true
  let s := setRegBit s (pgWrc + 0x040) 6 true
  let s := { s with wrc := { s.wrc with l4 := none, running := [], l3wait := [], replays := [], withdrawnAgain := true } }
  let s := refreshLevel (refreshReplay (setL4Step s 0))
  if cell < 64 then startWdrCell s (.wdrSet cell 0) else s

/-- A trigger of L4 (19 R492, R501): L4 step 1, or WITHDRAWN in its place. An alarm before the block first entered RUNNING is not counted
(19 R496): `counted` is false for it. -/
def startL4 (s : State) (u n cause : Nat) (counted : Bool) : State :=
  if s.withdrawn then discardTrigger s
  else if counted && (startsInWindow s + 1 ≥ getFld s (pgWrc + 0x044) 3 0 || s.wrc.failedL4 = 3) then withdraw s u n cause
  else
    let s := captureL4 s u n cause
    let s := if counted then { s with wrc := { s.wrc with l4Starts := (s.wrc.l4Starts ++ [now s]).drop (s.wrc.l4Starts.length + 1 - 15) } } else s
    let s := incSat s (pgWrc + 0x08C) 15 0 1
    let s := setFld s (pgWrc + 0x08C) 19 16 (startsInWindow s)
    let s := endFreeze s
    let s := { s with wrc := { s.wrc with l4 := some ⟨2, now s⟩, running := [], l3wait := [], replays := [] } }
    let s := refreshReplay (setL4Step s 2)
    refreshLevel (switchedPages.foldl (fun t p => setRecovery t p true) s)

/-- An L4 that does not end counts as failed (19 R493). -/
def failL4 (s : State) : State :=
  let k := min 3 (s.wrc.failedL4 + 1)
  setFld { s with wrc := { s.wrc with failedL4 := k, l4 := none } } (pgWrc + 0x040) 10 9 k

/-- Whether a page is in a recovery of the given level or a higher one. -/
def coveredAt (s : State) (pg level : Nat) : Bool :=
  s.wrc.running.any (fun r => level ≤ r.level &&
    (if r.level = 1 then page r.unit r.inst = pg
     else if r.level = 2 then (l2Pages (page r.unit r.inst)).contains pg
     else pageDomain pg = some r.inst))

/-- The lower levels that a higher one replaces (19 R491); no replay follows a higher level (R500). -/
def dropLower (s : State) (pg level : Nat) : State :=
  let reached (p : Nat) : Bool := (l2Pages pg).contains p || (level = 3 && pageDomain p == pageDomain pg)
  refreshReplay { s with wrc := { s.wrc with replays := s.wrc.replays.filter (fun r => level = 1 || !reached r.page), running := s.wrc.running.filter (fun r => !(r.level < level && reached (page r.unit r.inst))) } }

/-- The level that R483 gives a trigger: a second L1 within 1 ms of the end of the first is an L2, a second L2 within 10 ms an L3, a second
L3 of the island within 100 ms, or an L3 of a unit that no island holds, an L4. -/
def escalate (s : State) (pg level : Nat) : Nat :=
  let recent (t : Tbl Nat) (k w : Nat) : Bool := match tblFind t k with
    | some a => now s ≤ a + w
    | none => false
  let l2 := if recent s.wrc.lastL2 ((l2Pages pg).headD pg) 10000000 then 3 else 2
  let l := if level = 1 then (if recent s.wrc.lastL1 pg 1000000 then l2 else 1) else if level = 2 then l2 else level
  if l = 3 then
    (match islandOf pg (uinstOf pg) with
     | none => 4
     | some d => if recent s.wrc.lastL3 d 100000000 then 4 else 3)
  else l

/-- A trigger of L1, L2 or L3 for a page (19 R482, R483, R491, R502). -/
def trigger (s : State) (level pg cause : Nat) (replay : Bool) : State :=
  if s.withdrawn || s.wrc.l4.isSome then discardTrigger s
  else
    let l := escalate s pg level
    if l = 4 then startL4 s (unitOf pg) (uinstOf pg) cause true
    else if coveredAt s pg l then s
    else
      let s := dropLower s pg l
      if l = 1 then startL1 s pg cause replay
      else if l = 2 then startL2 s pg cause
      else startL3 s ((islandOf pg (uinstOf pg)).getD 12) (unitOf pg) cause

/-- A trigger of the next level after one that exceeded its bound (19 R490, R21): no escalation is counted again. -/
def startLevel (s : State) (level pg cause : Nat) : State :=
  let s := dropLower s pg level
  if level = 2 then startL2 s pg cause
  else if level = 3 then
    (match islandOf pg (uinstOf pg) with
     | some d => startL3 s d (unitOf pg) cause
     | none => startL4 s (unitOf pg) (uinstOf pg) cause true)
  else startL4 s (unitOf pg) (uinstOf pg) cause true

/-- An SBX lockstep mismatch (19 Table 19.1, R491): an L4 at once, ending one in progress. -/
def lockstepL4 (s : State) : State :=
  if s.withdrawn then discardTrigger s
  else startL4 (if s.wrc.l4.isSome then failL4 s else s) uSbx 0 0 true

/-- An L4 that does not end within L4_LIMIT counts as failed and starts again (19 R493). -/
def l4TooLong (s : State) : State :=
  match s.wrc.l4 with
  | some l =>
    let u := getFld s (pgWrc + 0x070) 31 16
    let n := getFld s (pgWrc + 0x070) 15 8
    let inj := injArmed s pgWrc 3
    startL4 (failL4 (wrcRecord (fireBit s pgWrc 3) rcLevelTimeout 4 (Config.unitInstCode u n) (injP3 inj l.step))) u n 0xFF true
  | none => s

/-! ### Tamper (19 R495, R496) -/

/-- KVT zeroises and every engine discards keys and keystream; unpresented requests end with ABORTED (01 R27, 08 R223). Kind 1 is TMP's line,
2 a life-cycle transition (22 Table 22.8). -/
def zeroise (s : State) (kind : Nat) : State :=
  record (zeroiseKvt (abortAll s)) pgKvt (rcZeroise) kind 0 0

/-- A tamper alarm for the conditions in `bits` (19 R496): the zeroise line and TM_ALARM_OUT, the cause, the TAMPER record; a freeze
ends (20 R523); an L4 in progress ends as failed (19 R491, R493). -/
def tamperAlarm (s : State) (bits : Nat) (p3 : Nat) : State :=
  let s := (List.range 6).foldl (fun t b => if bits.testBit b then fireBit t pgTmp b else t) s
  let s := zeroise s 1
  let s := setFld (setRegBit s (pgTmp + 0x040) 0 true) (pgTmp + 0x040) 7 2 bits
  let s := incSat s (pgTmp + 0x048) 15 0 1
  let temp := (BitVec.ofNat 8 (getFld s (pgTmp + 0x040) 23 16)).toInt
  let s := endFreeze s
  let s := record s pgTmp rcTamper (rawReg s (pgTmp + 0x018)).toNat (BitVec.ofInt 32 temp).toNat p3
  if s.wrc.l4.isSome then failL4 s else s

/-! ### Containing actions (19 Table 19.1) -/

/-- The comparison detectors of Table 19.1: PIPE_CMP, CORE_CMP, GHASH_CMP, LANE_CHK. -/
def isCompareBit (u bit : Nat) : Bool :=
  ((u = uMea || u = uMeb || u = uVdt || u = uHgt) && bit = 1) || (u = uCce && (bit = 0 || bit = 1)) || (u = uTrs && bit = 0)

/-- The WATCHDOG bit of each page that has one. -/
def watchdogBit (u : Nat) : Option Nat :=
  if u = uMea || u = uMeb then some 5 else if u = uVdt then some 6 else if u = uTrs then some 4
  else if u = uHgt then some 7 else if u = uCce then some 3 else if u = uImu then some 4 else if u = uSbx then some 3 else none

/-- The PROTOCOL bit of the engine pages (03 R64). -/
def isProtocolBit (u bit : Nat) : Bool :=
  bit = 2 && (u = uMea || u = uMeb || u = uVdt || u = uTrs || u = uHgt)

/-- The containing action of a firing (19 R482, Table 19.1); a detector with no row has none. -/
def contain (s : State) (pg bit : Nat) : State :=
  let u := unitOf pg
  if isInstOff pg then s
  else if isCompareBit u bit then trigger s 1 pg bit false
  else if watchdogBit u = some bit then
    (if u = uImu || u = uSbx then trigger s 2 pg bit false else trigger s 1 pg bit true)
  else if isProtocolBit u bit then
    (let last := tblFind s.wrc.protoTimes pg
     let s := { s with wrc := { s.wrc with protoTimes := tblPut s.wrc.protoTimes pg (now s) } }
     match last with
     | some t => if now s ≤ t + 1000000 then trigger s 1 pg bit false else s
     | none => s)
  else if (u = uMea || u = uMeb) && bit = 6 then trigger s 1 pg bit false
  else if u = uSbx && bit = 0 then lockstepL4 s
  else s

/-- A detector fires and WRC takes its containing action (05 R149, 19 R482). -/
def detect (s : State) (pg bit : Nat) : State :=
  if pg = pgTmp ∧ bit < 6 then tamperAlarm s (2 ^ bit) (injP3 (injArmed s pg bit) 0)
  else contain (fire s pg bit) pg bit

/-- A detector fires, is recorded under a code of its own, and WRC takes its containing action. -/
def detectAs (s : State) (pg bit : Nat) (c : RecCode) (inst : Option Nat) (p1 p2 p3 : Nat) : State :=
  contain (fireAs s pg bit c inst p1 p2 p3) pg bit

/-- Whether an engine is in guilty-context replay: every other item for it is held (19 R499). -/
def replaying (s : State) (pg : Nat) : Bool := s.wrc.replays.any (fun r => r.page = pg && r.running)

/-! ### Ports (03 R69, R70) -/

/-- The page of the unit behind a port. -/
def portPage (p : Nat) : Nat := if p < 40 then engPage p else if p < 58 then pgVdt (p - 40) else pgHgt

/-- Whether OTP declares a port present (03 R97). -/
def portPresent (s : State) (p : Nat) : Bool := !pageAbsent s (portPage p)

/-- The kind number handed to the port-kind code: memory tier A, tier B, link, host. -/
def portKind (p : Nat) : Nat := if p < 32 then 0 else if p < 40 then 1 else if p < 58 then 2 else 3

/-- The number of a port within its kind. -/
def portNum (p : Nat) : Nat := if p < 32 then p else if p < 40 then p - 32 else if p < 58 then p - 40 else 0

/-- The PORT_STATE record of a transition (22 Table 22.8). -/
def recordPort (s : State) (p : Nat) (up : Bool) (cause : Nat) : State :=
  record s (portPage p) rcPortState (Config.portKindCode (portKind p) % 0x100 + portNum p * 0x100) (b2n up) (Config.portCauseCode cause)

/-- A port goes down: its outstanding requests complete with UNIT_GONE and EVR records it (03 R69, R82). Causes: 0 up, 1 clock, 2 up signal,
3 retraining, 4 wake, 5 its power domain failed. -/
def portDown (s : State) (p cause : Nat) : State :=
  if (portAt s p).up then
    recordPort (portFlush (setPort s p { portAt s p with up := false }) p (cause = 2)) p false cause
  else s

/-- A memory port is up again: what waited for it is presented, and the dirty units that it kept in CTC are written back (03 R69). -/
def memPortRises (s : State) (e : Nat) : State := drainTx (writeBackWhere s (fun x => x.tree = e)) e

/-- A port comes up again when its clock has been in range for 100 windows, its up signal is high, it is present and its retraining has not
failed (03 R69, R70). -/
def portMayRise (s : State) (p : Nat) : State :=
  let x := portAt s p
  if !x.up && x.sig && x.inRange && 100 ≤ x.windows && !x.trainFailed && portPresent s p
      && (match pageDomain (portPage p) with | some d => domSt s d != .failed | none => true) then
    (let s := recordPort (setPort s p { x with up := true }) p true 0
     if p < 40 then memPortRises s p else s)
  else s

end Sys2Proof.Machine
end

