-- ==== Sys2Proof/Machine/EngOps.lean ====
section
/-!
DEFINITION. Memory-engine requests as shared operations (10, 12, 03 R71 to R75): the granules a request selects, the refusals of R259, the admission
conditions of Table 10.2 and the fills they start, keystream, tags, commits, and the end of a request.
-/
namespace Sys2Proof.Machine

/-! ### Refusals (10 R259, 17 R440, 09 R253) -/

/-- What judging a request comes to. -/
inductive Judged where
  | refuse (st : Nat)
  | wait (reason : Nat)
  | ok (entry : Nat) (x : JEntry) (inst : Option Nat)
deriving DecidableEq, Repr

/-- Whether an instance is ACTIVE with ENABLE 1 (17 R439). -/
def instLive (s : State) (i : Nat) : Bool :=
  ((tblFind s.imu.inst i).getD InstRec.free).st = .active && enabled s (instPage i)

/-- The instance of a PASID (17 R439). -/
def instOfPasid (s : State) (p : Nat) : Option Nat :=
  match tblFind s.imu.pasids p with
  | some i => if instLive s i then some i else none
  | none => none

/-- Whether a context is marked lost (17 R453). -/
def ctxLost (s : State) (i c : Nat) : Bool :=
  regBit s (instPage i + 0x040) 9 || ((tblFind s.imu.inst i).getD InstRec.free).lost.contains c

/-- Whether a KeyID is bound to an instance (02 R46). -/
def boundTo (s : State) (k i : Nat) : Bool := ((tblFind s.imu.binds k).getD []).contains i

/-- Whether a KeyID that is retiring was bound to an instance when its retirement began (02 R46, R47). -/
def leftBy (s : State) (k i : Nat) : Bool := isRetiring s k && ((tblFind s.imu.leaving k).getD []).contains i

/-- The most admission slots of an instance, and those reserved to it (17 Table 17.3). -/
def admLim (s : State) (i : Nat) : Nat := getFld s (instPage i + 0x04C) 22 16
def admRes (s : State) (i : Nat) : Nat := getFld s (instPage i + 0x04C) 14 8

/-- The IMU stage for an FM request (17 R440, 02 R46), or for an access of CCE that is judged as one (16 R427): none where it passes. `si` tells an access to class S or I,
`ctx` whether its context is looked at, `own` whether its KeyID is one of CCE's own. -/
def imuStage (s : State) (q : Req) (inst : Option Nat) (ctx own si : Bool) (e : Nat) : State × Option Nat :=
  match inst with
  | none => (s, some Status.denied.code)
  | some i =>
    if admLim s i = 0 || (si && (ksShare s i = 0 || ctcShare s i e = 0)) then (s, some Status.denied.code)
    else if ctx && ctxLost s i q.ctx then (s, some Status.contextLost.code)
    else if q.keyId != 0 && !own && !boundTo s q.keyId i && !leftBy s q.keyId i then
      (recordInst s pgImu rcAccessDenied (some i) i q.keyId q.ctx, some Status.denied.code)
    else (s, none)

/-- The island whose read copy a request's lookup uses (09 R251): its engine's, or for a request from a link that of its span. -/
def lookupIsland (e : Nat) (q : Req) : Nat := match q.src with
  | .remote n _ _ _ _ _ _ => islandOfSpan n
  | _ => islandOfEngine e

/-- The entry that fails parity and keeps a lookup waiting for its reload (09 R251). -/
def lookupBad (s : State) (isl pg : Nat) : Option Nat :=
  (copyBad s isl).find? (fun i => (copyEntry s isl i).entry.covers pg || !(copyEntry s isl i).parityOk)

/-- The JCT stage (09 R252, R253): a refusal, a wait for a reload, or the winner. -/
def jctStage (s : State) (e : Nat) (q : Req) (link host : Bool) : State × Judged :=
  let isl := lookupIsland e q
  match lookupBad s isl q.page with
  | some i => (copyFault s isl i, .wait 14)
  | none =>
    let t := copyTable s isl
    match winner t q.page with
    | none => (jctDeny s, .refuse Status.denied.code)
    | some (j, x) =>
      let eq := equalWinners t q.page
      let s := if 1 < eq.length then fireAs s pgJct 0 rcJctFault none (eq.headD j) q.page 1 else s
      let deny (st : Nat) : State × Judged := (jctDeny s, .refuse st)
      if host && !(x.cls = .p && x.host) then deny Status.denied.code
      else if link && !x.remote then deny Status.denied.code
      else if !q.isRead && x.ro then deny Status.denied.code
      else if q.keyId != 0 && q.keyId != x.ksrc && x.cls != .p then deny Status.denied.code
      else if (q.keyId = 0) != (x.cls = .p) then deny Status.classMismatch.code
      else (s, .ok j x q.inst)

/-- Whether an engine takes nothing at all: absent, off, gated, or in a reset (04 R111, R120, 18 Table 18.5). The L1 of a
guilty verdict leaves what waits held (19 R500). -/
def engineOut (s : State) (e : Nat) : Bool :=
  let pg := engPage e
  pageAbsent s pg || !pageUp s pg || pageGated s pg
    || (regBit s (pg + 0x010) 9 && !replaying s pg)

/-- Whether the units that every request passes take new work (05 Table 05.5): JCT, TTB and IMU, and CTC for class S and I. -/
def pathOn (s : State) (si : Bool) : Bool := enabled s pgJct && enabled s pgTtb && enabled s pgImu && (!si || enabled s pgCtc)

/-- Whether an engine can serve: up, clocked, enabled, its port up (10 R259). -/
def engineServes (s : State) (e : Nat) : Bool :=
  let pg := engPage e
  !engineOut s e && enabled s pg && (portAt s e).up && (match pageDomain pg with
    | some d => domSt s d = .on
    | none => true)

/-- Whether an engine's FM port takes remote requests and ordering flags, which need a span and no memory: the engine is up, clocked and enabled, TTB and IMU
take work (04 R120, 05 Table 05.5, log 105). -/
def fmServes (s : State) (e : Nat) : Bool := !engineOut s e && enabled s (engPage e) && enabled s pgTtb && enabled s pgImu

/-- Whether a unit's memory access can be presented now: the remote queue of its engine has room, or no engine can take it and it is answered at once (12 R337). -/
def canOffer (s : State) (q : Req) : Bool :=
  match engineOfPage q.page with
  | none => true
  | some e => engineOut s e || (engAt s e).remoteQ.length < 32

/-- Present a unit's memory access at the remote queue of the engine that serves its page (12 R325, R337). -/
def offer (s : State) (q : Req) : State :=
  match engineOfPage q.page with
  | none => respond (jctDeny s) 0 q Status.denied.code []
  | some e =>
    if engineOut s e then respond s e q Status.unitGone.code []
    else setEng s e { engAt s e with remoteQ := (engAt s e).remoteQ ++ [q] }

/-- The instance charged at a home: the one whose key-slot share holds the KeyID's slot (09 Table 09.9). -/
def chargedInst (s : State) (k : Nat) : Option Nat :=
  match slotOf s k with
  | some (_, x) => (match x.charge with | .inst i => some i | .pool => none)
  | none => none

/-- Whether a write's path holds a child counter that has reached its largest value since PORST_N (09 R241). -/
def pathFull (s : State) (e l : Nat) : Bool := (pathOf e l).any (fun p => s.anchor.limits.contains (e, p.1, p.2.1, p.2.2))

/-- Whether an object page admits a request (17 R455): a read, IMU's own write, or the atomic of a valid slot's kind on its word. -/
def objAdmits (s : State) (q : Req) : Bool :=
  match objPageOwner s q.page with
  | none => true
  | some i =>
    q.isRead || (match q.src with | .imu _ 0 => true | _ => false) || (q.op = 3 &&
      (match q.granules with
       | [(j, _)] =>
         let a := q.addr % 4096 / 256 * 256 + 128 * j + (q.word j).1
         let o := objAt s i (a / 8)
         (q.word j).2 = 8 && a < 2048 && o.valid && q.aop = (if o.event then 2 else 8)
       | _ => false))

/-- The refusals of R259 for a request at a local home, in their order. -/
def judgeLocal (s : State) (e : Nat) (q : Req) : State × Judged :=
  let si := match winner (copyTable s (lookupIsland e q)) q.page with
    | some (_, x) => x.cls = .s || x.cls = .i
    | none => false
  match lookupBad s (lookupIsland e q) q.page with
  | some i => (copyFault s (lookupIsland e q) i, .wait 14)
  | none =>
  let (s, pre) : State × Option Nat := match q.src with
    | .fm => imuStage s q (instOfPasid s q.pasid) true false si e
    | .cce _ k =>
      (match q.inst with
       | some i => imuStage s q (if instLive s i then some i else none) (k % 8 != 0 && k % 8 != 7) (0xFF10 ≤ q.keyId && q.keyId < 0xFF20) si e
       | none => (s, none))
    | .remote .. =>
      if q.keyId = 0 || (q.keyId < 0xFF00 && (!((tblFind s.imu.binds q.keyId).getD []).isEmpty || isRetiring s q.keyId)) then (s, none)
      else (s, some Status.denied.code)
    | .hgt _ =>
      if q.keyId != 0 && !(q.inst.any (fun i => boundTo s q.keyId i || leftBy s q.keyId i)) then
        (recordInst s pgImu rcAccessDenied q.inst (q.inst.getD 0) q.keyId q.ctx, some Status.denied.code)
      else (s, none)
    | _ => (s, none)
  match pre with
  | some st => (s, .refuse st)
  | none =>
    let link := match q.src with | .remote .. => true | _ => false
    let host := match q.src with | .host _ => true | _ => false
    match jctStage s e q link host with
    | (s, .ok j x _) =>
      if x.cls != .p && isRetiring s x.ksrc then (s, .refuse Status.keyRetired.code)
      else if !objAdmits s q then (s, .refuse Status.denied.code)
      else if !engineServes s e || !pathOn s (x.cls = .s || x.cls = .i) then (s, .refuse Status.unitGone.code)
      else if admissionStopped s (engPage e) then (s, .wait 0)
      else if x.cls = .s && !q.isRead && pathFull s e (lineOf q) then (s, .refuse Status.unitGone.code)
      else
        let inst := match q.src with
          | .fm => instOfPasid s q.pasid
          | .remote .. => if q.keyId = 0 then none else chargedInst s q.keyId
          | _ => q.inst
        (s, .ok j x inst)
    | r => r

/-! ### Admission conditions (10 Table 10.2) -/

/-- A resident line, where it stands under a KeyID and KeyID epoch (10 R262). -/
def lineUnder (s : State) (e : Nat) (kind : LineKind) (idx k ep : Nat) : Option Line :=
  (findLine s e kind idx).filter (fun x => x.keyId = k && x.kidEpoch = ep)

/-- The resident counter line of a page under a KeyID and its current epoch. -/
def ctrLine (s : State) (e l k : Nat) : Option Line := lineUnder s e .ctr l k (kidEpochOf s k)

/-- The resident tag line under a KeyID and its current epoch. -/
def tagLine (s : State) (e t k : Nat) : Option Line := lineUnder s e .tag t k (kidEpochOf s k)

/-- The stored tag of a granule under a KeyID and KeyID epoch, where its slot is valid. -/
def tagUnder (s : State) (e l i k ep : Nat) : Option Bytes :=
  match lineUnder s e .tag ((l * 32 + i) / 8) k ep with
  | some x => (match x.data with | .tag sl => (sl.getD (i % 8) none) | _ => none)
  | none => none

/-- The stored tag of a granule under a KeyID and its current epoch. -/
def tagSlot (s : State) (e l i k : Nat) : Option Bytes := tagUnder s e l i k (kidEpochOf s k)

/-- The counter line and the stored tags of an admitted request, under its snapshot (01 R24, R25). -/
def Adm.line (s : State) (e : Nat) (a : Adm) : Option Line := lineUnder s e .ctr (lineOf a.req) a.snap.keyId a.snap.kidEpoch
def Adm.tag (s : State) (e : Nat) (a : Adm) (i : Nat) : Option Bytes := tagUnder s e (lineOf a.req) i a.snap.keyId a.snap.kidEpoch

/-- MAJOR and minors of a resident counter line. -/
def Line.ctrs (x : Line) : Nat × List Nat :=
  match x.data with
  | .ctr a m _ _ => (a, m)
  | _ => (0, [])

/-- The directory entry of a home line (10 R281). -/
def dirOf (s : State) (e l : Nat) : Option DirEntry := s.coh.dir.find? (fun d => d.tree = e && d.idx = l)

/-- Whether a home access holds for coherence: a remote owner, or sharers before a write (10 R282). -/
def cohHold (s : State) (e l : Nat) (wr : Bool) : Bool :=
  match dirOf s e l with
  | some d => (match d.st with | .o _ => true | .s m => wr && !m.isEmpty | .u => false)
  | none => false

/-- Whether an admitted request writes its granules. -/
def Adm.writes (a : Adm) : Bool := !a.req.isRead

/-- Whether an earlier write to a granule is in the engine or awaits its acknowledgement (row 9). -/
def hazardAt (s : State) (e l i : Nat) : Bool :=
  let g := engAt s e
  g.slots.any (fun a => a.2.writes && lineOf a.2.req = l && a.2.req.granules.any (fun p => p.2 = i))
    || (g.txs.map Prod.snd ++ g.txq.map Prod.fst).any (fun t => match t.purpose with | .slotWrite gs => gs.contains (l * 32 + i) | _ => false)

/-- Whether FM_TAG is in use at a port (row 2, 03 R74). -/
def tagBusy (s : State) (e tag : Nat) : Bool :=
  (engAt s e).slots.any (fun a => a.2.req.src = .fm && a.2.req.tag = tag && !a.2.responded)
    || s.ttb.flags.any (fun f => f.engine = e && f.req.tag = tag)
    || (engAt s e).remoteQ.any (fun r => r.src = .fm && r.tag = tag)
    || s.spans.any (fun x => x.2.outQ.any (fun i => match i with | .flag r n => n = e && r.tag = tag | _ => false))
    || s.spans.any (fun x => x.2.outst.any (fun o => o.2.req.src = .fm && o.2.engine = e && o.2.req.tag = tag))

/-- Slots that an instance holds in an engine. -/
def heldSlots (g : Eng) (i : Option Nat) : Nat := (g.slots.filter (fun a => a.2.snap.inst = i)).length

/-- The instances that hold a slice. -/
def slicedInsts (s : State) : List Nat := s.imu.inst.map Prod.fst

/-- Slots outside every reservation that are free in an engine (17 R445). -/
def sharedFree (s : State) (g : Eng) : Nat :=
  96 - ((slicedInsts s).foldl (fun n i => n + max (admRes s i) (heldSlots g (some i))) (heldSlots g none))

/-- Row 11: the instance's share of the admission slots. A request of no instance takes only a slot outside every reservation (02 R61, 17 R445). -/
def shareFree (s : State) (g : Eng) (i : Option Nat) : Bool :=
  match i with
  | some i => heldSlots g (some i) < admLim s i && (heldSlots g (some i) < admRes s i || 0 < sharedFree s g)
  | none => 0 < sharedFree s g

/-- Row 10: each set keeps an unpinned way in the line's partition (10 R260). -/
def pinRoom (s : State) (e : Nat) (units : List (LineKind × Nat)) : Bool :=
  units.all (fun u =>
    let pinned := ((setLines s e u.1 u.2).filter (fun x => x.pins != 0 && !units.contains (x.kind, x.idx))).length
    let mine := (units.filter (fun v => sameSet e u.1 u.2 e v.1 v.2)).length
    pinned + mine ≤ (partWays s (partOf e u.1)).2 - 1)

/-- The operation of a set's leader and a joiner agree (12 R338, 11 R318). -/
def sameCombine (a b : Req) : Bool :=
  a.op = b.op && a.aop = b.aop && a.gmask = b.gmask && a.addr / 256 = b.addr / 256 && a.keyId = b.keyId
    && (if a.op = 3 then a.wbe = b.wbe && 2 ≤ a.aop
        else match a.src, b.src with
          | .remote n _ _ _ _ _ (some g), .remote n' _ _ _ _ _ (some g') => n = n' && g = g'
          | _, _ => false)

/-- The open combine set that a request may join: at most 32 cycles (16 ns) old, fewer than 16 members, its leader's data not yet back. -/
def combineFor (s : State) (e : Nat) (q : Req) : Option CombSet :=
  let g := engAt s e
  g.sets.find? (fun c =>
    now s ≤ c.opened + 16 && c.members.length + 1 < 16 &&
      (match tblFind g.slots c.leader with
       | some a => sameCombine a.req q && (a.stage = .rmwWait || a.stage = .readWait)
       | none => false))

/-- Whether a granule's counter is known to be zero: its line is resident and holds minor 0 (09 R235, R243). -/
def zeroCtr (s : State) (e l i k : Nat) : Bool := (ctrLine s e l k).any (fun y => y.ctrs.2.getD i 0 = 0)

/-- Whether a request still needs a tag line that is not there (row 8): a reservable write its ways, another access the tags of its granules, of which one
with a zero counter has none to read (09 R243); a partial write of such a granule in class S reserves its slot. -/
def tagMiss (s : State) (e : Nat) (q : Req) (x : JEntry) : Bool :=
  let l := lineOf q
  if q.fullWrite then (tagLines q).any (fun t => (tagLine s e t x.ksrc).isNone)
  else q.granules.any (fun g =>
    if zeroCtr s e l g.2 x.ksrc then x.cls = .s && !q.isRead && (tagLine s e ((l * 32 + g.2) / 8) x.ksrc).isNone
    else (tagSlot s e l g.2 x.ksrc).isNone)

/-- The first unmet condition of Table 10.2 as its reason code (21 Table 21.1), if any. -/
def unmet (s : State) (e : Nat) (q : Req) (x : JEntry) (inst : Option Nat) : Option Nat :=
  let g := engAt s e
  let l := lineOf q
  let si := x.cls = .s || x.cls = .i
  let gs := q.granules.map Prod.snd
  let service := match q.src with | .service _ => true | _ => false
  if !service && replaying s (engPage e) then some 16
  else if q.src = .fm && tagBusy s e q.tag then some 2
  else if si && onResetList s q.page then some 3
  else if si && (g.reseal.any (fun r => r.page = l) || ((ctrLine s e l x.ksrc).any (fun y => match y.data with | .ctr _ _ _ r => r | _ => false))) then some 4
  else if !(portAt s e).sig then some 5
  else if x.cls != .p && (keysOf s x.ksrc).isNone then some 6
  else if si && (ctrLine s e l x.ksrc).isNone then some 7
  else if si && cohHold s e l (!q.isRead) then some 8
  else if si && tagMiss s e q x then some 9
  else if !q.fullWrite && (combineFor s e q).isNone && gs.any (hazardAt s e l) then some 10
  else if s.ctc.partChange.isSome || (si && !pinRoom s e (unitsOf q)) then some 11
  else if service then
    (if 2 ≤ (g.slots.filter (fun a => a.2.req.src = q.src)).length then some 13 else none)
  else if !shareFree s g inst then some 12
  else if 96 ≤ (g.slots.filter (fun a => match a.2.req.src with | .service _ => false | _ => true)).length then some 13
  else none

/-! ### Fills of a held request (10 R258, R278) -/

/-- Prefetch of the next DEPTH lines within the winning entry (10 R278). -/
def prefetchFrom (s : State) (e l : Nat) (x : JEntry) (inst : Option Nat) : State :=
  (List.range (getFld s (pgCtc + 0x048) 4 0)).foldl (fun t d =>
    let m := l + d + 1
    let pg := pageOfChannel e m
    if x.covers pg && engineOfPage pg = some e && (keysOf t x.ksrc).isSome && (ctrLine t e m x.ksrc).isNone && (fillOf t e .ctr m).isNone then
      startCtr { t with pmu := { t.pmu with pf := t.pmu.pf + 1 } } e m x.ksrc (x.cls = .i) inst true
    else t) s

/-- Allocate a tag line with no valid slot for a reservable write (10 R260). -/
def allocTag (s : State) (e t k : Nat) (inst : Option Nat) : State :=
  let s := clearOther s e .tag t k
  if (findLine s e .tag t).isSome || (fillOf s e .tag t).isSome then s
  else match takeWay s e .tag t inst with
    | (s, some w) => install s e .tag t w k (kidEpochOf s k) ((slotOf s k).elim 0 Prod.fst) inst false (.tag (List.replicate 8 none))
    | (s, none) => s

/-- Start what the unmet miss conditions of a held request need, all in one cycle (10 R258): key load, counter-line fill, tag-line fill or
allocation; a demand fill starts its prefetches (R278). -/
def startMisses (s : State) (e : Nat) (q : Req) (x : JEntry) (inst : Option Nat) : State :=
  let l := lineOf q
  let si := x.cls = .s || x.cls = .i
  let s := if x.cls != .p && (keysOf s x.ksrc).isNone then instCount (keyMiss s x.ksrc inst) inst 0x510 1 else s
  if !si then s
  else
    let miss := (ctrLine s e l x.ksrc).isNone
    let first := (fillOf s e .ctr l).isNone
    let s := if miss then startCtr (if first then instCount s inst 0x518 1 else s) e l x.ksrc (x.cls = .i) inst false else s
    let s := if miss && first then prefetchFrom s e l x inst else s
    (tagLines q).foldl (fun t n =>
      if q.fullWrite then allocTag t e n x.ksrc inst
      else if q.granules.any (fun g => (l * 32 + g.2) / 8 = n && zeroCtr t e l g.2 x.ksrc) then (if x.cls = .s && !q.isRead then allocTag t e n x.ksrc inst else t)
      else if q.granules.any (fun g => (l * 32 + g.2) / 8 = n && (tagSlot t e l g.2 x.ksrc).isNone) then startTag t e n x.ksrc inst
      else t) s

/-! ### Use of lines -/

/-- A demand uses a resident line: it becomes the most recently used; a prefetched line's fate is known (10 R279). -/
def useLine (s : State) (e : Nat) (k : LineKind) (idx : Nat) : State :=
  let hit := (findLine s e k idx).any (fun x => x.prefetched)
  let s := mapLine s e k idx (fun x => { x with age := s.ctc.clock, prefetched := false })
  let s := { s with pmu := { s.pmu with pfHit := s.pmu.pfHit + b2n hit } }
  { s with ctc := { s.ctc with clock := s.ctc.clock + 1, counted := s.ctc.counted + b2n hit, hits := s.ctc.hits + b2n hit } }

/-! ### Cipher (09 R230 to R233, R235) -/

/-- The plaintext of a stored granule of an admitted request; none where its tag fails. -/
def openGranule (a : Adm) (home i major minor : Nat) (ct tag : Bytes) : Option Bytes :=
  let d := da7 home a.snap.keyId a.req.page i
  match a.snap.cls with
  | .p => some ct
  | .e => some (xorBytes ct (keystream a.sk d 0 0))
  | c => if granuleTag a.tk ct d a.snap.keyId (c = .i) major minor = tag then some (xorBytes ct (keystream a.ek d major minor)) else none

/-- The stored form of a granule: ciphertext, and its tag for classes S and I. -/
def sealGranule (a : Adm) (home i major minor : Nat) (pt : Bytes) : Bytes × Bytes :=
  let d := da7 home a.snap.keyId a.req.page i
  match a.snap.cls with
  | .p => (pt, [])
  | .e => (xorBytes pt (keystream a.sk d 0 0), [])
  | c =>
    let ct := xorBytes pt (keystream a.ek d major minor)
    (ct, granuleTag a.tk ct d a.snap.keyId (c = .i) major minor)

/-- The counter (major, minor) of a granule; zero where its minor is 0 (09 R235). -/
def ctrOf (x : Line) (i : Nat) : Nat × Nat :=
  let (a, m) := x.ctrs
  let k := m.getD i 0
  if k = 0 then (0, 0) else (a, k)

/-- A tag failure of a granule: TAG_FAIL names instance, granule and KeyID, the page and the context (10 Table 10.12, 22 Table 22.8). -/
def tagFail (s : State) (e : Nat) (a : Adm) (i : Nat) : State :=
  detectAs s (engPage e) 0 rcMemAuthFail a.snap.inst (a.snap.inst.getD 0 + i * 0x100 + a.snap.keyId * 0x10000) a.req.page a.req.ctx

/-! ### Atomics (12 R326, R339) -/

/-- The signed value of a word of `w` bytes. -/
def signedOf (w x : Nat) : Int := if x < 2 ^ (8 * w - 1) then (x : Int) else (x : Int) - 2 ^ (8 * w)

/-- The new value of Table 12.1: old word `x`, operand `a`, compare value `c`. -/
def atomicNew (aop w x a c : Nat) : Nat :=
  match aop with
  | 0 => a
  | 1 => if x = c then a else x
  | 2 => (x + a) % 2 ^ (8 * w)
  | 3 => x &&& a
  | 4 => x ||| a
  | 5 => x ^^^ a
  | 6 => if signedOf w x < signedOf w a then a else x
  | 7 => if signedOf w a < signedOf w x then a else x
  | 8 => max x a
  | _ => min x a

/-- Bytes with a run replaced. -/
def spliceBytes (b : Bytes) (o : Nat) (x : Bytes) : Bytes := b.take o ++ x ++ b.drop (o + x.length)

/-- One atomic on a granule's plaintext: the new granule and the old word. -/
def atomicOn (q : Req) (j : Nat) (pt : Bytes) : Bytes × Bytes :=
  let (o, w) := q.word j
  let old := (pt.drop o).take w
  let a := leNat (((q.half j).drop o).take w)
  let c := leNat (((q.half (1 - j)).drop o).take w)
  (spliceBytes pt o (leBytes w (atomicNew q.aop w (leNat old) a c)), old)

/-- The bytes of a granule with the enabled bytes of a write. -/
def mergeBytes (old new : Bytes) (en : List Bool) : Bytes := ((old.zip new).zip en).map (fun p => if p.2 then p.1.2 else p.1.1)

/-- A pair with the halves in place; an unselected half is zero. -/
def pairData (parts : List (Nat × Bytes)) : Bytes :=
  (List.range 2).flatMap (fun j => match parts.find? (fun p => p.1 = j) with
    | some p => p.2
    | none => zeros 128)

end Sys2Proof.Machine
end

