-- ==== Sys2Proof/Machine/EngRun.lean ====
section
/-!
DEFINITION. How a memory engine admits and carries out a request (10 R258 to R277, 12 R331 to R342): admission, commits, partial writes and atomics,
combine sets, the re-seal machine, and the judging of its ingress.
-/
namespace Sys2Proof.Machine

/-! ### Re-seal (10 R275, R276) -/

/-- Present the read of one granule for a re-seal or its resume. -/
def readGranule (s : State) (e l i : Nat) (p : TxFor) : State := present s e p false (granuleOff l i) 128 []

/-- Write a counter line with its line kept resident (10 R275 step 2): class S pushes set flags down and advances its version. -/
def writeCheckpoint (s : State) (e : Nat) (x : Line) : State :=
  match x.data with
  | .ctr major minors clsI reseal =>
    let s := if clsI then s else bumpChild (pushDown s e x.idx) e .ctr x.idx
    let v := if clsI then 0 else ((parentEntry s e .ctr x.idx).getD (0, false)).1
    let tk := (lineKey s x.keyId x.kidEpoch).getD []
    let aad := ctrAad major minors clsI reseal
    present s e .checkpoint true (metaOff e .ctr x.idx) 64 (ctrBytes major minors clsI reseal (ctrMac tk (da12 s.dom.ownId x.keyId (linePage e x.idx)) v aad))
  | _ => s

/-- The re-seal machine pins the page's counter line and its four tag lines, each as it is resident and its set has room (10 R260, R275). -/
def resealPins (s : State) (e : Nat) : State :=
  match (engAt s e).reseal with
  | none => s
  | some r =>
    ((.ctr, r.page) :: (List.range 4).map (fun k => (LineKind.tag, r.page * 4 + k))).foldl (fun t u =>
      match (engAt t e).reseal with
      | some r =>
        if r.pins.contains u || (findLine t e u.1 u.2).isNone || !pinRoom t e [u] then t
        else setEng (mapLine t e u.1 u.2 (fun y => { y with pins := y.pins + 1 })) e { engAt t e with reseal := some { r with pins := r.pins ++ [u] } }
      | none => t) s

/-- The checkpoint line is presented once the path that its version needs is on die and its key is in a slot; until then what is missing is fetched
(10 R265, R275 step 2). -/
def tryCheckpoint (s : State) (e : Nat) : State :=
  match (engAt s e).reseal with
  | some r =>
    (match r.step, findLine s e .ctr r.page with
     | .path, some x =>
       let clsI := match x.data with
         | .ctr _ _ i _ => i
         | _ => false
       if (lineKey s x.keyId x.kidEpoch).isSome && (clsI || pathComplete s e r.page) then
         writeCheckpoint (setEng s e { engAt s e with reseal := some { r with step := .checkpoint } }) e x
       else pathFill s x
     | _, _ => s)
  | none => s

/-- A commit finds MINOR[w] = 4,095 (10 R275 steps 1 and 2): the checkpoint line is set and presented, the other written granules are read, the
page's tag lines are filled and pinned, and the request's own pins go at the hand-over (R260, R261). `own` are the granules the request writes. -/
def startReseal (s : State) (e n w : Nat) (own : List Nat) (replies : List (Nat × Bytes)) : State :=
  match tblFind (engAt s e).slots n with
  | none => s
  | some a =>
    let l := lineOf a.req
    match a.line s e with
    | none => s
    | some x =>
      let (major, minors) := x.ctrs
      let clsI := a.snap.cls = .i
      let s := mapLine s e .ctr l (fun y => { y with dirty := true, data := .ctr (major + 1) minors clsI true })
      let rest := (List.range 32).filter (fun i => minors.getD i 0 != 0 && !own.contains i)
      let s := pinLines s e a.req false
      let g := engAt s e
      let s := setEng s e { g with
        reseal := some ⟨l, some n, w, major, minors, .path, 0, rest, [], replies, []⟩
        slots := tblPut g.slots n { a with stage := .reseal } }
      let s := resealPins s e
      let s := tryCheckpoint s e
      let s := rest.foldl (fun t i => readGranule t e l i .resealRead) s
      let s := (List.range 4).foldl (fun t k => if (findLine t e .tag (l * 4 + k)).isSome && own.any (fun i => i / 8 = k) then t
        else startTag t e (l * 4 + k) a.snap.keyId a.snap.inst) s
      refreshEng (resealPins s e) e

/-- A counter line found with RESEAL 1 (10 R276): its written granules are read, its tag lines filled. -/
def startResume (s : State) (e : Nat) (x : Line) : State :=
  match (engAt s e).reseal with
  | some _ => s
  | none =>
    let (major, minors) := x.ctrs
    let rest := (List.range 32).filter (fun i => minors.getD i 0 != 0)
    let s := setEng s e { engAt s e with reseal := some ⟨x.idx, none, 0, major - 1, minors, .resume, 0, rest, [], [], []⟩ }
    let s := resealPins (wantKey s x) e
    let s := rest.foldl (fun t i => readGranule t e x.idx i .resumeRead) s
    let s := (List.range 4).foldl (fun t k => startTag t e (x.idx * 4 + k) x.keyId x.charge) s
    refreshEng (resealPins s e) e

/-- Set a tag slot of a resident tag line. -/
def setTagSlot (s : State) (e l i : Nat) (tag : Bytes) : State :=
  mapLine s e .tag ((l * 32 + i) / 8) (fun y => { y with dirty := true, data := match y.data with
    | .tag sl => .tag (sl.set (i % 8) (some tag))
    | d => d })

/-- A re-seal ends badly for a granule: it is left as it stands and recorded (10 R275 step 5, R276). -/
def granuleLeft (s : State) (e l i : Nat) : State := record s (engPage e) rcReseal (pageOfChannel e l) i 3

/-! ### Commits (10 R269, R277) -/

/-- How a commit ends. -/
inductive CommitEnd where
  | done (ctrs : List (Nat × Nat × Nat))
  | overflow (i : Nat)
  | full
deriving DecidableEq, Repr

/-- Increment the minors of the written granules in the resident line of an admitted request (10 R269). Set INIT flags above it are pushed down when the line
is written to memory (09 R240). -/
def commitLine (s : State) (e : Nat) (a : Adm) (clsI : Bool) (gs : List Nat) : State × CommitEnd :=
  let l := lineOf a.req
  match a.line s e with
  | none => (s, .full)
  | some x =>
    let (major, m) := x.ctrs
    if (engAt s e).full.contains l then (s, .full)
    else match gs.find? (fun i => m.getD i 0 = 4095) with
    | some i => (s, if major = 0xFFFFFFFFFFFFFFFF then .full else .overflow i)
    | none =>
      let m' := gs.foldl (fun m i => m.set i (m.getD i 0 + 1)) m
      (mapLine s e .ctr l (fun y => { y with dirty := true, data := .ctr major m' clsI false }), .done (gs.map (fun i => (i, major, m'.getD i 0))))

/-- A MAJOR that would overflow (10 R277): UNIT_GONE, recorded, and no later write to the page. -/
def majorFull (s : State) (e n l : Nat) : State :=
  let g := engAt s e
  let s := setEng s e { g with full := if g.full.contains l then g.full else g.full ++ [l] }
  let s := record s (engPage e) rcReseal (pageOfChannel e l) 0 1
  finishSlot s e n Status.unitGone.code [] []

/-- An admitted write has its bytes: it commits, and each reply is presented (10 R269, R271, 12 R339, R340). `parts` are the new granules by
position in the pair, `replies` the responses by slot, the request's own first. -/
def commitParts (s : State) (e n : Nat) (parts : List (Nat × Bytes)) (replies : List (Nat × Bytes)) : State :=
  match tblFind (engAt s e).slots n with
  | none => s
  | some a =>
    let gs := a.req.granules.map Prod.snd
    let a := { a with req := { a.req with wdata := pairData parts } }
    let post (s : State) (ctrs : List (Nat × Nat × Nat)) : State :=
      let s := putSlotAdm s e n { a with ctrs := ctrs, stage := .writeReady, responded := true }
      replies.foldl (fun t r =>
        if r.1 = n then answer t e a 0 [] r.2
        else finishSlot t e r.1 0 [] r.2) s
    if a.snap.cls = .p || a.snap.cls = .e then post s (gs.map (fun i => (i, 0, 0)))
    else match commitLine s e a (a.snap.cls = .i) gs with
      | (s, .done ctrs) => post s ctrs
      | (s, .overflow w) => startReseal (putSlotAdm s e n a) e n w gs replies
      | (s, .full) =>
        let s := replies.foldl (fun t r => if r.1 = n then t else finishSlot t e r.1 Status.unitGone.code [] []) s
        majorFull s e n (lineOf a.req)

/-! ### Partial writes and atomics (10 R271, 12 R339) -/

/-- The slots of the combine set that a slot leads, itself first. -/
def setMembers (g : Eng) (n : Nat) : List Nat :=
  n :: (match g.sets.find? (fun c => c.leader = n) with
    | some c => c.members
    | none => [])

/-- Whether an atomic is an ADD to an event's word whose result would not fit in 64 bits (17 R455). -/
def addOverflows (s : State) (q : Req) (j : Nat) (pt : Bytes) : Bool :=
  let (o, w) := q.word j
  q.aop = 2 && (objPageOwner s q.page).isSome && 2 ^ (8 * w) ≤ leNat ((pt.drop o).take w) + leNat (((q.half j).drop o).take w)

/-- Apply a set's atomics in admission order: the granule after each, each member's old word at its place in the pair, and the members that R455 skips. -/
def applySet (s : State) (g : Eng) (j : Nat) (pt : Bytes) (ms : List Nat) : Bytes × List (Nat × Bytes) × List Nat :=
  ms.foldl (fun acc m =>
    match tblFind g.slots m with
    | some a =>
      if addOverflows s a.req j acc.1 then (acc.1, acc.2.1, acc.2.2 ++ [m])
      else
        let (new, old) := atomicOn a.req j acc.1
        let o := (a.req.word j).1
        (new, acc.2.1 ++ [(m, pairData [(j, spliceBytes (zeros 128) o old)])], acc.2.2)
    | none => acc) (pt, [], [])

/-- An atomic's granule is written: the watches of its words look at it (17 R459). -/
def atomicCommit (s : State) (e n : Nat) (q : Req) (j : Nat) (new : Bytes) (replies : List (Nat × Bytes)) : State :=
  let s := commitParts s e n [(j, new)] replies
  if (tblFind (engAt s e).slots n).isSome then watchCommit s (q.addr / 256 * 256 + 128 * j) new else s

/-- The plaintext granules of a partial write or atomic are known: merge or apply, then commit. -/
def mergeAndCommit (s : State) (e n : Nat) (pts : List (Nat × Bytes)) : State :=
  let g := engAt s e
  match tblFind g.slots n with
  | none => s
  | some a =>
    if a.req.op = 3 then
      match pts with
      | (j, pt) :: _ =>
        let (new, old, bad) := applySet s g j pt (setMembers g n)
        let s := (bad.filter (· != n)).foldl (fun t m => finishSlot t e m Status.denied.code [] []) s
        if !bad.contains n then atomicCommit s e n a.req j new old
        else if old = [] then finishSlot s e n Status.denied.code [] []
        else atomicCommit (putSlotAdm (answer s e a Status.denied.code [] []) e n { a with responded := true }) e n a.req j new old
      | [] => s
    else
      let parts := pts.map (fun p => (p.1, mergeBytes p.2 (a.req.half p.1) (a.req.enables p.1)))
      let s := commitParts s e n parts [(n, [])]
      parts.foldl (fun t p => watchCommit t (a.req.addr / 256 * 256 + 128 * p.1) p.2) s

/-- The end of an admitted request whose granules never were written: UNWRITTEN in class S, AUTH_FAIL recorded in class I (10 R270, 09 R243). -/
def zeroCounterEnd (s : State) (e n : Nat) (a : Adm) : State :=
  if a.snap.cls = .i then
    let i := (a.req.granules.map Prod.snd).headD 0
    finishSlot (recordInst s (engPage e) rcMemAuthFail a.snap.inst (a.snap.inst.getD 0 + i * 0x100 + a.snap.keyId * 0x10000) a.req.page a.req.ctx)
      e n Status.authFail.code [] []
  else finishSlot s e n Status.unwritten.code [] []

/-! ### Admission -/

/-- Whether an admitted request may open a combine set (12 R338, R342; 11 R318). -/
def opensSet (s : State) (a : Adm) : Bool :=
  match a.req.op, a.req.src with
  | 3, _ => 2 ≤ a.req.aop && regBit s (pgTtb + 0x0C0) 0
  | 2, .remote n _ _ _ _ _ (some f) =>
    let x := (tblFind (spanAt s n).flows f).getD Flow.zero
    x.valid && x.kind = 1 && x.keyId = a.req.keyId
  | _, _ => false

/-- The stage an admitted request begins with (10 R268 to R271). -/
def startItem (s : State) (e n : Nat) : State :=
  match tblFind (engAt s e).slots n with
  | none => s
  | some a =>
    let l := lineOf a.req
    let si := a.snap.cls = .s || a.snap.cls = .i
    let ctrs := if si then
        (match a.line s e with
         | some x => a.req.granules.map (fun g => (g.2, (ctrOf x g.2).1, (ctrOf x g.2).2))
         | none => [])
      else a.req.granules.map (fun g => (g.2, 0, 0))
    let zero (c : Nat × Nat × Nat) : Bool := si && c.2.2 = 0
    let a := { a with ctrs := ctrs }
    let read (st : Stage) : State :=
      let s := putSlotAdm s e n { a with stage := st }
      let s := if opensSet s a then setEng s e { engAt s e with sets := (engAt s e).sets ++ [⟨n, [], now s⟩] } else s
      present s e (.slotRead n) false (granuleOff l ((a.req.granules.map Prod.snd).headD 0)) (128 * a.req.granules.length) []
    if a.req.isRead then
      if ctrs.all zero || (a.snap.cls = .i && ctrs.any zero) then zeroCounterEnd (putSlotAdm s e n a) e n a else read .readWait
    else if a.req.fullWrite then commitParts (putSlotAdm s e n a) e n (a.req.granules.map (fun g => (g.1, a.req.half g.1))) [(n, [])]
    else if a.snap.cls = .i && ctrs.any zero then zeroCounterEnd (putSlotAdm s e n a) e n a
    else if ctrs.all zero then mergeAndCommit (putSlotAdm s e n a) e n (a.req.granules.map (fun g => (g.1, zeros 128)))
    else read .rmwWait

/-- TTB admits a request (10 R258): snapshot, slot, pins, the key material that the bus gave, and its first stage; or it joins an open combine set (12 R338). -/
def admitReq (s : State) (e : Nat) (q : Req) (j : Nat) (x : JEntry) (inst : Option Nat) (ks : KeySet) : State :=
  let g := engAt s e
  let n := firstGap g.slots 0
  let k := if x.cls = .p then 0 else x.ksrc
  let gen := match q.src with
    | .fm => (match inst with | some i => instGen s i | none => 0)
    | .remote .. => (match inst with | some i => instGen s i | none => 0)
    | _ => q.gen
  let tc := match q.src with | .service _ => 0 | _ => 3
  let a : Adm := ⟨q, ⟨inst, gen, q.pasid, k, (slotOf s k).elim 0 Prod.fst, x.cls, j, tc, q.ctx, if x.cls = .p then 0 else kidEpochOf s k⟩, ks.ek, ks.tk, ks.sk, [], .readWait, false, g.clock, x.ballast⟩
  let join := if q.fullWrite then none else combineFor s e q
  let s := setEng s e { g with clock := g.clock + 1 }
  let s := pmuItem (instCount s inst 0x500 1) e
  let s := if x.cls = .p then s else touchSlot s k
  let s := if x.cls = .s || x.cls = .i then
      (let hit := (findLine s e .ctr (lineOf q)).any (fun y => y.prefetched)
       let s := (unitsOf q).foldl (fun t u => useLine t e u.1 u.2) (pinLines s e q true)
       if hit then prefetchFrom s e (lineOf q) x inst else s)
    else s
  match join with
  | some c =>
    let s := putSlotAdm s e n { a with stage := .combined c.leader }
    let g := engAt s e
    let s := setEng s e { g with sets := g.sets.map (fun d => if d.leader = c.leader then { d with members := d.members ++ [n] } else d) }
    if q.op = 3 then
      incSat (if c.members = [] then incSat s (engPage e + 0x054) 31 0 1 else s) (engPage e + 0x050) 31 0 1
    else s
  | none => startItem (putSlotAdm s e n a) e n

/-! ### The ordering unit (12 R331 to R334) -/

/-- ORD_WAITING of TTB. -/
def refreshOrd (s : State) : State := setFld s (pgTtb + 0x0C4) 6 0 s.ttb.flags.length

/-- A store is sampled at an FM port: from now on it is a predecessor of its instance's later flags. Answers its order. -/
def sampleStore (s : State) (e : Nat) (q : Req) : State :=
  match q.inst with
  | some i =>
    { s with ttb := { s.ttb with clock := s.ttb.clock + 1, stores := s.ttb.stores ++ [⟨e, q.tag, i, s.ttb.clock⟩] } }
  | none => s

/-- Whether the ordering unit has room for a flag of an instance (12 R334). -/
def orderRoom (s : State) (i : Option Nat) : Bool :=
  s.ttb.flags.length < 64 && (s.ttb.flags.filter (fun f => f.req.inst = i)).length < 4

/-- The ordering unit accepts a flag (12 R331): its predecessors are the instance's stores sampled before it that have not completed. -/
def acceptFlag (s : State) (e : Nat) (q : Req) : State :=
  let own := (s.ttb.stores.find? (fun x => x.engine = e && x.tag = q.tag)).elim s.ttb.clock Store.order
  let preds := match q.inst with
    | some i => (s.ttb.stores.filter (fun x => x.inst = i && x.order < own)).map Store.order
    | none => []
  refreshOrd { s with ttb := { s.ttb with flags := s.ttb.flags ++ [⟨q, e, own, preds, none⟩] } }

/-! ### The ingress register (10 R257 to R259) -/

/-- The ingress register holds a request under a reason. -/
def holdIngress (s : State) (e : Nat) (q : Req) (reason : Nat) : State :=
  refreshEng (setEng s e { engAt s e with ingress := some q, hold := reason }) e

/-- The ingress register is empty. -/
def clearIngress (s : State) (e : Nat) : State := refreshEng (setEng s e { engAt s e with ingress := none, hold := 0 }) e

/-- A refusal before IMU: DENIED, counted in the engine's ERR_COUNT (03 R72, 12 R325 to R327). -/
def denyAtPort (s : State) (e : Nat) (q : Req) : State := respond (incSat s (engPage e + 0x024) 15 0 1) e q Status.denied.code []

/-- A refusal at JCT before any lookup: the page lies in no data range (09 R226, R253). -/
def denyAtJct (s : State) (e : Nat) (q : Req) : State := respond (jctDeny s) e q Status.denied.code []

/-- A request whose conditions are met is admitted with its key; a key whose share words fail parity ends it with POISON (08 R214). -/
def admitKeyed (s : State) (e : Nat) (q : Req) (j : Nat) (x : JEntry) (inst : Option Nat) : State :=
  if x.cls = .p then admitReq s e q j x inst ⟨[], [], [], []⟩
  else match busRead s x.ksrc with
    | .keys ks => admitReq s e q j x inst ks
    | .parity => respond (keyParity s x.ksrc) e q Status.poison.code []
    | .absent => s

/-- TTB judges a local request in its register: a refusal completes it, an unmet condition holds it and starts its fills, otherwise it is admitted.
`hold` keeps it where it waits. While the memory port is not up after a wake, or a replay runs, nothing is started. -/
def judgeItem (s : State) (e : Nat) (q : Req) (hold : State → Nat → State) (clear : State → State) : State :=
  match judgeLocal s e q with
  | (s, .refuse st) => respond (clear s) e q st []
  | (s, .wait r) => hold s r
  | (s, .ok j x inst) =>
    match unmet s e q x inst with
    | some r =>
      let s := match ctrLine s e (lineOf q) x.ksrc with
        | some y => (match y.data with
          | .ctr _ _ _ true => if r = 4 then startResume s e y else s
          | _ => s)
        | none => s
      let s := hold s r
      if r = 5 || r = 16 then s else startMisses s e q x inst
    | none => admitKeyed (clear s) e q j x inst

/-- TTB judges the request in the FM ingress register (10 R258). -/
def judgeIngress (s : State) (e : Nat) (q : Req) : State :=
  judgeItem s e q (fun t r => holdIngress t e q r) (fun t => clearIngress t e)

/-- The admission of a write at an owner that holds a pod home's line in state O (10 R281, R282): the owner commits and sends WRITE_CT. A write that
would overflow goes to the home after the owner's write-back (R277): then the answer is none. A key whose share words fail parity ends it with POISON
(08 R214). -/
def ownerCommit (s : State) (e : Nat) (q : Req) (c : Copy) (span : Nat) (inst : Option Nat) : Option State :=
  match c.data, busRead s q.keyId with
  | .ctr _ _ _ _, .parity => some (respond (keyParity s q.keyId) e q Status.poison.code [])
  | .ctr major m clsI r, .keys ks =>
    let gs := q.granules.map Prod.snd
    if gs.any (fun i => m.getD i 0 = 4095) then none
    else
      let m' := gs.foldl (fun m i => m.set i (m.getD i 0 + 1)) m
      let a : Adm := ⟨q, ⟨inst, 0, q.pasid, q.keyId, 0, if clsI then .i else .s, 0, 3, q.ctx, kidEpochOf s q.keyId⟩, ks.ek, ks.tk, ks.sk, [], .writeReady, true, 0, 0⟩
      let items := q.granules.map (fun g =>
        let (ct, tag) := sealGranule a q.home g.2 major (m'.getD g.2 0) (q.half g.1)
        TxItem.writeCt q.home q.keyId (q.page * 4096 + g.2 * 128) c.v (major, m'.getD g.2 0, tag) ct)
      let s := { s with coh := { s.coh with copies := s.coh.copies.map (fun d =>
        if d.home = c.home && d.tree = c.tree && d.idx = c.idx then { d with data := .ctr major m' clsI r, sent := d.sent + gs.length } else d) } }
      let s := mapSpan s span (fun x => { x with outQ := x.outQ ++ items })
      some (respond s e q 0 [])
  | _, _ => none

end Sys2Proof.Machine
end

