-- ==== Sys2Proof/Machine/CohOps.lean ====
section
/-!
DEFINITION. Counter-line coherence as shared operations (10 R281 to R286, 18 R479): messages, the home's directory, grants and recalls, write-backs,
members and homes that are gone.
-/
namespace Sys2Proof.Machine

/-- The span that reaches a peer: the lowest whose memory-flow map holds it (11 R298). -/
def spanFor (s : State) (peer : Nat) : Option Nat := (List.range 18).find? (fun n => getBit (tblGet 0 (spanAt s n).mf peer) 31)

/-- Whether an accelerator is another member of this pod (02 R36). -/
def inPod (s : State) (id : Nat) : Bool := id != s.dom.ownId && s.dom.members.any (fun m => m.id = id && m.pod = s.dom.pod)

/-- Queue a coherence message to a peer. -/
def cohSend (s : State) (peer tree idx : Nat) (m : CohMsg) : State :=
  match spanFor s peer with
  | some n => mapSpan s n (fun x => { x with outQ := x.outQ ++ [.coh peer tree idx m] })
  | none => s

/-- A coherence message is discarded (10 R284). -/
def cohDiscard (s : State) : State := fire s pgCtc 2

/-- A counter line as a message carries it. -/
def lineMsg : LineData → Bytes
  | .ctr a m i r => ctrBytes a m i r (zeros 7)
  | _ => zeros 64

/-- The counter line that a message carries. -/
def msgLine (b : Bytes) : LineData :=
  .ctr (leNat (b.take 8)) ((List.range 32).map (minorOf ((b.drop 8).take 48))) (((b.getD 63 0).toNat).testBit 0) (((b.getD 63 0).toNat).testBit 1)

/-- DIR_USED of CTC. -/
def refreshDir (s : State) : State := setFld s (pgCtc + 0x054) 16 0 s.coh.dir.length

/-- Set a directory entry. -/
def putDir (s : State) (d : DirEntry) : State :=
  let rest := s.coh.dir.filter (fun x => !(x.tree = d.tree && x.idx = d.idx))
  refreshDir { s with coh := { s.coh with dir := rest ++ [d] } }

/-- Remove an entry that no member holds or waits for; its line's pin goes with it. -/
def tidyDir (s : State) (tree idx : Nat) : State :=
  match dirOf s tree idx with
  | some d =>
    if d.st = .u && d.queue = [] && d.invs = [] && d.heldWb.isNone then
      (let s := if d.pinned then mapLine s tree .ctr idx (fun x => { x with pins := x.pins - 1 }) else s
       refreshDir { s with coh := { s.coh with dir := s.coh.dir.filter (fun x => !(x.tree = tree && x.idx = idx)) } })
    else s
  | none => s

/-- The home pins the line of a directory entry once it is resident and its set has room (10 R260, R281). -/
def pinDir (s : State) (tree idx : Nat) : State :=
  match dirOf s tree idx with
  | some d =>
    if d.pinned || (findLine s tree .ctr idx).isNone || !pinRoom s tree [(.ctr, idx)] then s
    else mapLine (putDir s { d with pinned := true }) tree .ctr idx (fun x => { x with pins := x.pins + 1 })
  | none => s

/-- Ask the owner of a line for it, once (10 R283). -/
def sendRecall (s : State) (d : DirEntry) : State :=
  match d.st with
  | .o w => if d.recalls = 0 then cohSend (putDir s { d with recalls := 1 }) w d.tree d.idx (.recall d.v) else s
  | _ => s

/-- Send INV to every sharer that has none outstanding. -/
def sendInvs (s : State) (d : DirEntry) (except : Nat) : State :=
  match d.st with
  | .s m =>
    let who := m.filter (fun x => x != except && !d.invs.any (fun i => i.1 = x))
    who.foldl (fun t x => cohSend t x d.tree d.idx (.inv d.v)) (putDir s { d with invs := d.invs ++ who.map (fun x => (x, 1)) })
  | _ => s

/-- Serve the oldest demand of a line that can be served (10 R283, R284): the line is resident and pinned, no owner or INV stands in the way. -/
def serveDemand (s0 : State) (tree idx : Nat) : State :=
  let s := pinDir s0 tree idx
  match dirOf s tree idx with
  | none => s
  | some d =>
    match d.queue, findLine s tree .ctr idx with
    | q :: rest, some x =>
      if !d.pinned then s
      else if q.member = s.dom.ownId then
        (match d.st with
         | .o _ => sendRecall s d
         | .s _ => if q.own then (if d.invs = [] then sendInvs s d q.member else s) else putDir s { d with queue := rest }
         | .u => tidyDir (putDir s { d with queue := rest }) tree idx)
      else if q.own then
        (match d.st with
         | .o w => if w = q.member then putDir s { d with queue := rest } else sendRecall s d
         | .s m =>
           if m.all (· = q.member) then
             cohSend (putDir s { d with st := .o q.member, v := d.v + 1, queue := rest, wct := 0, recalls := 0 }) q.member tree idx (.data true (d.v + 1) (lineMsg x.data))
           else sendInvs s d q.member
         | .u => cohSend (putDir s { d with st := .o q.member, v := d.v + 1, queue := rest, wct := 0, recalls := 0 }) q.member tree idx (.data true (d.v + 1) (lineMsg x.data)))
      else
        (match d.st with
         | .o _ => sendRecall s d
         | .s m =>
           if d.invs = [] then
             cohSend (putDir s { d with st := .s (if m.contains q.member then m else m ++ [q.member]), queue := rest }) q.member tree idx (.data false d.v (lineMsg x.data))
           else s
         | .u => cohSend (putDir s { d with st := .s [q.member], queue := rest }) q.member tree idx (.data false d.v (lineMsg x.data)))
    | _, _ => s

/-- Serve a line's demands until one waits: at most one per member (10 R281). -/
def serveLine (s : State) (tree idx : Nat) : State := (List.range 9).foldl (fun t _ => serveDemand t tree idx) s

/-- The least recently used directory entry. -/
def oldestDir : List DirEntry → Option DirEntry
  | [] => none
  | d :: t => match oldestDir t with
    | some x => if x.age < d.age then some x else some d
    | none => some d

/-- The home has the line of a demand fetched: with its key on die its path and line are filled (10 R262, R281). The lookup uses the read copy of the link
island over which the member is reached (09 R251, log 104). -/
def fetchHome (s : State) (tree idx member : Nat) : State :=
  match winner (copyTable s ((spanFor s member).elim (islandOfEngine tree) islandOfSpan)) (pageOfChannel tree idx) with
  | some (_, x) =>
    if (ctrLine s tree idx x.ksrc).isSome then s
    else startCtr (if (keysOf s x.ksrc).isNone then keyMiss s x.ksrc none else s) tree idx x.ksrc (x.cls = .i) none false
  | none => s

/-- A demand joins the directory entry of its line, or a new one (10 R281). -/
def joinDir (s : State) (tree idx : Nat) (q : Demand) : State :=
  match dirOf s tree idx with
  | some d =>
    if d.queue.any (fun x => x.member = q.member && x.own = q.own) || 8 ≤ d.queue.length then s
    else serveLine (putDir s { d with queue := d.queue ++ [q], age := s.ctc.clock }) tree idx
  | none => serveLine (fetchHome (putDir s ⟨tree, idx, .u, 0, [q], none, 0, 0, [], s.ctc.clock, false⟩) tree idx q.member) tree idx

/-- Demands that waited for a free directory entry get one (10 R281). -/
def serveLate (s : State) : State :=
  s.coh.late.foldl (fun t w =>
    if (dirOf t w.1 w.2.1).isSome || t.coh.dir.length < 65536 then
      joinDir { t with coh := { t.coh with late := t.coh.late.filter (· != w) } } w.1 w.2.1 w.2.2
    else t) s

/-- Demands of an engine's lines that wait for their line or its pin are tried again. -/
def retryDir (s : State) (e : Nat) : State :=
  (s.coh.dir.filter (fun d => d.tree = e && d.queue != [])).foldl (fun t d =>
    serveLine (match d.queue with
      | q :: _ => fetchHome t d.tree d.idx q.member
      | [] => t) d.tree d.idx) s

/-- A demand for a line arrives at its home (10 R281, R283, R284): NACK while its page is re-sealed; a new entry pins the line, and a full directory
recalls its least recently used entry before it takes the demand. -/
def demandLine (s : State) (tree idx member : Nat) (own : Bool) : State :=
  if (engAt s tree).reseal.any (fun r => r.page = idx) then cohSend s member tree idx (.nack 1)
  else if (dirOf s tree idx).isNone && (winner (copyTable s ((spanFor s member).elim (islandOfEngine tree) islandOfSpan)) (pageOfChannel tree idx)).isNone then
    cohDiscard s
  else if (dirOf s tree idx).isNone && 65536 ≤ s.coh.dir.length then
    (let s := { s with coh := { s.coh with late := if s.coh.late.contains (tree, idx, ⟨member, own⟩) then s.coh.late else s.coh.late ++ [(tree, idx, ⟨member, own⟩)] } }
     match oldestDir s.coh.dir with
     | some d => (match d.st with
       | .o _ => sendRecall s d
       | _ => sendInvs s d s.dom.ownId)
     | none => s)
  else joinDir s tree idx ⟨member, own⟩

/-- A local access that holds for coherence asks for the line (10 R282). -/
def homeDemand (s : State) (e l : Nat) (wr : Bool) : State :=
  match dirOf s e l with
  | some d =>
    if d.queue.any (fun q => q.member = s.dom.ownId) then s
    else serveLine (putDir s { d with queue := d.queue ++ [⟨s.dom.ownId, wr⟩] }) e l
  | none => s

/-- A WB is applied (10 R283, R284): the line is installed, V advances, the line is uncached, the owner may free its copy. -/
def applyWb (s : State) (d : DirEntry) (src : Nat) (line : LineData) : State :=
  let s := mapLine s d.tree .ctr d.idx (fun x => { x with dirty := true, data := line })
  let s := putDir s { d with st := .u, v := d.v + 1, heldWb := none, wct := 0, recalls := 0 }
  let s := cohSend s src d.tree d.idx (.wbAck (d.v + 1))
  serveLate (tidyDir (serveLine s d.tree d.idx) d.tree d.idx)

/-- A pod member is gone (10 R286, 18 R479): it leaves every entry; a line it owned returns to U with V + 1 and is recorded. -/
def memberGone (s : State) (id : Nat) : State :=
  let s := { s with coh := { s.coh with late := s.coh.late.filter (fun w => w.2.2.member != id), cts := s.coh.cts.filter (fun w => w.sender != id) } }
  serveLate <| s.coh.dir.foldl (fun t d0 =>
    match dirOf t d0.tree d0.idx with
    | some d =>
      let d := { d with queue := d.queue.filter (fun q => q.member != id), invs := d.invs.filter (fun i => i.1 != id) }
      let t := match d.st with
        | .o w => if w = id then lineLost (putDir t { d with st := .u, v := d.v + 1, heldWb := none, wct := 0, recalls := 0 }) d.tree d.idx 3 else putDir t d
        | .s m => putDir t { d with st := if (m.filter (· != id)) = [] then .u else .s (m.filter (· != id)) }
        | .u => putDir t d
      tidyDir (serveLine t d.tree d.idx) d.tree d.idx
    | none => t) s

/-- A home is gone: this member drops its copies of that home's lines (10 R286). -/
def homeGone (s : State) (id : Nat) : State :=
  { s with coh := { s.coh with copies := s.coh.copies.filter (fun c => c.home != id), reqs := s.coh.reqs.filter (fun r => r.home != id) } }

/-- This member's copy of a home line. -/
def copyOf (s : State) (home tree idx : Nat) : Option Copy :=
  s.coh.copies.find? (fun c => c.home = home && c.tree = tree && c.idx = idx)

/-- Change a copy. -/
def mapCopy (s : State) (home tree idx : Nat) (f : Copy → Copy) : State :=
  { s with coh := { s.coh with copies := s.coh.copies.map (fun c => if c.home = home && c.tree = tree && c.idx = idx then f c else c) } }

/-- Drop a copy. -/
def dropCopy (s : State) (home tree idx : Nat) : State :=
  { s with coh := { s.coh with copies := s.coh.copies.filter (fun c => !(c.home = home && c.tree = tree && c.idx = idx)) } }

/-- Ask a home for a line, once (10 R282). -/
def cohRequest (s : State) (home tree idx : Nat) (own : Bool) : State :=
  if s.coh.reqs.any (fun r => r.home = home && r.tree = tree && r.idx = idx && r.own = own) then s
  else cohSend { s with coh := { s.coh with reqs := s.coh.reqs ++ [⟨home, tree, idx, own, false⟩] } } home tree idx (if own then .geto else .gets)

/-- Whether WRITE_CTs of a line still wait at a span. -/
def writeCtWaits (s : State) (home tree idx : Nat) : Bool :=
  s.spans.any (fun x => x.2.outQ.any (fun i => match i with
    | .writeCt p _ a _ _ _ => p = home && engineOfPage (a / 4096) = some tree && channelPage (a / 4096) = idx
    | _ => false))

/-- The owner sends its write-back and retains the copy until WB_ACK (10 R283, R285). -/
def sendWb (s : State) (c : Copy) : State :=
  cohSend (mapCopy s c.home c.tree c.idx (fun d => { d with owned := false, retained := true, recalled := false })) c.home c.tree c.idx (.wb c.v c.sent (lineMsg c.data))

/-! ### A remote request at its requester (03 R73, 10 R282, 17 R440) -/

/-- Whether a remote write is carried out by this member as an owner (10 R282, 12 Table 12.4). -/
def ownable (s : State) (q : Req) : Bool := q.op = 1 && q.fullWrite && q.keyId != 0 && inPod s q.home && regBit s (pgCtc + 0x054) 31

/-- The statuses with which a remote request ends before it waits for its span, in their order (03 R69, R73, 04 R120, 17 R440, 01 R26, 08 R205). -/
def remoteRefusal (s : State) (e : Nat) (q : Req) : State × Option Nat :=
  if 18 ≤ q.link || pageAbsent s (pgVdt q.link) || s.dom.epoch = 0 then (s, some Status.denied.code)
  else match imuStage s q (instOfPasid s q.pasid) true false false e with
  | (s, some st) => (s, some st)
  | (s, none) =>
    if q.keyId != 0 && isRetiring s q.keyId then (s, some Status.keyRetired.code)
    else if 0xFF00 ≤ q.keyId then (s, some Status.denied.code)
    else if !(portAt s (40 + q.link)).up || !fmServes s e then (s, some Status.unitGone.code)
    else (s, none)

/-- The remote request in an ingress register is judged: the refusals of R73 and of IMU, then ownership for a pod home, otherwise it waits for
its span (10 R282, 11 R308). -/
def judgeRemote (s : State) (e : Nat) (q : Req) : State :=
  let n := q.link
  match remoteRefusal s e q with
  | (s, some st) => respond (clearIngress s e) e q st []
  | (s, none) =>
    let tree := (engineOfPage q.page).getD 40
    let l := lineOf q
    let waits := (spanAt s n).outQ.contains (.fm e)
    let send (s : State) : State := if waits then s else mapSpan (holdIngress s e q 0) n (fun x => { x with outQ := x.outQ ++ [.fm e] })
    if ownable s q && !waits then
      (if (keysOf s q.keyId).isNone then keyMiss (holdIngress s e q 6) q.keyId (instOfPasid s q.pasid)
       else match copyOf s q.home tree l with
       | some c =>
         if c.owned && !c.recalled then
           (match ownerCommit s e q c n (instOfPasid s q.pasid) with
            | some t => clearIngress t e
            | none => send (sendWb s c))
         else holdIngress (if c.retained || c.recalled then s else cohRequest s q.home tree l true) e q 8
       | none => holdIngress (cohRequest s q.home tree l true) e q 8)
    else send (if q.op = 0 && q.keyId != 0 && inPod s q.home && (copyOf s q.home tree l).isNone && tree < 40 then cohRequest s q.home tree l false else s)

/-! ### WRITE_CT (10 R283, R285) -/

/-- The home takes a WRITE_CT: the owner under V and the tag are checked; data and tag are written, the counter line is not changed, and a WB that waited for
it is applied. None while its key is not on die or its tag line has no way yet. -/
def takeCt (s : State) (w : HeldCt) : Option State :=
  match engineOfPage w.page, winner (copyTable s ((spanFor s w.sender).elim 0 islandOfSpan)) w.page with
  | some e, some (_, x) =>
    let l := channelPage w.page
    let t := (l * 32 + w.granule) / 8
    (match dirOf s e l with
     | some d =>
       if d.st != .o w.sender || d.v != w.v then some (cohDiscard s)
       else match keysOf s x.ksrc with
       | none => none
       | some ks =>
         if granuleTag ks.tk w.data (da7 s.dom.ownId x.ksrc w.page w.granule) x.ksrc (x.cls = .i) w.major w.minor != w.tag then some (cohDiscard s)
         else
           let s := allocTag s e t x.ksrc none
           if (tagLine s e t x.ksrc).isNone then none
           else
             let s := setTagSlot s e l w.granule w.tag
             let s := present s e (.slotWrite [l * 32 + w.granule]) true (granuleOff l w.granule) 128 w.data
             let d := { d with wct := d.wct + 1 }
             match d.heldWb with
             | some b => some (if b.missing = 1 then applyWb s d b.src b.data else putDir s { d with heldWb := some { b with missing := b.missing - 1 } })
             | none => some (putDir s d)
     | none => some (cohDiscard s))
  | _, _ => some (cohDiscard s)

/-- A WRITE_CT that cannot be taken yet waits, its key or the way of its tag line asked for. -/
def offerCt (s : State) (w : HeldCt) : State :=
  match takeCt s w with
  | some t => t
  | none =>
    let s := { s with coh := { s.coh with cts := s.coh.cts ++ [w] } }
    match engineOfPage w.page, winner (copyTable s ((spanFor s w.sender).elim 0 islandOfSpan)) w.page with
    | some e, some (_, x) => if (keysOf s x.ksrc).isNone then keyMiss s x.ksrc none else allocTag s e ((channelPage w.page * 32 + w.granule) / 8) x.ksrc none
    | _, _ => s

/-- The WRITE_CTs that wait are tried again in their order. -/
def retryCts (s : State) : State :=
  if s.coh.cts = [] then s else s.coh.cts.foldl offerCt { s with coh := { s.coh with cts := [] } }

/-! ### Fills that settle (10 R262, R265) -/

/-- Whether a failed unit lies on the path of a counter line. -/
def onPath (f : Fill) (tree l : Nat) : Bool :=
  f.tree = tree && (match f.kind with
    | .ctr => f.idx = l
    | .tag => l * 4 ≤ f.idx && f.idx < l * 4 + 4
    | .node v => (pathOf tree l).any (fun p => p.1 = v && p.2.1 = f.idx))

/-- Whether a waiting local request needs the unit of a fill: its counter line, with its path, while the line is not resident; a tag line while one of its
granules with a counter that is not zero has no tag there. -/
def needsFill (s : State) (f : Fill) (q : Req) : Bool :=
  q.isLocal s && engineOfPage q.page = some f.tree && onPath f f.tree (lineOf q) &&
  match winner (copyTable s (lookupIsland f.tree q)) q.page with
  | some (_, x) =>
    (x.cls = .s || x.cls = .i) &&
    (match f.kind with
     | .tag => !q.fullWrite && (tagLines q).contains f.idx && q.granules.any (fun g => (lineOf q * 32 + g.2) / 8 = f.idx
         && !zeroCtr s f.tree (lineOf q) g.2 x.ksrc && (tagSlot s f.tree (lineOf q) g.2 x.ksrc).isNone)
     | _ => (ctrLine s f.tree (lineOf q) x.ksrc).isNone)
  | none => false

/-- A fill ended without its unit: the requests that wait on it complete with a status (10 R259, R262, 03 R78), and the line whose write-back waited for it is
lost (10 R265). -/
def fillLost (s : State) (f : Fill) (st : Nat) : State :=
  let s := { s with ctc := { s.ctc with fills := s.ctc.fills.filter (fun x => !(x.tree = f.tree && (match x.kind, f.kind with
    | .ctr, .node _ => onPath f x.tree x.idx
    | .node v, .node w => v < w && x.idx / 8 ^ (w - v) = f.idx
    | _, _ => false))) } }
  let s := match f.wb with
    | some (k, idx) => (match findLine s f.tree k idx with
      | some x => if f.merge then s else lineLost (dropLine s x) f.tree idx 6
      | none => s)
    | none => s
  let g := engAt s f.tree
  let s := match g.ingress with
    | some q => if g.hold != 0 && needsFill s f q then respond (clearIngress s f.tree) f.tree q st [] else s
    | none => s
  match (engAt s f.tree).service with
  | q :: r => if needsFill s f q then respond (setEng s f.tree { engAt s f.tree with service := r }) f.tree q st [] else s
  | [] => s

/-- What waits for the units that a settling installs goes on: demands of the line, the resume of a line found with RESEAL 1, and the checkpoint lines;
the requests on a failed fill complete with AUTH_FAIL (10 R262, R275, R276, R284). -/
def afterSettle (s : State) (ends : List (Fill × Bool)) : State :=
  let s := ends.foldl (fun t o =>
    if o.2 then
      (let t := serveLine t o.1.tree o.1.idx
       match o.1.kind, findLine t o.1.tree .ctr o.1.idx with
       | .ctr, some x => (match x.data with
         | .ctr _ _ _ true => startResume t o.1.tree x
         | _ => t)
       | _, _ => t)
    else fillLost t o.1 Status.authFail.code) s
  retryCts ((s.engs.filter (fun g => g.2.reseal.isSome)).foldl (fun t g => tryCheckpoint (resealPins t g.1) g.1) s)

/-- The returned fills are verified as far as their parents and keys allow, and what waited for them goes on. -/
def settleAll (s : State) : State :=
  let r := settle s
  afterSettle r.1 r.2

end Sys2Proof.Machine
end

