-- ==== Sys2Proof/Machine/RegAccess.lean ====
section
/-!
DEFINITION. The judgement of a register access (05 R131 to R139, R146 to R148) and the storing of fields. Every row that is a register
access goes through `judge`.
-/
namespace Sys2Proof.Machine

/-- Whether the memory gateway is open (07 R193). -/
def gatewayOpen (s : State) : Bool :=
  s.lco.decoded && !s.lco.gateClosed && (s.lco.lc = .maker || s.lco.lc = .returned || (s.lco.lc = .integrator && s.lco.unlocked))

/-- The pages and registers that the life-cycle state opens to role D (07 Table 07.5, R182). On the EVR page "for reading" takes in the
write of RD_SEQ (20 R522). -/
def debugReach (s : State) (off : Nat) (wr : Bool) : Bool :=
  let pg := pageOf off
  let o := off % 0x1000
  let evrRead := pg = pgEvr && (!wr || o = 0x050)
  if s.lco.pendingLc && pg != pgLco then false
  else match s.lco.lc with
    | .maker | .returned => true
    | .integrator => if s.lco.unlocked then pg != pgKvt && pg != pgEnt else pg = pgLco || evrRead
    | .fielded => (pg = pgLco && (o < 0x048 || (0x048 ≤ o && o < 0x068))) || evrRead
    | .scrapped => pg = pgLco && o < 0x044
    | .locked => false

/-- Whether a role reaches an offset (05 Table 05.3). -/
def reaches (s : State) (r : Role) (off : Nat) (wr : Bool) : Bool :=
  isMapped off && (match r with
    | .m | .f => true
    | .t i => isInstOff off && instOf off = i.val
    | .d => debugReach s off wr
    | .x _ => false)

/-- A REG_DENIED record of the register interconnect, from its own buffer: the first refusal of a role in each millisecond, with the refusals
since the last record as parameter 3 (05 R133). -/
def recordDenied (s : State) (r : Role) (off : Nat) : State :=
  let ms := now s / 1000000
  let note (cnt : Nat) : State :=
    let u := if isUnitOff off then unitOf off else if isInstOff off then 0 else 0xFF
    let n := if isUnitOff off then uinstOf off else 0
    let i := if isInstOff off then some (instOf off) else none
    pushRec { s with denied := tblPut s.denied r.code (ms, 0) } 1 (mkRec s rcRegDenied u n i off r.code cnt)
  match tblFind s.denied r.code with
  | some (last, cnt) => if last = ms then { s with denied := tblPut s.denied r.code (last, cnt + 1) } else note cnt
  | none => note 0

/-- Whether a field lists the role (05 R134). -/
def listsRole (r : Role) (f : Fld) : Bool := f.roles.contains r.kind

/-- Whether at least one field of the register at an offset lists the role (05 R134, 22 R548). -/
def anyField (r : Role) (off : Nat) : Bool :=
  match regAt off with
  | some x => x.flds.any (listsRole r)
  | none => false

/-- Whether an L1 or L2 reset of the page is in progress; an L2 of IMU is one of every instance page (05 R138). -/
def inReset12 (s : State) (pg : Nat) : Bool :=
  s.wrc.running.any (fun x => x.level ≤ 2 &&
    (if x.level = 1 then page x.unit x.inst = pg else (l2Pages (page x.unit x.inst)).contains (ownerPage pg)))

/-- The record of a refused guarded write (05 R147). -/
def recordStale (s : State) (r : Role) (off expected : Nat) : State :=
  let pg := pageOf off
  recordInst (incSat s (pg + 0x024) 23 16 1) pg rcEpochStale (if isInstOff off then some (instOf off) else none)
    off (expected + r.code * 0x1000000) (epochOf s pg)

/-- The judgement of an access in the order of 05 R139; `guard` is the expected epoch of a guarded write. An access that meets no refusal goes
on to `k`. While the window is unreachable no access is taken (04 R107, 03 R68). An HT_FUNC that names no role is denied at the port (03 R86): it is no
refusal of a role, and R133 records none. -/
def judge (s : State) (r : Role) (off len : Nat) (wr : Bool) (guard : Option Nat) (k : State → State) : State :=
  let pg := pageOf off
  if !windowOpen s then s
  else if r.kind = .x then regDone s r off .denied 0
  else if !reaches s r off wr then regDone (recordDenied s r off) r off .denied 0
  else if len != 4 || off % 4 != 0 then regDone s r off .denied 0
  else if !pageUp s pg || pageGated s pg then regDone (incSat s (pgCru + 0x058) 31 0 1) r off .ok 0
  else if inReset12 s pg && (wr || 0x40 ≤ off % 0x1000) then regDone s r off .retry 0
  else if !anyField r off then regDone (incSat s (pg + 0x024) 31 24 1) r off .denied 0
  else match guard with
    | some e => if e = epochOf s pg then k s else regDone (recordStale s r off e) r off .epochStale 0
    | none => k s

/-- The judgement of a guarded write against the role's EXP_EPOCH; a write that passes advances EPOCH when it commits (05 R144, R147). -/
def judgeGuarded (s : State) (r : Role) (off : Nat) (k : State → State) : State :=
  judge s r off 4 true (some (expEpoch s r (pageOf off))) k

/-- The judgement of an unguarded 32-bit write. -/
def judgeWrite (s : State) (r : Role) (off : Nat) (k : State → State) : State := judge s r off 4 true none k

/-- A guarded write commits: EPOCH advances and the write completes with OK (05 R144). -/
def commitDone (s : State) (r : Role) (off : Nat) : State := regDone (bumpEpoch s (pageOf off)) r off .ok 0

/-- What a write of `v` by a role leaves in one field (00 Table 00.6, 05 R134). Fields of code WO hold what was written for the unit that takes it. -/
def writeFld (r : Role) (v w : Word) (f : Fld) : Word :=
  if !listsRole r f then w
  else match f.acc with
    | .rw | .wo => putBits w f.hi f.lo (getBits v f.hi f.lo)
    | .w1c => w &&& ~~~ (v &&& fieldMask f.hi f.lo)
    | .w1s => w ||| (v &&& fieldMask f.hi f.lo)
    | .ro | .rc => w

/-- The word after a write of `v` by a role to every field that lists it. -/
def writeFlds (r : Role) (off : Nat) (v w : Word) : Word :=
  match regAt off with
  | some x => x.flds.foldl (writeFld r v) w
  | none => w

/-- Store a write of `v` by a role. -/
def storeReg (s : State) (r : Role) (off : Nat) (v : Word) : State := setReg s off (writeFlds r off v (rawReg s off))

/-- What a role reads of a word: the fields that list it, code WO reading as zero (00 Table 00.6, 05 R134). -/
def readFlds (r : Role) (off : Nat) (w : Word) : Word :=
  match regAt off with
  | some x => x.flds.foldl (fun a f => if listsRole r f && f.acc != .wo then putBits a f.hi f.lo (getBits w f.hi f.lo) else a) 0
  | none => 0

/-- The word with its RC fields that list the role cleared (00 R12). -/
def clearRc (r : Role) (off : Nat) (w : Word) : Word :=
  match regAt off with
  | some x => x.flds.foldl (fun a f => if listsRole r f && f.acc = .rc then putBits a f.hi f.lo 0 else a) w
  | none => w

/-- Whether the register at an offset has a guarded field that lists the role (05 R147). -/
def hasGuard (r : Role) (off : Nat) : Bool :=
  match regAt off with
  | some x => x.flds.any (fun f => f.guarded && listsRole r f)
  | none => false

end Sys2Proof.Machine
end

