-- ==== Sys2Proof/Machine/Power.lean ====
section
/-!
DEFINITION. Power, clocks and sleep (04), the ports' up state (03 R69, R70, R79) and the thermal throttle (19 R497).
-/
namespace Sys2Proof.Machine

/-! ### Power-on reset (04 R107, Table 04.4) -/

/-- An interrupted programming pulse leaves which bits of the word passed margin open (06 R169, 07 R184): a free value decides it among the
bits that were being programmed. A verified cell never falls back. -/
def cutOp (s : State) : State :=
  let part (w : Nat) (target : Word) (s : State) : State :=
    let (v, s) := drawNat s
    { s with lco := { s.lco with otp := tblSet 0 s.lco.otp w (otpWord s w ||| (target &&& BitVec.ofNat 32 v)) } }
  match s.lco.op with
  | some (.transition target copy byte _) =>
    part copy (target.word &&& fieldMask (8 * byte + 7) (8 * byte)) s
  | some (.prog w v _) => part w v s
  | some (.helperErase _ w _) => part (0x100 + w) 0xFFFFFFFF s
  | some (.wipe w _ _) => part w 0xFFFFFFFF s
  | some (.enrol w _ h) => part (0x100 + w) (h.headD 0) s
  | _ => s

/-- A port at PORST_N: its up signal is the partner's and stays; CRU starts judging its clock again (03 R69, R70). -/
def Port.atPorst (p : Port) : Port := { Port.zero with sig := p.sig }

/-- PORST_N asserted: every domain is reset, PD_AON included; only OTP and what the surroundings drive stays (04 Table 04.4). -/
def porst (s : State) : State :=
  let s := cutOp s
  { State.reset with
    lco := { Lco.reset with otp := s.lco.otp }
    ports := (s.ports.map (fun e => (e.1, e.2.atPorst))).filter (fun e => e.2 != Port.zero)
    ttu := { Ttu.reset with phase := s.ttu.phase }
    free := s.free
    out := s.out
    pending := s.pending }

/-- PORST_N_ASSERT (04 R107): RESET from any state. -/
def execPorstNAssert (s : State) : Host.Outcome State Fault Refusal := .next (porst s)

/-- PORST_N_RELEASE (04 R107): RESET to PLL_WAIT, PLL enabled; C is 0 (20 R527). -/
def execPorstNRelease (s : State) : Host.Outcome State Fault Refusal :=
  .next (onlyIf s.cru.porst s (setCru { s with cru := { s.cru with porst := false, pllHold := false } } .pllWait))

/-! ### PLL (04 R103 to R106) -/

/-- PLL_LOCK_RISE (04 R107): PLL_WAIT to PLL_COUNT. -/
def execPllLockRise (s : State) : Host.Outcome State Fault Refusal :=
  .next (onlyIf (s.cru.st = .pllWait && !s.cru.pllHold) s (setCru (setRegBit s (pgCru + 0x044) 0 true) .pllCount))

/-- The lock is lost while the derived clocks run (04 R106): they stop, PLL_LOCK_LOST, the loss counts in RELOCKS, TMP takes a clock alarm. -/
def lockLost (s : State) : State :=
  let s := setCru (setFld s (pgCru + 0x044) 1 0 0) .pllWait
  let s := incSat s (pgCru + 0x044) 15 8 1
  let s := fireCru { s with cru := { s.cru with pllHold := false } } 3 2 0
  tamperAlarm s 0x08 0

/-- PLL_LOCK_FALL (04 R103, R106, R107). A fall during the stability count is no loss of a lock that was held, and RELOCKS does not count it (log entry 119). -/
def execPllLockFall (s : State) : Host.Outcome State Fault Refusal :=
  .next (match s.cru.st with
    | .pllCount => setCru (setRegBit s (pgCru + 0x044) 0 false) .pllWait
    | .reset | .pllWait => s
    | _ => lockLost s)

/-- PLL_LOCK_TIMEOUT (04 R104): the PLL is held in reset and the attempt counts. -/
def execPllLockTimeout (s : State) : Host.Outcome State Fault Refusal :=
  .next (onlyIf (s.cru.st = .pllWait && !s.cru.pllHold) s
    (cruEvent (incSat { s with cru := { s.cru with pllHold := true } } (pgCru + 0x044) 15 8 1) 1 0))

/-- PLL_RESET_HOLD_END (04 R104). -/
def execPllResetHoldEnd (s : State) : Host.Outcome State Fault Refusal :=
  .next { s with cru := { s.cru with pllHold := false } }

/-- AON_STABLE_COUNT_DONE (04 R103). -/
def execAonStableCountDone (s : State) : Host.Outcome State Fault Refusal :=
  .next (onlyIf (!s.cru.porst) s (setRegBit s (pgCru + 0x044) 2 true))

/-! ### Switching domains (04 R111 to R115) -/

/-- Whether a domain is to be powered at power-up: PD_MEB unless INT_MEB_PRESENT is 0, a PD_VDT unless its six spans are absent (04 Table 04.3). -/
def domPresent (s : State) (d : Nat) : Bool :=
  if d = 6 then mebPresent s != 0
  else if d = 7 then vdtPresent s % 64 != 0
  else if d = 8 then vdtPresent s / 64 % 64 != 0
  else if d = 9 then vdtPresent s / 4096 != 0
  else true

/-- DOMAIN_POWER_ON (04 R112 step 1): assert PSW_EN. -/
def powerOn (s : State) (d : Nat) : State :=
  let s := setDom s d .waitAck
  { s with cru := { s.cru with pswEn := s.cru.pswEn ||| BitVec.ofNat 13 (2 ^ d) } }

/-- Whether a domain of the sequence still has to be powered: present, and neither up nor left failed
at power-up (04 R113), nor switched off by the manager. -/
def needsPower (s : State) (d : Nat) : Bool :=
  domPresent s d && domSt s d = .off && !s.cru.dead.contains d && !(d = 6 && !regBit s (pgCru + 0x05C) 6) && !(d = 10 && !regBit s (pgCru + 0x05C) 10)

/-- The end of the power sequence: CRU enters RUN, and a block that LCO decoded as withdrawn is WITHDRAWN from here (04 R107, 19 R503). In an
L4 every memory and link port is retrained next (19 Table 19.5 step 5, 03 R79). -/
def sequenceDone (s : State) : State :=
  let s := if s.cru.st = .powerSeq then setCru s .run else s
  let s := if regBit s (pgWrc + 0x040) 7 && !s.withdrawn && !s.wrc.everRunning && !s.wrc.withdrawnAgain && s.wrc.l4.isNone
    then setRegBit (setWithdrawn s true) (pgWrc + 0x040) 6 true else s
  if (s.wrc.l4.map L4.step) = some 4 then
    setL4Step ((List.range 58).foldl (fun t p => onlyIf (portPresent t p) t (setPort t p { portAt t p with training := true })) s) 5
  else s

/-- CRU powers the next domain in the order of R112, one at a time; after the last one the sequence is done. -/
def powerNext (s : State) : State :=
  if s.cru.st = .powerSeq || (s.wrc.l4.map L4.step) = some 4 then
    match powerOrder.find? (needsPower s) with
    | some d => powerOn s d
    | none => sequenceDone s
  else s

/-- PLL_STABILITY_COUNT_DONE (04 R103, R107): ROOT_STABLE, POWER_SEQ, buffered events pass to EVR (R105), the first domain is powered.
LCO has decoded before POWER_SEQ (07). -/
def execPllStabilityCountDone (s : State) : Host.Outcome State Fault Refusal :=
  .next (onlyIf (s.cru.st = .pllCount && s.lco.decoded) s
    (powerNext (flushCapture (flushCruEvents (setCru (setRegBit s (pgCru + 0x044) 1 true) .powerSeq)))))

/-- PSW_ACK follows PSW_EN. -/
def takeAck (s : State) (d : Nat) : State :=
  { s with cru := { s.cru with pswAck := (s.cru.pswAck &&& ~~~ BitVec.ofNat 13 (2 ^ d)) ||| (s.cru.pswEn &&& BitVec.ofNat 13 (2 ^ d)) } }

/-- Whether an L3 cycles a domain. -/
def l3Runs (s : State) (d : Nat) : Bool := s.wrc.running.any (fun r => r.level = 3 && r.inst = d)

/-- The ports whose units lie in a domain. -/
def domainPorts (d : Nat) : List Nat := (List.range 59).filter (fun p => pageDomain (portPage p) = some d)

/-- PSW_ACK does not follow PSW_EN (03 R96, 04 R113): PSW_TIMEOUT, and the domain stays isolated. One that was being powered on is failed: its ports are down, a
KVT, SBX or MISC domain that fails at power-up keeps the block HELD until PORST_N, and CRU goes on with the next domain. -/
def ackTimeout (s : State) (d : Nat) : State :=
  match domSt s d with
  | .waitAck =>
    let s := fireCru (setDom s d .failed) 2 3 d
    let s := (domainPorts d).foldl (fun t p => portDown t p 5) s
    let s := if s.cru.st = .powerSeq && (d = 0 || d = 1 || d = 12) then { s with cru := { s.cru with dead := s.cru.dead ++ [d] } } else s
    powerNext s
  | .offAck => fireCru s 2 3 d
  | _ => s

/-- Whether the manager's bit asks for one of its two domains off (04 R115). -/
def askedOff (s : State) (d : Nat) : Bool := (d = 6 || d = 10) && !regBit s (pgCru + 0x05C) d

/-- A domain is off: after an L3's switch-off it is held off for 1 ms; one of the manager's two whose bit was set again meanwhile is powered on under R112
(04 R115). -/
def offDone (s : State) (d : Nat) : State :=
  if l3Runs s d then setDom s d .heldOff
  else if (d = 6 || d = 10) && !askedOff s d && domPresent s d && s.wrc.l4.isNone then powerOn (setDom s d .off) d
  else setDom s d .off

/-- PSW_ACK_RECEIVED (03 R96, 04 R112, 19 Table 19.4). While PSW_TIMEOUT is armed the wait for it is judged failed (05 R151). -/
def execPswAckReceived (d : Fin 13) (s : State) : Host.Outcome State Fault Refusal :=
  .next (match domSt s d with
    | .waitAck => if injArmed s pgCru 2 then ackTimeout s d else setDom (takeAck s d) d .waitIso
    | .offAck => if injArmed s pgCru 2 then ackTimeout s d else offDone (takeAck s d) d
    | _ => takeAck s d)

/-- PSW_ACK_TIMEOUT (03 R96, 04 R113). -/
def execPswAckTimeout (d : Fin 13) (s : State) : Host.Outcome State Fault Refusal := .next (ackTimeout s d)

/-- DOMAIN_ISOLATION_RELEASE (04 R112 step 4). -/
def execDomainIsolationRelease (d : Fin 13) (s : State) : Host.Outcome State Fault Refusal :=
  .next (onlyIf (domSt s d = .waitIso) s (setRegBit (setDom s d .waitReset) (pgCru + 0x060) d true))

/-- One of the manager's two domains whose bit was cleared while it was being powered on is asked off once it is up (04 R115). -/
def lateOff (s : State) (d : Nat) : State :=
  if askedOff s d && domUp s d && !s.cru.pwrReq.contains d then { s with cru := { s.cru with pwrReq := s.cru.pwrReq ++ [d] } } else s

/-- DOMAIN_RESET_RELEASE (04 R112 step 5): the domain's units leave reset and CRU powers the next domain. -/
def execDomainResetRelease (d : Fin 13) (s : State) : Host.Outcome State Fault Refusal :=
  .next (onlyIf (domSt s d = .waitReset) s (powerNext (lateOff (domainReleased (setDom s d .on) d) d)))

/-- The bank groups whose lines a domain's switch-off writes back: the domain's group, or the lines of tier B (04 R114 step 3). -/
def writebackFor (s : State) (d : Nat) : State :=
  if 2 ≤ d ∧ d ≤ 5 then writebackGroup s (d - 2)
  else if d = 6 then writebackGroup s 4
  else s

/-- DOMAIN_OFF_DRAINED (04 R114): the engines are drained, or the bound has passed, and CTC writes back. -/
def execDomainOffDrained (d : Fin 13) (s : State) : Host.Outcome State Fault Refusal :=
  .next (onlyIf (domSt s d = .draining) s (setDom (writebackFor s d) d .writeback))

/-- DOMAIN_OFF_WRITEBACK_DONE (04 R114 step 4): isolation, then PSW_EN off. -/
def execDomainOffWritebackDone (d : Fin 13) (s : State) : Host.Outcome State Fault Refusal :=
  .next (onlyIf (domSt s d = .writeback) s (setDom (losePower (writebackFor s d) d) d .offAck))

/-- DOMAIN_HELD_OFF_END (19 Table 19.4): the 1 ms ends and CRU powers the domain on under R112. -/
def execDomainHeldOffEnd (d : Fin 13) (s : State) : Host.Outcome State Fault Refusal :=
  .next (onlyIf (domSt s d = .heldOff) s (powerOn s d))

/-! ### Spread spectrum (04 R100) -/

/-- What an SSC_CTRL write does once it is judged: a depth above 10 is refused whole, as is the next write while SSC_RANGE is armed (05 R151). -/
def doSscWrite (r : Role) (v : Word) (s : State) : State :=
  let w := writeFlds r (pgCru + 0x040) v (rawReg s (pgCru + 0x040))
  if getBits w 4 1 > 10 || injArmed s pgCru 0 then regDone (fireCru s 0 5 0) r (pgCru + 0x040) .ok 0
  else regDone { setReg s (pgCru + 0x040) w with cru := { s.cru with sscPending := some w } } r (pgCru + 0x040) .ok 0

/-- SSC_CTRL_WRITE (04 R100). -/
def execSscCtrlWrite (role : Role) (v : Word) (s : State) : Host.Outcome State Fault Refusal :=
  .next (judgeWrite s role (pgCru + 0x040) (doSscWrite role v))

/-- SSC_APPLY (04 R100): the new setting takes effect at the next modulation period. -/
def execSscApply (s : State) : Host.Outcome State Fault Refusal :=
  .next (match s.cru.sscPending with
    | some w => { s with cru := { s.cru with sscActive := w, sscPending := none } }
    | none => s)

/-! ### Sleep (04 R107, R108, R124 to R126) -/

/-- Source 0x87: sleep entry refused, or wake (20 Table 20.1). -/
def sleepIrq (s : State) : State :=
  irqEvent s 0x87 none 0 (getFld s (pgCru + 0x068) 3 0) (getFld s (pgCru + 0x068) 31 16) 0

/-- A refused or aborted sleep entry (04 R108): SLEEP_REFUSED and LAST_CAUSE 0x8. -/
def sleepRefused (s : State) : State := sleepIrq (fire (setFld s (pgCru + 0x068) 3 0 8) pgCru 6)

/-- The guard of SLEEP_ENTRY (04 Table 04.2): no recovery, no throttle, no instance mid-switch; while SLEEP_REFUSED is armed it fails (05 R151). DESIGN CHOICE
(log entry 88): Table 04.2 has the row from RUN only, and an ENTER in SLEEP_ENTRY, SLEEP or WAKE counts as a refused one. -/
def maySleep (s : State) : Bool :=
  s.cru.st = .run && !injArmed s pgCru 6 && s.wrc.running.isEmpty && s.wrc.l4.isNone && s.wrc.replays.isEmpty && !regBit s (pgCru + 0x06C) 0 && !midSwitch s

/-- What a write of ENTER does once it is judged; each span that is present and up is asked for gauge 0b11 (04 R124). -/
def doSleepEnter (r : Role) (s : State) : State :=
  regDone (if maySleep s then gaugeSleep (setCru s .sleepEntry) else sleepRefused s) r (pgCru + 0x064) .ok 0

/-- A wake trigger with its code of Table 04.8 (04 R126): from SLEEP the clocks restart; a sleep entry in progress is aborted,
and the spans ask again for the gauge that adaptation chooses. -/
def wake (s : State) (cause : Nat) : State :=
  match s.cru.st with
  | .sleep => sleepIrq (record (setFld (setCru s .wake) (pgCru + 0x068) 3 0 cause) pgCru rcPowerState 2 cause 1)
  | .sleepEntry => sleepIrq (gaugeWake (setFld (setCru s .run) (pgCru + 0x068) 3 0 8))
  | _ => s

/-- What a write of EXIT does once it is judged (04 Table 04.8 code 0x7). -/
def doSleepExit (r : Role) (s : State) : State := regDone (wake s 7) r (pgCru + 0x064) .ok 0

/-- A write of SLEEP_CTRL, judged. ENTER and EXIT in one write are judged against the state before it: EXIT ends a sleep or a sleep entry that was under way, and
no transition is taken on a trigger that came before its state was entered (04 R107, 00 R14; log entry 21). -/
def doSleepCtrl (r : Role) (v : Word) (s : State) : State :=
  if getBit v 0 then (if getBit v 1 && s.cru.st != .run then wake (doSleepEnter r s) 7 else doSleepEnter r s)
  else if getBit v 1 then doSleepExit r s
  else regDone s r (pgCru + 0x064) .ok 0

/-- SLEEP_ENTER (04 R107, R108). -/
def execSleepEnter (role : Role) (s : State) : Host.Outcome State Fault Refusal :=
  .next (judgeWrite s role (pgCru + 0x064) (doSleepEnter role))

/-- SLEEP_EXIT (04 R126). -/
def execSleepExit (role : Role) (s : State) : Host.Outcome State Fault Refusal :=
  .next (judgeWrite s role (pgCru + 0x064) (doSleepExit role))

/-- SLEEP_ENGINES_IDLE (04 R107): SLEEP, counted and recorded. -/
def execSleepEnginesIdle (s : State) : Host.Outcome State Fault Refusal :=
  .next (onlyIf (s.cru.st = .sleepEntry && enginesIdle s) s
    (record (incWrap (setCru s .sleep) (pgCru + 0x068) 31 16 1) pgCru rcPowerState 1 0 1))

/-- SLEEP_ENTRY_TIMEOUT (04 R107): back to RUN with SLEEP_REFUSED. -/
def execSleepEntryTimeout (s : State) : Host.Outcome State Fault Refusal :=
  .next (onlyIf (s.cru.st = .sleepEntry && !enginesIdle s) s (sleepRefused (gaugeWake (setCru s .run))))

/-- The memory ports whose up signal is low at a wake: requests for them are held until it rises (04 R125). -/
def lowPorts (s : State) : List Nat := (List.range 40).filter (fun p => (portAt s p).up && !(portAt s p).sig)

/-- WAKE_CLOCKS_RESTARTED (04 R107, R125, R126): RUN; the spans ask for the gauge that adaptation chooses. -/
def execWakeClocksRestarted (s : State) : Host.Outcome State Fault Refusal :=
  .next (onlyIf (s.cru.st = .wake) s
    (pmuRestart (gaugeWake (setCru { s with cru := { s.cru with wakeHeld := lowPorts s } } .run))))

/-- PORT_WAKE_TIMEOUT (04 R125): the up signal has not risen 100 µs after the wake, so the port goes down. -/
def execPortWakeTimeout (port : Fin 59) (s : State) : Host.Outcome State Fault Refusal :=
  .next (onlyIf (s.cru.wakeHeld.contains port.val) s
    (let s := { s with cru := { s.cru with wakeHeld := s.cru.wakeHeld.filter (· != port.val) } }
     if (portAt s port).sig then s else portDown s port 4))

/-! ### Clock gating (04 R117 to R122) -/

/-- The gateable unit behind bit `b` of clock-enable register `reg` (04 Tables 04.12, 04.13). -/
def gateBit (reg : Nat) (b : Nat) : Option GateUnit :=
  if reg = 0 then (if b = 0 then some .cce else if b = 1 then some .pmu else if b = 2 then some .trs else none)
  else if reg = 1 then gateOf (page uMea b)
  else if reg = 2 then (if b < 8 then gateOf (page uMeb b) else none)
  else if b < 18 then gateOf (page uVdt b) else none

/-- The register and bit of a gateable unit. -/
def gateLoc : GateUnit → Nat × Nat
  | .cce => (0x048, 0)
  | .pmu => (0x048, 1)
  | .trs => (0x048, 2)
  | .eng e => if e.val < 32 then (0x04C, e.val) else (0x050, e.val - 32)
  | .span n => (0x054, n.val)

/-- The page of a gateable unit. -/
def gatePage : GateUnit → Nat
  | .cce => pgCce
  | .pmu => pgPmu
  | .trs => pgTrs
  | .eng e => engPage e
  | .span n => pgVdt n

/-- A clock-enable bit is written: 0 starts gating, 1 ungates; the bit of an absent engine or span is fixed at 0 (04 R118, R119). -/
def writeGate (s : State) (u : GateUnit) (on : Bool) : State :=
  if pageAbsent s (gatePage u) then s
  else
    let l := gateLoc u
    if on then
      (if u = .pmu && s.cru.gated.contains u then pmuRestart else id) <| setRegBit { s with cru := { s.cru with gating := s.cru.gating.filter (· != u), gated := s.cru.gated.filter (· != u) } } (pgCru + l.1) l.2 true
    else if s.cru.gated.contains u || s.cru.gating.contains u then s
    else { s with cru := { s.cru with gating := s.cru.gating ++ [u] } }

/-- What a clock-enable write does once it is judged; the access itself saw the gating in force before it (04 R122). -/
def doClkEn (r : Role) (reg : Nat) (v : Word) (s : State) : State :=
  let s := (List.range 32).foldl (fun t b => match gateBit reg b with
    | some u => writeGate t u (getBit v b)
    | none => t) s
  regDone s r (pgCru + 0x048 + 4 * reg) .ok 0

/-- CLK_EN_WRITE (04 R119): the four clock-enable registers by number. -/
def execClkEnWrite (role : Role) (reg : Fin 4) (v : Word) (s : State) : Host.Outcome State Fault Refusal :=
  .next (judgeWrite s role (pgCru + 0x048 + 4 * reg.val) (doClkEn role reg.val v))

/-- A gating is refused (04 R119): the clock stays, admission resumes, the bit returns to 1, GATE_REFUSED. -/
def gateRefused (s : State) (u : GateUnit) : State :=
  fireCru (setRegBit { s with cru := { s.cru with gating := s.cru.gating.filter (· != u) } } (pgCru + (gateLoc u).1) (gateLoc u).2 true) 1 6 0

/-- GATE_UNIT_IDLE (04 R119): the clock stops at the next CK_OBS edge and the bit shows 0; while GATE_REFUSED is armed the check fails (05 R151). -/
def execGateUnitIdle (u : GateUnit) (s : State) : Host.Outcome State Fault Refusal :=
  .next (onlyIf (s.cru.gating.contains u && gateIdle s u) s
    (if injArmed s pgCru 1 then gateRefused s u
     else setRegBit { s with cru := { s.cru with gating := s.cru.gating.filter (· != u), gated := s.cru.gated ++ [u] } }
      (pgCru + (gateLoc u).1) (gateLoc u).2 false))

/-- GATE_IDLE_TIMEOUT (04 R119): 10 µs after the write the unit is not idle. -/
def execGateIdleTimeout (u : GateUnit) (s : State) : Host.Outcome State Fault Refusal :=
  .next (onlyIf (s.cru.gating.contains u) s (gateRefused s u))

/-! ### Manager's power control (04 R115) -/

/-- One of the two domains the manager switches: a cleared bit asks for off, a set bit powers on under R112. A bit written while the domain is on its way the
other way is carried out when it arrives there (`offDone`, `lateOff`). DESIGN CHOICE (log entry 89): between an off request and its check the domain's engines go
on admitting; admission stops with R114 step 1. -/
def pwrBit (s : State) (d : Nat) (on : Bool) : State :=
  let s := setRegBit s (pgCru + 0x05C) d on
  if on then
    (let s := { s with cru := { s.cru with pwrReq := s.cru.pwrReq.filter (· != d) } }
     if domSt s d = .off && domPresent s d then powerOn s d else s)
  else if domUp s d && !s.cru.pwrReq.contains d then { s with cru := { s.cru with pwrReq := s.cru.pwrReq ++ [d] } }
  else s

/-- What a PWR_CTRL write does once it is judged; only the manager's fields list a role. -/
def doPwrCtrl (r : Role) (v : Word) (s : State) : State :=
  let s := if r.kind = .m then pwrBit (pwrBit s 6 (getBit v 6)) 10 (getBit v 10) else s
  regDone s r (pgCru + 0x05C) .ok 0

/-- PWR_CTRL_WRITE (04 R115). -/
def execPwrCtrlWrite (role : Role) (v : Word) (s : State) : Host.Outcome State Fault Refusal :=
  .next (judgeWrite s role (pgCru + 0x05C) (doPwrCtrl role v))

/-- Whether the domain still holds work: an admitted request in an MEB engine, or an open TRS chunk (04 R115). -/
def pwrBusy (s : State) (d : Nat) : Bool :=
  if d = 6 then (List.range 8).any (fun n => !(engAt s (32 + n)).slots.isEmpty) else trsOpen s

/-- PWR_OFF_IDLE_CHECK (04 R115): 10 µs after an off request it is refused if work remains, otherwise the domain is switched off under R114. -/
def execPwrOffIdleCheck (d : Fin 13) (s : State) : Host.Outcome State Fault Refusal :=
  .next (onlyIf (s.cru.pwrReq.contains d.val) s
    (let s := { s with cru := { s.cru with pwrReq := s.cru.pwrReq.filter (· != d.val) } }
     if pwrBusy s d || injArmed s pgCru 1 then fireCru (setRegBit s (pgCru + 0x05C) d true) 1 6 d
     else setDom s d .draining))

/-! ### Thermal throttle (04 R123, 19 R497) -/

/-- The sensors' reading as a signed number. -/
def tempInt (t : BitVec 8) : Int := t.toInt

/-- T_WARN as a signed number (19 Table 19.9). -/
def tWarn (s : State) : Int := (getFld s (pgTmp + 0x044) 7 0 : Int)

/-- THERMAL_WARNING_START (19 R497, 04 R123, 10 R279, 11 R322). -/
def execThermalWarningStart (temp : BitVec 8) (s : State) : Host.Outcome State Fault Refusal :=
  let s := setFld s (pgTmp + 0x040) 23 16 temp.toNat
  .next (onlyIf (tWarn s ≤ tempInt temp && !regBit s (pgTmp + 0x040) 1) s
    (let s := detect (setRegBit s (pgTmp + 0x040) 1 true) pgTmp 6
     let s := incSat (setRegBit s (pgCru + 0x06C) 0 true) (pgCru + 0x06C) 31 16 1
     gaugeThermal (prefetchThermal (record s pgCru rcPowerState 3 0 1) true) true))

/-- THERMAL_WARNING_END (19 R497, 04 R123): below T_WARN − 5 °C. -/
def execThermalWarningEnd (temp : BitVec 8) (s : State) : Host.Outcome State Fault Refusal :=
  let s := setFld s (pgTmp + 0x040) 23 16 temp.toNat
  .next (onlyIf (tempInt temp < tWarn s - 5 && regBit s (pgTmp + 0x040) 1) s
    (let s := setRegBit (setRegBit s (pgTmp + 0x040) 1 false) (pgCru + 0x06C) 0 false
     gaugeThermal (prefetchThermal (record s pgCru rcPowerState 3 0 0) false) false))

/-! ### Ports (03 R69, R70, R79) -/

/-- Whether a memory port's low up signal is only its controller's low-power state (04 R125). -/
def sleepExempt (s : State) (p : Nat) : Bool := p < 40 && (s.cru.st = .sleep || s.cru.st = .wake || s.cru.wakeHeld.contains p)

/-- PORT_UP_SIGNAL_CHANGE (03 R69, 04 R125). -/
def execPortUpSignalChange (port : Fin 59) (up : Bool) (s : State) : Host.Outcome State Fault Refusal :=
  let s := setPort s port { portAt s port with sig := up }
  .next (if up then
      (let s := portMayRise { s with cru := { s.cru with wakeHeld := s.cru.wakeHeld.filter (· != port.val) } } port
       if port.val < 40 then drainTx s port.val else s)
    else if sleepExempt s port then s else portDown s port 2)

/-- The lowest and the highest count of a port's clock edges in a window of 1,000 CK_REF cycles, 10 µs, by Table 03.1: 1.0 to 1.6 GHz for tier A, 0.6 to 1.2 for
tier B, 0.8 to 1.0 for a link, 1.0 to 1.25 for the host port (03 R63, R70). -/
def clockRange (p : Nat) : Nat × Nat :=
  if p < 32 then (10000, 16000) else if p < 40 then (6000, 12000) else if p < 58 then (8000, 10000) else (10000, 12500)

/-- Whether a count lies in a port's range. -/
def clockGood (p count : Nat) : Bool := (clockRange p).1 ≤ count && count ≤ (clockRange p).2

/-- CRU's judgement of one port's clock over one window (03 R70); while PORT_CLK is armed the check fails (05 R151). -/
def clockWindow (edges : List Nat) (s : State) (p : Fin 59) : State :=
  let x := portAt s p
  if !clockGood p (edges.getD p 0) || (injArmed s pgCru 4 && portPresent s p) then
    (let s' := setPort s p { x with inRange := false, windows := 0 }
     if x.inRange || injArmed s pgCru 4 then portDown (fireCru s' 4 4 p) p 1 else s')
  else portMayRise (setPort s p { x with inRange := true, windows := min 100 (x.windows + 1) }) p

/-- PORT_CLOCK_WINDOW (03 R70): `edges` gives what CRU counted of each of the 59 unrelated port clocks in the window. -/
def execPortClockWindow (edges : List Nat) (s : State) : Host.Outcome State Fault Refusal :=
  .next (onlyIf (!s.cru.porst) s ((List.finRange 59).foldl (clockWindow edges) s))

/-- PORT_TRAIN_DONE (03 R79): a partner asserts its done signal during an L4's retraining. -/
def execPortTrainDone (port : Fin 59) (s : State) : Host.Outcome State Fault Refusal :=
  .next (onlyIf ((s.wrc.l4.map L4.step) = some 5) s
    (portMayRise (setPort s port { portAt s port with training := false, trainFailed := false }) port))

end Sys2Proof.Machine
end

