-- ==== Sys2Proof/Machine/PageRegs.lean ====
section
/-!
DEFINITION. The header's own operations (05): PAGE_CTRL, ERR_STAT, ERR_INJ, and the access that a page does not answer.
-/
namespace Sys2Proof.Machine

/-- The window offset of a page number. -/
def pgBase (pg : BitVec 11) : Nat := pg.toNat * 0x1000

/-- The pages on which LCO holds ENABLE at 0 once a transition is pending (07 R182). -/
def pendingHolds (pg : Nat) : Bool :=
  !isInstOff pg && [uJct, uTtb, uCtc, uHgt, uCce, uImu, uMea, uMeb, uVdt, uTrs].contains (unitOf pg)

/-- Whether a write of ENABLE has an effect on a page (05 R141, 07 R182). -/
def enableWritable (s : State) (pg : Nat) : Bool :=
  if isInstOff pg then true else !enableFixed (unitOf pg) && !(s.lco.pendingLc && pendingHolds pg)

/-- Whether a value written to PAGE_CTRL would change ENABLE. -/
def ctrlChanges (s : State) (pg : Nat) (v : Word) : Bool := enableWritable s pg && enabled s pg != getBit v 0

/-- Whether a value that a role writes to PAGE_CTRL asks for the soft reset of an engine; T is not listed for SRESET. -/
def ctrlResets (r : Role) (pg : Nat) (v : Word) : Bool :=
  getBit v 1 && isEnginePage pg && !(match r with | .t _ => true | _ => false)

/-- What a write of PAGE_CTRL does once it is judged (05 R141, R142, R146): it sets the role's EXP_EPOCH; when it would change ENABLE or asks for
the soft reset of an engine it is guarded by the epoch it carries. A role that no field lists for SRESET does not write it. -/
def doPageCtrl (r : Role) (pg : Nat) (v : Word) (s : State) : State :=
  let off := pg + 0x00C
  let e := getBits v 31 8
  let s := setExpEpoch s r pg e
  let en := getBit v 0
  let change := ctrlChanges s pg v
  let sres := ctrlResets r pg v
  if !change && !sres then regDone s r off .ok 0
  else if e != epochOf s pg then regDone (recordStale s r off e) r off .epochStale 0
  else
    let s := if change then setRegBit s off 0 en else s
    let s := commitDone s r off
    if sres then
      (let (c, s) := drawNat s
       trigger s 1 pg (c % 0x100) false)
    else s

/-- PAGE_ENABLE_WRITE (05 R141, R146). -/
def execPageEnableWrite (role : Role) (pg : BitVec 11) (v : Word) (s : State) : Host.Outcome State Fault Refusal :=
  .next (judgeWrite s role (pgBase pg + 0x00C) (doPageCtrl role (pgBase pg) v))

/-- PAGE_SRESET (05 R142): the same register, with SRESET set in the value. -/
def execPageSreset (role : Role) (pg : BitVec 11) (v : Word) (s : State) : Host.Outcome State Fault Refusal :=
  .next (judgeWrite s role (pgBase pg + 0x00C) (doPageCtrl role (pgBase pg) (v ||| 2)))

/-- EXP_EPOCH_WRITE (05 R146): the write carries ENABLE at its current value and SRESET 0, so it is not guarded. -/
def execExpEpochWrite (role : Role) (pg : BitVec 11) (v : Word) (s : State) : Host.Outcome State Fault Refusal :=
  .next (judgeWrite s role (pgBase pg + 0x00C) (fun t =>
    doPageCtrl role (pgBase pg) (putBits (putBits v 1 1 0) 0 0 (b2n (enabled t (pgBase pg)))) t))

/-! ### ERR_STAT (05 R149) -/

/-- The detectors of a page that fire in the cycle of a write. -/
def fireMask (s : State) (pg : Nat) (m : Word) : State :=
  (List.range 32).foldl (fun t b => if getBit m b && (errBits (unitOf pg)).testBit b && !isInstOff pg then detect t pg b else t) s

/-- What a W1C write of ERR_STAT does once it is judged: a bit whose detector fires in the same cycle stays set (05 R149). -/
def doErrClear (r : Role) (pg : Nat) (v firing : Word) (s : State) : State :=
  let off := pg + 0x018
  let s := setReg s off (rawReg s off &&& ~~~ (v &&& ~~~ firing))
  regDone (levelFall (fireMask s pg firing) pg) r off .ok 0

/-- ERR_STAT_CLEAR (05 R149). -/
def execErrStatClear (role : Role) (pg : BitVec 11) (v : Word) (firing : Word) (s : State) : Host.Outcome State Fault Refusal :=
  .next (judgeWrite s role (pgBase pg + 0x018) (doErrClear role (pgBase pg) v firing))

/-- What a write of ERR_MASK does once it is judged: a bit that clears while its ERR_STAT bit is set is an event (20 R508). -/
def doErrMask (r : Role) (pg : Nat) (v : Word) (s : State) : State :=
  let off := pg + 0x01C
  let uncovered := rawReg s off &&& ~~~ v &&& rawReg s (pg + 0x018)
  let s := setReg s off v
  let s := if uncovered != 0 then errEvent s pg else s
  regDone (levelFall s pg) r off .ok 0

/-! ### ERR_INJ (05 R151, R152) -/

/-- The detectors that check at an event this model shows; an armed one waits for that check. Every other detector checks
continuously and reports within 1 µs (05 R151). -/
def checkBits (u : Nat) : Nat :=
  if u = uKvt then 0x0F else if u = uEnt then 0x03 else if u = uJct then 0x07 else if u = uMea || u = uMeb then 0xD9
  else if u = uCtc then 0x05 else if u = uVdt then 0xB9 else if u = uTrs then 0x0B else if u = uHgt then 0x79
  else if u = uCce then 0x07 else if u = uImu then 0x0E else if u = uEvr then 0x05 else if u = uTtu then 0x01
  else if u = uWrc then 0x0F else if u = uPmu then 0x03 else if u = uCru then 0x77 else 0

/-- The life-cycle states in which a security detector can be armed (05 R152). -/
def injStates (l : Lc) : Bool := l = .maker || l = .integrator || l = .returned

/-- A missed heartbeat: CRU starts an L4 directly and WRC records the event as its first action (19 R487). -/
def heartbeatMiss (s : State) : State :=
  let s := fire s pgWrc 4
  if s.wrc.l4.isSome then discardTrigger s else startL4 s uWrc 0 4 true

/-- No crystal edge for 100 µs (20 R528): back to CK_REF, continuing from C. -/
def aonLost (s : State) : State :=
  let s := setRegBit { s with ttu := { s.ttu with disciplined := false, lost := true, edges := 0, n := 0 } } (pgTtu + 0x040) 1 false
  fireAs s pgTtu 1 rcAonChange none 0 0 0

/-- A detector that checks continuously reports an injected failure and acts as on a real one (05 R151). -/
def fireInjected (s : State) (pg bit : Nat) : State :=
  if pg = pgCru ∧ bit = 3 then lockLost s
  else if pg = pgWrc ∧ bit = 4 then heartbeatMiss s
  else if pg = pgInc ∧ bit = 0 then incStateReset (detect s pg bit)
  else if pg = pgTtu ∧ bit = 1 then aonLost s
  else detect s pg bit

/-- What a write of ERR_INJ does once it is judged (05 R152): each bit on its own; DENIED and INJ_REFUSED if any was refused. -/
def doErrInj (r : Role) (pg : Nat) (v : Word) (s : State) : State :=
  let off := pg + 0x020
  let u := if isInstOff pg then 0 else unitOf pg
  let want := v.toNat &&& errBits u
  let refused := if injStates s.lco.lc then 0 else want &&& secBits u
  let arm := want &&& (0xFFFFFFFF ^^^ refused)
  let s := setReg s off (rawReg s off ||| BitVec.ofNat 32 arm)
  let s := if refused = 0 then regDone s r off .ok 0
    else regDone (record s pg rcInjRefused off refused r.code) r off .denied 0
  (List.range 32).foldl (fun t b => if arm.testBit b && !(checkBits u).testBit b then fireInjected t pg b else t) s

/-- ERR_INJ_WRITE (05 R151, R152). -/
def execErrInjWrite (role : Role) (pg : BitVec 11) (v : Word) (s : State) : Host.Outcome State Fault Refusal :=
  .next (judgeWrite s role (pgBase pg + 0x020) (doErrInj role (pgBase pg) v))

/-! ### An unanswered access (05 R137) -/

/-- The access completes with UNIT_GONE and zero data, and WRC takes it as a hang: L1 of an engine page, L2 of another unit (19 Table 19.1). -/
def doTimeout (r : Role) (off : Nat) (s : State) : State :=
  let pg := pageOf off
  let s := regDone s r off .unitGone 0
  if isInstOff pg then trigger s 2 (ownerPage pg) 0xFF false
  else if isEnginePage pg then trigger s 1 pg 0xFF false
  else trigger s 2 pg 0xFF false

end Sys2Proof.Machine
end

