-- ==== Sys2Proof/Machine/Puf.lean ====
section
/-!
DEFINITION. The PUF's fuzzy extractor (08 R199 to R202): the field GF(2⁸), the BCH(255, 131) code and its decoder, the 64-cell repetition code, the
helper data of Table 08.1, the message M and its check value.
-/
namespace Sys2Proof.Machine

/-! ### GF(2⁸) over x⁸ + x⁴ + x³ + x² + 1 (08 R199) -/

/-- A field element times x. -/
def gfDbl (a : Nat) : Nat := if a < 128 then 2 * a else (2 * a) ^^^ 0x11D

/-- The product of two field elements. -/
def bchMul (a b : Nat) : Nat := (List.range 8).reverse.foldl (fun acc i => gfDbl acc ^^^ (if b.testBit i then a else 0)) 0

/-- A power of a field element. -/
def gfPow (a : Nat) : Nat → Nat
  | 0 => 1
  | n + 1 => bchMul (gfPow a n) a

/-- α^i for the primitive element α = x, whose order is 255. -/
def gfAlpha (i : Nat) : Nat := gfPow 2 (i % 255)

/-- The inverse of a field element that is not zero. -/
def gfInv (a : Nat) : Nat := gfPow a 254

/-- The value of a polynomial, lowest coefficient first. -/
def polyEval (p : List Nat) (x : Nat) : Nat := p.foldr (fun c acc => c ^^^ bchMul acc x) 0

/-- The sum of two polynomials. -/
def polyAdd : List Nat → List Nat → List Nat
  | [], q => q
  | p, [] => p
  | a :: p, b :: q => (a ^^^ b) :: polyAdd p q

/-- A polynomial times a constant. -/
def polyScale (c : Nat) (p : List Nat) : List Nat := p.map (bchMul c)

/-- A polynomial times x^n. -/
def polyShift (n : Nat) (p : List Nat) : List Nat := List.replicate n 0 ++ p

/-! ### BCH(255, 131), narrow sense, 18 errors (08 R199) -/

/-- The exponents of the roots of the generator: the conjugates of α^1 to α^36. -/
def bchRoots : List Nat := (List.range 255).filter (fun j => (List.range 8).any (fun k => let r := j * 2 ^ k % 255; 1 ≤ r && r ≤ 36))

/-- The generator polynomial, of degree 124. -/
def bchGen : List Nat := bchRoots.foldl (fun p j => polyAdd (polyShift 1 p) (polyScale (gfAlpha j) p)) [1]

/-- One step of the division by the generator: the remainder register takes the next message bit. -/
def bchStep (reg : List Bool) (bit : Bool) : List Bool :=
  let fb := xor bit (reg.getLastD false)
  ((false :: reg.dropLast).zip bchGen).map (fun x => xor x.1 (fb && x.2 = 1))

/-- The codeword of a 131-bit message: the message in bit positions 124 to 254, the remainder of its division below them. -/
def bchEncode (m : List Bool) : List Bool := m.reverse.foldl bchStep (List.replicate 124 false) ++ m

/-- Syndrome `i` of a word. -/
def bchSyndrome (w : List Bool) (i : Nat) : Nat := polyEval (w.map b2n) (gfAlpha i)

/-- The state of the Berlekamp–Massey iteration: error locator, the one before the last change of length, length, distance of that change, its discrepancy. -/
structure Bm where
  loc : List Nat
  prev : List Nat
  len : Nat
  gap : Nat
  disc : Nat
deriving DecidableEq, Repr

/-- One step of the iteration over syndrome `n` + 1. -/
def bmStep (syn : List Nat) (b : Bm) (n : Nat) : Bm :=
  let d := (List.range (b.len + 1)).foldl (fun acc i => acc ^^^ bchMul (b.loc.getD i 0) (syn.getD (n - i) 0)) 0
  let next := polyAdd b.loc (polyShift b.gap (polyScale (bchMul d (gfInv b.disc)) b.prev))
  if d = 0 then { b with gap := b.gap + 1 }
  else if 2 * b.len ≤ n then ⟨next, b.loc, n + 1 - b.len, 1, d⟩
  else { b with loc := next, gap := b.gap + 1 }

/-- The codeword within 18 errors of a word, where there is one. -/
def bchDecode (w : List Bool) : Option (List Bool) :=
  let syn := (List.range 36).map (fun i => bchSyndrome w (i + 1))
  let b := (List.range 36).foldl (bmStep syn) ⟨[1], [1], 0, 1, 1⟩
  let errs := (List.range 255).filter (fun i => polyEval b.loc (gfAlpha (255 - i)) = 0)
  let fixed := (List.range 255).map (fun i => xor (w.getD i false) (errs.contains i))
  if b.len ≤ 18 && errs.length = b.len && (List.range 36).all (fun i => bchSyndrome fixed (i + 1) = 0) then some fixed else none

/-! ### Message, helper data and check value (08 R200, R201) -/

/-- The 66 bytes of a message of 524 bits, least significant bit first. -/
def pufPack (b : List Bool) : Bytes := (List.range 66).map (fun i => BitVec.ofNat 8 (((b.drop (8 * i)).take 8).foldr (fun x a => 2 * a + b2n x) 0))

/-- The first bits of a byte string, least significant bit first. -/
def bitsOf (n : Nat) (b : Bytes) : List Bool := (List.range n).map (fun i => ((b.getD (i / 8) 0).toNat).testBit (i % 8))

/-- The bit that group `g` carries: the majority of its 64 cells against their helper bits, a tie being 0. -/
def groupBit (array helper : List Word) (g : Nat) : Bool :=
  let ones (k : Nat) : Nat := popCount 32 (array.getD (2 * g + k) 0 ^^^ helper.getD (1 + 2 * g + k) 0).toNat
  32 < ones 0 + ones 1

/-- The received word of codeword `j`. -/
def groupWord (array helper : List Word) (j : Nat) : List Bool := (List.range 255).map (fun i => groupBit array helper (255 * j + i))

/-- The header word of the helper area (08 Table 08.1). -/
def helperHeader : Word := 0x40015055

/-- The message of a regeneration attempt, where the header is right, every codeword decodes and the check value is that of the helper data. -/
def pufMessage (array helper : List Word) : Option Bytes :=
  match (List.range 4).map (fun j => bchDecode (groupWord array helper j)) with
  | [some a, some b, some c, some d] =>
    let m := pufPack (a.drop 124 ++ b.drop 124 ++ c.drop 124 ++ d.drop 124)
    if helper.getD 0 0 = helperHeader ∧ (helper.drop 2041).take 12 = (List.range 12).map (wordAt (kPufCheck m)) then some m else none
  | _ => none

/-- The reference of an enrolment: of each cell the majority of 16 reads, a tie being 0 (08 R202). -/
def pufReference (reads : List (Nat → Word)) : List Word :=
  (List.range 2048).map (fun w =>
    BitVec.ofNat 32 ((List.range 32).foldr (fun n acc => 2 * acc + b2n (8 < (reads.filter (fun r => getBit (r w) n)).length)) 0))

/-- The helper words of four messages of 131 bits against a reference (08 R202, Table 08.1). -/
def helperData (reference : List Word) (msgs : List (List Bool)) : List Word :=
  let bits := msgs.flatMap bchEncode
  let m := pufPack (msgs.flatMap id)
  let mask (g : Nat) : Word := if bits.getD g false then 0xFFFFFFFF else 0
  helperHeader :: ((List.range 2040).map (fun k => reference.getD k 0 ^^^ mask (k / 2)) ++ (List.range 12).map (wordAt (kPufCheck m)))

end Sys2Proof.Machine
end

