-- ==== Sys2Proof/Machine/Boot.lean ====
section
/-!
DEFINITION. Boot, download, image checks, measurement and handoff (06).
-/
namespace Sys2Proof.Machine

/-! ### Entering a boot state -/

/-- L4_END (19 R492, R493): SBX entered RUNNING or DL_WAIT, so the L4 ends and FAILED_L4 clears. -/
def endL4 (s : State) : State :=
  match s.wrc.l4 with
  | some l =>
    let s := { s with wrc := { s.wrc with l4 := none, failedL4 := 0 } }
    let s := setFld (setFld s (pgWrc + 0x040) 5 3 0) (pgWrc + 0x040) 10 9 0
    let s := genAll (switchedPages.foldl (fun t p => setRecovery t p false) s)
    refreshLevel (wrcEnd s rcRecoveryEnd 4 (Config.unitInstCode uSbx 0) ((now s - l.start) / 1000))
  | none => s

/-- Enter a boot state; RUNNING and DL_WAIT end an L4 that has reached its SBX boot (19 Table 19.5 step 7), unless the L4 bound's armed injection fails it (05 R151). -/
def enterBoot (s : State) (b : BootSt) : State :=
  let s := setBoot s b
  if (b = .running || b = .dlWait) && (s.wrc.l4.map L4.step) = some 6 then (if injArmed s pgWrc 3 then l4TooLong s else endL4 s) else s

/-- SBX_RELOAD, the host address of the registered copy (06 Table 06.8). -/
def reloadAddr (s : State) : Nat := (rawReg s (pgSbx + 0x048)).toNat + (rawReg s (pgSbx + 0x04C)).toNat * 0x100000000

/-- Whether SBX may leave ROOT_WAIT: no L4 runs, or it has reached its SBX boot. -/
def bootStepOk (s : State) : Bool :=
  match s.wrc.l4 with
  | some l => 6 ≤ l.step
  | none => true

/-- The exits of ROOT_WAIT (06 Table 06.2). Entering RELOAD starts the fetch with its first 20 B (06 R170). -/
def leaveRootWait (s : State) : State :=
  if s.sbx.boot != .rootWait || !bootStepOk s || !s.lco.decoded then s
  else if s.lco.lc = .locked || s.lco.lc = .scrapped then setBoot s .lcRefused
  else
    let full := getFld s (pgSbx + 0x040) 3 0 = 8
    match s.kvt.rootSt with
    | .ready =>
      if full then setBoot s .dlLocked
      else if s.lco.lc = .returned then s
      else if s.sbx.afterPorst || reloadAddr s = 0 then enterBoot s .dlWait
      else hmRead (setBoot s .reload) 0x83 (reloadAddr s) 20
    | .absent =>
      if full then setBoot s .dlLocked else if s.lco.lc = .returned then enterBoot s .dlWait else s
    | .failed => if s.lco.lc = .returned then s else setBoot s .rootFault
    | _ => s

/-- SBX_RESET_RELEASE (06 Table 06.2): the boot ROM runs in ROOT_WAIT. -/
def execSbxResetRelease (s : State) : Host.Outcome State Fault Refusal :=
  .next (onlyIf (s.sbx.boot = .reset && domUp s 0) s (leaveRootWait (setBoot s .rootWait)))

/-! ### Root regeneration (06 R157, 08 R200, R201) -/

/-- The helper words as OTP holds them (08 Table 08.1). -/
def helperWords (s : State) : List Word := (List.range 2053).map (fun w => otpWord s (0x100 + w))

/-- The root after an attempt that passed: the masked register, ROOT_READY, DKEK once BN is drawn, and what waited for a key of the ladder (08 R200, R203). -/
def takeRoot (s : State) (m : Bytes) : State :=
  let (r, s) := maskKey s (kRoot m)
  let s := fillInternal (deriveDkek { s with kvt := { s.kvt with rootSt := .ready, root := some r } })
  settleAll (serveLoads (setRegBit s (pgKvt + 0x04C) 17 true))

/-- ROOT_ATTEMPT_DONE (06 R157): `array` is what this attempt reads from the PUF array. The helper header, the four codewords and the check value decide
(08 R200, R201). The third failure reports root failed. -/
def execRootAttemptDone (array : List Word) (s : State) : Host.Outcome State Fault Refusal :=
  .next (match s.kvt.rootSt with
    | .attempt n =>
      let failed := if n < 3 then { s with kvt := { s.kvt with rootSt := .offPeriod n } }
        else leaveRootWait (detectAs { s with kvt := { s.kvt with rootSt := .failed } } pgKvt 2 rcRootFail none n 0 0)
      (match pufMessage array (helperWords s) with
       | some m => if n = 3 && injArmed s pgKvt 2 then failed else leaveRootWait (takeRoot s m)
       | none => failed)
    | _ => s)

/-- PUF_OFF_PERIOD_END (06 R157): the next attempt starts. -/
def execPufOffPeriodEnd (s : State) : Host.Outcome State Fault Refusal :=
  .next (match s.kvt.rootSt with
    | .offPeriod n => { s with kvt := { s.kvt with rootSt := .attempt (n + 1) } }
    | _ => s)

/-! ### Download over DOE (06 R160 to R163) -/

/-- Whether a DOE object reaches SBX: the window is open, HGT is up, SBX is out of reset and its clock runs (03 R68, 06 R161, 04 R124). Otherwise HD_BUSY is
high. -/
def doeOpen (s : State) : Bool := windowOpen s && domUp s 11 && domUp s 0 && s.sbx.boot != .reset && !s.sbx.halted && s.cru.st != .sleep

/-- "Bytes received so far" of a response: those of the download that is open or being judged, 0 where none is (log entry 90). -/
def dlCount (s : State) : Nat := match s.sbx.boot with
  | .dlReceive | .verify => s.sbx.image.length
  | _ => 0

/-- The response to a download object (06 Table 06.3). LAST_ERR holds the latest code that is not "None". -/
def dlRespond (s : State) (cmd seq : Nat) (st : Status) (err : Nat) : State :=
  let s := if err = 0 then s else setFld s (pgSbx + 0x040) 15 8 err
  emit s ⟨.doe, 0, seq, st.code, 0, leBytes 1 (cmd ||| 0x80) ++ leBytes 1 seq ++ leBytes 1 st.code ++ leBytes 1 err ++ leBytes 4 (dlCount s)⟩

/-- Judge a download object: a foreign vendor ID or type sets HD_ERROR and gets no response; the busy states answer RETRY; another CMD, or a length that
disagrees with the CMD, is DENIED with ERR 0x01 (06 R160, R161). -/
def dlObject (s : State) (vid : BitVec 16) (typ : BitVec 8) (cmd seq : Nat) (malformed : Bool) (k : State → State) : State :=
  if !doeOpen s then s
  else if vid.toNat != getBits (otpWord s 0x004) 15 0 || typ != 0x5A then { s with sbx := { s.sbx with hdError := true } }
  else match s.sbx.boot with
    | .rootWait | .reload | .measure | .verify => dlRespond s cmd seq .retry 0
    | _ => if malformed then dlRespond s cmd seq .denied 1 else k s

/-- What a BEGIN does (06 R161). One of a bad length opens nothing; in DL_RECEIVE it still discards the bytes received (Table 06.2, log entry 91). -/
def doBegin (seq len : Nat) (s : State) : State :=
  match s.sbx.boot with
  | .dlWait | .dlReceive =>
    if len < 9216 ∨ 926720 < len ∨ len % 4 ≠ 0 then dlRespond { s with sbx := { s.sbx with image := [] } } 1 seq .denied 1
    else dlRespond (setBoot { s with sbx := { s.sbx with declared := len, image := [], viaReload := false } } .dlReceive) 1 seq .ok 0
  | .dlLocked => dlRespond s 1 seq .denied 0x0E
  | .lcRefused => dlRespond s 1 seq .denied 0x0B
  | .rootFault => dlRespond s 1 seq .denied 0x0C
  | _ => dlRespond s 1 seq .denied 0x0F

/-- DL_BEGIN (06 R161). A CMD other than those of Table 06.3 comes by this row too: it is answered DENIED with ERR 0x01 (R160). -/
def execDlBegin (vid : BitVec 16) (typ cmd seq : BitVec 8) (len : Word) (extra : Bool) (s : State) : Host.Outcome State Fault Refusal :=
  .next (dlObject s vid typ cmd.toNat seq.toNat (extra || cmd != 1) (doBegin seq.toNat len.toNat))

/-- What a CHUNK does (06 R161, R163): accepted in DL_RECEIVE at the offset received so far. Bytes past the declared length are taken too: no rule refuses
them (log entry 92). -/
def doChunk (seq off : Nat) (data : Bytes) (s : State) : State :=
  if s.sbx.boot != .dlReceive || off != s.sbx.image.length then dlRespond s 2 seq .denied 2
  else dlRespond { s with sbx := { s.sbx with image := s.sbx.image ++ data } } 2 seq .ok 0

/-- Whether the data of a CHUNK has a length of Table 06.3. -/
def chunkLenOk (data : Bytes) : Bool := 4 ≤ data.length && data.length ≤ 65536 && data.length % 4 = 0

/-- DL_CHUNK (06 R161). A wrong length is judged before order and state (log entry 93). -/
def execDlChunk (vid : BitVec 16) (typ seq : BitVec 8) (off : Word) (data : Bytes) (extra : Bool) (s : State) : Host.Outcome State Fault Refusal :=
  .next (dlObject s vid typ 2 seq.toNat (extra || !chunkLenOk data) (doChunk seq.toNat off.toNat data))

/-- What an END does (06 R161): with all declared bytes received it is answered when VERIFY ends. -/
def doEnd (seq : Nat) (s : State) : State :=
  if s.sbx.boot = .dlReceive ∧ s.sbx.declared ≤ s.sbx.image.length then
    setBoot { s with sbx := { s.sbx with endSeq := some seq } } .verify
  else dlRespond s 3 seq .denied 1

/-- DL_END (06 R161). -/
def execDlEnd (vid : BitVec 16) (typ seq : BitVec 8) (extra : Bool) (s : State) : Host.Outcome State Fault Refusal :=
  .next (dlObject s vid typ 3 seq.toNat extra (doEnd seq.toNat))

/-- What a CANCEL does (06 R161). -/
def doCancel (seq : Nat) (s : State) : State :=
  let s := if s.sbx.boot = .dlReceive then enterBoot { s with sbx := { s.sbx with image := [], declared := 0 } } .dlWait else s
  dlRespond s 5 seq .ok 0

/-- DL_CANCEL (06 R161). -/
def execDlCancel (vid : BitVec 16) (typ seq : BitVec 8) (extra : Bool) (s : State) : Host.Outcome State Fault Refusal :=
  .next (dlObject s vid typ 5 seq.toNat extra (doCancel seq.toNat))

/-- DOE_ABORT (06 R162): only the object in progress is discarded, so an END that VERIFY is judging gets no response. -/
def execDoeAbort (s : State) : Host.Outcome State Fault Refusal :=
  .next { s with sbx := { s.sbx with endSeq := none, hdError := false } }

/-- DL_IDLE_TIMEOUT (06 R162). -/
def execDlIdleTimeout (s : State) : Host.Outcome State Fault Refusal :=
  .next (onlyIf (s.sbx.boot = .dlReceive) s
    (let s := record (setFld s (pgSbx + 0x040) 15 8 3) pgSbx rcDlTimeout s.sbx.image.length 0 0
     enterBoot { s with sbx := { s.sbx with image := [], declared := 0 } } .dlWait))

/-- The image length that the first 20 B of a copy give: the manifest and CODE_LEN, 926,720 B at most (06 R170, Table 06.4). -/
def reloadLen (head : Bytes) : Nat := min 926720 (9216 + leNat ((head.drop 0x10).take 4))

/-- RELOAD_FETCH_DONE (06 R170): `data` is the copy as host memory gives it. Its first 20 B set the length of the second read, and what that read gives goes
to VERIFY. -/
def execReloadFetchDone (data : Bytes) (s : State) : Host.Outcome State Fault Refusal :=
  .next (onlyIf (s.sbx.boot = .reload) s
    (let n := reloadLen (data.take 20)
     setBoot (hmRead { s with sbx := { s.sbx with image := data.take n, viaReload := true, endSeq := none } } 0x83 (reloadAddr s) n) .verify))

/-- RELOAD_FETCH_FAIL (06 Table 06.2). -/
def execReloadFetchFail (s : State) : Host.Outcome State Fault Refusal :=
  .next (onlyIf (s.sbx.boot = .reload) s (enterBoot s .dlWait))

/-- RELOAD_TIMEOUT (06 Table 06.2). -/
def execReloadTimeout (s : State) : Host.Outcome State Fault Refusal :=
  .next (onlyIf (s.sbx.boot = .reload) s (enterBoot s .dlWait))

/-! ### Verification (06 R164 to R167) -/

/-- `n` bytes of the image from an offset. -/
def imgAt (img : Bytes) (off n : Nat) : Bytes := (img.drop off).take n

/-- A little-endian field of the manifest (06 Table 06.4). -/
def imgNat (img : Bytes) (off n : Nat) : Nat := leNat (imgAt img off n)

/-- The signed region (06 R164). -/
def signedRegion (img : Bytes) : Bytes := imgAt img 0 0x1000

/-- The key digest (06 R165). -/
def keyDigest (img : Bytes) : Bytes := Config.sha384 (imgAt img 0x0100 96 ++ imgAt img 0x0200 2592)

/-- Check 1 of Table 06.5. Bits 31:4 of LC_MASK and an SVN above 256 fail no check: Table 06.5 names none for them (log entry 94). -/
def checkForm (img : Bytes) : Bool :=
  imgNat img 0 4 = 0x46425253 && imgNat img 4 2 = 1 && allZero (imgAt img 0x50 176) && allZero (imgAt img 0x160 160)
    && allZero (imgAt img 0xC20 992) && allZero (imgAt img 0x2273 397)
    && 4 ≤ imgNat img 0x10 4 && imgNat img 0x10 4 ≤ 917504 && imgNat img 0x10 4 % 4 = 0 && imgNat img 0x10 4 + 9216 = img.length
    && imgNat img 0x14 4 < imgNat img 0x10 4 && imgNat img 0x14 4 % 2 = 0

/-- Whether a digest slot matches a key digest: equal, not all zeros and not revoked (06 R165). -/
def slotMatches (s : State) (dg : Bytes) (slot : Nat) : Bool :=
  let d := otpBytes s (0x05C + 12 * slot) 12
  d = dg && !allZero d && !getBit (otpWord s 0x003) slot

/-- The signer key slot an image matches, if any (06 R165). -/
def matchedSlot (s : State) (img : Bytes) : Option Nat :=
  [0, 1].find? (slotMatches s (keyDigest img))

/-- The life-cycle bit of LC_MASK (06 Table 06.4). -/
def lcMaskBit (l : Lc) : Nat :=
  match l with
  | .maker => 0
  | .integrator => 1
  | .fielded => 2
  | .returned => 3
  | _ => 4

/-- The first failed check of Table 06.5, by its ERR; 0 when every check passes. -/
def verifyErr (s : State) (img : Bytes) : Nat :=
  if !checkForm img then 4
  else if imgNat img 6 2 != 1 then 5
  else if (matchedSlot s img).isNone then 6
  else if !Config.ecdsaVerify (imgAt img 0x100 96) (signedRegion img) (imgAt img 0x1000 96) then 7
  else if !Config.mldsaVerify (imgAt img 0x200 2592) [] (signedRegion img) (imgAt img 0x1060 4627) then 8
  else if Config.sha384 (img.drop 9216) != imgAt img 0x20 48 then 9
  else if imgNat img 8 4 < getFld s (pgLco + 0x0C0) 8 0 then 0x0A
  else if !(imgNat img 0x0C 4).testBit (lcMaskBit s.lco.lc) then 0x0B
  else if s.sbx.viaReload && s.sbx.retained != some (Config.sha384 (signedRegion img)) then 0x0D
  else 0

/-- A failed verification (06 R167): counted, recorded with the first 8 bytes of the key digest, the received bytes overwritten, END answered. -/
def verifyFailed (s : State) (err : Nat) : State :=
  let d := keyDigest s.sbx.image
  let n := min 8 (getFld s (pgSbx + 0x040) 3 0 + 1)
  let s := setFld (setFld s (pgSbx + 0x040) 3 0 n) (pgSbx + 0x040) 15 8 err
  let s := record s pgSbx rcBootFail err (wordAt d 0).toNat (wordAt d 1).toNat
  let s := match s.sbx.endSeq with
    | some q => dlRespond s 3 q .denied err
    | none => s
  let s := { s with sbx := { s.sbx with image := [], declared := 0, endSeq := none } }
  if n = 8 then setBoot (record s pgSbx rcDlLocked err (wordAt d 0).toNat (wordAt d 1).toNat) .dlLocked
  else enterBoot s .dlWait

/-- A passed verification (06 R170, R171, 07 R194): the retained digest, what MEAS1 measures of this moment, and the answer to END. -/
def verifyPassed (s : State) : State :=
  let img := s.sbx.image
  let m0 := Config.sha384 (signedRegion img)
  let differs := match s.sbx.retained with
    | some d => d != m0
    | none => false
  let s := if differs then record s pgSbx rcReloadDiff (wordAt m0 0).toNat 0 0 else s
  let slot := (matchedSlot s img).getD 0
  let s := { s with sbx := { s.sbx with
    retained := some m0
    svn := imgNat img 8 4
    slotMatched := slot
    arbAtVerify := getFld s (pgLco + 0x0C0) 8 0
    debugAtVerify := gatewayOpen s } }
  let s := setFld (setRegBit s (pgSbx + 0x040) 16 s.sbx.viaReload) (pgSbx + 0x040) 17 17 slot
  let s := match s.sbx.endSeq with
    | some q => dlRespond s 3 q .ok 0
    | none => s
  setBoot { s with sbx := { s.sbx with endSeq := none } } .measure

/-- VERIFY_DONE (06 R166, R167). Halted cores retire no instruction (07 R196). -/
def execVerifyDone (s : State) : Host.Outcome State Fault Refusal :=
  .next (onlyIf (s.sbx.boot = .verify && !s.sbx.halted) s
    (let err := verifyErr s s.sbx.image
     if err = 0 then verifyPassed s else verifyFailed s err))

/-! ### Measurement and handoff (06 R171 to R174) -/

/-- The configuration record measured into MEAS1 (06 Table 06.7). -/
def configRecord (s : State) : Bytes :=
  leBytes 1 s.lco.lc.code ++ [0xC0] ++ leBytes 2 s.sbx.arbAtVerify ++ leBytes 4 s.sbx.svn ++ leBytes 1 s.sbx.slotMatched
    ++ leBytes 1 (b2n s.sbx.debugAtVerify) ++ leBytes 1 (mebPresent s) ++ leBytes 3 (vdtPresent s) ++ leBytes 1 (scrubRate s)
    ++ leBytes 1 (scratchCount s) ++ zeros 16

/-- Set a measurement register. -/
def setMeas (s : State) (i : Nat) (v : Bytes) : State := { s with sbx := { s.sbx with meas := tblPut s.sbx.meas i v } }

/-- A measurement register; zero after every SBX reset (06 R173). -/
def measAt (s : State) (i : Nat) : Bytes := (tblFind s.sbx.meas i).getD (zeros 48)

/-- The serial number of an alias certificate: the first 20 bytes of SHA-384 of its key with the top bit cleared (06 R172). -/
def certSerial (key : Bytes) : Bytes := match (Config.sha384 key).take 20 with
  | b :: t => (b &&& 0x7F) :: t
  | [] => []

/-- What is signed of the alias certificate of a key under a device identity key (06 R172). -/
def aliasTbs (issuer key meas0 : Bytes) (svn : Nat) : Bytes :=
  Config.certTbs issuer key (certSerial key) (ascii "20000101000000Z") (ascii "99991231235959Z") meas0 svn

/-- The ECDSA alias certificate: signed with the deterministic nonce of RFC 6979 (06 R171). -/
def ecdsaCert (d key meas0 : Bytes) (svn : Nat) : Bytes :=
  let tbs := aliasTbs (Config.ecdsaPublic d) key meas0 svn
  Config.certDer tbs (Config.ecdsaSign d tbs (Config.rfc6979 d tbs))

/-- The ML-DSA alias certificate: signed with the deterministic variant of FIPS 204 (06 R171), whose drawn value is 0. -/
def mldsaCert (xi key meas0 : Bytes) (svn : Nat) : Bytes :=
  let tbs := aliasTbs (Config.mldsaPublic xi) key meas0 svn
  Config.certDer tbs (Config.mldsaSign xi [] tbs 0)

/-- The handoff record (06 R172): version, total length, MEAS0, MEAS1, anti-rollback value, CDI_1 handle, offsets and lengths of the two certificates, the
certificates. Each field whose width the rule does not give takes 4 B (log entry 95). -/
def handoffRecord (m0 m1 : Bytes) (arb handle : Nat) (a b : Bytes) : Bytes :=
  let n := 8 + 96 + 8 + 16
  leBytes 4 1 ++ leBytes 4 (n + a.length + b.length) ++ m0 ++ m1 ++ leBytes 4 arb ++ leBytes 4 handle
    ++ leBytes 4 n ++ leBytes 4 a.length ++ leBytes 4 (n + a.length) ++ leBytes 4 b.length ++ a ++ b

/-- The root from which KVT serves a derivation (06 R171, 07 R181): none without a root, outside ROM_MODE, or after a life-cycle zeroise. -/
def diceRoot (s : State) : Option Bytes :=
  if s.kvt.refuseAll || !s.sbx.romMode then none else s.kvt.root.map Masked.val

/-- The DICE chain (06 R171, R172, 07 R197): CDI_1 into its internal slot, the device identity public keys into their buffer, the alias keys and their two
certificates, the handoff record. Without a root there is no DICE secret, no certificate and no CDI_1. -/
def diceChain (s : State) (m0 m1 : Bytes) : State :=
  match diceRoot s with
  | none => { s with sbx := { s.sbx with handoff := handoffRecord m0 m1 s.sbx.arbAtVerify 0 [] [] } }
  | some root =>
    let dice := kDice root
    let cdi := kCdi1 dice m0 m1
    let ids := kIdSeed dice
    let al := kAliasSeed cdi
    let a := ecdsaCert (seedEcdsa ids) (Config.ecdsaPublic (seedEcdsa al)) m0 s.sbx.svn
    let b := mldsaCert (seedMldsa ids) (Config.mldsaPublic (seedMldsa al)) m0 s.sbx.svn
    let (h, s) := drawNat s
    { s with
      kvt := { s.kvt with cdi1 := some cdi }
      sbx := { s.sbx with
        cdiHandle := some (h % 2 ^ 32)
        devid := Config.ecdsaPublic (seedEcdsa ids) ++ Config.mldsaPublic (seedMldsa ids)
        aliasKeys := some (seedEcdsa al, seedMldsa al)
        certs := some (a, b)
        handoff := handoffRecord m0 m1 s.sbx.arbAtVerify (h % 2 ^ 32) a b } }

/-- MEASURE_DONE (06 R174): the measurements and certificates, then FW_SVN, HELD cleared on every page, RUNNING with ROM_MODE cleared, the SBX watchdog armed
(19 R486). A PD_KVT, PD_SBX or PD_MISC that failed leaves the block HELD until the next PORST_N (04 R113). -/
def execMeasureDone (s : State) : Host.Outcome State Fault Refusal :=
  .next (onlyIf (s.sbx.boot = .measure && !s.sbx.halted) s
    (let m0 := Config.sha384 (signedRegion s.sbx.image)
     let m1 := Config.sha384 (configRecord s)
     let s := diceChain (setMeas (setMeas s 0 m0) 1 m1) m0 m1
     let s := setReg s (pgSbx + 0x044) (BitVec.ofNat 32 s.sbx.svn)
     let s := if s.cru.dead != [] then s else setHeld s false
     enterBoot { s with
       sbx := { s.sbx with romMode := false }
       wrc := { s.wrc with sbxWdArmed := true, everRunning := true } } .running))

/-- What a write of MEAS_CTRL does once it is judged (06 R173): an extend of MEAS0 or MEAS1, or while BUSY, changes nothing. -/
def doMeasCtrl (r : Role) (v : Word) (s : State) : State :=
  let off := pgSbx + 0x050
  let idx := getBits v 2 0
  if getBit v 8 && r.kind = .f then
    (if idx < 2 || s.sbx.extend.isSome then regDone s r off .denied 0
     else
       let input := (List.range 12).flatMap (fun k => leBytes 4 (rawReg s (pgSbx + 0x090 + 4 * k)).toNat)
       regDone { setRegBit (setFld s off 2 0 idx) off 9 true with sbx := { s.sbx with extend := some (idx, input) } } r off .ok 0)
  else regDone (setFld s off 2 0 idx) r off .ok 0

/-- MEAS_EXTEND (06 R173): a write of MEAS_CTRL with EXTEND set. -/
def execMeasExtend (role : Role) (v : Word) (s : State) : Host.Outcome State Fault Refusal :=
  .next (judgeWrite s role (pgSbx + 0x050) (doMeasCtrl role (v ||| 0x100)))

/-- MEAS_EXTEND_DONE (06 R173): the register becomes SHA-384(old ‖ input) and BUSY clears. -/
def execMeasExtendDone (s : State) : Host.Outcome State Fault Refusal :=
  .next (match s.sbx.extend with
    | some (i, input) =>
      setRegBit { setMeas s i (Config.sha384 (measAt s i ++ input)) with sbx := { (setMeas s i (Config.sha384 (measAt s i ++ input))).sbx with extend := none } }
        (pgSbx + 0x050) 9 false
    | none => s)

end Sys2Proof.Machine
end

