-- ==== Sys2Proof/Machine/Engine.lean ====
section
/-!
DEFINITION. The memory-engine and CTC commands (10, 12, 09 R246).
-/
namespace Sys2Proof.Machine

/-! ### Requests -/

/-- A store of the FM port becomes a predecessor of its instance's later flags once its tag is free (12 R331, 03 R74). -/
def noteStore (s : State) (e : Nat) (q : Req) : State :=
  if q.src = .fm && q.isStore && !s.ttb.stores.any (fun x => x.engine = e && x.tag = q.tag) then sampleStore s e q else s

/-- A local access held for coherence asks the directory for its line (10 R282). -/
def askHome (s : State) (e : Nat) (q : Req) : State :=
  if (engAt s e).hold = 8 && (engAt s e).ingress.isSome then homeDemand s e (lineOf q) q.isStore else s

/-- A request with the instance that its PASID names now: a held request keeps no snapshot (10 R257, 17 R439). -/
def renew (s : State) (q : Req) : Req :=
  let inst := instOfPasid s q.pasid
  { q with inst := inst, gen := inst.elim 0 (instGen s) }

/-- A request for a page that no memory engine serves: the statuses of IMU first, then JCT's (09 R226, R253, 10 R259). -/
def denyUnmapped (s : State) (e : Nat) (q : Req) : State :=
  match imuStage s q q.inst true false false e with
  | (s, some st) => respond s e q st []
  | (s, none) => denyAtJct s e q

/-- An ordering flag at an FM port (12 R331, R334): TTB accepts it where it has room; where TTB, IMU or the engine takes no work it ends with UNIT_GONE. -/
def judgeFlag (s : State) (e : Nat) (q : Req) : State :=
  if !fmServes s e then respond (clearIngress s e) e q Status.unitGone.code []
  else if admissionStopped s (engPage e) then holdIngress s e q 0
  else if orderRoom s q.inst then acceptFlag (clearIngress s e) e q
  else holdIngress s e q 15

/-- A request of the FM port is judged: one whose tag is in use waits first, so that no two responses with one tag are outstanding (03 R74, log 107);
then the refusals in the order of R259 (10). -/
def judgeFm (s : State) (e : Nat) (q : Req) : State :=
  if tagBusy s e q.tag then holdIngress (if (engAt s e).hold = 2 then s else incSat s (engPage e + 0x044) 31 0 1) e q 2
  else if q.malformed then denyAtPort (clearIngress s e) e q
  else
    let q := renew s q
    let s := noteStore s e q
    if q.op = 4 then judgeFlag s e q
    else if !q.isLocal s then judgeRemote s e q
    else match engineOfPage q.page with
    | none => denyUnmapped (clearIngress s e) e q
    | some x => if x != e then denyAtPort (clearIngress s e) e q else askHome (judgeIngress s e q) e q

/-- TTB judges what the ingress register holds (10 R257). -/
def judgeHeld (s : State) (e : Nat) (q : Req) : State :=
  match blockStatus s with
  | some st => respond (clearIngress s e) e q st []
  | none => match q.src with
    | .fm => judgeFm s e q
    | .remote .. => if q.malformed then denyAtPort (clearIngress s e) e q else askHome (judgeIngress s e q) e q
    | _ => askHome (judgeIngress s e q) e q

/-- A request is sampled into an empty ingress register (10 R257): it wakes a sleeping block and is judged once the engines admit (04 R126). -/
def sampleFm (s : State) (e : Nat) (q : Req) : State :=
  match blockStatus s with
  | some st => respond s e q st []
  | none =>
    let s := holdIngress (wake s 1) e q 0
    if s.cru.st = .run then judgeHeld s e q else s

/-- FM_REQUEST_SAMPLE (10 R257). With the ingress register in use, or the engine in a reset, FM_READY is low and nothing is sampled.
`breach`: valid was withdrawn or the payload changed before the transfer (03 R64); `perr`: parity fails (03 R65). -/
def execFmRequestSample (e : Fin 40) (op aop : BitVec 4) (addr : BitVec 35) (home : BitVec 14) (link : BitVec 5) (gmask : BitVec 2)
    (keyId : BitVec 16) (pasid : BitVec 20) (ctx : BitVec 24) (tag : BitVec 10) (wdata : Bytes) (wbe : BitVec 256) (breach perr : Bool) (s : State) :
    Host.Outcome State Fault Refusal :=
  let q : Req := ⟨.fm, op.toNat, aop.toNat, addr.toNat * 128, home.toNat, link.toNat, gmask.toNat, keyId.toNat, pasid.toNat, ctx.toNat, tag.toNat,
    (wdata ++ zeros 256).take 256, (List.range 256).map (fun i => wbe.getLsbD i), none, 0⟩
  .next (onlyIf ((engAt s e.val).ingress.isNone && !regBit s (engPage e.val + 0x010) 9 && windowOpen s) s (
    let s := if breach then detect s (engPage e.val) 2 else s
    if (blockStatus s).isNone && (perr || injArmed s (engPage e.val) 3) then respond (detect s (engPage e.val) 3) e.val q Status.poison.code []
    else sampleFm s e.val q))

/-- The service register's item is judged (18 R468): it waits in its own register. -/
def judgeService (s : State) (e : Nat) (q : Req) (rest : List Req) : State :=
  let clear (t : State) : State := setEng t e { engAt t e with service := rest }
  if (blockStatus s).isSome then respond (clear s) e q Status.unitGone.code []
  else judgeItem s e q (fun t r => if r = 8 then homeDemand t e (lineOf q) q.isStore else t) clear

/-- REQUEST_ADMIT (10 R258, 12 R337, 18 R468): transactions that wait for the port, demands and WRITE_CTs that wait at the home are tried, then the service register's item is judged, then the
ingress register's, or the remote queue's next. Outside RUN the engines admit nothing (04 R126). -/
def doRequestAdmit (e : Fin 40) (s : State) : State :=
  onlyIf (s.cru.st = .run) s (
    let s := retryCts (retryDir (drainTx s e.val) e.val)
    let s := match (engAt s e.val).service with
      | q :: r => judgeService s e.val q r
      | [] => s
    let g := engAt s e.val
    match g.ingress with
    | some q => judgeHeld s e.val q
    | none => match g.remoteQ with
      | q :: r =>
        let s := setEng s e.val { g with remoteQ := r, ingress := some q, hold := 0, turn := !g.turn }
        judgeHeld s e.val q
      | [] => s)

/-- A flag whose predecessors completed with OK performs its store: at its engine as a write, or at a remote home over its span (12 R331, R333). -/
def proceedFlag (s : State) (e : Nat) (q : Req) : State :=
  if q.pure then respond s e q 0 []
  else if q.isLocal s then
    (match engineOfPage q.page with
     | none => denyUnmapped s e (renew s q)
     | some x => if x = e then setEng s e { engAt s e with remoteQ := { q with op := 1 } :: (engAt s e).remoteQ } else denyAtPort s e q)
  else match remoteRefusal s e q with
    | (s, some st) => respond s e q st []
    | (s, none) => mapSpan s q.link (fun x => { x with outQ := x.outQ ++ [.flag q e] })

/-- ORDER_FLAG_PROCEED (12 R331 to R333): the oldest flag whose predecessors have all completed. -/
def execOrderFlagProceed (s : State) : Host.Outcome State Fault Refusal :=
  .next (match s.ttb.flags.find? (fun f => f.preds = []) with
    | some f =>
      let s := refreshOrd { s with ttb := { s.ttb with flags := s.ttb.flags.filter (· != f) } }
      if !genFresh s f.req.inst f.req.gen then storeDone (genDiscard s f.req.inst) f.engine f.req.tag Status.aborted.code
      else match f.failed with
        | some (_, st) => respond (incSat s (pgTtb + 0x0CC) 31 0 1) f.engine f.req st []
        | none => proceedFlag (incSat s (pgTtb + 0x0C8) 31 0 1) f.engine f.req
    | none => s)

/-! ### Memory port (03 R76 to R78) -/

/-- A transaction is over: what waits for its identifier or its units goes out (03 R77). -/
def dropTx (s : State) (e id : Nat) : State := drainTx (setEng s e { engAt s e with txs := tblDel (engAt s e).txs id }) e

/-- MEM_READ_ERROR (03 R78): the record names the channel and the address; MEM_RERR fires, or PARITY for failing parity. -/
def memPoison (s : State) (e off : Nat) (perr : Bool) : State := detectAs s (engPage e) (if perr then 3 else 4) rcMemPoison none e (off / 64) 0

/-- Whether read data is bad: xx_RERR, failing parity, or an armed injection into either (05 R151). -/
def readBad (s : State) (e : Nat) (rerr perr : Bool) : Bool := rerr || perr || injArmed s (engPage e) 4 || injArmed s (engPage e) 3

/-- Whether the failure counts as parity. -/
def badParity (s : State) (e : Nat) (rerr perr : Bool) : Bool := perr || (!rerr && !injArmed s (engPage e) 4)

/-- The verified granules of a slot's read, or the index of one whose tag fails. Granules with a zero counter stand as zeros. -/
def verifyRead (s : State) (e : Nat) (a : Adm) (data : Bytes) : List (Nat × Bytes) × Option Nat :=
  (a.req.granules.zip (List.range 2)).foldl (fun acc p =>
    let ((j, i), pos) := p
    let ct := (data.drop (128 * pos)).take 128
    let (_, major, minor) := (a.ctrs.find? (fun c => c.1 = i)).getD (i, 0, 0)
    let si := a.snap.cls = .s || a.snap.cls = .i
    if si && minor = 0 then (acc.1 ++ [(j, zeros 128)], acc.2)
    else match openGranule a s.dom.ownId i major minor ct ((a.tag s e i).getD []) with
      | some pt => (acc.1 ++ [(j, pt)], acc.2)
      | none => (acc.1, acc.2.orElse (fun _ => some i))) ([], none)

/-- An armed injection into TAG_FAIL fails the next verified granule (05 R151). -/
def injectTag (s : State) (e : Nat) (a : Adm) (r : List (Nat × Bytes) × Option Nat) : List (Nat × Bytes) × Option Nat :=
  match a.ctrs.find? (fun c => c.2.2 != 0) with
  | some c => if injArmed s (engPage e) 0 && (a.snap.cls = .s || a.snap.cls = .i) && r.2.isNone then (r.1, some c.1) else r
  | none => r

/-- Every member of a slot's set, and the slot, completes with a status and nothing is written (10 R271, 12 R340). -/
def endSet (s : State) (e n st : Nat) : State := (setMembers (engAt s e) n).foldl (fun t m => finishSlot t e m st [] []) s

/-- The requester-span entries of a combinable set answered together (11 R318). -/
def answerGroup (s : State) (e n : Nat) (a : Adm) (desc : List (Nat × Nat × Bytes)) (data : Bytes) : State :=
  let g := engAt s e
  let ms := setMembers g n
  let reqs := ms.filterMap (fun m => (tblFind g.slots m).map (fun a => { a.req with inst := a.snap.inst, gen := a.snap.gen }))
  let s := ms.foldl (fun t m => freeSlot t e m) s
  match a.req.src with
  | .remote span _ _ _ _ _ (some gf) =>
    if a.req.link != tblGet 0 s.incarn (pgVdt span) then staleRsp s
    else mapSpan s span (fun x => { x with outQ := x.outQ ++ [.grp reqs a.snap.cls.code a.ballast (578 * reqs.length) gf desc data] })
  | _ => s

/-- The data of an admitted request's read has been taken (10 R268, R271). -/
def slotData (s : State) (e n : Nat) (data : Bytes) : State :=
  match tblFind (engAt s e).slots n with
  | none => s
  | some a =>
    match injectTag s e a (verifyRead s e a data) with
    | (_, some i) => endSet (tagFail s e a i) e n Status.authFail.code
    | (parts, none) =>
      if a.stage = .rmwWait then mergeAndCommit s e n parts
      else if a.ctrs.any (fun c => (a.snap.cls = .s || a.snap.cls = .i) && c.2.2 = 0) then endSet s e n Status.unwritten.code
      else
        let desc := a.req.granules.map (fun g =>
          let c := (a.ctrs.find? (fun c => c.1 = g.2)).getD (g.2, 0, 0)
          (c.2.1, c.2.2, (a.tag s e g.2).getD (zeros 8)))
        match a.req.src with
        | .remote .. =>
          if opensSet s a then answerGroup s e n a desc data
          else finishSlot s e n 0 desc data
        | _ => finishSlot s e n 0 [] (pairData parts)

/-- MEM_READ_DATA (10 R268): a beat leaves the memory port queue; `rerr` is xx_RERR, `perr` failing parity. -/
def doMemReadData (e : Fin 40) (id : BitVec 8) (data : Bytes) (rerr perr : Bool) (s : State) : State :=
  match tblFind (engAt s e.val).txs id.toNat with
    | some t =>
      let i := t.offset / 128 % 32
      let bad := readBad s e.val rerr perr
      let par := badParity s e.val rerr perr
      (match t.purpose with
       | .slotRead n =>
         let s := dropTx s e.val id.toNat
         if bad then endSet (memPoison s e.val t.offset par) e.val n Status.poison.code
         else (match tblFind (engAt s e.val).slots n with
           | some a =>
             (match a.req.src, a.snap.cls, a.stage with
              | .remote .., .p, .readWait => finishSlot s e.val n 0 [] (pairData (a.req.granules.zip (List.range 2) |>.map (fun p => (p.1.1, (data.drop (128 * p.2)).take 128))))
              | _, _, _ => slotData s e.val n data)
           | none => s)
       | .resealRead | .resumeRead =>
         let s := dropTx s e.val id.toNat
         let s := if bad then memPoison s e.val t.offset par else s
         let g := engAt s e.val
         (match g.reseal with
          | some r => setEng s e.val { g with reseal := some { r with left := r.left.filter (· != i), got := if bad then r.got else tblPut r.got i data } }
          | none => s)
       | .dryRun => dropTx s e.val id.toNat
       | _ => s)
    | none => staleRsp s

/-- MEM_WRITE_PRESENT (10 R269): the sealed granules of a committed write go to the memory port, tags into their slots; the slot and its pins are
freed. A write behind an earlier one of the same page waits for it. -/
def doMemWritePresent (e : Fin 40) (slot : Fin 128) (s : State) : State :=
  match tblFind (engAt s e.val).slots slot.val with
    | some a =>
      let l := lineOf a.req
      let first := (engAt s e.val).slots.all (fun b => !(b.2.stage = .writeReady && lineOf b.2.req = l && b.2.order < a.order))
      onlyIf (a.stage = .writeReady && first) s (
        let out := a.req.granules.map (fun g =>
          let c := (a.ctrs.find? (fun c => c.1 = g.2)).getD (g.2, 0, 0)
          (g.2, sealGranule a s.dom.ownId g.2 c.2.1 c.2.2 (a.req.half g.1)))
        let s := if a.snap.cls = .s || a.snap.cls = .i then out.foldl (fun t o => setTagSlot t e.val l o.1 o.2.2) s else s
        let s := present s e.val (.slotWrite (out.map (fun o => l * 32 + o.1))) true (granuleOff l ((out.map Prod.fst).headD 0)) (128 * out.length)
          (out.flatMap (fun o => o.2.1))
        freeSlot s e.val slot.val)
    | none => s

/-- MEM_WRITE_ACK (03 R77). A checkpoint's acknowledgement is RESEAL_CHECKPOINT_ACK's. -/
def doMemWriteAck (e : Fin 40) (id : BitVec 8) (s : State) : State :=
  match tblFind (engAt s e.val).txs id.toNat with
    | some t => onlyIf (t.wr && t.purpose != .checkpoint) s (serveLoads (dropTx s e.val id.toNat))
    | none => staleRsp s

/-! ### Fills (10 R262, R265, R266) -/

/-- METADATA_FILL_RETURN (10 R262, R266, 03 R78): `rerr` is xx_RERR, `perr` failing parity. -/
def doMetadataFillReturn (e : Fin 40) (id : BitVec 8) (data : Bytes) (rerr perr : Bool) (s : State) : State :=
  match tblFind (engAt s e.val).txs id.toNat with
    | some t =>
      let bad := readBad s e.val rerr perr
      let par := badParity s e.val rerr perr
      (match t.purpose with
       | .fill k idx =>
         let s := dropTx s e.val id.toNat
         (match fillOf s e.val k idx with
          | some f =>
            if bad then
              (let s := dropFill (memPoison s e.val t.offset par) f
               if f.merge then
                 (match findLine s e.val .tag idx with
                  | some x =>
                    let s := mapLine s e.val .tag idx (fun y => { y with data := match y.data with
                      | .tag sl => .tag (sl.map (fun o => some (o.getD (zeros 8))))
                      | d => d })
                    serveLoads (lineLost ((writeBack s (reread s x)).getD s) e.val idx 5)
                  | none => s)
               else serveLoads (fillLost s f Status.poison.code))
            else
              serveLoads (settleAll { s with ctc := { s.ctc with fills := s.ctc.fills.map (fun x =>
                if x.tree = e.val && x.kind = k && x.idx = idx then { x with returned := some data } else x) } })
          | none => s)
       | _ => s)
    | none => s

/-! ### Re-seal (10 R275, R276) -/

/-- RESEAL_CHECKPOINT_ACK (10 R275 step 3): the acknowledged checkpoint is read back and compared; the second mismatch fails the re-seal. -/
def execResealCheckpointAck (e : Fin 40) (data : Bytes) (s : State) : Host.Outcome State Fault Refusal :=
  .next (
    let g := engAt s e.val
    match g.reseal, g.txs.find? (fun t => t.2.purpose = .checkpoint) with
    | some r, some (id, _) =>
      (match findLine s e.val .ctr r.page with
       | some x =>
         let t : Tx := ⟨.checkpoint, metaOff e.val .ctr r.page, false, 64⟩
         let s := emit (dropTx s e.val id) ⟨.memRead, e.val, id, txMask e.val t, t.offset / beatOf e.val * beatOf e.val, []⟩
         let g := engAt s e.val
         let aad := match x.data with
           | .ctr a m i f => ctrAad a m i f
           | _ => []
         if injArmed s (engPage e.val) 6 then
           detectAs (setEng s e.val { g with reseal := some { r with mismatches := 2 } }) (engPage e.val) 6 rcReseal none (pageOfChannel e.val r.page) r.granule 1
         else if data.take 56 ++ [data.getD 63 0] = aad then setEng s e.val { g with reseal := some { r with step := .granules } }
         else if r.mismatches = 0 then writeCheckpoint (setEng s e.val { g with reseal := some { r with mismatches := 1 } }) e.val x
         else detectAs (setEng s e.val { g with reseal := some { r with mismatches := 2 } }) (engPage e.val) 6 rcReseal none (pageOfChannel e.val r.page) r.granule 1
       | none => s)
    | _, _ => s)

/-- The keys, class and KeyID under which a re-seal works: those of the overflowing write, or those of the resident line. -/
def resealAdm (s : State) (e : Nat) (r : Reseal) (x : Line) : Option Adm :=
  match r.slot.bind (fun n => tblFind (engAt s e).slots n) with
  | some a => some a
  | none =>
    if (lineKey s x.keyId x.kidEpoch).isNone then none
    else
      let clsI := match x.data with
        | .ctr _ _ i _ => i
        | _ => false
      let q : Req := ⟨.service 0, 1, 0, pageOfChannel e r.page * 4096, s.dom.ownId, 0, 3, x.keyId, 0, 0, 0, [], [], none, 0⟩
      (keysOf s x.keyId).map (fun ks =>
        ⟨q, ⟨x.charge, 0, 0, x.keyId, x.slot, if clsI then .i else .s, 0, 2, 0, x.kidEpoch⟩, ks.ek, ks.tk, ks.sk, [], .reseal, true, 0, 0⟩)

/-- Write one granule sealed under (major, 1). -/
def resealWrite (s : State) (e : Nat) (a : Adm) (l i major : Nat) (pt : Bytes) : State :=
  let (ct, tag) := sealGranule a s.dom.ownId i major 1 pt
  present (setTagSlot s e l i tag) e (.slotWrite [l * 32 + i]) true (granuleOff l i) 128 ct

/-- One granule of a re-seal or resume: its stored data verify under the old counter, or already under the new one (10 R275 step 5, R276). -/
def resealGranule (s : State) (e : Nat) (a : Adm) (r : Reseal) (i : Nat) : State :=
  let tag := (a.tag s e i).getD []
  match tblFind r.got i with
  | none => granuleLeft s e r.page i
  | some ct =>
    if r.step = .resume && (openGranule a s.dom.ownId i (r.major + 1) 1 ct tag).isSome then s
    else match openGranule a s.dom.ownId i r.major (r.minors.getD i 0) ct tag with
      | some pt => resealWrite s e a r.page i (r.major + 1) pt
      | none => granuleLeft s e r.page i

/-- The granules that a re-seal writes for its overflowing write. -/
def resealOwn (r : Reseal) (a : Adm) : List (Nat × Nat) := if r.slot.isSome then a.req.granules else []

/-- Whether a re-seal can write its granules: its checkpoint compared, every read back, its five lines pinned, and the tags of the granules to verify there
(10 R275 step 2, R276). -/
def resealReady (s : State) (e : Nat) (r : Reseal) (a : Adm) : Bool :=
  (r.step = .granules || r.step = .resume) && r.left = [] && r.pins.length = 5 &&
    (List.range 32).all (fun i => r.minors.getD i 0 = 0 || (a.tag s e i).isSome || (resealOwn r a).any (fun g => g.2 = i))

/-- The pins of the re-seal machine are released. -/
def resealUnpin (s : State) (e : Nat) (r : Reseal) : State :=
  r.pins.foldl (fun t u => mapLine t e u.1 u.2 (fun y => { y with pins := y.pins - 1 })) s

/-- RESEAL_FINISH (10 R275 steps 4 to 6, R276): with every read back and the tag lines resident, the granules are written, the minors set, the page
released and the overflowing write answered. What it still waits for is asked for again. -/
def doResealFinish (e : Fin 40) (s : State) : State :=
  match (engAt s e.val).reseal with
  | none => s
  | some r0 =>
    let s := tryCheckpoint (resealPins s e.val) e.val
    let r := (engAt s e.val).reseal.getD r0
    match findLine s e.val .ctr r.page with
    | none => s
    | some x =>
      match resealAdm s e.val r x with
      | none => serveLoads (wantKey s x)
      | some a =>
        if !resealReady s e.val r a then
          (List.range 4).foldl (fun t k => if (findLine t e.val .tag (r.page * 4 + k)).isSome then t else startTag t e.val (r.page * 4 + k) x.keyId x.charge) s
        else
          let own := resealOwn r a
          let s := own.foldl (fun t g => resealWrite t e.val a r.page g.2 (r.major + 1) (a.req.half g.1)) s
          let rest := (List.range 32).filter (fun i => r.minors.getD i 0 != 0 && !own.any (fun g => g.2 = i))
          let s := rest.foldl (fun t i => resealGranule t e.val a r i) s
          let m := (List.range 32).map (fun i => if r.minors.getD i 0 != 0 || own.any (fun g => g.2 = i) then 1 else 0)
          let s := mapLine s e.val .ctr r.page (fun y => { y with dirty := true, data := match y.data with
            | .ctr _ _ i _ => .ctr (r.major + 1) m i false
            | d => d })
          let s := resealUnpin s e.val r
          let s := refreshEng (setEng s e.val { engAt s e.val with reseal := none }) e.val
          let s := incSat s (engPage e.val + 0x04C) 31 0 1
          match r.slot with
          | some _ =>
            let s := r.replies.foldl (fun t p => finishSlot t e.val p.1 0 [] p.2) s
            if injArmed s (engPage e.val) 7 then detectAs s (engPage e.val) 7 rcReseal none (pageOfChannel e.val r.page) 0 2 else s
          | none => detectAs s (engPage e.val) 7 rcReseal none (pageOfChannel e.val r.page) 0 2

/-! ### CTC (10 R263, R279) -/

/-- PREFETCH_DEPTH_ADJUST (10 R279). -/
def execPrefetchDepthAdjust (s : State) : Host.Outcome State Fault Refusal :=
  .next (onlyIf (4096 ≤ s.ctc.counted && !regBit s (pgCtc + 0x048) 8) s (
    let d := getFld s (pgCtc + 0x048) 4 0
    let up := 3 * s.ctc.counted ≤ 4 * s.ctc.hits
    let down := 4 * s.ctc.hits < s.ctc.counted
    let d' := if up then d + 1 else if down then d - 1 else d
    let d' := max (getFld s (pgCtc + 0x044) 4 0) (min (getFld s (pgCtc + 0x044) 9 5) d')
    setFld { s with ctc := { s.ctc with counted := 0, hits := 0 } } (pgCtc + 0x048) 4 0 d'))

/-- PREFETCH_OVERRIDE_END (10 R279): 1 ms after the last FILL_AUTH event that cause ends. -/
def execPrefetchOverrideEnd (s : State) : Host.Outcome State Fault Refusal :=
  .next (onlyIf s.ctc.overrideAuth s (overrideEnd s 2))

/-- The sums of the CTC shares in ways. -/
def ctcSum (s : State) (tierA : Bool) : Nat := (slicedInsts s).foldl (fun n i => n + ctcShare s i (if tierA then 0 else 32)) 0

/-- What a write of CTC_PART does once it is judged (10 R263, 17 R447). -/
def doCtcPart (r : Role) (v : Word) (s : State) : State :=
  let b := getBits v 3 0
  let t := getBits v 6 4
  if t < 1 || 4 < t || 8 < b || 16 < t + b + 4 then regDone s r (pgCtc + 0x040) .denied 0
  else
    let s := commitDone { s with ctc := { s.ctc with partChange := some (v &&& 0x7F) } } r (pgCtc + 0x040)
    if 16 - t - b < ctcSum s true || b < ctcSum s false then fireAs s pgImu 1 rcImuLimit none 0 2 0 else s

/-- CTC_PART_WRITE (10 R263). -/
def execCtcPartWrite (role : Role) (v : Word) (s : State) : Host.Outcome State Fault Refusal :=
  .next (judgeGuarded s role (pgCtc + 0x040) (doCtcPart role v))

/-- The partition of a way under a CTC_PART word. -/
def wayPart (v : Word) (w : Nat) : Nat := if w < getBits v 6 4 then 0 else if w < getBits v 6 4 + getBits v 3 0 then 1 else 2

/-- CTC_PART_CHANGE_DONE (10 R263): the lines in ways that change partition are evicted; one that cannot go yet starts what its write-back needs. A fill on
its way into such a way is awaited. -/
def execCtcPartChangeDone (s : State) : Host.Outcome State Fault Refusal :=
  .next (match s.ctc.partChange with
    | none => s
    | some v =>
      let old := rawReg s (pgCtc + 0x040)
      let moving (w : Nat) : Bool := wayPart old w != wayPart v w
      let pass (t : State) : State := (t.ctc.lines.filter (fun x => moving x.way && mayLeave t x && !dirtyChild t x)).foldl (fun u x =>
        match evict u (reread u x) with
        | some w => w
        | none => pathFill u (reread u x)) t
      let s := (List.range 8).foldl (fun t _ => pass t) s
      if s.ctc.lines.any (fun x => moving x.way) || s.ctc.fills.any (fun f => moving f.way) then s
      else setReg { s with ctc := { s.ctc with partChange := none } } (pgCtc + 0x040) v)

/-- What a write of FLOOR and CEIL does once it is judged (10 R279). -/
def doCtcPf (r : Role) (v : Word) (s : State) : State :=
  let f := getBits v 4 0
  let c := getBits v 9 5
  if 16 < f || 16 < c || c < f then regDone s r (pgCtc + 0x044) .denied 0
  else
    let s := setReg s (pgCtc + 0x044) (v &&& 0x3FF)
    let d := getFld s (pgCtc + 0x048) 4 0
    let s := if !regBit s (pgCtc + 0x048) 8 && (d < f || c < d) then
        setFld { s with ctc := { s.ctc with counted := 0, hits := 0 } } (pgCtc + 0x048) 4 0 (max f (min c d))
      else s
    commitDone s r (pgCtc + 0x044)

/-- CTC_PF_WRITE (10 R279). -/
def execCtcPfWrite (role : Role) (v : Word) (s : State) : Host.Outcome State Fault Refusal :=
  .next (judgeGuarded s role (pgCtc + 0x044) (doCtcPf role v))

/-! ### Reset list (09 R244 to R246) -/

/-- Lines [lo, hi] of an engine are reset: their counter and tag lines leave CTC with the fills on the way to them; with `flags`, a resident node wholly among
them holds the set flags that the entry above gives it, and keeps its counters (09 R240). -/
def resetBelow (s : State) (e lo hi : Nat) (flags : Bool) : State :=
  let mine (tree : Nat) (k : LineKind) (idx : Nat) : Bool := tree = e && (match k with
    | .ctr => lo ≤ idx && idx ≤ hi
    | .tag => lo * 4 ≤ idx && idx < hi * 4 + 4
    | .node _ => false)
  let gone := s.ctc.lines.filter (fun x => mine x.tree x.kind x.idx)
  { s with ctc := { s.ctc with
    lines := (s.ctc.lines.filter (fun x => !mine x.tree x.kind x.idx)).map (fun x => match x.kind, x.data with
      | .node v, .node n => if flags && x.tree = e && lo ≤ x.idx * 8 ^ v && (x.idx + 1) * 8 ^ v ≤ hi + 1 then { x with data := .node n.allInit } else x
      | _, _ => x)
    fills := s.ctc.fills.filter (fun x => !mine x.tree x.kind x.idx)
    counted := s.ctc.counted + (gone.filter Line.prefetched).length } }

/-- Set INIT on the largest aligned subtrees at and below a node whose lines all lie in [lo, hi] (09 R244). A node that a part of the range needs and that is
not resident is filled first, and the answer's flag is then false; below an absent one there is nothing to reset. Level 0 is a line. -/
def initTree : Nat → State → Nat → Nat → Nat → Nat → State × Bool
  | fuel, s, e, idx, lo, hi =>
    let a := idx * 8 ^ fuel
    let b := (idx + 1) * 8 ^ fuel - 1
    let part (s : State) : State × Bool := match fuel with
      | 0 => (s, true)
      | f + 1 => (List.range 8).foldl (fun acc c =>
          let r := initTree f acc.1 e (idx * 8 + c) lo hi
          (r.1, acc.2 && r.2)) (s, true)
    if b < lo || hi < a then (s, true)
    else match parentEntry s e (if fuel = 0 then .ctr else .node fuel) idx with
      | none => (s, false)
      | some (c, init) =>
        if init then (resetBelow s e (max a lo) (min b hi) true, true)
        else if lo ≤ a && b ≤ hi then
          (let p := if fuel = 0 then (1, idx / 8, idx % 8) else nodeParent e fuel idx
           (resetBelow (mapNode s e p.1 p.2.1 (fun n => n.setInit p.2.2 true)) e a b true, true))
        else if (nodeAt s e fuel idx).isSome then part s
        else if c = 0 then (resetBelow s e (max a lo) (min b hi) true, true)
        else (startFill s e (.node fuel) idx 0xFF00 false none false, false)

/-- The channel lines of a page range that an engine holds. -/
def linesOf (e lo hi : Nat) : Option (Nat × Nat) :=
  if e < 32 then
    (let a := if lo % 32 ≤ e then lo / 32 else lo / 32 + 1
     if lo ≤ hi && inTierA lo && a * 32 + e ≤ hi then some (a, (hi - e) / 32) else none)
  else if tierBPort lo = some (e - 32) then some (channelPage lo, channelPage hi) else none

/-- The last line of a tree that a range reaches: beyond the last data line a subtree holds no page, so that a range to that line takes the tail in
(09 R226, R244). -/
def lastLine (e hi : Nat) : Nat :=
  if e < 32 then (if hi = 2168831 then 9 * 2 ^ 18 - 1 else hi) else (if hi = 61714431 then 2 ^ 26 - 1 else hi)

/-- The engine and the index of the level-6 node of a global index (09 R238). -/
def nodeSix (e g : Nat) : Nat × Nat := if e < 32 then (g / 9, g % 9) else (e, g)

/-- Whether every line below a level-6 node lies in a range. -/
def coversSix (r : ResetRange) (e g : Nat) : Bool :=
  let p := nodeSix e g
  match linesOf p.1 r.lo r.hi with
  | some (a, b) => a ≤ p.2 * 2 ^ 18 && (p.2 + 1) * 2 ^ 18 ≤ lastLine p.1 b + 1
  | none => false

/-- The entries of levels 9 and 8 whose every page lies in a range are reset (09 R238, R244); everything below holds the flag then. -/
def resetTop (s : State) (e : Nat) (r : ResetRange) : State :=
  let n7 := if e < 32 then 36 else 32
  let sixes (j k : Nat) : List Nat := ((List.range k).map (· + j)).filter (· < 8 * n7)
  let below (s : State) (gs : List Nat) : State := gs.foldl (fun t g =>
    let p := nodeSix e g
    resetBelow t p.1 (p.2 * 2 ^ 18) ((p.2 + 1) * 2 ^ 18 - 1) true) s
  (List.range ((n7 + 7) / 8)).foldl (fun t i =>
    if (sixes (64 * i) 64).all (coversSix r e) then below (mapNode t e 9 0 (fun n => n.setInit i true)) (sixes (64 * i) 64)
    else (List.range (min 8 (n7 - 8 * i))).foldl (fun u j =>
      if (sixes (64 * i + 8 * j) 8).all (coversSix r e) then below (mapNode u e 8 i (fun n => n.setInit j true)) (sixes (64 * i + 8 * j) 8) else u) t) s

/-- Whether admitted work still uses a line among [a, b] of an engine: its lines are pinned, and the reset waits (01 R25, 10 R260). -/
def linesInUse (s : State) (e a b : Nat) : Bool :=
  (engAt s e).reseal.any (fun r => a ≤ r.page && r.page ≤ b)
    || (engAt s e).slots.any (fun x => (x.2.snap.cls = .s || x.2.snap.cls = .i) && a ≤ lineOf x.2.req && lineOf x.2.req ≤ b)

/-- Reset one engine's part of a range: INIT flags for class S, fresh counter lines for class I (09 R244, R246). -/
def resetPart (s : State) (e : Nat) (r : ResetRange) : State × Bool :=
  match linesOf e r.lo r.hi with
  | none => (s, true)
  | some (a, b) =>
    if linesInUse s e a b then (s, false)
    else if r.clsI then
      (match (keysOf s r.keyId).map KeySet.tk with
       | none => (keyMiss s r.keyId none, false)
       | some tk =>
         let s := resetBelow s e a b false
         ((List.range (b + 1 - a)).foldl (fun t i =>
           let l := a + i
           let z := List.replicate 32 0
           present t e .writeback true (metaOff e .ctr l) 64 (ctrBytes 0 z true false
             (ctrMac tk (da12 t.dom.ownId r.keyId (pageOfChannel e l)) 0 (ctrAad 0 z true false)))) s, true))
    else
      let hi := lastLine e b
      (List.range ((hi / 2 ^ 18) + 1 - a / 2 ^ 18)).foldl (fun acc i =>
        let n := a / 2 ^ 18 + i
        if topInit acc.1 e ((if e < 32 then 9 * e + n else n) / 8) then (resetBelow acc.1 e (max a (n * 2 ^ 18)) (min hi ((n + 1) * 2 ^ 18 - 1)) true, acc.2)
        else
          let x := initTree 6 acc.1 e n a hi
          (x.1, acc.2 && x.2)) (s, true)

/-- Reset a whole range: the engines' parts, and for class S the entries of the levels above them. -/
def resetRange (s : State) (r : ResetRange) : State × Bool :=
  let busy := (List.range 40).any (fun e => (linesOf e r.lo r.hi).any (fun p => linesInUse s e p.1 p.2))
  let s := if r.clsI || busy then s else resetTop s ((engineOfPage r.lo).getD 0) r
  (List.range 40).foldl (fun acc e =>
    let x := resetPart acc.1 e r
    (x.1, acc.2 && x.2)) (s, true)

/-- RESET_LIST_RANGE_DONE (09 R246): the oldest range. It ends once every tree node it needs is on die; with `ok` false a memory-path failure interrupted
it, and it repeats. -/
def execResetListRangeDone (ok : Bool) (s : State) : Host.Outcome State Fault Refusal :=
  .next (match s.anchor.resets with
    | [] => s
    | r :: rest =>
      let e := (engineOfPage r.lo).getD 0
      if !ok then record s pgJct rcMemPoison e (metaOff e .ctr (channelPage r.lo) / 64) 0
      else
        let (s, done) := resetRange s r
        if done then setResets s rest else s)

end Sys2Proof.Machine
end

