-- ==== Sys2Proof/Machine/SpanOps.lean ====
section
/-!
DEFINITION. A span as shared operations (11, 14 R378 to R386, 18 R469 to R478): addresses and headers of a frame, sealing, the Ballast forms, the
egress judgement, the outstanding entries and peers.
-/
namespace Sys2Proof.Machine

/-! ### Configuration -/

/-- Big-endian number at bytes `i` to `i + n − 1`. -/
def bfld (b : Bytes) (i n : Nat) : Nat := beNat ((b.drop i).take n)

/-- A flow entry. -/
def flowAt (s : State) (n f : Nat) : Flow := (tblFind (spanAt s n).flows f).getD Flow.zero

/-- Set a flow entry. -/
def setFlow (s : State) (n f : Nat) (x : Flow) : State := mapSpan s n (fun y => { y with flows := tblSet Flow.zero y.flows f x })

/-- The unicast address of member `i` on port `p` (11 R289). -/
def unicast (s : State) (n p i : Nat) : Bytes :=
  beBytes 8 (vReg s n 0x05C + vReg s n 0x060 * 0x100000000) ++ zeros 5 ++ beBytes 1 p ++ beBytes 2 i

/-- The multicast address of a group (11 R289). -/
def multicast (s : State) (n g : Nat) : Bytes :=
  beBytes 12 (vReg s n 0x064 + vReg s n 0x068 * 0x100000000 + vReg s n 0x06C * 0x10000000000000000) ++ beBytes 4 g

/-- The Ethernet, IPv6 and UDP headers of a frame on a flow with body length `len` (11 Table 11.1, R289, R290). -/
def wireHeaders (s : State) (n f len : Nat) : Bytes :=
  let x := flowAt s n f
  let group := x.kind = 1
  let dst := if group then multicast s n x.group else unicast s n x.peerPort x.peerId
  let mac := if group then [0x33, 0x33] ++ dst.drop 12 else beBytes 6 (vReg s n 0x054 + vReg s n 0x058 % 0x10000 * 0x100000000)
  let own := beBytes 6 (vReg s n 0x04C + vReg s n 0x050 % 0x10000 * 0x100000000)
  let tag := if regBit s (pgVdt n + 0x044) 24
    then [0x81, 0x00] ++ beBytes 2 (getFld s (pgVdt n + 0x048) 14 12 * 0x2000 + getFld s (pgVdt n + 0x048) 11 0) else []
  let udp := 8 + 32 + len + 16
  let port := beBytes 2 (getFld s (pgVdt n + 0x044) 15 0)
  mac ++ own ++ tag ++ [0x86, 0xDD] ++ beBytes 4 (6 * 2 ^ 28 + x.dscp * 2 ^ 22 + n * 0x1000 + f) ++ beBytes 2 udp
    ++ [17, BitVec.ofNat 8 (getFld s (pgVdt n + 0x044) 23 16)] ++ unicast s n n s.dom.ownId ++ dst ++ port ++ port ++ beBytes 2 udp ++ [0, 0]

/-- The seal header (11 Table 11.2). -/
def sealHeader (type flags sender flow seq epoch keyId inc reqInc len sport : Nat) : Bytes :=
  [BitVec.ofNat 8 (0x10 + type), BitVec.ofNat 8 flags] ++ beBytes 2 sender ++ beBytes 2 flow ++ beBytes 8 seq ++ beBytes 4 epoch ++ beBytes 2 keyId
    ++ [BitVec.ofNat 8 inc, BitVec.ofNat 8 reqInc] ++ beBytes 2 len ++ [BitVec.ofNat 8 sport] ++ zeros 7

/-- The IV of a frame: bytes 2 to 13 of its seal header (11 R292). -/
def frameIv (h : Bytes) : Bytes := (h.drop 2).take 12

/-- Whether a type carries stored data outside GCM (11 Table 11.3). -/
def isForward (type : Nat) : Bool := type = 3 || type = 5 || type = 7

/-- INCARN of a span. -/
def incarnOf (s : State) (n : Nat) : Nat := getFld s (pgVdt n + 0x0F8) 7 0

/-- The epoch key designated for sending, where the span may seal under it (11 R300, 02 R40). -/
def sendEpoch (s : State) (n : Nat) : Option EpochKey := (sendKey s).filter (fun k => s.dom.epoch != 0 && (spanAt s n).barred < k.num)

/-- The key material of a flow that the span holds (11 R304). -/
def heldKey (s : State) (n f : Nat) (rx : Bool) (epoch : Nat) : Option Bytes :=
  ((spanAt s n).keys.find? (fun k => k.flow = f && k.rx = rx && k.epoch = epoch)).map SpanKey.key

/-- The span takes a flow's key into its ready set of 64 per direction, least recently used out (11 R304). -/
def keepKey (s : State) (n : Nat) (k : SpanKey) : State :=
  mapSpan s n (fun x =>
    let rest := x.keys.filter (fun y => !(y.flow = k.flow && y.rx = k.rx && y.epoch = k.epoch))
    let same := (rest.filter (fun y => y.rx = k.rx)).take 63
    { x with keys := k :: (same ++ rest.filter (fun y => y.rx != k.rx)) })

/-- Ask KVT for a pair key (11 R304, 08 R207): a span has at most one request outstanding. The last number is flow × 2 + direction. -/
def askKey (s : State) (n pos f : Nat) (rx : Bool) : State :=
  if s.kvt.pairWait.any (fun w => w.1 = n) then s
  else { s with kvt := { s.kvt with pairWait := s.kvt.pairWait ++ [(n, pos, (flowAt s n f).peerId, f * 2 + b2n rx)] } }

/-- The freed-through count that the span owes its peer on a flow (18 R472). -/
def freedThrough (s : State) (n f : Nat) : Nat :=
  let x := spanAt s n
  let held := (x.memQ.filterMap (fun q => match q.1.src with
      | .remote _ _ g _ sq _ _ => if g = f then some sq else none
      | _ => none)) ++ (x.trsQ.filterMap (fun q => if q.1.flow = f then some q.2 else none)) ++
    (x.nrHeld.filterMap (fun q => if q.2.1.flow = f then q.2.2 else none))
  match held with
  | [] => ((flowAt s n f).high.map (· + 1)).getD 0
  | a :: t => t.foldl min a

/-- The send window of a flow (18 R471); 0 disables the count. -/
def windowOf (s : State) (n : Nat) (x : Flow) : Nat :=
  if x.dest = 2 then getFld s (pgVdt n + 0x140) 5 0 else getFld s (pgVdt n + 0x140) 13 8

/-- Condition C-5 for a request-class frame. -/
def hasCredit (s : State) (n : Nat) (x : Flow) : Bool := windowOf s n x = 0 || x.sent - x.freed < windowOf s n x

/-! ### Sealing (11 R288 to R295) -/

/-- The parts of a frame to seal: type, flags, KEYID and REQ_INC fields, the encrypted part, the clear part with stored data and padding. -/
structure Draft where
  type : Nat
  flags : Nat
  keyId : Nat
  reqInc : Nat
  enc : Bytes
  clear : Bytes
  stored : Bytes
  pad : Bytes
deriving DecidableEq, Repr

/-- A frame of a flow takes its send count: the count advances, and a request-class frame counts toward the window (11 R299, 18 R471). -/
def takeSeq (s : State) (n f : Nat) (isReq : Bool) : State :=
  let x := flowAt s n f
  setFlow s n f { x with count := x.count + 1, sent := x.sent + b2n isReq }

/-- Seal a frame on a flow under a key with send count `c` and present it on LT: the gauge's demand and the instance's link bytes grow (11 R288 to R295,
R321). -/
def sealAt (s : State) (n f c epoch : Nat) (key : Bytes) (d : Draft) (inst : Option Nat) : State :=
  let len := (d.enc ++ d.clear ++ d.stored ++ d.pad).length
  let h := sealHeader d.type d.flags s.dom.ownId f (n * 2 ^ 59 + c) epoch d.keyId (incarnOf s n) d.reqInc len n
  let iv := frameIv h
  let ct := Config.gcmCrypt key iv d.enc
  let tag := if isForward d.type then Config.gcmTag key iv (h ++ d.clear ++ d.pad) [] else Config.gcmTag key iv h ct
  let frame := wireHeaders s n f len ++ h ++ ct ++ d.clear ++ d.stored ++ d.pad ++ tag
  let s := mapSpan s n (fun y => { y with gauge := { y.gauge with tx := y.gauge.tx + frame.length } })
  emit (instCount s inst 0x520 frame.length) ⟨.lt, n, f, 0, c, frame⟩

/-- Seal a frame under the flow's next send count. -/
def sealSend (s : State) (n f epoch : Nat) (key : Bytes) (d : Draft) (isReq : Bool) (inst : Option Nat) : State :=
  sealAt (takeSeq s n f isReq) n f (flowAt s n f).count epoch key d inst

/-! ### Ballast (14 R379 to R386) -/

/-- The 64 B blocks of a payload. -/
def blocksOf (b : Bytes) : List Bytes := (List.range ((b.length + 63) / 64)).map (fun i => (b.drop (64 * i)).take 64)

/-- Round up to a power of two from 64. -/
def pow2From64 (c : Nat) : Nat := ((List.range 16).map (fun k => 64 * 2 ^ k)).find? (fun x => c ≤ x) |>.getD c

/-- W_s of Table 14.2. -/
def sparseLen (cls plen c : Nat) : Nat :=
  if cls = 0 then c
  else if cls = 1 then (let q := (plen + 7) / 8; q * max 1 ((c + q - 1) / q))
  else pow2From64 (max c 64)

/-- The form, bitmap and W body bytes of a payload under a class (14 R380, R381). -/
def niForm (cls : Nat) (p : Bytes) : Nat × Nat × Bytes :=
  let bs := blocksOf p
  let nz := bs.filter (fun b => !allZero b)
  let c := (nz.flatten).length
  let w := sparseLen cls p.length c
  if cls = 3 || p.length ≤ w then (0, 0, p)
  else (1, (bs.zip (List.range 142)).foldl (fun a x => if allZero x.1 then a else a + 2 ^ x.2) 0, nz.flatten ++ zeros (w - c))

/-- The inner header of an NI frame (11 R293, 14 Table 14.1, 18 R472). -/
def innerHeader (pasid ctx keyId plen form cls bitmap freed : Nat) (valid : Bool) : Bytes :=
  beBytes 3 pasid ++ [BitVec.ofNat 8 freed] ++ beBytes 3 ctx ++ [BitVec.ofNat 8 (freed / 256 % 128 + 128 * b2n valid)] ++ beBytes 2 keyId ++ beBytes 2 plen
    ++ [BitVec.ofNat 8 form, BitVec.ofNat 8 cls] ++ leBytes 18 bitmap

/-- Body length of a memory frame under a class (14 Table 14.4), from its unpadded length. -/
def padTo (cls len half full : Nat) : Nat := if cls = 0 then len else if cls = 3 then full else half

/-- The body length of an MREQ. -/
def mreqLen (cls : Nat) (q : Req) (part : Bool) : Nat :=
  let g := q.granules.length
  if q.isRead || q.pure then padTo cls 32 32 320
  else padTo cls (32 + 32 * b2n part + (if q.op = 3 && q.aop = 1 then 256 else 128 * g)) (32 + 32 * b2n part + 256) 320

/-- The body length of a response. -/
def mrspLen (cls : Nat) (d : Nat) : Nat := if d = 0 then padTo cls 32 32 336 else padTo cls (32 + d) 288 336

/-! ### Op headers (11 Table 11.4) -/

/-- The op header of an MREQ. -/
def reqHeader (q : Req) (part : Bool) (idx : Nat) (gflow : Option Nat) : Bytes :=
  [BitVec.ofNat 8 (q.op * 16 + q.aop), BitVec.ofNat 8 (q.gmask * 64 + b2n part)] ++ beBytes 2 idx ++ beBytes 5 (q.addr / 128) ++ [0] ++ beBytes 2 q.keyId
    ++ beBytes 3 q.pasid ++ [0] ++ beBytes 3 q.ctx ++ [0] ++ beBytes 2 (gflow.getD 0) ++ zeros 10

/-- The op header of a response. -/
def rspHeader (q : Req) (idx cls st ansN seq : Nat) : Bytes :=
  [BitVec.ofNat 8 (q.op * 16), BitVec.ofNat 8 (q.gmask * 64 + cls)] ++ beBytes 2 idx ++ beBytes 5 (q.addr / 128) ++ [BitVec.ofNat 8 st] ++ beBytes 2 q.keyId
    ++ beBytes 2 ansN ++ zeros 2 ++ beBytes 8 seq ++ zeros 8

/-- A granule descriptor. -/
def descBytes (d : Nat × Nat × Bytes) : Bytes := beBytes 8 d.1 ++ beBytes 2 d.2.1 ++ zeros 6 ++ d.2.2

/-- Byte enables as 32 bytes, bit i mod 8 of byte i div 8. -/
def enableBytes (e : List Bool) : Bytes := leBytes 32 (e.foldr (fun b a => a * 2 + b2n b) 0)

/-- The write data an MREQ carries: the selected granules, or both halves for CAS (12 R327). -/
def mreqData (q : Req) : Bytes :=
  if q.isRead || q.pure then [] else if q.op = 3 && q.aop = 1 then q.wdata else q.granules.flatMap (fun g => q.half g.1)

/-! ### Completions at the requester (11 R315, 18 R477) -/

/-- Complete every outstanding request to a peer with UNIT_GONE (18 R477, R478). -/
def goneAll (s : State) (n id : Nat) : State :=
  let k := ((spanAt s n).outst.filter (fun x => x.2.peer = id)).length
  completeWhere (incSat s (pgVdt n + 0x170) 31 0 k) n Status.unitGone.code (fun o => o.peer = id)

/-- A frame of a peer passed row 10 (18 R477, R478): the entry is UP, and a new incarnation ends what was outstanding and releases its windows. -/
def peerSeen (s : State) (n id inc : Nat) : State :=
  let s := peerState s n id 0
  let x := peerAt s n id
  match x.inc with
  | some i =>
    if i = inc then s
    else
      let s := goneAll s n id
      let s := (spanAt s n).flows.foldl (fun t f => if f.2.peerId = id && f.2.kind = 0 then setFlow t n f.1 { flowAt t n f.1 with freed := (flowAt t n f.1).sent } else t) s
      memberGone (setPeer s n id { peerAt s n id with inc := some inc }) id
  | none => setPeer s n id { x with inc := some inc }

/-! ### Egress (11 R308, Table 11.7) -/

/-- What became of an item judged for egress: it left the queue, or it is held for a reason. -/
abbrev Egress := State × Option Nat

/-- Whether a span can send: enabled, ungated, up, its port up (R-3). -/
def spanServes (s : State) (n : Nat) : Bool := inService s (pgVdt n) && (portAt s (40 + n)).up && !pageAbsent s (pgVdt n)

/-- The flow that the memory-flow map gives for a home, where it is usable (11 R298). -/
def memFlow (s : State) (n home : Nat) : Option Nat :=
  let w := tblGet 0 (spanAt s n).mf home
  let f := getBits w 11 0
  let x := flowAt s n f
  if getBit w 31 && x.valid && x.kind = 0 && x.dest = 2 && x.peerId = home then some f else none

/-- A flow's count is exhausted (11 R299). -/
def exhausted (x : Flow) : Bool := 2 ^ 59 - 1 ≤ x.count

/-- The key of a pair flow for sending, or a request for it. -/
def txKey (s : State) (n f : Nat) : State × Option (Nat × Bytes) :=
  match sendEpoch s n with
  | some k => (match heldKey s n f false k.num with
    | some b => (keepKey s n ⟨f, false, k.num, b⟩, some (k.num, b))
    | none => (askKey s n s.kvt.sendPos f false, none))
  | none => (s, none)

/-- R-3 to R-5 for a remote request on its flow: a status, or the flow. -/
def judgeFlow (s : State) (n home : Nat) : State × (Nat ⊕ Nat) :=
  if !spanServes s n then (s, .inl Status.unitGone.code)
  else match memFlow s n home with
  | none => (s, .inl Status.denied.code)
  | some f =>
    if exhausted (flowAt s n f) || injArmed s (pgVdt n) 7 then (fire s (pgVdt n) 7, .inl Status.denied.code)
    else if (sendEpoch s n).isNone then (s, .inl Status.retry.code)
    else (s, .inr f)

/-- The MREQ of a remote request leaves on a flow, with its outstanding entry (11 R308, R312, R318): a read combines where its KeyID has a group flow. -/
def sendMreq (s : State) (n : Nat) (q : Req) (engine f ep : Nat) (key : Bytes) (clear : State → State) : State :=
  let x := flowAt s n f
  let y := spanAt s n
  let idx := firstGap y.outst 0
  let gflow := if q.op = 2 then (y.flows.find? (fun g => g.2.valid && g.2.kind = 2 && g.2.peerId = q.home && g.2.keyId = q.keyId)).map Prod.fst else none
  let q := if q.op = 2 && gflow.isNone then { q with op := 0 } else q
  let part := !q.isRead && !q.full
  let pt := reqHeader q part idx gflow ++ (if part && !q.pure then enableBytes q.wbe else []) ++ mreqData q
  let len := mreqLen x.ballast q (part && !q.pure)
  let s := pmuItem (instCount (clear s) q.inst 0x500 1) (40 + n)
  let s := refreshSpan (mapSpan s n (fun z => { z with outst := tblPut z.outst idx ⟨q, engine, f, n * 2 ^ 59 + x.count, incarnOf s n, q.home, gflow⟩ })) n
  let s := if q.keyId = 0 then s else touchSlot s q.keyId
  sealSend s n f ep key ⟨2, if gflow.isSome then 0x80 else 0, 0, 0, pt ++ zeros (len - pt.length), [], [], []⟩ true q.inst

/-- A remote request leaves as an MREQ with an outstanding entry, or is refused or held (11 R308, R312, R318). -/
def egressReq (s : State) (n : Nat) (q : Req) (engine : Nat) (clear : State → State) : Egress :=
  match blockStatus s with
  | some st => (respond (clear s) engine q st [], none)
  | none =>
  if s.dom.epoch = 0 then (respond (clear s) engine q Status.denied.code [], none)
  else if spanServes s n && (peerAt s n q.home).st = 2 then
    (respond (clear (incSat s (pgVdt n + 0x170) 31 0 1)) engine q Status.unitGone.code [], none)
  else match judgeFlow s n q.home with
  | (s, .inl st) => (respond (clear s) engine q st [], none)
  | (s, .inr f) =>
    let x := flowAt s n f
    if q.isRead && q.keyId != 0 && (keysOf s q.keyId).isNone then (keyMiss (holdIngress s engine q 6) q.keyId q.inst, some 6)
    else match txKey s n f with
    | (s, none) => (s, some 6)
    | (s, some (ep, key)) =>
      if replaying s (pgVdt n) then (s, some 16)
      else if 1024 ≤ (spanAt s n).outst.length then (s, some 17)
      else if !hasCredit s n x then (s, some 18)
      else (sendMreq s n q engine f ep key clear, none)

/-- A response's reservation is released (18 R470). -/
def freeRsv (s : State) (n r : Nat) : State := refreshSpan (mapSpan s n (fun x => { x with rsv := x.rsv - r })) n

/-- A response leaves on the flow of its request (11 R298, R313); one that no epoch or flow can carry is dropped. -/
def egressRsp (s : State) (n : Nat) (q : Req) (st cls bal rsv : Nat) (desc : List (Nat × Nat × Bytes)) (data : Bytes) : Egress :=
  match q.src with
  | .remote _ _ f idx seq inc _ =>
    let x := flowAt s n f
    if !x.valid || exhausted x || (sendEpoch s n).isNone || !spanServes s n then (freeRsv s n rsv, none)
    else match txKey s n f with
    | (s, none) => (s, some 6)
    | (s, some (ep, key)) =>
      let c := max x.ballast bal
      let h := rspHeader q idx cls st 0 seq
      let fwd := st = 0 && q.isRead && cls != 3
      let s := freeRsv s n rsv
      if fwd then
        (let cl := h ++ desc.flatMap descBytes
         let len := padTo c (cl.length + data.length) 336 336
         (sealSend s n f ep key ⟨3, 0, 0, inc, [], cl, data, zeros (len - cl.length - data.length)⟩ false q.inst, none))
      else
        let d := if q.isRead then q.granules.flatMap (fun g => (data.drop (128 * g.1)).take 128)
          else if q.op = 3 then q.granules.flatMap (fun g => (data.drop (128 * g.1)).take 128) else []
        let d := if st = 0 then d else []
        (sealSend s n f ep key ⟨4, 0, 0, inc, h ++ d ++ zeros (mrspLen c d.length - 32 - d.length), [], [], []⟩ false q.inst, none)
  | _ => (s, none)

/-- An answer entry of an MRSP_GRP (11 R318). -/
def answerEntry (q : Req) : Bytes :=
  match q.src with
  | .remote _ sender _ idx seq inc _ => beBytes 8 (sender % 2 ^ 14 + seq / 2 ^ 59 % 32 * 2 ^ 14 + idx % 1024 * 2 ^ 19 + inc % 8 * 2 ^ 29 + seq % 2 ^ 32 * 2 ^ 32)
  | _ => zeros 8

/-- A combine set's one response under the tenant's group key (11 R318). -/
def egressGrp (s : State) (n : Nat) (reqs : List Req) (cls bal rsv gf : Nat) (desc : List (Nat × Nat × Bytes)) (data : Bytes) : Egress :=
  let x := flowAt s n gf
  match reqs with
  | [] => (s, none)
  | q :: _ =>
    match sendEpoch s n, busRead s q.keyId with
    | some ek, .keys ks =>
      if !x.valid || exhausted x || !spanServes s n then (freeRsv s n rsv, none)
      else
        let c := max x.ballast bal
        let cl := rspHeader q 0 cls 0 reqs.length 0 ++ reqs.flatMap answerEntry ++ desc.flatMap descBytes
        let len := padTo c (cl.length + data.length) (32 + 8 * reqs.length + 304) 464
        (sealSend (freeRsv s n rsv) n gf ek.num ks.gk ⟨5, 0, q.keyId, 0, [], cl, data, zeros (len - cl.length - data.length)⟩ false q.inst, none)
    | some _, .absent => (keyMiss s q.keyId q.inst, some 6)
    | some _, .parity => (keyMiss (keyParity s q.keyId) q.keyId q.inst, some 6)
    | none, _ => (freeRsv s n rsv, none)

/-- Kind code and fields of a coherence message for its opaque layout. -/
def CohMsg.parts : CohMsg → Nat × Nat × Nat × Bytes
  | .gets => (0, 0, 0, [])
  | .geto => (1, 0, 0, [])
  | .data o v l => (2, v, b2n o, l)
  | .inv v => (3, v, 0, [])
  | .invAck v => (4, v, 0, [])
  | .recall v => (5, v, 0, [])
  | .wb v c l => (6, v, c, l)
  | .wbAck v => (7, v, 0, [])
  | .nack r => (8, 0, r, [])

/-- The traffic class of a coherence message (10 Table 10.10): 1 response, 2 metadata, 3 request. -/
def CohMsg.cls : CohMsg → Nat
  | .gets | .geto => 3
  | .inv _ | .recall _ => 2
  | _ => 1

/-- A coherence message or a WRITE_CT leaves on the memory flow of its peer; one that cannot be carried is dropped (10 R285 repeats it). -/
def egressCoh (s : State) (n peer : Nat) (isReq : Bool) (d : Draft) : Egress :=
  match judgeFlow s n peer with
  | (s, .inl _) => (s, none)
  | (s, .inr f) =>
    match txKey s n f with
    | (s, none) => (s, some 6)
    | (s, some (ep, key)) =>
      if isReq && !hasCredit s n (flowAt s n f) then (s, some 18) else (sealSend s n f ep key d isReq none, none)

/-- The draft of an NI frame; the freed-through count rides in its inner header. -/
def niDraft (s : State) (n f : Nat) (pasid ctx keyId plen form cls bitmap : Nat) (body : Bytes) : Draft :=
  ⟨1, 0, 0, 0, innerHeader pasid ctx keyId plen form cls bitmap (freedThrough s n f) (flowAt s n f).high.isSome ++ body, [], [], []⟩

/-- The count that an NI frame carried is told. -/
def markTold (s : State) (n f : Nat) : State := setFlow s n f { flowAt s n f with told := freedThrough s n f }

/-- R-1 to R-5 for a payload on its flow. -/
def niRefusal (s : State) (n : Nat) (x : NiItem) : Option Nat :=
  let f := flowAt s n x.flow
  match blockStatus s with
  | some st => some st
  | none =>
    if s.dom.epoch = 0 || pageAbsent s (pgVdt n) then some Status.denied.code
    else if !spanServes s n then some Status.unitGone.code
    else if !f.valid || f.kind != 0 || exhausted f then some Status.denied.code
    else if x.keyId != 0 && !(x.inst.any (fun i => boundTo s x.keyId i)) then some Status.denied.code
    else if (sendEpoch s n).isNone then some Status.retry.code
    else none

/-- A payload whose send count `c` was assigned is sealed and sent in its Ballast form (14 R378, R381); SPARSE_TX and PAD_BYTES_TX count. -/
def sendNiAt (s : State) (n c : Nat) (x : NiItem) (ep : Nat) (key : Bytes) : State :=
  let cls := max (flowAt s n x.flow).ballast x.cls
  let (form, bm, body) := niForm cls x.data
  let used := if form = 1 then ((blocksOf x.data).filter (fun b => !allZero b)).flatten.length else x.data.length
  let s := if form = 1 then incSat s (pgVdt n + 0x118) 31 0 1 else s
  let s := incSat s (pgVdt n + 0x11C) 31 0 (body.length - used)
  let d := niDraft s n x.flow x.pasid x.ctx x.keyId x.data.length form cls bm body
  let s := pmuItem (instCount s x.inst 0x500 1) (40 + n)
  let s := sealAt (markTold s n x.flow) n x.flow c ep key d x.inst
  match x.trs with
  | some h => { s with ttb := { s.ttb with replies := s.ttb.replies ++ [⟨.trs h 0xFFFF, 0, 0, []⟩] } }
  | none => s

/-- A payload takes the flow's next send count and is sent. -/
def sendNi (s : State) (n : Nat) (x : NiItem) (ep : Nat) (key : Bytes) : State :=
  sendNiAt (takeSeq s n x.flow true) n (flowAt s n x.flow).count x ep key

/-- A queued payload is refused, held or sent. -/
def egressNi (s : State) (n : Nat) (x : NiItem) : Egress :=
  if !genFresh s x.inst x.gen then (genDiscard s x.inst, none)
  else match niRefusal s n x with
  | some st => (niReturn s n x st, none)
  | none =>
    match txKey s n x.flow with
    | (s, none) => (s, some 6)
    | (s, some (ep, key)) =>
      if replaying s (pgVdt n) then (s, some 16) else if !hasCredit s n (flowAt s n x.flow) then (s, some 18) else (sendNi s n x ep key, none)

/-- A credit-return dummy (18 R472). -/
def egressCredit (s : State) (n f : Nat) : Egress :=
  let x := flowAt s n f
  if !x.valid || exhausted x || (sendEpoch s n).isNone || !spanServes s n then (s, none)
  else match txKey s n f with
  | (s, none) => (s, some 6)
  | (s, some (ep, key)) =>
    let d := niDraft s n f 0 0 0 0 2 0 0 []
    (incSat (sealSend (markTold s n f) n f ep key d false none) (pgVdt n + 0x160) 31 0 1, none)

/-- What the span sends for the engines and for CTC while the block is HELD or WITHDRAWN: LT sends nothing (03 R68), and the item waits. -/
def ltOpen (s : State) (k : Unit → Egress) : Egress := if (blockStatus s).isSome then (s, some 0) else k ()

/-- The remote request in an engine's ingress register is judged again, then for egress; a held request keeps no snapshot (10 R257, 01 R26). -/
def egressFm (s : State) (n e : Nat) : Egress :=
  match (engAt s e).ingress with
  | none => (s, none)
  | some q0 =>
    let q := renew s q0
    if (blockStatus s).isSome then egressReq s n q e (fun t => clearIngress t e)
    else match remoteRefusal s e q with
    | (s, some st) => (respond (clearIngress s e) e q st [], none)
    | (s, none) => egressReq s n q e (fun t => clearIngress t e)

/-- A flag's store, judged as a remote request; one of an instance that was reset since is discarded (01 R28, 12 R331, R335). -/
def egressFlag (s : State) (n : Nat) (q : Req) (e : Nat) : Egress :=
  if !genFresh s q.inst q.gen then (storeDone (genDiscard s q.inst) e q.tag Status.aborted.code, none)
  else if (blockStatus s).isSome then egressReq s n q e id
  else match remoteRefusal s e q with
  | (s, some st) => (respond s e q st [], none)
  | (s, none) => egressReq s n q e id

/-- The responses of a combine set that may be delivered: those whose instance was not reset since their admission (01 R28). -/
def freshGroup (s : State) (reqs : List Req) : State × List Req :=
  ((reqs.filter (fun q => !genFresh s q.inst q.gen)).foldl (fun t q => genDiscard t q.inst) s, reqs.filter (fun q => genFresh s q.inst q.gen))

/-- TTB admits nothing to a span whose clock is to stop, and the item waits (04 R119). -/
def admitOpen (s : State) (n : Nat) (k : Unit → Egress) : Egress := if admissionStopped s (pgVdt n) then (s, some 0) else k ()

/-- Judge one item; the state given no longer holds it in the queue. -/
def egressItem (s : State) (n : Nat) : TxItem → Egress
  | .fm e => admitOpen s n fun _ => egressFm s n e
  | .flag q e => admitOpen s n fun _ => egressFlag s n q e
  | .rsp q st cls bal rsv desc data => ltOpen s fun _ =>
    if genFresh s q.inst q.gen then egressRsp s n q st cls bal rsv desc data else (genDiscard (freeRsv s n rsv) q.inst, none)
  | .grp reqs cls bal rsv gf desc data => ltOpen s fun _ =>
    let (t, fresh) := freshGroup s reqs
    if fresh = [] then (freeRsv t n rsv, none) else match egressGrp t n fresh cls bal rsv gf desc data with
    | (_, some k) => (s, some k)
    | r => r
  | .coh peer tree idx m => ltOpen s fun _ =>
    let (k, v, x, l) := m.parts
    egressCoh s n peer (m.cls = 3) ⟨6, 0, 0, 0, Config.cohMessage k tree idx v x l, [], [], []⟩
  | .writeCt peer keyId addr v desc data => ltOpen s fun _ =>
    egressCoh s n peer true ⟨7, 0, 0, 0, [], Config.writeCtHeader keyId addr v ++ descBytes desc, data, []⟩
  | .ni x => admitOpen s n fun _ => egressNi s n x
  | .credit f => ltOpen s fun _ => egressCredit s n f

/-- The traffic class of an item: 1 response, 2 metadata, 3 request (18 Table 18.1). -/
def TxItem.tc : TxItem → Nat
  | .rsp .. | .grp .. | .credit _ => 1
  | .coh _ _ _ m => m.cls
  | _ => 3

/-- The items in the order of R466: the lowest class first, in order of arrival; a request that has waited 7 grants comes first. -/
def egressOrder (x : Span) : List TxItem :=
  let c (k : Nat) := x.outQ.filter (fun i => i.tc = k)
  if 7 ≤ x.grants then c 3 ++ c 1 ++ c 2 else c 1 ++ c 2 ++ c 3

/-- Judge the queue until an item leaves; the first hold is the reason reported. -/
def egressScan (s : State) (n : Nat) : List TxItem → Option Nat → State
  | [], r => setFld s (pgVdt n + 0x040) 12 8 (r.getD 0)
  | i :: t, r =>
    let cut := mapSpan s n (fun x => { x with outQ := x.outQ.erase i })
    match egressItem cut n i with
    | (u, none) =>
      let waiting := (spanAt u n).outQ.any (fun j => j.tc = 3)
      setFld (mapSpan u n (fun x => { x with grants := if i.tc = 3 || !waiting then 0 else x.grants + 1 })) (pgVdt n + 0x040) 12 8 0
    | (u, some k) =>
      let u := mapSpan u n (fun x => { x with outQ := (spanAt s n).outQ })
      egressScan u n t (some (r.getD k))

end Sys2Proof.Machine
end

