-- ==== Sys2Proof/Machine/HgtOps.lean ====
section
/-!
DEFINITION. HGT as shared operations (15 R401 to R407, R414, R415): bounce records, the accesses they make, the host event queue and its MSI.
-/
namespace Sys2Proof.Machine

/-! ### Bounce pairs -/

/-- An open pair. -/
def pairAt (s : State) (p : Nat) : Option Pair := tblFind s.hgt.pairs p

/-- Set an open pair. -/
def setPair (s : State) (p : Nat) (x : Pair) : State := setHgt s { s.hgt with pairs := tblPut s.hgt.pairs p x }

/-- Set the record in flight of a pair. -/
def putRec (s : State) (r : HgtRec) : State :=
  setHgt s { s.hgt with recs := s.hgt.recs.map (fun x => if x.pair = r.pair then r else x) }

/-- Whether the D2H ring of a pair is full (15 R406). -/
def d2hFull (x : Pair) : Bool := 2 ^ x.d2h.count ≤ (x.prodD + 2 ^ 32 - x.consD % 2 ^ 32) % 2 ^ 32

/-- The host address of a record of a ring (15 R401). -/
def ringAddr (r : Ring) (n : Nat) : Nat := r.base + 4096 + n % 2 ^ r.count * 2 ^ r.slot

/-- The IV of a record (15 R402). -/
def recIv (p sq : Nat) : Bytes := leBytes 2 p ++ [0, 0] ++ leBytes 8 sq

/-- A record header (15 Table 15.6). -/
def recHeader (type p len sq dev boff st aux : Nat) : Bytes :=
  [1, BitVec.ofNat 8 type] ++ leBytes 2 p ++ leBytes 4 len ++ leBytes 8 sq ++ leBytes 5 dev ++ [BitVec.ofNat 8 boff, BitVec.ofNat 8 st, 0] ++ leBytes 8 aux

/-- HM_ID of an access (03 Table 03.5 gives 8 bits and no assignment): a pair's own accesses take its number (log entry 112). -/
def hmMsi : Nat := 0x80
/-- HM_ID of an event-record write. -/
def hmEvent : Nat := 0x81

/-- HM_ID of an MSI write for a virtual function. -/
def hmVector : Nat := 0x82

/-- HGT writes the D2H record that answers a record in flight: DATA for a read that succeeded, otherwise ACK (15 R405). -/
def writeD2h (s : State) (r : HgtRec) : State :=
  match pairAt s r.pair with
  | none => s
  | some x =>
    let ok := r.rd && (r.st = 0 || r.st = 1)
    let body := if ok then gather r.got (r.dev * 128 + r.boff) r.len else []
    let h := recHeader (if ok then 0x81 else 0x82) r.pair body.length x.prodD r.dev r.boff r.st r.seq
    let iv := recIv r.pair x.prodD
    let ct := Config.gcmCrypt x.keyD iv body
    hmWrite (putRec s { r with acking := true }) r.pair (ringAddr x.d2h x.prodD) (h ++ ct ++ Config.gcmTag x.keyD iv h ct)

/-- A record has failed (15 R403): its record in EVR, then its ACK. -/
def failRec (s : State) (r : HgtRec) (st : Nat) (inj : Bool) : State :=
  let s := record s pgHgt (rcHgtRecord (st = Status.authFail.code)) r.pair st (injP3 inj r.seq)
  writeD2h s { r with st := st, todo := [], waits := [] }

/-- The verdict of R403 on a fetched record, steps 1 to 4: a status, or the plaintext. -/
def judgeRec (s : State) (p : Nat) (x : Pair) (b : Bytes) : Nat ⊕ Bytes :=
  let h := b.take 32
  let type := bfld h 1 1
  let len := leNat ((h.drop 4).take 4)
  let sq := leNat ((h.drop 8).take 8)
  let dev := leNat ((h.drop 16).take 5)
  let boff := bfld h 21 1
  let aux := leNat ((h.drop 24).take 8)
  let n := if type = 2 then aux else len
  let form := h.length = 32 && bfld h 0 1 = 1 && (type = 1 || type = 2) && leNat ((h.drop 2).take 2) = p && dev < 2 ^ 35 && boff < 128 && bfld h 22 1 = 0
    && bfld h 23 1 = 0 && 1 ≤ n && n ≤ 65536 && (if type = 1 then aux = 0 && len + 48 ≤ 2 ^ x.h2d.slot else len = 0 && n + 48 ≤ 2 ^ x.d2h.slot)
  let ct := (b.drop 32).take len
  let a := dev * 128 + boff
  if !form then .inl Status.denied.code
  else if sq != x.expH then .inl Status.replay.code
  else if injArmed s pgHgt 0 || Config.gcmTag x.keyH (recIv p sq) h ct != (b.drop (32 + len)).take 16 then .inl Status.authFail.code
  else if a / 4096 < x.lo || x.hi < (a + n - 1) / 4096 then .inl Status.denied.code
  else .inr (Config.gcmCrypt x.keyH (recIv p sq) ct)

/-- Present what records in flight wait to present; the first failing answer ends a record (15 R404). -/
def hgtIssue (s : State) (p : Nat) : State :=
  match s.hgt.recs.find? (fun r => r.pair = p) with
  | none => s
  | some r0 => r0.todo.foldl (fun t q =>
      match t.hgt.recs.find? (fun r => r.pair = p) with
      | some r => if !r.acking && !replaying t pgHgt && canOffer t q then offer (putRec t { r with todo := r.todo.erase q, waits := r.waits ++ [q.addr] }) q else t
      | none => t) s

/-- Present what a host-initiated access waits to present. -/
def hostIssue (s : State) (id : Nat) : State :=
  match s.hgt.hosts.find? (fun h => h.id = id) with
  | none => s
  | some h0 => h0.todo.foldl (fun t q =>
      match t.hgt.hosts.find? (fun h => h.id = id) with
      | some h =>
        if canOffer t q then
          offer (setHgt t { t.hgt with hosts := t.hgt.hosts.map (fun x => if x.id = id then { h with todo := h.todo.erase q, waits := h.waits ++ [q.addr / 256] } else x) }) q
        else t
      | none => t) s

/-- An answer to an access of a record (15 R404): the first failure ends the record. -/
def hgtReply (s : State) (r : Reply) : State :=
  match r.src with
  | .hgt p =>
    (match s.hgt.recs.find? (fun x => x.pair = p && !x.acking) with
     | none => staleRsp s
     | some x =>
       let x := { x with waits := x.waits.erase r.addr }
       if r.st = 0 then putRec s { x with met := true, got := if x.rd then tblPut x.got (r.addr / 256) r.data else x.got }
       else if r.st = 1 && x.rd then putRec s x
       else putRec s { x with st := if x.st = 0 then r.st else x.st, todo := [] })
  | _ => s

/-- Whether a reply is for HGT. -/
def Reply.isHgt (r : Reply) : Bool :=
  match r.src with
  | .hgt _ => true
  | _ => false

/-- HGT takes what has come back for it and presents what waits. -/
def hgtSettle (s : State) : State :=
  let mine := s.ttb.replies.filter Reply.isHgt
  let s := { s with ttb := { s.ttb with replies := s.ttb.replies.filter (fun r => !r.isHgt) } }
  let s := mine.foldl hgtReply s
  let s := s.hgt.recs.foldl (fun t r => hgtIssue t r.pair) s
  s.hgt.hosts.foldl (fun t h => hostIssue t h.id) s

/-! ### Host event queue and MSI (15 R414, R415) -/

/-- The 64-bit word of a register pair. -/
def pairWord (s : State) (a : Nat) : Nat := (rawReg s a).toNat + (rawReg s (a + 4)).toNat * 0x100000000

/-- HGT writes an MSI (15 R415). -/
def writeMsi (s : State) : State :=
  let s := hmWrite s hmMsi (pairWord s (pgHgt + 0x0B4)) (leBytes 4 (rawReg s (pgHgt + 0x0BC)).toNat)
  setHgt s { s.hgt with gap := getFld s (pgHgt + 0x0C0) 15 0 != 0, gapMore := false }

/-- A record was added: an MSI at once, or one at the end of the gap (15 R415). -/
def msiDue (s : State) : State :=
  if pairWord s (pgHgt + 0x0B4) = 0 then s
  else if s.hgt.gap then setHgt s { s.hgt with gapMore := true }
  else writeMsi s

/-- An event record of Table 15.10. -/
def eventBytes (a : Act) (phase sq : Nat) : Bytes :=
  leBytes 2 a.src ++ [BitVec.ofNat 8 a.status, BitVec.ofNat 8 phase] ++ leBytes 4 sq ++ leBytes 8 a.time ++ leBytes 4 a.p1.toNat ++ leBytes 4 a.p2.toNat
    ++ leBytes 4 a.p3.toNat ++ [BitVec.ofNat 8 (a.inst.getD 0), BitVec.ofNat 8 (b2n a.inst.isSome), 0, 0]

/-- Entries written and not yet consumed, with those in flight. -/
def eqUsed (s : State) : Nat :=
  ((rawReg s (pgHgt + 0x0B0)).toNat + s.hgt.eq.length + 2 ^ 32 - (rawReg s (pgHgt + 0x0AC)).toNat) % 2 ^ 32

/-- Whether the event queue can take a record: EQ_EN set, HGT up, not full (20 Table 20.2). -/
def eqTakes (s : State) : Bool :=
  pageUp s pgHgt && regBit s (pgHgt + 0x0A8) 8 && eqUsed s < 2 ^ getFld s (pgHgt + 0x0A8) 4 0

/-- Write an event record that stands `k` records behind EQ_PROD. -/
def eqPut (s : State) (r : MbRec) (k : Nat) : State :=
  let n := (rawReg s (pgHgt + 0x0B0)).toNat + k
  let lg := getFld s (pgHgt + 0x0A8) 4 0
  let base := getFld s (pgHgt + 0x0A0) 31 12 * 4096 + (rawReg s (pgHgt + 0x0A4)).toNat * 0x100000000
  hmWrite s hmEvent (base + n % 2 ^ lg * 32) (eventBytes r.act (if n / 2 ^ lg % 2 = 0 then 1 else 0) r.seq)

/-- EQ_RECORD_WRITE (15 R414): HGT writes a record for a delivery to target 1. -/
def eqWrite (s : State) (a : Act) : State :=
  let r : MbRec := ⟨a, s.hgt.eqSeq⟩
  let k := s.hgt.eq.length
  eqPut (setHgt s { s.hgt with eq := s.hgt.eq ++ [r], eqSeq := s.hgt.eqSeq + 1 }) r k

/-- The manager sets EQ_EN: SEQ counts from 0, and what a write error left is written again (15 R415). -/
def eqEnable (s : State) : State :=
  let rs := (s.hgt.eq.zip (List.range s.hgt.eq.length)).map (fun x => (⟨x.1.act, x.2⟩ : MbRec))
  let s := setHgt s { s.hgt with eq := rs, eqSeq := rs.length }
  (rs.zip (List.range rs.length)).foldl (fun t x => eqPut t x.1 x.2) s

end Sys2Proof.Machine
end

