-- ==== Sys2Proof/Machine/HostGate.lean ====
section
/-!
DEFINITION. The commands of HGT (15, 01 R35): host-initiated accesses, doorbells, bounce records, channels, the event queue.
-/
namespace Sys2Proof.Machine

/-- HOST_MEM_ACCESS (01 R35, 03 R64, R65, R68, R86): a target access with HT_SPACE 1; one of a function that has no role is denied and recorded. `breach`: the
handshake is breached; `perr`: HT_WPAR fails. -/
def execHostMemAccess (func : BitVec 9) (wr : Bool) (addr : BitVec 42) (len : BitVec 8) (data : Bytes) (breach perr : Bool) (s : State) :
    Host.Outcome State Fault Refusal :=
  let n := if len = 0 then 1024 else len.toNat * 4
  let id := s.hgt.nextId
  let refuse (t : State) (st : Status) : State := emit t ⟨.ht, 0, id, st.code, addr.toNat, if wr then [] else zeros n⟩
  .next (onlyIf (windowOpen s) s (
    let t := if breach then detect s pgHgt 2 else s
    let t := setHgt t { t.hgt with nextId := id + 1 }
    if s.withdrawn then refuse t .unitGone
    else if s.held then refuse t .notReady
    else
      let t := wake t 4
      if 0x100 < func.toNat then refuse (recordInst t pgHgt rcAccessDenied none 0 0 0) .denied
      else if !inService t pgHgt then refuse t .unitGone
      else if perr || injArmed t pgHgt 3 then refuse (detect t pgHgt 3) .poison
      else
        let inst := if func = 0 then none else some (func.toNat - 1)
        let reqs := (rangePairs addr.toNat n data).map (fun p =>
          (⟨.host id, b2n wr, 0, p.1, t.dom.ownId, 0, p.2.1, 0, 0, 0, 0, p.2.2.1, if wr then p.2.2.2 else List.replicate 256 false, inst,
            inst.elim 0 (instGen t)⟩ : Req))
        hostIssue (setHgt t { t.hgt with hosts := t.hgt.hosts ++ [⟨id, wr, addr.toNat, n, inst, reqs, [], [], 0⟩] }) id))

/-! ### Doorbells (15 R401) -/

/-- What a write of a doorbell does once it is judged: a count that moves backwards or more than 2^COUNT ahead of the other, or a closed channel, is ignored and counted. -/
def doDoorbell (r : Role) (p d : Nat) (v : Word) (s : State) : State :=
  let off := pgHgt + 0x200 + 8 * p + 4 * d
  let bad := incSat s (pgHgt + 0x024) 15 0 1
  let s := match pairAt s p with
    | none => bad
    | some x =>
      let (own, other, lg) := if d = 0 then (x.prodH, x.takenH, x.h2d.count) else (x.consD, x.prodD, x.d2h.count)
      let fwd := (v - BitVec.ofNat 32 own).toInt
      let ahead := (v - BitVec.ofNat 32 other).toInt
      if fwd < 0 || (2 ^ lg : Int) < ahead then bad
      else if d = 0 then setPair s p { x with prodH := v.toNat }
      else setPair s p { x with consD := v.toNat }
  regDone s r off .ok 0

/-- H2D_DOORBELL (15 R401). -/
def execH2dDoorbell (role : Role) (pair : Fin 64) (v : Word) (s : State) : Host.Outcome State Fault Refusal :=
  .next (judgeWrite s role (pgHgt + 0x200 + 8 * pair.val) (doDoorbell role pair.val 0 v))

/-- D2H_DOORBELL (15 R401, R406). -/
def execD2hDoorbell (role : Role) (pair : Fin 64) (v : Word) (s : State) : Host.Outcome State Fault Refusal :=
  .next (judgeWrite s role (pgHgt + 0x200 + 8 * pair.val + 4) (doDoorbell role pair.val 1 v))

/-! ### Bounce records (15 R402 to R406) -/

/-- The bytes that HGT fetches of a slot (15 R402): header, LEN and tag; 48 where LEN is longer than any record's (log entry 112). -/
def fetchLen (data : Bytes) : Nat :=
  let n := leNat ((data.drop 4).take 4)
  48 + (if n ≤ 65536 then n else 0)

/-- H2D_RECORD (15 R403): HGT fetches the next record of a pair and judges it; in SLEEP the DMA is gated (04 R124). `data` is the slot's content as HM returns it, `rerr` HM_RERR, `perr` failing parity. -/
def execH2dRecord (pair : Fin 64) (data : Bytes) (rerr perr : Bool) (s : State) : Host.Outcome State Fault Refusal :=
  let p := pair.val
  .next (match pairAt s p with
    | none => s
    | some x =>
      onlyIf (inService s pgHgt && (blockStatus s).isNone && s.cru.st != .sleep && x.prodH % 2 ^ 32 != x.takenH % 2 ^ 32 && !d2hFull x && s.hgt.recs.length < 4
          && !s.hgt.recs.any (fun r => r.pair = p)) s (
        let s := hmRead s p (ringAddr x.h2d x.takenH) (fetchLen data)
        let h := data.take 32
        let rd := bfld h 1 1 = 2
        let n := leNat (((if rd then h.drop 24 else h.drop 4)).take (if rd then 8 else 4))
        let r : HgtRec := ⟨p, rd, n, leNat ((h.drop 16).take 5), bfld h 21 1, leNat ((h.drop 8).take 8), 0, false, [], [], [], false⟩
        let par := perr || injArmed s pgHgt 3
        let s := setPair s p { x with takenH := x.takenH + 1 }
        let s := pmuItem (setHgt s { s.hgt with recs := s.hgt.recs ++ [r] }) 66
        if rerr || par then failRec (if par then detect s pgHgt 3 else s) r Status.poison.code (par && !perr)
        else match judgeRec s p x data with
        | .inl st => failRec (if st = Status.authFail.code then contain (fireBit s pgHgt 0) pgHgt 0 else s) r st (st = Status.authFail.code && injArmed s pgHgt 0)
        | .inr pt =>
          let s := setPair s p { x with takenH := x.takenH + 1, expH := x.expH + 1 }
          let reqs := (rangePairs (r.dev * 128 + r.boff) n pt).map (fun q =>
            (⟨.hgt p, b2n (!rd), 0, q.1, s.dom.ownId, 0, q.2.1, x.keyId, 0, 0, 0, q.2.2.1, if rd then List.replicate 256 false else q.2.2.2, some x.inst,
              instGen s x.inst⟩ : Req))
          hgtIssue (putRec s { r with todo := reqs }) p))

/-- H2D_RECORD_ACCESSES_DONE (15 R404, R405): every access of the pair's record is answered, so its D2H record is written. -/
def execH2dRecordAccessesDone (pair : Fin 64) (s : State) : Host.Outcome State Fault Refusal :=
  .next (
    let s := hgtSettle s
    match s.hgt.recs.find? (fun r => r.pair = pair.val && !r.acking && r.todo = [] && r.waits = []) with
    | some r =>
      if r.st != 0 then failRec s r r.st false
      else writeD2h s { r with st := if r.rd && !r.met then Status.unwritten.code else 0 }
    | none => s)

/-- D2H_RECORD_ACKED (15 R405, R406): HM_BVALID of the D2H record; `err` is HM_BERR of it or of the index blocks that follow. -/
def execD2hRecordAcked (pair : Fin 64) (err : Bool) (s : State) : Host.Outcome State Fault Refusal :=
  let p := pair.val
  .next (match pairAt s p, s.hgt.recs.find? (fun r => r.pair = p && r.acking) with
    | some x, some r =>
      let dat := r.rd && (r.st = 0 || r.st = 1)
      if err && dat then failRec s r Status.poison.code false
      else if err || injArmed s pgHgt 4 then pairClose (detect s pgHgt 4) p
      else
        let s := setHgt s { s.hgt with recs := s.hgt.recs.filter (fun y => y.pair != p) }
        let s := setPair s p { x with prodD := x.prodD + 1 }
        let s := hmWrite s p x.h2d.base (leBytes 8 (x.takenH % 2 ^ 32))
        let s := hmWrite s p x.d2h.base (leBytes 8 ((x.prodD + 1) % 2 ^ 32))
        let ok := r.st = 0 || (r.st = 1 && r.rd)
        let s := incSat s (pgHgt + (if ok then 0x0D0 else 0x0D4)) 31 0 1
        let s := if ok then instCount s (some x.inst) 0x540 r.len else s
        irqEvent s 0x81 none r.st (p + (if dat then 0x81 else 0x82) * 0x100) (x.prodD % 2 ^ 32) (x.prodD / 2 ^ 32)
    | _, _ => s)

/-! ### Channels (15 R400, R407, R416) -/

/-- The pair that CH_SEL selects. -/
def chPair (s : State) : Nat := getFld s (pgHgt + 0x040) 5 0

/-- A channel register: BASE, SLOT and COUNT, and the key of a channel; the rest of the pair (its channel 0). -/
def chReg (s : State) (ch o : Nat) : Word := tblGet 0 s.hgt.cfg (ch * 256 + o)

/-- The ring that a channel's registers describe. -/
def chRing (s : State) (ch : Nat) : Ring :=
  ⟨getBits (chReg s ch 0x044) 31 12 * 4096 + (chReg s ch 0x048).toNat * 0x100000000, getBits (chReg s ch 0x04C) 4 0, getBits (chReg s ch 0x04C) 8 5⟩

/-- The key in a channel's CH_KEY words. -/
def chKey (s : State) (ch : Nat) : Bytes := (List.range 8).flatMap (fun k => leBytes 4 (chReg s ch (0x080 + 4 * k)).toNat)

/-- A ring within its ranges (15 Table 15.5). -/
def ringOk (r : Ring) : Bool := 12 ≤ r.slot && r.slot ≤ 17 && 1 ≤ r.count && r.count ≤ 12

/-- The key words of a pair's two channels are cleared (15 R416). -/
def chKeyClear (s : State) (p : Nat) : State :=
  let cut (t : Tbl Word) (ch : Nat) : Tbl Word := tblClear t (ch * 256 + 0x080) (ch * 256 + 0x0A0)
  setHgt s { s.hgt with cfg := cut (cut s.hgt.cfg (2 * p)) (2 * p + 1) }

/-- A channel command ends with its status. -/
def chDone (s : State) (r : Role) (st : Status) : State := commitDone (setFld s (pgHgt + 0x060) 7 0 st.code) r (pgHgt + 0x05C)

/-- Both channels of a pair open with what their registers hold, for a session and with ss_KEM mixed in or not. A pair that is open, or a ring outside its
ranges, is refused. -/
def chOpen (s : State) (p : Nat) (sid : Option Nat) (kem : Bool) : State × Status :=
  let a := chRing s (2 * p)
  let b := chRing s (2 * p + 1)
  let i := getBits (chReg s (2 * p) 0x04C) 23 16
  if (pairAt s p).isSome || !ringOk a || !ringOk b then (s, .denied)
  else
    let x : Pair := ⟨i, instGen s i, getBits (chReg s (2 * p) 0x050) 15 0, getBits (chReg s (2 * p) 0x054) 29 0, getBits (chReg s (2 * p) 0x058) 29 0,
      a, b, chKey s (2 * p), chKey s (2 * p + 1), kem, sid, 0, 0, 0, 0, 0⟩
    (chKeyClear (setPair s p x) p, .ok)

/-- OPEN of the selected pair. -/
def doChOpen (r : Role) (s : State) : State :=
  let (s, st) := chOpen s (chPair s) none false
  chDone s r st

/-- CLOSE (15 R407). -/
def doChClose (r : Role) (s : State) : State := chDone (pairClose s (chPair s)) r .ok

/-- HGT_CH_OPEN (15 R400, R416). -/
def execHgtChOpen (role : Role) (s : State) : Host.Outcome State Fault Refusal := .next (judgeGuarded s role (pgHgt + 0x05C) (doChOpen role))

/-- HGT_CH_CLOSE (15 R407). -/
def execHgtChClose (role : Role) (s : State) : Host.Outcome State Fault Refusal := .next (judgeGuarded s role (pgHgt + 0x05C) (doChClose role))

/-! ### Event queue (15 R414, R415) -/

/-- EQ_RECORD_ACKED (15 R415): HM_BVALID of the oldest event record in flight; `err` is HM_BERR. -/
def execEqRecordAcked (err : Bool) (s : State) : Host.Outcome State Fault Refusal :=
  .next (match s.hgt.eq with
    | [] => s
    | _ :: rest =>
      if !regBit s (pgHgt + 0x0A8) 8 then s
      else if err || injArmed s pgHgt 6 then detect (setRegBit s (pgHgt + 0x0A8) 8 false) pgHgt 6
      else msiDue (incWrap (setHgt s { s.hgt with eq := rest }) (pgHgt + 0x0B0) 31 0 1))

/-- What a write of EQ_CONS does once it is judged (15 R415). -/
def doEqCons (r : Role) (v : Word) (s : State) : State :=
  let cons := rawReg s (pgHgt + 0x0AC)
  let prod := rawReg s (pgHgt + 0x0B0)
  if (v - cons).toInt < 0 || (prod - v).toInt < 0 then regDone s r (pgHgt + 0x0AC) .denied 0
  else regDone (setReg s (pgHgt + 0x0AC) v) r (pgHgt + 0x0AC) .ok 0

/-- EQ_CONS_WRITE (15 R415). -/
def execEqConsWrite (role : Role) (v : Word) (s : State) : Host.Outcome State Fault Refusal :=
  .next (judgeWrite s role (pgHgt + 0x0AC) (doEqCons role v))

/-- MSI_GAP_END (15 R415): one MSI where records were added during the gap. -/
def execMsiGapEnd (s : State) : Host.Outcome State Fault Refusal :=
  .next (onlyIf s.hgt.gap s (
    let more := s.hgt.gapMore
    let s := setHgt s { s.hgt with gap := false, gapMore := false }
    if more then msiDue s else s))

end Sys2Proof.Machine
end

