-- ==== Sys2Proof/Machine/Junction.lean ====
section
/-!
DEFINITION. The Junction table's commands (09): the commit with its checks, restaging, the sweep of the read copies, and the reset list.
-/
namespace Sys2Proof.Machine

/-! ### Commit checks (09 R249, R250, Table 09.8) -/

/-- Check 0x1: BASE ≤ LIMIT within one data range. -/
def badRange (e : JEntry) : Bool := e.valid && !(e.base ≤ e.limit && sameRange e.base e.limit)

/-- Check 0x2: a tier-B port declared absent. -/
def badPort (s : State) (e : JEntry) : Bool :=
  e.valid && (match tierBPort e.base with
    | some n => !(mebPresent s).testBit n
    | none => false)

/-- Check 0x3: CLASS and KSRC agree, HOST only with class P. -/
def badClass (e : JEntry) : Bool :=
  e.valid && ((if e.cls = .p then e.ksrc != 0 else e.ksrc = 0) || (e.host && e.cls != .p))

/-- Check 0x4: an internal KSRC. -/
def badInternal (e : JEntry) : Bool :=
  e.valid && 0xFF00 ≤ e.ksrc && !(internalAssigned e.ksrc && (e.cls = .s || e.cls = .i) && !e.host && !e.remote)

/-- Check 0x5: valid entries of equal PRIO that cover a common page. -/
def badOverlap (t : Tbl JEntry) (x : Nat × JEntry) : Bool :=
  x.2.valid && t.any (fun y => y.1 != x.1 && y.2.valid && y.2.prio = x.2.prio && x.2.base ≤ y.2.limit && y.2.base ≤ x.2.limit)

/-- Check 0x6, the keep rule: the failing entries of the pages that leave a keyed KeyID (09 R249, R250). -/
def keepFails (s : State) : List Nat :=
  (segments (cuts s.jct.staged (cuts s.jct.active []))).filterMap (fun g =>
    match protOf s.jct.active g.1 with
    | some (i, k) =>
      if mapBit s k && protOf s.jct.staged g.1 != some (i, k) then
        (match winner s.jct.staged g.1 with
         | some (n, _) => some n
         | none => (winner s.jct.active g.1).map Prod.fst)
      else none
    | none => none)

/-- Check 0x7, the fresh-entry rule: the changed staged entries that win a page already under their KeyID (09 R250). -/
def freshFails (s : State) : List Nat :=
  let changed (n : Nat) (e : JEntry) : Bool :=
    let a := jEntry s.jct.active n
    e.base != a.base || e.limit != a.limit || e.cls != a.cls || e.ksrc != a.ksrc || e.prio != a.prio || e.valid != a.valid
  (segments (cuts s.jct.staged (cuts s.jct.active []))).filterMap (fun g =>
    match winner s.jct.staged g.1, protOf s.jct.active g.1 with
    | some (n, e), some (_, k) =>
      if (e.cls = .s || e.cls = .i) && mapBit s e.ksrc && e.ksrc = k && changed n e then some n else none
    | _, _ => none)

/-- The lowest index of a list. -/
def lowest : List Nat → Option Nat
  | [] => none
  | a :: t => some (t.foldl min a)

/-- The first failing check with its failing entry; none where every check passes (09 Table 09.8). -/
def commitFailure (s : State) : Option (Nat × Nat) :=
  let t := s.jct.staged
  let which (p : Nat × JEntry → Bool) : Option Nat := lowest ((t.filter p).map Prod.fst)
  if !s.jct.goEmpty then some (8, 0)
  else match which (fun x => badRange x.2) with
  | some n => some (1, n)
  | none => match which (fun x => badPort s x.2) with
    | some n => some (2, n)
    | none => match which (fun x => badClass x.2) with
      | some n => some (3, n)
      | none => match which (fun x => badInternal x.2) with
        | some n => some (4, n)
        | none => match which (badOverlap t) with
          | some n => some (5, n)
          | none => match lowest (keepFails s) with
            | some n => some (6, n)
            | none => (lowest (freshFails s)).map (fun n => (7, n))

/-- JCT_CSTAT, source 0x83 and JCT_COMMIT report how a commit ended (09 R249, 20 Table 20.1). -/
def commitReport (s : State) (st : Status) (reason entry : Nat) : State :=
  let s := setReg s (pgJct + 0x064) (BitVec.ofNat 32 (st.code + entry * 0x100 + reason * 0x100000))
  irqEvent (record s pgJct (rcJctCommit (reason != 0)) st.code reason entry) 0x83 none st.code reason entry 0

/-- What a write of JCT_CTRL does once it is judged (09 R249, R255). The judging begins with the GO, so the reset list is looked at then. A GO during judging, and RESTAGE then, complete with RETRY; a page whose
ENABLE is 0 accepts no new commit (05 Table 05.5). -/
def doJctCtrl (r : Role) (v : Word) (s : State) : State :=
  let off := pgJct + 0x060
  if getBits v 1 0 != 0 && s.jct.judging then regDone s r off .retry 0
  else if getBit v 0 && !enabled s pgJct then regDone s r off .unitGone 0
  else
    let s := if getBit v 1 then { s with jct := { s.jct with staged := s.jct.active } } else s
    if getBit v 0 then
      commitDone (setRegBit { s with jct := { s.jct with judging := true, goEmpty := s.anchor.resets = [] } } (pgJct + 0x064) 24 true) r off
    else regDone s r off .ok 0

/-- The judgement of a write of JCT_CTRL: GO is guarded (09 Table 09.12). -/
def jctCtrlWrite (r : Role) (v : Word) (s : State) : State :=
  if getBit v 0 then judgeGuarded s r (pgJct + 0x060) (doJctCtrl r v) else judgeWrite s r (pgJct + 0x060) (doJctCtrl r v)

/-- JCT_GO (09 R249). -/
def execJctGo (role : Role) (v : Word) (s : State) : Host.Outcome State Fault Refusal := .next (jctCtrlWrite role (v ||| 1) s)

/-- JCT_RESTAGE (09 R255): RESTAGE without GO. -/
def execJctRestage (role : Role) (v : Word) (s : State) : Host.Outcome State Fault Refusal :=
  .next (jctCtrlWrite role ((v &&& 0xFFFFFFFE) ||| 2) s)

/-- A commit takes effect: the staged table is the active one, the anchor and the read copies hold it, its pages join the reset list (09 R245, R249). -/
def commitTables (s : State) : State :=
  let add := mappingRanges s s.jct.active s.jct.staged
  let s := { s with
    jct := { s.jct with active := s.jct.staged, copies := [], reloads := [] }
    anchor := { s.anchor with jct := s.jct.staged } }
  setResets s (s.anchor.resets ++ add)

/-- JCT_COMMIT_JUDGED (09 R249, R250). -/
def execJctCommitJudged (s : State) : Host.Outcome State Fault Refusal :=
  .next (onlyIf s.jct.judging s
    (let s := { s with jct := { s.jct with judging := false } }
     match commitFailure s with
     | some (8, n) => commitReport s .retry 8 n
     | some (r, n) => commitReport s .denied r n
     | none => commitReport (commitTables s) .ok 0 0))

/-- Upsets that struck read-copy entries since the last cycle. -/
def strike (s : State) (u : CopyUpset) : State :=
  let k := u.island.val * 1024 + u.index.val
  { s with jct := { s.jct with copies := tblPut s.jct.copies k ⟨JEntry.ofWords u.w0 u.w1 u.w2, u.parityOk⟩ } }

/-- The power domain of a read copy's island (09 R251). -/
def copyDomain (isl : Nat) : Nat := 2 + isl

/-- JCT_COPY_SWEEP (09 R251): entry i of every powered copy is compared with the master in the cycle numbered i modulo 1,024. -/
def execJctCopySweep (upsets : List CopyUpset) (masterEcc : Bool) (s : State) : Host.Outcome State Fault Refusal :=
  .next (onlyIf (domUp s 12) s
    (let s := upsets.foldl strike s
     let i := s.jct.sweep
     let s := if masterEcc || injArmed s pgJct 2 then
         fireAs { s with jct := { s.jct with active := tblSet JEntry.zero s.jct.active i (jEntry s.anchor.jct i) } } pgJct 2 rcJctFault none
           i (jEntry s.anchor.jct i).base 3
       else s
     let s := (List.range 8).foldl (fun t isl =>
       let c := copyEntry t isl i
       if domUp t (copyDomain isl) && (!c.parityOk || c.entry != jEntry t.jct.active i || injArmed t pgJct 1) then copyFault t isl i else t) s
     { s with jct := { s.jct with sweep := (i + 1) % 1024 } }))

/-- JCT_ENTRY_RELOAD (09 R251): the entry is reloaded from the master. -/
def execJctEntryReload (island : Fin 8) (index : Fin 1024) (s : State) : Host.Outcome State Fault Refusal :=
  .next { s with jct := { s.jct with
    copies := tblDel s.jct.copies (island.val * 1024 + index.val)
    reloads := s.jct.reloads.filter (fun x => x != (island.val, index.val)) } }

end Sys2Proof.Machine
end

