-- ==== Sys2Proof/Machine/TrsFmt.lean ====
section
/-!
DEFINITION. The formats of TRS (13 R353 to R356, R365 to R368): conversion into accumulators, exact partials, rounding.
-/
namespace Sys2Proof.Machine

/-- The shape of a format (13 Table 13.3): exponent bits, fraction bits, bytes per 32 elements, the accumulator bit of the subnormal quantum (without
the block's scale), the largest finite code, the canonical NaN. -/
structure Fmt where
  e : Nat
  m : Nat
  bytes : Nat
  off : Nat
  top : Nat
  nan : Nat
deriving DecidableEq, Repr

/-- The formats of Table 13.3. -/
def fmtOf (f : Nat) : Fmt :=
  match f with
  | 0 => ⟨8, 23, 128, 0, 0x7F7FFFFF, 0x7FC00000⟩
  | 1 => ⟨8, 7, 64, 16, 0x7F7F, 0x7FC0⟩
  | 2 => ⟨5, 10, 64, 125, 0x7BFF, 0x7E00⟩
  | 3 => ⟨4, 3, 32, 140, 0x7E, 0x7F⟩
  | 4 => ⟨5, 2, 32, 133, 0x7B, 0x7E⟩
  | 5 => ⟨4, 3, 33, 13, 0x7E, 0x7F⟩
  | 6 => ⟨5, 2, 33, 6, 0x7B, 0x7E⟩
  | 7 => ⟨3, 2, 25, 18, 0x1F, 0⟩
  | 8 => ⟨2, 3, 25, 19, 0x1F, 0⟩
  | 9 => ⟨2, 1, 17, 21, 0x7, 0⟩
  | 10 => ⟨0, 0, 32, 149, 0, 0⟩
  | _ => ⟨0, 0, 128, 149, 0, 0⟩

/-- MX formats. -/
def isMx (f : Nat) : Bool := 5 ≤ f && f ≤ 9

/-- Integer formats. -/
def isIntFmt (f : Nat) : Bool := f = 10 || f = 11

/-- Formats with E4M3 elements: no infinity. -/
def isE4m3 (f : Nat) : Bool := f = 3 || f = 5

/-- Formats with an infinity: FP32, BF16, FP16, E5M2. -/
def hasInf (f : Nat) : Bool := f ≤ 2 || f = 4 || f = 6

/-- size(f, n): the bytes that n elements occupy. -/
def fmtSize (f n : Nat) : Nat := (fmtOf f).bytes * n / 32

/-- Bits of one element. -/
def fmtBits (f : Nat) : Nat := if f = 10 then 8 else if f = 11 then 32 else 1 + (fmtOf f).e + (fmtOf f).m

/-- A value with no flag. -/
def valElem (v : Int) : Elem := { Elem.zero with acc := BitVec.ofInt 320 v }

/-- What one element adds (13 R354): `raw` its bits, `sc` the scale of its block. -/
def convert (f raw sc : Nat) : Elem :=
  let x := fmtOf f
  if f = 10 then valElem ((BitVec.ofNat 8 raw).toInt * 2 ^ 149)
  else if f = 11 then valElem ((BitVec.ofNat 32 raw).toInt * 2 ^ 149)
  else if isMx f && sc = 0xFF then { Elem.zero with nan := true }
  else
    let fr := raw % 2 ^ x.m
    let ex := raw / 2 ^ x.m % 2 ^ x.e
    let neg := raw / 2 ^ (x.m + x.e) % 2 = 1
    let ones := ex = 2 ^ x.e - 1
    if hasInf f && ones then
      (if fr != 0 then { Elem.zero with nan := true }
       else if neg then { Elem.zero with ninf := true } else { Elem.zero with pinf := true })
    else if isE4m3 f && ones && fr = 7 then { Elem.zero with nan := true }
    else
      let o := x.off + (if isMx f then sc else 0)
      let mag : Nat := if ex = 0 then fr * 2 ^ o else (2 ^ x.m + fr) * 2 ^ (o + ex - 1)
      valElem (if neg then -(mag : Int) else (mag : Int))

/-- Bits [i + n − 1 : i] of a byte string, bit n being bit n mod 8 of byte n div 8 (13 R355). -/
def bitsAt (b : Bytes) (i n : Nat) : Nat := leNat ((b.drop (i / 8)).take ((i % 8 + n + 7) / 8)) / 2 ^ (i % 8) % 2 ^ n

/-- The elements of `n` elements' data (13 R355). -/
def elemsOf (f n : Nat) (b : Bytes) : List Elem :=
  let w := fmtBits f
  if isMx f then
    (List.range (n / 32)).flatMap (fun k =>
      let blk := (b.drop (k * (fmtOf f).bytes)).take (fmtOf f).bytes
      let sc := (blk.getD 0 0).toNat
      (List.range 32).map (fun i => convert f (bitsAt (blk.drop 1) (w * i) w) sc))
  else (List.range n).map (fun i => convert f (bitsAt b (w * i) w) 0)

/-! ### Exact partials (13 R356) -/

/-- Word `k` of an accumulator. -/
def accWord (a : BitVec 320) (k : Nat) : Nat := a.toNat / 2 ^ (32 * k) % 2 ^ 32

/-- The shortest form of an element: its element byte and its words. -/
def xpElem (e : Elem) : Nat × List Nat :=
  if e.nan || e.pinf || e.ninf then (0xF0 + b2n e.nan + 2 * b2n e.pinf + 4 * b2n e.ninf, [])
  else if e.acc = 0 then (0, [])
  else
    let lo := ((List.range 10).find? (fun k => accWord e.acc k != 0)).getD 0
    let fits (n : Nat) : Bool :=
      let s := (accWord e.acc (lo + n - 1)) / 2 ^ 31
      (List.range (10 - (lo + n))).all (fun k => accWord e.acc (lo + n + k) = s * (2 ^ 32 - 1))
    let n := ((List.range (10 - lo)).map (· + 1)).find? fits |>.getD (10 - lo)
    (n * 16 + lo, (List.range n).map (fun k => accWord e.acc (lo + k)))

/-- The bytes of a run of elements. -/
def xpBytes (es : List Elem) : Bytes :=
  let xs := es.map xpElem
  let head := xs.map (fun x => BitVec.ofNat 8 x.1)
  head ++ zeros ((4 - head.length % 4) % 4) ++ xs.flatMap (fun x => x.2.flatMap (leBytes 4))

/-- Whether an element byte is well formed. -/
def xpByteOk (b : Nat) : Bool :=
  let n := b / 16
  let lo := b % 16
  if n = 0 then lo = 0 else if n ≤ 10 then lo ≤ 10 - n else n = 15 && lo < 8 && lo != 0

/-- The elements of an XP run of `n` elements; none where it is malformed. -/
def xpParse (n : Nat) (b : Bytes) : Option (List Elem) :=
  let head := b.take n
  let pad := (4 - n % 4) % 4
  let ok := head.length = n && head.all (fun x => xpByteOk x.toNat) && allZero ((b.drop n).take pad)
  let words := head.foldl (fun a x => if x.toNat / 16 ≤ 10 then a + x.toNat / 16 else a) 0
  if !ok || b.length != n + pad + 4 * words then none
  else
    let step (acc : List Elem × Nat) (x : Byte) : List Elem × Nat :=
      let k := x.toNat / 16
      let lo := x.toNat % 16
      if k = 15 then (acc.1 ++ [{ Elem.zero with nan := lo.testBit 0, pinf := lo.testBit 1, ninf := lo.testBit 2 }], acc.2)
      else if k = 0 then (acc.1 ++ [Elem.zero], acc.2)
      else
        let v := leNat ((b.drop (n + pad + 4 * acc.2)).take (4 * k))
        let sv : Int := if v < 2 ^ (32 * k - 1) then (v : Int) else (v : Int) - 2 ^ (32 * k)
        (acc.1 ++ [valElem (sv * 2 ^ (32 * lo))], acc.2 + k)
    some (head.foldl step ([], 0)).1

/-! ### Rounding (13 R365 to R367) -/

/-- The quotient by a power of two, to nearest, ties to even. -/
def roundShift (a q : Nat) : Nat :=
  let n := a / 2 ^ q
  let r := a % 2 ^ q
  if 2 * r < 2 ^ q || (2 * r = 2 ^ q && n % 2 = 0) then n else n + 1

/-- The magnitude code of `a` × 2^−149 rounded to a format whose subnormal quantum stands at accumulator bit `off`, without an upper exponent limit (13 R365). -/
def roundMag (m off a : Nat) : Nat :=
  let q := max (Nat.log2 a - m) off
  roundShift a q + (q - off) * 2 ^ m

/-- An element rounded under R365: its code and whether it overflowed. `clamp` gives ±M on overflow. -/
def roundFp (f off : Nat) (clamp : Bool) (v : Int) : Nat × Bool :=
  let x := fmtOf f
  let sign := if v < 0 then 2 ^ (x.e + x.m) else 0
  let c := if v = 0 then 0 else roundMag x.m off v.natAbs
  if v = 0 then (0, false)
  else if c ≤ x.top then (sign + c, false)
  else if clamp then (sign + x.top, true)
  else if isE4m3 f then (x.nan, true)
  else (sign + x.top + 1, true)

/-- The code that Table 13.6 gives an element with a flag, for a format that is not MXFP6 or MXFP4; none where no flag is set. `sat` acts on plain E4M3 only. -/
def resolve (f : Nat) (sat : Bool) (e : Elem) : Option Nat :=
  let x := fmtOf f
  let sign := 2 ^ (x.e + x.m)
  if e.nan || (e.pinf && e.ninf) then some x.nan
  else if e.pinf then some (if isE4m3 f then (if f = 3 && sat then x.top else x.nan) else x.top + 1)
  else if e.ninf then some (if isE4m3 f then (if f = 3 && sat then sign + x.top else x.nan) else sign + x.top + 1)
  else none

/-- Whether an element has a flag. -/
def Elem.flagged (e : Elem) : Bool := e.nan || e.pinf || e.ninf

/-- An integer element (13 R366): its value clamped, and whether it was. -/
def roundInt (f : Nat) (v : Int) : Nat × Bool :=
  let w := fmtBits f
  let x := v / 2 ^ 149
  let hi : Int := 2 ^ (w - 1) - 1
  let y := if hi < x then hi else if x < -hi - 1 then -hi - 1 else x
  ((BitVec.ofInt w y).toNat, y != x)

/-- Elements as little-endian packed bits. -/
def packBits (w : Nat) (xs : List Nat) : Bytes := leBytes ((w * xs.length + 7) / 8) (xs.foldr (fun x a => a * 2 ^ w + x) 0)

/-- emax of an MX element format (13 R367). -/
def emaxOf (f : Nat) : Nat := if f = 5 then 8 else if f = 6 then 15 else if f = 7 then 4 else 2

/-- One MX block (13 R367): its bytes, and what RANGE counts. -/
def mxBlock (f : Nat) (sat : Bool) (es : List Elem) : Bytes × Nat :=
  let w := fmtBits f
  let bad : Bytes × Nat := (0xFF :: packBits w (es.map (fun _ => 0)), 0)
  if 7 ≤ f && es.any Elem.flagged then bad
  else
    let amax := (es.filter (fun e => !e.flagged)).foldl (fun a e => max a e.acc.toInt.natAbs) 0
    let x0 : Int := (Nat.log2 amax : Int) - 149 - emaxOf f
    if amax != 0 && 127 < x0 && !sat then (bad.1, 1)
    else
      let x : Int := if x0 < -127 then -127 else if 127 < x0 then 127 else x0
      let sc := if amax = 0 then 0 else (x + 127).toNat
      let enc (e : Elem) : Nat × Bool :=
        match resolve f sat e with
        | some c => (c, false)
        | none => roundFp f ((fmtOf f).off + sc) true e.acc.toInt
      let cs := es.map enc
      let ovf := (cs.filter Prod.snd).length + (if amax != 0 && 127 < x0 then 1 else 0)
      (BitVec.ofNat 8 sc :: packBits w (cs.map Prod.fst), ovf)

/-- One element of a format that is not MX: its code and whether it counts in RANGE. -/
def roundOne (f : Nat) (sat : Bool) (e : Elem) : Nat × Bool :=
  if isIntFmt f then roundInt f e.acc.toInt
  else match resolve f sat e with
    | some c => (c, false)
    | none => roundFp f (fmtOf f).off sat e.acc.toInt

/-- The rounded output of a chunk's elements: bytes, and the elements and blocks that RANGE counts. -/
def roundAll (f : Nat) (sat : Bool) (es : List Elem) : Bytes × Nat :=
  if isMx f then
    (let bs := (List.range (es.length / 32)).map (fun b => mxBlock f sat ((es.drop (32 * b)).take 32))
     (bs.flatMap Prod.fst, bs.foldl (fun a b => a + b.2) 0))
  else
    let cs := es.map (roundOne f sat)
    (packBits (fmtBits f) (cs.map Prod.fst), (cs.filter Prod.snd).length)

end Sys2Proof.Machine
end

