-- ==== Sys2Proof/Machine/TrsOps.lean ====
section
/-!
DEFINITION. TRS as shared operations (13): descriptors, contributions, local data, completion, outputs.
-/
namespace Sys2Proof.Machine

/-! ### Descriptors (13 R347 to R351) -/

/-- Bits [hi:lo] of a descriptor. -/
def tbits (d : BitVec 256) (hi lo : Nat) : Nat := d.toNat / 2 ^ lo % 2 ^ (hi + 1 - lo)

/-- The fields of a descriptor (13 Table 13.2). -/
def tdesc (d : BitVec 256) : TDesc where
  handle := tbits d 47 0
  inFmt := tbits d 51 48
  outFmt := tbits d 55 52
  write := tbits d 56 56 = 1
  sendR := tbits d 57 57 = 1
  sendX := tbits d 58 58 = 1
  sat := tbits d 59 59 = 1
  loc := tbits d 60 60 = 1
  elems := tbits d 78 64
  expect := tbits d 94 80
  pasid := tbits d 115 96
  ctx := tbits d 143 120
  keyId := tbits d 159 144
  span := tbits d 164 160
  flow := tbits d 179 168
  laddr := tbits d 218 184
  oaddr := tbits d 254 220

/-- Check 4 of R351. -/
def tdescOk (w : BitVec 256) : Bool :=
  let d := tdesc w
  d.inFmt ≤ 11 && d.outFmt ≤ 11 && isIntFmt d.inFmt = isIntFmt d.outFmt && !(d.sendR && d.sendX) && (d.write || d.sendR || d.sendX)
    && tbits w 63 61 = 0 && 1 ≤ d.elems && d.elems ≤ 16384 && (!(isMx d.inFmt || isMx d.outFmt) || d.elems % 32 = 0) && tbits w 79 79 = 0
    && 1 ≤ d.expect && d.expect ≤ 16384 && tbits w 95 95 = 0 && tbits w 119 116 = 0 && tbits w 167 165 = 0 && tbits w 183 180 = 0
    && tbits w 219 219 = 0 && tbits w 255 255 = 0

/-- Whether a lane group is in an instance's share (13 R348, 17 Table 17.3). -/
def laneIn (s : State) (i g : Nat) : Bool := getBit (rawReg s (instPage i + 0x04C)) (24 + g)

/-- The refusals of R351, in order. -/
def trsRefusal (s : State) (w : BitVec 256) : Option Nat :=
  let d := tdesc w
  match blockStatus s with
  | some st => some st
  | none =>
    if !enabled s pgTrs || pageGated s pgTrs || !pageUp s pgTrs then some Status.unitGone.code
    else if !tdescOk w then some Status.denied.code
    else match instOfPasid s d.pasid with
    | none => some Status.denied.code
    | some i =>
      if !(List.range 8).any (laneIn s i) then some Status.denied.code
      else if ctxLost s i d.ctx then some Status.contextLost.code
      else if !isTenant d.keyId || (!boundTo s d.keyId i && !leftBy s d.keyId i) then some Status.denied.code
      else if isRetiring s d.keyId then some Status.keyRetired.code
      else if s.trs.chunks.any (fun c => c.inst = i && c.desc.handle = d.handle) then some Status.denied.code
      else if (d.sendR || d.sendX) && (18 ≤ d.span || pageAbsent s (pgVdt d.span) || !(flowAt s d.span d.flow).valid || (flowAt s d.span d.flow).kind != 0)
      then some Status.denied.code
      else none

/-- The place of a chunk (13 R347, R348): the lowest lane group of the share with room that no other instance still occupies. -/
def trsPlace (s : State) (i rows : Nat) : Option Nat :=
  (List.range 8).find? (fun g =>
    let cs := s.trs.chunks.filter (fun c => c.group = g)
    let cl := s.trs.clearing.filter (fun c => c.group = g)
    laneIn s i g && cs.all (fun c => c.inst = i) && cl.all (fun c => c.inst = i) && cs.length < 8
      && cs.foldl (fun a c => a + c.rows) 0 + cl.foldl (fun a c => a + c.rows) 0 + rows ≤ 1024)

/-- The first refusal of an instance in each millisecond is recorded with the count since the last record (13 R351, 22 Table 22.8). A PASID of no instance counts
under number 256. -/
def trsRefused (s : State) (i : Option Nat) (st : Nat) : State :=
  let k := i.getD 256
  let ms := now s / 1000000
  let old := tblFind s.trs.refused k
  let n := (old.map Prod.snd).getD 0 + 1
  let put (v : Nat × Nat) : State := setTrs s { s.trs with refused := tblPut s.trs.refused k v }
  if old.any (fun o => o.1 = ms) then put (ms, n) else recordInst (put (ms, 0)) pgTrs rcTrsRefused i k st n

/-- A memory access of a chunk. -/
def trsReq (s : State) (c : Chunk) (op k pair gmask : Nat) (data : Bytes) (be : List Bool) : Req :=
  ⟨.trs c.id k, op, 0, pair * 256, s.dom.ownId, 0, gmask, c.desc.keyId, c.desc.pasid, c.desc.ctx, 0, data, be, some c.inst, c.gen⟩

/-- The reads of a local contribution (13 R363): one per pair, of the granules that hold it. -/
def localReads (s : State) (c : Chunk) : List Req :=
  let a := c.desc.laddr
  let g := (fmtSize c.desc.inFmt c.desc.elems + 127) / 128
  (List.range ((a + g + 1) / 2 - a / 2)).map (fun i =>
    let p := a / 2 + i
    let mask := b2n (a ≤ 2 * p && 2 * p < a + g) + 2 * b2n (a ≤ 2 * p + 1 && 2 * p + 1 < a + g)
    trsReq s c 0 i p mask (zeros 256) (List.replicate 256 false))

/-- Present what a chunk's accesses still wait to present, as far as the remote queues of their engines take them (13 R363, R369). An access whose page no engine
holds is answered at once. -/
def trsIssue (s : State) (c : Chunk) : State :=
  c.todo.foldl (fun t q =>
    match t.trs.chunks.find? (fun d => d.id = c.id) with
    | none => t
    | some d =>
      if canOffer t q then offer (putChunk t { d with todo := d.todo.erase q, waits := d.waits ++ [q.addr * 4 + q.gmask] }) q else t) s

/-- TRS judges the descriptor in its register (13 R349): refused, placed, or held. -/
def trsJudge (s : State) : State :=
  match s.trs.desc with
  | none => s
  | some w =>
    let d := tdesc w
    let inst := instOfPasid s d.pasid
    if regBit s (pgTrs + 0x010) 9 || replaying s pgTrs || admissionStopped s pgTrs then s
    else match trsRefusal s w with
    | some st => trsRefused (trsRefresh (ctComplete (setTrs s { s.trs with desc := none }) d.handle st)) inst st
    | none =>
      let i := inst.getD 0
      let rows := (d.elems + 15) / 16
      match trsPlace s i rows with
      | none => trsRefresh s
      | some g =>
        let c : Chunk := ⟨s.trs.nextId, i, instGen s i, d, g, rows, now s, [], 0, [], [], [], 0, false⟩
        let c := if d.loc then { c with todo := localReads s c } else c
        trsIssue (trsRefresh (setTrs s { s.trs with desc := none, chunks := s.trs.chunks ++ [c], nextId := s.trs.nextId + 1 })) c

/-! ### Outputs (13 R369 to R371) -/

/-- The writes of a result of `b` bytes from granule `a` on: full pairs as one write, other granules each on its own. -/
def outWrites (s : State) (c : Chunk) (b : Bytes) : List Req :=
  let a := c.desc.oaddr
  let g := (b.length + 127) / 128
  let part (i : Nat) : Bytes := (b.drop (128 * i)).take 128
  let one (i : Nat) : Req :=
    let x := part i
    let pad := zeros (128 - x.length)
    let en := List.replicate x.length true ++ List.replicate (128 - x.length) false
    let off := List.replicate 128 false
    if (a + i) % 2 = 0 then trsReq s c 1 i ((a + i) / 2) 1 (x ++ pad ++ zeros 128) (en ++ off) else trsReq s c 1 i ((a + i) / 2) 2 (zeros 128 ++ x ++ pad) (off ++ en)
  let fullPair (i : Nat) : Bool := (a + i) % 2 = 0 && 128 * i + 256 ≤ b.length
  let inPair (i : Nat) : Bool := (a + i) % 2 = 1 && i != 0 && fullPair (i - 1)
  (List.range g).filterMap (fun i =>
    if fullPair i then some (trsReq s c 1 i ((a + i) / 2) 3 (part i ++ part (i + 1)) (List.replicate 256 true))
    else if inPair i then none else some (one i))

/-- The contribution header of a payload (13 Table 13.4). -/
def partHeader (h fmt off cnt weight : Nat) : Bytes := leBytes 6 h ++ [BitVec.ofNat 8 fmt, 0] ++ leBytes 2 off ++ leBytes 2 cnt ++ leBytes 2 weight ++ [0, 0]

/-- The greatest run of the first elements whose XP is at most 8,192 B. -/
def xpRun (es : List Elem) : Nat :=
  let step (acc : Nat × Nat × Bool) (e : Elem) : Nat × Nat × Bool :=
    let (k, w, stop) := acc
    let w' := w + (xpElem e).2.length
    if stop || 8192 < (k + 1 + 3) / 4 * 4 + 4 * w' then (k, w, true) else (k + 1, w', false)
  (es.foldl step (0, 0, false)).1

/-- The XP payloads of a result; `n` bounds the number of payloads. -/
def xpPayloads (h weight : Nat) : Nat → Nat → List Elem → List Bytes
  | 0, _, _ => []
  | n + 1, off, es =>
    if es = [] then []
    else
      let k := max 1 (xpRun es)
      (partHeader h 15 off k weight ++ xpBytes (es.take k)) :: xpPayloads h weight n (off + k) (es.drop k)

/-- The payloads of a rounded result. -/
def rPayloads (d : TDesc) (b : Bytes) : List Bytes :=
  let per := if isMx d.outFmt then 8192 / (fmtOf d.outFmt).bytes * 32 else 8192 * 32 / (fmtOf d.outFmt).bytes
  (List.range ((d.elems + per - 1) / per)).map (fun i =>
    let n := min per (d.elems - i * per)
    partHeader d.handle d.outFmt (i * per) n 1 ++ (b.drop (fmtSize d.outFmt (i * per))).take (fmtSize d.outFmt n))

/-- A chunk is complete (13 R364): its rows are resolved, rounded and cleared, and its outputs issued. An uncorrectable accumulator ends it with POISON. -/
def trsComplete (s : State) (c : Chunk) : State :=
  if injArmed s pgTrs 1 then trsEnd (detect s pgTrs 1) false c Status.poison.code
  else
    let d := c.desc
    let es := (List.range d.elems).map (fun j => tblGet Elem.zero c.elems j)
    let (b, ovf) := if d.write || d.sendR then roundAll d.outFmt d.sat es else ([], 0)
    let s := incSat s (pgTrs + 0x060) 31 0 ovf
    let ps := if d.sendR then rPayloads d b else if d.sendX then xpPayloads d.handle d.expect d.elems 0 es else []
    let c := { c with elems := [], rows := 0, summed := true, payloads := ps.length, todo := if d.write then outWrites s c b else [] }
    let s := putChunk s c
    let items := ps.map (fun p => TxItem.ni ⟨s.dom.ownId, d.flow, d.pasid, d.ctx, d.keyId, some c.inst, c.gen, 0, p, some c.id⟩)
    let s := if items = [] then s else mapSpan s d.span (fun x => { x with outQ := x.outQ ++ items })
    trsIssue s c

/-! ### Contributions (13 R359 to R364) -/

/-- A dropped frame: counted, and the first of a chunk in each millisecond recorded with its row and the count since (13 R360). -/
def trsDropFrame (s : State) (inst handle row counter : Nat) : State :=
  let k := inst * 2 ^ 48 + handle
  let ms := now s / 1000000
  let s := incSat s (pgTrs + counter) 31 0 1
  let old := tblFind s.trs.drops k
  let n := (old.map Prod.snd).getD 0 + 1
  let put (v : Nat × Nat) : State := setTrs s { s.trs with drops := tblPut s.trs.drops k v }
  if old.any (fun o => o.1 = ms) then put (ms, n) else recordInst (put (ms, 0)) pgTrs rcTrsDrop (some inst) (inst + row * 0x100) (handle % 2 ^ 32) n

/-- What the header and data of a payload come to (13 Table 13.5 rows 1 to 6): dropped at a row, unmatched, or a chunk with first element, weight and values. -/
inductive Contribution where
  | drop (row : Nat)
  | unmatched
  | ok (c : Chunk) (off weight : Nat) (vals : List Elem)
deriving DecidableEq, Repr

/-- The HANDLE of a payload. -/
def partHandle (p : Bytes) : Nat := leNat (p.take 6)

/-- Rows 1 to 6 of Table 13.5 for a payload of a flow's instance under the inner KeyID. -/
def trsHeader (s : State) (inst keyId : Nat) (p : Bytes) : Contribution :=
  let fmt := (p.getD 6 0).toNat
  let off := leNat ((p.drop 8).take 2)
  let cnt := leNat ((p.drop 10).take 2)
  let w := leNat ((p.drop 12).take 2)
  let data := p.drop 16
  if p.length < 16 || 16 ≤ fmt || p.getD 7 0 != 0 || !allZero ((p.drop 14).take 2) then .drop 1
  else match s.trs.chunks.find? (fun c => c.inst = inst && c.desc.handle = partHandle p && !c.summed) with
  | none => .unmatched
  | some c =>
    if keyId != c.desc.keyId then .drop 3
    else if !((fmt = c.desc.inFmt && w = 1) || (fmt = 15 && 1 ≤ w && w ≤ c.desc.expect)) then .drop 4
    else if cnt = 0 || c.desc.elems < off + cnt || (isMx fmt && (off % 32 != 0 || cnt % 32 != 0)) then .drop 5
    else if fmt = 15 then (match xpParse cnt data with
      | some v => .ok c off w v
      | none => .drop 6)
    else if data.length != fmtSize fmt cnt then .drop 6
    else .ok c off w (elemsOf fmt cnt data)

/-- Whether row 7 holds for every element of a range. -/
def fits (c : Chunk) (off n w : Nat) : Bool :=
  (List.range n).all (fun j =>
    let e := tblGet Elem.zero c.elems (off + j)
    e.done + e.rsv + w ≤ c.desc.expect)

/-- The staging entries of a lane group that are in use (13 Table 13.1). -/
def stagedIn (s : State) (g : Nat) : Nat :=
  (s.trs.staged.filter (fun f => f.chunk.any (fun i => s.trs.chunks.any (fun c => c.id = i && c.group = g)))).length

/-- A staged frame commits (13 R362, R364): values added, weight moved from reserved to committed; a complete chunk rounds. A failing lane check undoes nothing in
the sums: its lane group is reset. -/
def trsCommit (s : State) (f : Staged) : State :=
  let s := setTrs s { s.trs with staged := s.trs.staged.erase f }
  match s.trs.chunks.find? (fun c => f.chunk = some c.id) with
  | none => s
  | some c =>
    if injArmed s pgTrs 0 then detect (setTrs s { s.trs with failing := some c.group }) pgTrs 0
    else
      let es := (f.vals.zip (List.range f.vals.length)).foldl (fun t p =>
        let e := tblGet Elem.zero t (f.off + p.2)
        let v := p.1
        tblSet Elem.zero t (f.off + p.2)
          ⟨e.acc + v.acc, e.nan || v.nan, e.pinf || v.pinf, e.ninf || v.ninf, e.done + f.weight, e.rsv - f.weight⟩) c.elems
      let c := { c with elems := es, total := c.total + f.weight * f.vals.length }
      let s := pmuItem (instCount (putChunk s c) (some c.inst) 0x530 f.vals.length) (58 + c.group)
      if c.total = c.desc.expect * c.desc.elems then trsComplete s c else s

/-- Stage a judged frame: row 7 and the reservation. The answer is the staged frame, or that it was dropped. -/
def trsReserve (s : State) (inst handle : Nat) (f : Staged) (c : Chunk) : State × Bool :=
  if fits c f.off f.vals.length f.weight then
    (setTrs (putChunk s { c with elems := reserve c.elems f.off f.vals.length f.weight })
      { (putChunk s { c with elems := reserve c.elems f.off f.vals.length f.weight }).trs with staged := s.trs.staged ++ [f] }, true)
  else (trsDropFrame s inst handle 7 0x058, false)

/-- The span's verdict on a frame that TRS has staged before its end (13 R362): true where it had one. -/
def trsVerdict (s : State) (n f sq : Nat) (pass : Bool) : Option State :=
  match s.trs.staged.find? (fun x => x.span = n && x.flow = f && x.seq = sq) with
  | some x => some (if pass && x.chunk.isSome then trsCommit s x else trsWithdraw s x)
  | none => none

/-! ### Replies (13 R363, R371) -/

/-- The local data of a chunk in one piece. -/
def localBytes (c : Chunk) : Bytes :=
  let a := c.desc.laddr
  let all := c.loc.flatMap Prod.snd
  (all.drop (a % 2 * 128)).take (fmtSize c.desc.inFmt c.desc.elems)

/-- A reply reaches its chunk: a payload or write that ended, a piece of local data, or a failure that ends it. UNWRITTEN local data is the zeros it brings. -/
def trsReply (s : State) (r : Reply) : State :=
  match r.src with
  | .trs id k =>
    (match s.trs.chunks.find? (fun c => c.id = id) with
     | none => staleRsp s
     | some c =>
       if k = 0xFFFF then
         (if r.st = 0 then putChunk s { c with payloads := c.payloads - 1 } else trsEnd s false c r.st)
       else
         let c := { c with waits := (match c.waits.find? (fun w => w / 4 = r.addr) with
           | some w => c.waits.erase w
           | none => c.waits) }
         if c.summed then (if r.st = 0 then putChunk s c else trsEnd s false c r.st)
         else if r.st != 0 && r.st != 1 then trsEnd s false c r.st
         else
           let d := if r.data = [] then zeros 256 else r.data
           let c := { c with loc := tblPut c.loc (r.addr / 256) d }
           let s := putChunk s c
           if c.todo = [] && c.waits = [] then
             (let f : Staged := ⟨32, 0, c.id, some c.id, 0, 1, elemsOf c.desc.inFmt c.desc.elems (localBytes c)⟩
              match trsReserve s c.inst c.desc.handle f c with
              | (s, true) => trsCommit s f
              | (s, false) => s)
           else s)
  | _ => s

/-- Whether a reply is for TRS. -/
def Reply.isTrs (r : Reply) : Bool :=
  match r.src with
  | .trs _ _ => true
  | _ => false

/-- TRS takes what has come back for it, presents what waits, and judges the descriptor it holds (13 R349, R363, R371). -/
def trsSettle (s : State) : State :=
  let mine := s.ttb.replies.filter Reply.isTrs
  let s := { s with ttb := { s.ttb with replies := s.ttb.replies.filter (fun r => !r.isTrs) } }
  let s := mine.foldl trsReply s
  let s := s.trs.chunks.foldl trsIssue s
  trsJudge s

end Sys2Proof.Machine
end

