-- ==== Sys2Proof/Machine/Links.lean ====
section
/-!
DEFINITION. The link commands (11, 18): received frames, the hand-over to engines, payloads from the network interface, egress, outstanding
requests and peers, the flow table, credits, pair keys, and the lane gauge.
-/
namespace Sys2Proof.Machine

/-! ### Received frames (11 R301 to R307) -/

/-- Count at a span's drop counter (11 Table 11.15, 18 Table 18.6). -/
def dropCount (s : State) (n o : Nat) : State := incSat s (pgVdt n + o) 31 0 1

/-- Where the IPv6 header begins: after at most one tag. -/
def ipOffset (b : Bytes) : Nat := if bfld b 12 2 = 0x8100 then 18 else 14

/-- The seal header and what follows it, without the trailing tag. -/
def sealPart (b : Bytes) : Bytes := b.drop (ipOffset b + 48)

/-- Row 3 of Table 11.6. A frame that is four bytes longer than its headers say still holds its FCS: it goes on and fails the seal check (03 R81, log 109). -/
def wellFormedFrame (s : State) (n : Nat) (b : Bytes) : Bool :=
  let o := ipOffset b
  let h := sealPart b
  let len := bfld h 22 2
  let type := bfld h 0 1 % 16
  let dst := (b.drop (o + 24)).take 16
  let port := getFld s (pgVdt n + 0x044) 15 0
  bfld b (o - 2) 2 = 0x86DD && bfld b o 1 / 16 = 6 && bfld b (o + 6) 1 = 17
    && (dst = unicast s n n s.dom.ownId || (spanAt s n).flows.any (fun f => f.2.valid && f.2.kind = 2 && dst = multicast s n f.2.group))
    && port != 0 && bfld b (o + 42) 2 = port && bfld h 0 1 / 16 = 1 && 1 ≤ type && type ≤ 7
    && bfld h 1 1 % 128 = 0 && (type = 2 || bfld h 1 1 = 0) && bfld h 2 2 < 0x4000 && bfld h 4 2 < 0x1000 && (type = 5 || bfld h 18 2 = 0)
    && (3 ≤ type && type ≤ 5 || bfld h 21 1 = 0) && bfld h 24 1 < 32 && allZero ((h.drop 25).take 7) && 32 ≤ len
    && bfld b (o + 4) 2 = 56 + len && bfld b (o + 44) 2 = 56 + len && (b.length = o + 48 + 32 + len + 16 || b.length = o + 48 + 32 + len + 20)

/-- Whether an accelerator is in the member map of an epoch position (11 R323). -/
def inMap (s : State) (pos id : Nat) : Bool := getBit (tblGet 0 s.maps (pos * 512 + id / 32)) (id % 32)

/-- Row 6 of Table 11.6. -/
def flowFits (s : State) (n : Nat) (h : Bytes) : Bool :=
  let f := flowAt s n (bfld h 4 2)
  f.valid && f.peerId = bfld h 2 2 && (if bfld h 0 1 % 16 = 5 then f.kind = 2 && f.keyId = bfld h 18 2 else f.kind = 0)

/-- The replay window (11 R302, R303): the entry after an accepted sequence, none for a replay. -/
def windowTake (f : Flow) (sq epoch : Nat) : Option Flow :=
  let inside := match f.high with
    | none => true
    | some h => h < sq || (h ≤ sq + 1023 && !f.bitmap.testBit (h - sq))
  let slide : Flow := match f.high with
    | none => { f with high := some sq, bitmap := 1 }
    | some h => if h < sq then { f with high := some sq, bitmap := (f.bitmap * 2 ^ (min (sq - h) 1024) + 1) % 2 ^ 1024 } else { f with bitmap := f.bitmap ||| 2 ^ (h - sq) }
  if f.high.isSome && epoch < f.wepoch && f.rst then none
  else if inside then some { slide with wepoch := max f.wepoch epoch, rst := f.rst && epoch ≤ f.wepoch }
  else if f.wepoch < epoch then some { f with high := some sq, bitmap := 1, wepoch := epoch, rst := true }
  else none

/-- The part of the ingress buffer that a frame takes: 0 NR, 1 request, 2 response reserve (18 Table 18.4). -/
def ingressPart (s : State) (n : Nat) (h : Bytes) : Nat :=
  let type := bfld h 0 1 % 16
  if type = 1 then (if bfld h 22 2 = 32 then 2 else if (flowAt s n (bfld h 4 2)).dest = 0 then 0 else 1)
  else if type = 2 || type = 7 then 1 else 2

/-- Bytes that a part of the ingress buffer holds. -/
def partHeld (s : State) (n p : Nat) : Nat :=
  let x := spanAt s n
  let rx := (x.rx.filter (fun r => ingressPart s n r.body = p)).foldl (fun a r => a + r.size) 0
  rx + (if p = 1 then x.memQ.foldl (fun a q => a + q.2) 0 + x.trsQ.foldl (fun a q => a + q.1.data.length) 0 else 0)

/-- The outstanding entry that a unicast response names (row 8). -/
def matchRsp (s : State) (n : Nat) (h op : Bytes) : Option Nat :=
  let i := bfld op 2 2 % 1024
  match tblFind (spanAt s n).outst i with
  | some o => if o.seq = bfld op 16 8 && o.inc = bfld h 21 1 && o.flow = bfld h 4 2 then some i else none
  | none => none

/-- The KeyID whose keys a forwarded response needs to be opened (11 R314): its request's, where the response names it. -/
def fwdKey (s : State) (n : Nat) (r : RxFrame) : Option Nat :=
  let op := (r.body.drop 32).take 32
  if bfld r.body 0 1 % 16 != 3 then none
  else match (matchRsp s n (r.body.take 32) op).bind (fun i => tblFind (spanAt s n).outst i) with
  | some o => if o.req.keyId = bfld op 10 2 && o.req.keyId != 0 then some o.req.keyId else none
  | none => none

/-- Replace a frame in the ingress buffer. -/
def putRx (s : State) (n : Nat) (r r' : RxFrame) : State := mapSpan s n (fun x => { x with rx := x.rx.map (fun y => if y = r then r' else y) })

/-- The frame's own key: its pair key, or its KeyID's group key over the key bus (11 R304); a pair key that the span does not hold is asked for. -/
def takeFrameKey (s : State) (n : Nat) (r : RxFrame) : State × RxFrame :=
  if r.key.isSome then (s, r)
  else if bfld r.body 0 1 % 16 = 5 then
    (match busRead s (bfld r.body 18 2) with
     | .keys ks => (s, { r with key := some ks.gk, ks := some (ks.ek, ks.tk, ks.sk) })
     | .parity => (keyParity s (bfld r.body 18 2), r)
     | .absent => (s, r))
  else match heldKey s n r.flow true r.epoch with
  | some k => (s, { r with key := some k })
  | none => (match loadedEpoch s r.epoch with
    | some (pos, _) => (askKey s n pos r.flow true, r)
    | none => (s, r))

/-- The keys of a forwarded response's KeyID (08 R213, R214, 11 R314): a miss has them loaded, and the response ends as R217 says where that cannot be. -/
def takeFwdKeys (s : State) (n : Nat) (r : RxFrame) : State × RxFrame :=
  match r.ks, r.fail, fwdKey s n r with
  | none, none, some k =>
    (match busRead s k with
     | .keys ks => (s, { r with ks := some (ks.ek, ks.tk, ks.sk) })
     | .parity => (keyParity s k, { r with fail := some Status.poison.code })
     | .absent =>
       let t := keyMiss s k none
       (t, if (loadOf t k).isSome then { r with wait := some k } else { r with fail := some ((loadRefused s k).getD Status.notReady.code) }))
  | _, _, _ => (s, r)

/-- A frame of the ingress buffer takes the key material that is there now (08 R213, 11 R304). -/
def admitRx (s : State) (n : Nat) (r : RxFrame) : State :=
  let (s, r1) := takeFrameKey s n r
  let (s, r2) := takeFwdKeys s n r1
  putRx s n r r2

/-- LR_FRAME_START (11 R301 rows 1 to 8, 18 R469): the whole frame as the MAC delivers it, judged from its headers. A frame whose parity
fails (`perr`) is not taken (03 R65). -/
def execLrFrameStart (n : Fin 18) (frame : Bytes) (perr : Bool) (s : State) : Host.Outcome State Fault Refusal :=
  .next (
    let v := n.val
    let s := mapSpan s v (fun x => { x with gauge := { x.gauge with rx := x.gauge.rx + frame.length } })
    if (blockStatus s).isSome || !inService s (pgVdt v) then dropCount s v 0x0C0
    else if perr || injArmed s (pgVdt v) 3 then detect s (pgVdt v) 3
    else if 9216 < frame.length then dropCount s v 0x0C4
    else if !wellFormedFrame s v frame then dropCount s v 0x0C8
    else
      let h := sealPart frame
      let p := ingressPart s v h
      if (p = 1 && 24576 < partHeld s v 1 + frame.length) then dropCount s v 0x168
      else if (p = 2 && 8192 < partHeld s v 2 + frame.length) then dropCount s v 0x16C
      else
        let f := bfld h 4 2
        let sq := bfld h 6 8
        let ep := bfld h 14 4
        match loadedEpoch s ep with
        | none => dropCount s v 0x0CC
        | some (pos, _) =>
          if s.dom.epoch = 0 then dropCount s v 0x0CC
          else if !inMap s pos (bfld h 2 2) then dropCount s v 0x0D0
          else if injArmed s (pgVdt v) 4 then dropCount (detect (setFlow s v f { flowAt s v f with valid := false }) (pgVdt v) 4) v 0x0D4
          else if !flowFits s v h then dropCount s v 0x0D4
          else if (windowTake (flowAt s v f) sq ep).isNone || (spanAt s v).rx.any (fun r => r.flow = f && r.seq = sq) then dropCount s v 0x0D8
          else
            let r : RxFrame := ⟨h, f, sq, ep, frame.length, none, false, none, none, none, none⟩
            admitRx (mapSpan s v (fun x => { x with rx := x.rx ++ [r] })) v r)

/-- A failure of row 10 or of the Ballast check is recorded once per flow and millisecond, with the count since the last record (11 R307, 14 R383). -/
def recordDrop (s : State) (n f sender : Nat) (c : RecCode) (ballast inj : Bool) : State :=
  let x := flowAt s n f
  let ms := now s / 1000000
  let old := if ballast then x.ballastRec else x.sealRec
  let k := (old.map Prod.snd).getD 0 + 1
  let put (v : Option (Nat × Nat)) : State := setFlow s n f (if ballast then { x with ballastRec := v } else { x with sealRec := v })
  if old.any (fun o => o.1 = ms) then put (some (ms, k))
  else record (put (some (ms, 0))) (pgVdt n) c (n + f * 0x10000) sender (injP3 inj k)

/-- The outstanding entries of this member that an MRSP_GRP's answer list names in full (11 R318, R319). -/
def matchGroup (s : State) (n : Nat) (h body : Bytes) : List Nat :=
  let k := bfld body 12 2
  ((List.range k).map (fun i => bfld body (32 + 8 * i) 8)).filterMap (fun w =>
    if w % 2 ^ 14 = s.dom.ownId && w / 2 ^ 14 % 32 = n then
      (match tblFind (spanAt s n).outst (w / 2 ^ 19 % 1024) with
       | some o => if o.inc % 8 = w / 2 ^ 29 % 8 && o.seq % 2 ^ 32 = w / 2 ^ 32 && o.gflow = some (bfld h 4 2) then some (w / 2 ^ 19 % 1024) else none
       | none => none)
    else none)

/-- Open the stored data of a forwarded response under the keys of its request's KeyID (11 R314): the pair, or none where a check fails. -/
def openForward (ks : Option (Bytes × Bytes × Bytes)) (q : Req) (home : Nat) (op desc stored : Bytes) : Option Bytes :=
  let cls := bfld op 1 1 % 4
  match ks with
  | none => none
  | some (ek, tk, sk) =>
    if bfld op 10 2 != q.keyId || cls = 3 || bfld op 4 5 != q.addr / 128 then none
    else
      let a : Adm := ⟨q, ⟨none, 0, 0, q.keyId, 0, Cls.ofCode cls, 0, 1, 0, 0⟩, ek, tk, sk, [], .readWait, false, 0, 0⟩
      let parts := (q.granules.zip (List.range 2)).map (fun p =>
        let d := (desc.drop (24 * p.2)).take 24
        (p.1.1, openGranule a home p.1.2 (bfld d 0 8) (bfld d 8 2 % 4096) ((stored.drop (128 * p.2)).take 128) ((d.drop 16).take 8)))
      if parts.all (fun p => p.2.isSome) then some (pairData (parts.map (fun p => (p.1, p.2.getD [])))) else none

/-- A forwarded response completes its request with what R314 finds. -/
def completeForward (s : State) (n idx home : Nat) (r : RxFrame) (op desc stored : Bytes) (padOk : Bool) : State :=
  match tblFind (spanAt s n).outst idx with
  | none => s
  | some o =>
    if !padOk then completeOut (dropCount s n 0x128) n idx Status.authFail.code []
    else match r.fail with
    | some st => completeOut s n idx st []
    | none => match openForward r.ks o.req home op desc stored with
    | some d => completeOut (touchSlot s o.req.keyId) n idx 0 d
    | none => completeOut (recordDrop (contain (fireBit s (pgVdt n) 0) (pgVdt n) 0) n r.flow home rcSealFail false (injArmed s (pgVdt n) 0)) n idx Status.authFail.code []

/-- The request that an opened MREQ carries: none where its padding is not zero (11 R312, 14 R386). -/
def mreqOf (s : State) (n : Nat) (h pt : Bytes) : Option Req :=
  let opb := bfld pt 0 1
  let part := bfld pt 1 1 % 2 = 1
  let f := bfld h 4 2
  let gf := if bfld h 1 1 / 128 = 1 then some (bfld pt 20 2 % 4096) else none
  let q0 : Req := ⟨.remote n (bfld h 2 2) f (bfld pt 2 2 % 1024) (bfld h 6 8) (bfld h 20 1) gf, opb / 16, opb % 16, bfld pt 4 5 % 2 ^ 35 * 128, s.dom.ownId, 0,
    bfld pt 1 1 / 64, bfld pt 10 2, bfld pt 12 3 % 2 ^ 20, bfld pt 16 3, 0, [], List.replicate 256 false, none, 0⟩
  let full := (List.range 256).map (fun i => q0.gmask.testBit (i / 128))
  let en := if part then (List.range 256).map (fun i => ((pt.getD (32 + i / 8) 0).toNat).testBit (i % 8)) else if q0.isRead then List.replicate 256 false else full
  let q := { q0 with wbe := en }
  let body := pt.drop (32 + 32 * b2n part)
  let used := (mreqData { q with wdata := zeros 256 }).length
  let data := body.take used
  let w := if used = 256 then data else match q.granules with
    | [(0, _)] => data ++ zeros 128
    | [(_, _)] => zeros 128 ++ data
    | _ => data
  if allZero (body.drop used) then some { q with wdata := w } else none

/-- The dense payload of an NI body, where R383 holds: 14 R383, R384. The first number is FORM. -/
def niOpen (pt : Bytes) : Option (Nat × Bytes) :=
  let form := bfld pt 12 1
  let plen := bfld pt 10 2
  let body := pt.drop 32
  let bm := leNat ((pt.drop 14).take 18)
  let nb := (plen + 63) / 64
  if 2 < form || 3 < bfld pt 13 1 then none
  else if form = 0 then (if 1 ≤ plen && plen ≤ body.length && bm = 0 && allZero (body.drop plen) then some (0, body.take plen) else none)
  else if form = 2 then (if plen = 0 && bfld pt 0 3 = 0 && bfld pt 4 3 = 0 && bfld pt 8 2 = 0 && bm = 0 && allZero body then some (2, []) else none)
  else
    let lens := (List.range nb).map (fun i => (bm.testBit i, min 64 (plen - 64 * i)))
    let c := (lens.map (fun x => if x.1 then x.2 else 0)).foldl (· + ·) 0
    if 1 ≤ plen && bm < 2 ^ nb && c ≤ body.length && allZero (body.drop c) then
      some (1, (lens.foldl (fun acc x => if x.1 then (acc.1 ++ (body.drop acc.2).take x.2, acc.2 + x.2) else (acc.1 ++ zeros x.2, acc.2)) (([] : Bytes), 0)).1)
    else none

/-- The count that an NI frame carries is taken where it fits between F and S (18 R472). -/
def takeCredit (s : State) (n f : Nat) (pt : Bytes) : State :=
  let x := flowAt s n f
  let c := bfld pt 3 1 + bfld pt 7 1 % 128 * 256
  if bfld pt 7 1 / 128 = 0 then s
  else
    let k := x.freed + (c + 32768 - x.freed % 32768) % 32768
    if k ≤ x.sent then setFlow s n f { x with freed := k } else s

/-- The payloads held for NR leave in order while it is ready. -/
def drainNr (s : State) (n : Nat) : State :=
  let held := (spanAt s n).nrHeld
  held.foldl (fun t x =>
    if genFresh t x.2.1.inst x.2.1.gen then emitNr t n x.2.1 x.1
    else genDiscard t x.2.1.inst) (mapSpan s n (fun x => { x with nrHeld := [] }))

/-- Hand a payload with its NR_STAT to NR, at once or once it is ready (03 R84). -/
def toNr (s : State) (n : Nat) (x : NiItem) (sq : Option Nat) (st : Nat) (ready : Bool) : State :=
  let s := mapSpan s n (fun y => { y with nrHeld := y.nrHeld ++ [(st, x, sq)] })
  if ready then drainNr s n else s

/-- Whether an opened NI frame carries a KeyID that is not bound to its flow's instance (11 Table 11.6 row 11). -/
def niDenied (s : State) (n f : Nat) (pt : Bytes) : Bool :=
  match niOpen pt with
  | some (2, _) | none => false
  | some _ => bfld pt 8 2 != 0 && !boundTo s (bfld pt 8 2) (flowAt s n f).inst

/-- An opened NI frame: Ballast check, then delivery to NR or TRS (11 row 11, 14 R383, R384). -/
def deliverNi (s : State) (n f : Nat) (r : RxFrame) (pt : Bytes) : State :=
  let x := flowAt s n f
  let k := bfld pt 8 2
  let s := takeCredit s n f pt
  let item : NiItem := ⟨bfld r.body 2 2, f, bfld pt 0 3 % 2 ^ 20, bfld pt 4 3, k, some x.inst, instGen s x.inst, 0, [], none⟩
  let fail (s : State) : State :=
    let s := (trsVerdict s n f r.seq false).getD s
    if x.dest = 0 && !x.saf then toNr s n { item with data := zeros (bfld pt 10 2) } (some r.seq) Status.denied.code r.nrReady else s
  match niOpen pt with
  | none => fail (recordDrop (dropCount s n 0x128) n f (bfld r.body 2 2) rcBallastFail true false)
  | some (2, _) => dropCount s n 0x124
  | some (_, data) =>
    if niDenied s n f pt then fail (dropCount s n 0x0EC)
    else if x.dest = 0 then
      (let used := (spanAt s n).nrHeld.foldl (fun a y => a + y.2.1.data.length) 0
       if 98304 < used + data.length then dropCount s n 0x0F0 else toNr s n { item with data := data } (some r.seq) 0 r.nrReady)
    else if x.dest = 1 then
      (match trsVerdict s n f r.seq true with
       | some t => t
       | none => mapSpan (wake s 5) n (fun y => { y with trsQ := y.trsQ ++ [({ item with data := data }, r.seq)] }))
    else s

/-- The instance whose frame an accepted frame is (21 Table 21.5): the flow's for a payload, the PASID's for a request, the request's for a response; none for
a credit-return dummy or a coherence frame. -/
def frameInst (s : State) (n : Nat) (h : Bytes) (f type : Nat) (pt op : Bytes) : Option Nat :=
  let out (i : Nat) : Option Nat := (tblFind (spanAt s n).outst i).bind (fun o => o.req.inst)
  match type with
  | 1 => if bfld pt 12 1 = 2 then none else some (flowAt s n f).inst
  | 2 => instOfPasid s (bfld pt 12 3 % 2 ^ 20)
  | 3 | 4 => (matchRsp s n h op).bind out
  | 5 => (matchGroup s n h (h.drop 32)).head?.bind out
  | _ => none

/-- A frame whose end carries an error or whose tag does not verify: counted, SEAL_FAIL, its sequence number judged (11 R301). -/
def refuseFrame (s : State) (n : Nat) (r : RxFrame) (err : Bool) : State :=
  let h := r.body.take 32
  let type := bfld h 0 1 % 16
  let f := r.flow
  let ms := now s / 1000000
  let inj := injArmed s (pgVdt n) 0
  let s := if err then
      mapSpan (dropCount s n 0x0E8) n (fun x =>
        let e := if x.gauge.errMs = ms then x.gauge.errs + 1 else 1
        { x with gauge := { x.gauge with clean := 0, errs := e, errMs := ms } })
    else dropCount s n 0x0E4
  let s := recordDrop (fireBit s (pgVdt n) 0) n f (bfld h 2 2) rcSealFail false inj
  let s := (trsVerdict s n f r.seq false).getD s
  let x := flowAt s n f
  if type = 1 && x.dest = 0 && !x.saf then
    toNr s n ⟨bfld h 2 2, f, 0, 0, 0, none, 0, 0, zeros (bfld h 22 2 - 32), none⟩ none Status.authFail.code r.nrReady else s

/-- The type-4 response to an outstanding request: its status and data (11 R301). -/
def finishResponse (s : State) (n i st : Nat) (pt : Bytes) : State :=
  match tblFind (spanAt s n).outst i with
  | some o =>
    let d := if st != 0 then 0 else if o.req.isRead || o.req.op = 3 then 128 * o.req.granules.length else 0
    if !allZero (pt.drop (32 + d)) then completeOut (dropCount s n 0x128) n i Status.authFail.code []
    else
      let parts := (o.req.granules.zip (List.range 2)).map (fun p => (p.1.1, ((pt.drop 32).drop (128 * p.2)).take 128))
      completeOut s n i st (if d = 0 then [] else pairData parts)
  | none => s

/-- What a frame that verified is, by its type: a transfer, a request, a response (11 R301, R319). `clear`, `stored` and `pad` are the parts of
its body. -/
def handFrame (s : State) (n : Nat) (r : RxFrame) (h body pt op clear stored pad : Bytes) : State :=
  let type := bfld h 0 1 % 16
  let sender := bfld h 2 2
  let f := r.flow
  let ansN := if type = 5 then bfld op 12 2 else 0
  match type with
  | 1 => deliverNi s n f r pt
  | 2 =>
    (match mreqOf s n h pt with
     | some q => mapSpan (wake s 5) n (fun y => { y with memQ := y.memQ ++ [(q, r.size)] })
     | none => dropCount s n 0x128)
  | 3 => (match matchRsp s n h op with
    | some i => completeForward s n i sender r op (clear.drop 32) stored (allZero pad)
    | none => dropCount s n 0x0DC)
  | 4 => (match matchRsp s n h op with
    | some i => finishResponse s n i (bfld op 9 1) pt
    | none => dropCount s n 0x0DC)
  | 5 => (matchGroup s n h body).foldl (fun t i => completeForward t n i sender r op (clear.drop (32 + 8 * ansN)) stored (allZero pad)) s
  | _ => s

/-- A frame whose key is in the span and whose end has come is judged by rows 8, 10 and 11 and handed on (11 R301 to R319). -/
def finishFrame (s : State) (n : Nat) (r : RxFrame) (key : Bytes) (err : Bool) : State :=
  let h := r.body.take 32
  let type := bfld h 0 1 % 16
  let len := bfld h 22 2
  let body := (r.body.drop 32).take len
  let tag := r.body.drop (32 + len)
  let sender := bfld h 2 2
  let f := r.flow
  let iv := frameIv h
  let fwd := isForward type
  let pt := if fwd then [] else Config.gcmCrypt key iv body
  let op := if fwd then body.take 32 else pt.take 32
  let g := popCount 2 (bfld op 1 1 / 64)
  let ansN := if type = 5 then bfld op 12 2 else 0
  let clear := if type = 7 then body.take (body.length - 128) else body.take (32 + 8 * ansN + 24 * g)
  let stored := (body.drop clear.length).take (if type = 7 then 128 else 128 * g)
  let pad := body.drop (clear.length + stored.length)
  let s := mapSpan s n (fun x => { x with rx := x.rx.filter (· != r) })
  let late := match type with
    | 3 | 4 => (matchRsp s n h op).isNone
    | 5 => (matchGroup s n h body).isEmpty
    | _ => false
  let good := if fwd then Config.gcmTag key iv (h ++ clear ++ pad) [] = tag else Config.gcmTag key iv h body = tag
  if late then dropCount s n (if type = 5 then 0x0E0 else 0x0DC)
  else if err || !good || injArmed s (pgVdt n) 0 then refuseFrame s n r err
  else
    let x := flowAt s n f
    let s := if type = 1 && niDenied s n f pt then s else setFlow s n f ((windowTake x r.seq r.epoch).getD x)
    let s := peerSeen s n sender (bfld h 20 1)
    let s := keepKey s n ⟨f, true, r.epoch, key⟩
    let s := instCount s (frameInst s n r.body f type pt op) 0x528 r.size
    handFrame s n r h body pt op clear stored pad

/-- Finish the ended frames whose key material is in the span, in order (11 R304): a group response without its group key has failed row 8. -/
def finishReady (s : State) (n : Nat) : State :=
  (spanAt s n).rx.foldl (fun t r0 =>
    match r0.ended with
    | none => t
    | some err =>
      let (t, r1) := takeFrameKey t n r0
      let (t, r) := takeFwdKeys t n r1
      let t := putRx t n r0 r
      match r.key with
      | some k => if (fwdKey t n r).isSome && r.ks.isNone && r.fail.isNone then t else finishFrame t n r k err
      | none => if bfld r.body 0 1 % 16 = 5 then dropCount (mapSpan t n (fun x => { x with rx := x.rx.filter (· != r) })) n 0x0E0 else t) s

/-- The frames that wait for the keys of a KeyID go on: its load came to an end (08 R217). -/
def spansGoOn (s : State) : State := (List.range 18).foldl (fun t n => if (spanAt t n).rx = [] then t else finishReady t n) s

/-- LR_FRAME_END (11 R295): LR_EOF with LR_ERR; `nrReady` is NR_READY then. The frame being received is the last. -/
def execLrFrameEnd (n : Fin 18) (err nrReady : Bool) (s : State) : Host.Outcome State Fault Refusal :=
  .next (
    let x := spanAt s n.val
    let s := if nrReady then drainNr s n.val else s
    match x.rx.reverse with
    | r :: rest =>
      if r.ended.isSome then s
      else
        let s := mapSpan s n.val (fun y => { y with rx := rest.reverse ++ [{ r with ended := some err, nrReady := nrReady }] })
        finishReady s n.val
    | [] => s)

/-- A span whose request was answered asks for the next key that a frame of it waits for (08 R207). -/
def askNext (s : State) (n : Nat) : State :=
  (spanAt s n).rx.foldl (fun t r => if r.key.isSome || bfld r.body 0 1 % 16 = 5 then t else (takeFrameKey t n r).1) s

/-- PAIR_KEY_DELIVERED (08 R207, 11 R304): KVT serves the requests in order of arrival, and delivers the oldest where it is this span's. -/
def execPairKeyDelivered (n : Fin 18) (s : State) : Host.Outcome State Fault Refusal :=
  .next (match s.kvt.pairWait with
    | w :: rest =>
      if w.1 != n.val then s
      else
        let (_, pos, peer, d) := w
        let s := { s with kvt := { s.kvt with pairWait := rest } }
        (match pairKey s pos s.dom.ownId peer, epochKeyAt s pos with
         | (some k, t), some ek => askNext (finishReady (keepKey t n.val ⟨d / 2, d % 2 = 1, ek.num, k⟩) n.val) n.val
         | (_, t), _ => askNext t n.val)
    | [] => s)

/-- Bytes that the egress response part holds: the responses' reservations, and the messages that the span sends for its own CTC (18 R469, R470). -/
def respHeld (s : State) (n : Nat) : Nat :=
  (spanAt s n).outQ.foldl (fun a i => a + (match i with
    | .coh _ tree idx m => if m.cls = 3 then 0 else (let p := m.parts; 110 + (Config.cohMessage p.1 tree idx p.2.1 p.2.2.1 p.2.2.2).length)
    | .credit _ => 142
    | _ => 0)) (spanAt s n).rsv

/-- HOME_MREQ_HANDOVER (18 R470, 12 R337): with response space reserved and the engine's remote queue not full, the oldest MREQ is handed over. A
request whose page no engine holds, or whose engine cannot serve, is answered at once. -/
def execHomeMreqHandover (n : Fin 18) (s : State) : Host.Outcome State Fault Refusal :=
  .next (match (spanAt s n.val).memQ with
    | (q0, _) :: rest =>
      let q := { q0 with link := tblGet 0 s.incarn (pgVdt n.val) }
      let need := match q.src with
        | .remote _ _ _ _ _ _ (some _) => 578
        | _ => 450
      let take (s : State) : State := refreshSpan (mapSpan s n.val (fun y => { y with memQ := rest, rsv := y.rsv + need })) n.val
      if 65536 < respHeld s n.val + need then s
      else match engineOfPage q.page with
        | some e =>
          if engineOut s e then respond (take s) e q Status.unitGone.code []
          else if 32 ≤ (engAt s e).remoteQ.length then s
          else (let s := take s
                setEng s e { engAt s e with remoteQ := (engAt s e).remoteQ ++ [q] })
        | none => respond (jctDeny (take s)) 0 q Status.denied.code []
    | [] => s)

/-! ### Network interface (11 R309, 14 R389, 03 R81) -/

/-- The active dispatch entry of a flow. -/
def dspOfFlow (s : State) (n f : Nat) : Option (Nat × Dsp) := (spanAt s n).dsp.find? (fun d => d.2.flow = f)

/-- The payload that NT_HDR announces (03 Table 03.4). -/
def ntItem (s : State) (w : Nat) : NiItem :=
  let inst := instOfPasid s (w / 2 ^ 28 % 2 ^ 20)
  ⟨w % 2 ^ 14, w / 2 ^ 14 % 4096, w / 2 ^ 28 % 2 ^ 20, w / 2 ^ 64 % 2 ^ 24, w / 2 ^ 48 % 2 ^ 16, inst, inst.elim 0 (instGen s), w / 2 ^ 26 % 4, [], none⟩

/-- An NT frame outside a dispatch entry is refused, held, or admitted with its send count (11 R308, R309). One that is held is not taken: NT_READY is low. -/
def judgeNt (s : State) (n : Nat) (x : NiItem) : State :=
  let put (s : State) (t : NtIn) : State := mapSpan s n (fun y => { y with nt := some t })
  let held (s : State) (r : Nat) : State := setFld s (pgVdt n + 0x040) 12 8 r
  match niRefusal s n x with
  | some st => put s (.refused x st)
  | none => match txKey s n x.flow with
    | (s, none) => held s 6
    | (s, some (ep, key)) =>
      if replaying s (pgVdt n) then held s 16
      else if !hasCredit s n (flowAt s n x.flow) then held s 18
      else held (put (takeSeq s n x.flow true) (.admitted x (flowAt s n x.flow).count ep key)) 0

/-- NT_FRAME_START (11 R308, R309): NT_HDR on NT_SOF. `breach`: the handshake is breached (03 R64); `perr`: NT_PAR fails on the first beat (03 R65).
While admission to the span is stopped NT_READY is low (04 R119). -/
def execNtFrameStart (n : Fin 18) (hdr : BitVec 128) (breach perr : Bool) (s : State) : Host.Outcome State Fault Refusal :=
  let w := hdr.toNat
  .next (
    let x := ntItem s w
    let put (s : State) (t : NtIn) : State := mapSpan s n.val (fun y => { y with nt := some t })
    if (spanAt s n.val).nt.isSome then s
    else
    let s := if breach then detect s (pgVdt n.val) 2 else s
    if (blockStatus s).isSome then put (dropCount s n.val 0x0C0) (.refused x ((blockStatus s).getD 0))
    else if perr || injArmed s (pgVdt n.val) 3 then put (detect s (pgVdt n.val) 3) (.refused x Status.poison.code)
    else if w / 2 ^ 88 != 0 then put s (.refused x Status.denied.code)
    else if pageGated s (pgVdt n.val) then put s (.refused x Status.unitGone.code)
    else if admissionStopped s (pgVdt n.val) then s
    else match dspOfFlow s n.val x.flow with
    | some (i, d) => if d.queue.length < d.frames then put s (.dispatch x i) else s
    | none => judgeNt s n.val x)

/-- The longest NI payload that keeps a frame within 9,216 B (03 R81, 11 Table 11.1). -/
def ntLimit (s : State) (n : Nat) : Nat := if regBit s (pgVdt n + 0x044) 24 then 9070 else 9074

/-- NT_FRAME_END (11 R309, 14 R389): NT_EOF with the payload; `perr`: NT_PAR fails on a beat of it, and the payload ends with POISON (03 R65). -/
def execNtFrameEnd (n : Fin 18) (payload : Bytes) (perr : Bool) (s : State) : Host.Outcome State Fault Refusal :=
  .next (
    let x := spanAt s n.val
    let s := mapSpan s n.val (fun y => { y with nt := none })
    let back (s : State) (i : NiItem) (st : Nat) : State := niReturn s n.val { i with data := payload } st
    match x.nt with
    | none => s
    | some (.refused i st) => if (blockStatus s).isSome then s else back s i st
    | some t =>
      let i := match t with
        | .refused i _ | .dispatch i _ | .admitted i .. => i
      if perr then back (detect s (pgVdt n.val) 3) i Status.poison.code
      else if ntLimit s n.val < payload.length then back s i Status.oversize.code
      else match t with
      | .dispatch i e =>
        (match tblFind x.dsp e with
         | some d =>
           if d.fsize < payload.length then back s i Status.oversize.code
           else mapSpan s n.val (fun y => { y with dsp := tblPut y.dsp e { d with queue := d.queue ++ [{ i with data := payload }] } })
         | none => back s i Status.denied.code)
      | .admitted i c ep key => sendNiAt s n.val c { i with data := payload } ep key
      | .refused .. => s)

/-- SPAN_EGRESS_ADMIT (11 R308, 18 R466): the span judges what waits for egress. -/
def execSpanEgressAdmit (n : Fin 18) (s : State) : Host.Outcome State Fault Refusal :=
  .next (trsSettle (egressScan s n.val (egressOrder (spanAt s n.val)) none))

/-! ### Outstanding requests and peers (11 R317, 18 R477, R480) -/

/-- RESPONSE_TIMEOUT (11 R317): RSP_TMO after its frame the request completes with RETRY; its peer becomes SILENT. -/
def execResponseTimeout (n : Fin 18) (idx : Fin 1024) (s : State) : Host.Outcome State Fault Refusal :=
  .next (match tblFind (spanAt s n.val).outst idx.val with
    | some o =>
      let s := completeOut (dropCount s n.val 0x0F4) n.val idx.val Status.retry.code []
      if (peerAt s n.val o.peer).st = 0 then peerState s n.val o.peer 1 else s
    | none => s)

/-- PEER_GONE_TIMEOUT (18 R477, R479). -/
def execPeerGoneTimeout (n : Fin 18) (peer : BitVec 14) (s : State) : Host.Outcome State Fault Refusal :=
  .next (onlyIf ((peerAt s n.val peer.toNat).st = 1) s
    (homeGone (memberGone (goneAll (peerState s n.val peer.toNat 2) n.val peer.toNat) peer.toNat) peer.toNat))

/-! ### The flow table (11 R297, R323) -/

/-- A flow command ends with its status. -/
def flowDone (s : State) (r : Role) (n : Nat) (st : Status) : State :=
  commitDone (setFld s (pgVdt n + 0x08C) 7 0 st.code) r (pgVdt n + 0x088)

/-- The staged fields. -/
def stagedFlow (s : State) (n : Nat) : Flow :=
  let a := rawReg s (pgVdt n + 0x07C)
  let b := rawReg s (pgVdt n + 0x080)
  { Flow.zero with
    kind := getBits a 1 0, dest := getBits a 3 2, ballast := getBits a 5 4, dscp := getBits a 11 6, saf := getBit a 12, peerId := getBits a 29 16
    peerPort := getBits b 4 0, inst := getBits b 15 8, keyId := getBits b 31 16, group := vReg s n 0x084 }

/-- The selected flow. -/
def flowIdx (s : State) (n : Nat) : Nat := getFld s (pgVdt n + 0x078) 11 0

/-- OPEN (11 R297): count and, for the same peer, the window stay; F becomes S (18 R471). -/
def flowOpen (s : State) (n i : Nat) (x : Flow) : State × Status :=
  let old := flowAt s n i
  if old.valid || x.kind = 3 || x.dest = 3 || (x.kind = 0 && x.peerId = s.dom.ownId) || (x.kind != 0 && !isTenant x.keyId) || (x.kind = 2 && x.dest != 2)
  then (s, .denied)
  else if (spanAt s n).rx.any (fun f => f.flow = i) || (spanAt s n).memQ.any (fun q => match q.1.src with | .remote _ _ f _ _ _ _ => f = i | _ => false)
  then (s, .retry)
  else
    let x := { x with valid := true, count := old.count, sent := old.sent, freed := old.sent }
    let x := if old.peerId = x.peerId then { x with high := old.high, bitmap := old.bitmap, wepoch := old.wepoch, rst := old.rst, told := old.told } else x
    (setFlow s n i x, .ok)

/-- OPEN of the selected flow with the staged fields. -/
def doFlowOpen (r : Role) (n : Nat) (s : State) : State :=
  let (s, st) := flowOpen s n (flowIdx s n) (stagedFlow s n)
  flowDone s r n st

/-- End a flow's dispatch entry at once; its payloads return with a status (14 R391). -/
def endDsp (s : State) (n e st : Nat) : State :=
  match tblFind (spanAt s n).dsp e with
  | some d =>
    let s := mapSpan s n (fun y => { y with dsp := tblDel y.dsp e })
    d.queue.foldl (fun t x => niReturn t n x st) s
  | none => s

/-- CLOSE (11 R297). -/
def doFlowClose (r : Role) (n : Nat) (s : State) : State :=
  let i := flowIdx s n
  let s := match dspOfFlow s n i with
    | some (e, _) => endDsp s n e Status.denied.code
    | none => s
  let s := mapSpan s n (fun x => { x with keys := x.keys.filter (fun k => k.flow != i) })
  flowDone (setFlow s n i { flowAt s n i with valid := false }) r n .ok

/-- LOAD (11 Table 11.14): the staged words are the entry's. -/
def doFlowLoad (r : Role) (n : Nat) (s : State) : State :=
  let x := flowAt s n (flowIdx s n)
  let a := x.kind + x.dest * 4 + x.ballast * 16 + x.dscp * 64 + b2n x.saf * 4096 + x.peerId * 65536
  let s := setReg s (pgVdt n + 0x07C) (BitVec.ofNat 32 a)
  let s := setReg s (pgVdt n + 0x080) (BitVec.ofNat 32 (x.peerPort + x.inst * 256 + x.keyId * 65536))
  flowDone (setReg s (pgVdt n + 0x084) (BitVec.ofNat 32 x.group)) r n .ok

/-- FLOW_CMD_OPEN (11 R297). -/
def execFlowCmdOpen (role : Role) (n : Fin 18) (s : State) : Host.Outcome State Fault Refusal :=
  .next (judgeGuarded s role (pgVdt n.val + 0x088) (doFlowOpen role n.val))

/-- FLOW_CMD_CLOSE (11 R297). -/
def execFlowCmdClose (role : Role) (n : Fin 18) (s : State) : Host.Outcome State Fault Refusal :=
  .next (judgeGuarded s role (pgVdt n.val + 0x088) (doFlowClose role n.val))

/-- FLOW_CMD_LOAD (11 R323). -/
def execFlowCmdLoad (role : Role) (n : Fin 18) (s : State) : Host.Outcome State Fault Refusal :=
  .next (judgeGuarded s role (pgVdt n.val + 0x088) (doFlowLoad role n.val))

/-! ### Credits (18 R472, R473) -/

/-- CREDIT_RETURN_DUE (18 R472): a count that advanced and was not told leaves in a dummy, once LT may send (03 R68). -/
def execCreditReturnDue (n : Fin 18) (flow : BitVec 12) (s : State) : Host.Outcome State Fault Refusal :=
  let f := flow.toNat
  let x := flowAt s n.val f
  .next (onlyIf (x.valid && x.kind = 0 && freedThrough s n.val f != x.told && !(spanAt s n.val).outQ.contains (.credit f)) s
    (match ltOpen s (fun _ => egressCredit s n.val f) with
     | (t, none) => t
     | (t, some _) => mapSpan t n.val (fun y => { y with outQ := y.outQ ++ [.credit f] })))

/-- CRED_TMO_EXPIRE (18 R473): a full window without an advance is released. -/
def execCredTmoExpire (n : Fin 18) (flow : BitVec 12) (s : State) : Host.Outcome State Fault Refusal :=
  let x := flowAt s n.val flow.toNat
  let w := windowOf s n.val x
  .next (onlyIf (x.valid && x.kind = 0 && w != 0 && w ≤ x.sent - x.freed) s
    (dropCount (setFlow s n.val flow.toNat { x with freed := x.sent }) n.val 0x164))

/-! ### Lane gauge (11 R320 to R322, 03 R83) -/

/-- Capacity of a gauge code in bytes per 10 µs window. -/
def gaugeCap (g : Nat) : Nat := 2000000 / 2 ^ g

/-- The bytes that an item waiting for egress will put on the wire, without its padding (11 R321). -/
def itemBytes (s : State) : TxItem → Nat
  | .fm e => ((engAt s e).ingress.map (fun q => 142 + (mreqData q).length)).getD 0
  | .flag q _ => 142 + (mreqData q).length
  | .rsp _ _ _ _ _ _ d => 142 + d.length
  | .grp _ _ _ _ _ _ d => 142 + d.length
  | .coh .. => 142
  | .writeCt _ _ _ _ _ d => 142 + d.length
  | .ni x => 142 + x.data.length
  | .credit _ => 142

/-- GAUGE_WINDOW (11 R321, R322): a 10 µs demand window of a span ends. -/
def execGaugeWindow (n : Fin 18) (s : State) : Host.Outcome State Fault Refusal :=
  .next (onlyIf (inService s (pgVdt n.val)) s (
    let v := n.val
    let g := (spanAt s v).gauge
    let cur := getFld s (pgVdt v + 0x040) 14 13
    let wide := gaugeFloor s v
    let narrow := max wide (getFld s (pgVdt v + 0x070) 3 2)
    let demand := max g.tx g.rx
    let low := if demand * 2 < gaugeCap (cur + 1) then g.low + 1 else 0
    let clean := g.clean + 1
    let upset := !g.integrity && getFld s (pgVdt v + 0x070) 15 8 ≤ g.errs && g.errs != 0 && cur < 3
    let calm := g.integrity && 100 ≤ clean
    let errs := if upset then 0 else g.errs
    let hold := (g.integrity || upset) && !calm
    let g' := { g with low := low, clean := clean, tx := 0, rx := 0, errs := errs, integrity := hold }
    let s := mapSpan s v (fun x => { x with gauge := g' })
    let waiting := (spanAt s v).outQ.foldl (fun a i => a + itemBytes s i) 0 + (spanAt s v).dsp.foldl (fun a d => a + (d.2.late.length * (d.2.fsize + 142))) 0
    if upset then gaugeAsk (gaugeOverride s v 3 true) v (cur + 1)
    else
      let s := if calm then gaugeOverride s v 3 false else s
      if (spanAt s v).gauge.integrity || g.sleep then s
      else if cur < wide then gaugeAsk s v wide
      else if narrow < cur then gaugeAsk s v narrow
      else if cur < narrow && 100 ≤ low then gaugeAsk s v (cur + 1)
      else if wide < cur && (gaugeCap cur * 8 < demand * 10 || 16384 < waiting) then gaugeAsk s v (cur - 1)
      else s))

/-- A request that is not acknowledged in time (03 R83): the reported gauge stays; GAUGE_TIMEOUT and the record; it will be repeated. -/
def gaugeLate (s : State) (n g : Nat) : State :=
  fireAs (mapSpan s n (fun x => { x with gauge := { x.gauge with req := none, repeats := some g } })) (pgVdt n) 5 rcLinkOverride none n 1 1

/-- GAUGE_ACK (03 R83): the MAC drives LK_GAUGE_ACK to the requested gauge. -/
def execGaugeAck (n : Fin 18) (s : State) : Host.Outcome State Fault Refusal :=
  .next (match (spanAt s n.val).gauge.req with
    | some g =>
      if injArmed s (pgVdt n.val) 5 then gaugeLate s n.val g
      else setFld (mapSpan s n.val (fun x => { x with gauge := { x.gauge with req := none, repeats := none } })) (pgVdt n.val + 0x040) 14 13 g
    | none => s)

/-- GAUGE_ACK_TIMEOUT (03 R83). -/
def execGaugeAckTimeout (n : Fin 18) (s : State) : Host.Outcome State Fault Refusal :=
  .next (match (spanAt s n.val).gauge.req with
    | some g => gaugeLate s n.val g
    | none => s)

/-- GAUGE_REQUEST_REPEAT (03 R83): 1 ms later the request is repeated. -/
def execGaugeRequestRepeat (n : Fin 18) (s : State) : Host.Outcome State Fault Refusal :=
  .next (match (spanAt s n.val).gauge.repeats with
    | some g => gaugeAsk (mapSpan s n.val (fun x => { x with gauge := { x.gauge with repeats := none } })) n.val g
    | none => s)

end Sys2Proof.Machine
end

