-- ==== Sys2Proof/Machine/Keys.lean ====
section
/-!
DEFINITION. Entropy and keys (08): ENT and its DRBG, the KVT commands, key loads, retirement, and the domain epoch keys (02 R38 to R41).
-/
namespace Sys2Proof.Machine

/-! ### ENT (06 R158, R159, 08 R225) -/

/-- A generate call is counted; with the 65,536th since the last instantiation or reseed the gathering of 512 samples begins (08 R225). -/
def countCall (s : State) : State :=
  let s := { s with ent := { s.ent with calls := s.ent.calls + 1 } }
  if 65536 ≤ s.ent.calls && !s.ent.reseeding then { s with ent := { s.ent with reseeding := true, reseedSamples := 0 } } else s

/-- One generate call of the DRBG (08 R225). -/
def drbg (s : State) (n : Nat) : Bytes × State :=
  let (b, s) := drawBytes s n
  (b, countCall s)

/-- A drawn integer from the DRBG. -/
def drbgNat (s : State) : Nat × State :=
  let (n, s) := drawNat s
  (n, countCall s)

/-- A failed sample set: after the fourth ENT is FAILED, otherwise it starts a new set (06 R158). -/
def failedSet (s : State) : State :=
  let s := incSat s (pgEnt + 0x044) 7 0 1
  let s := { s with ent := { s.ent with samples := 0, reseeding := false, reseedSamples := 0, drbg := none, window := [] } }
  if 4 ≤ getFld s (pgEnt + 0x044) 7 0 then setEnt s .failed else setEnt s .startup

/-- ENT_SAMPLE (08 R225): the continuous tests run on every sample; a failure stops the output and returns ENT to STARTUP as a failed set. A sample counts
toward the start-up set or the reseed that is being gathered. -/
def execEntSample (raw : Nat) (s : State) : Host.Outcome State Fault Refusal :=
  .next (onlyIf (s.ent.st = .startup || s.ent.st = .instantiating || s.ent.st = .ready) s
    (if Config.contTestFails s.ent.window raw || injArmed s pgEnt 1 then
       (let t := failedSet (incSat s (pgEnt + 0x044) 15 8 1)
        fireAs t pgEnt 1 rcEntFail none (getFld t (pgEnt + 0x044) 7 0) 0 0)
     else
       { s with ent := { s.ent with
         window := (s.ent.window ++ [raw]).drop (s.ent.window.length + 1 - 1024)
         samples := if s.ent.st = .startup then min 1024 (s.ent.samples + 1) else s.ent.samples
         reseedSamples := if s.ent.reseeding then min 512 (s.ent.reseedSamples + 1) else s.ent.reseedSamples } }))

/-- ENT_STARTUP_SET_DONE (06 R158): a set of 1,024 samples passes, or fails with STARTUP_FAIL; the fourth failure is recorded. -/
def execEntStartupSetDone (pass : Bool) (s : State) : Host.Outcome State Fault Refusal :=
  .next (onlyIf (s.ent.st = .startup && s.ent.samples = 1024) s
    (if pass && !injArmed s pgEnt 0 then { s with ent := { s.ent with st := .instantiating } }
     else
       let t := failedSet s
       if t.ent.st = .failed then fireAs t pgEnt 0 rcEntFail none (getFld t (pgEnt + 0x044) 7 0) 0 0 else fire t pgEnt 0))

/-- The boot nonce and the spans' first incarnations at the first READY after PORST_N (08 R203, 11 R300). -/
def drawBn (s : State) : State :=
  match s.kvt.bn with
  | some _ => s
  | none =>
    let (bn, s) := drbg s 32
    let s := setRegBit (deriveDkek { s with kvt := { s.kvt with bn := some bn } }) (pgKvt + 0x04C) 18 true
    (List.range 18).foldl (fun t n =>
      let (v, t) := drbgNat t
      setFld t (pgVdt n + 0x0F8) 7 0 (v % 0x100)) s

/-- The scrambling key and the mask generator's key (08 R212). -/
def drawScramble (s : State) : State :=
  match s.kvt.scramble with
  | some _ => s
  | none =>
    let (a, s) := drbgNat s
    let (b, s) := drbgNat s
    { s with kvt := { s.kvt with scramble := some a, maskGen := some b } }

/-! ### Key-generation commands (06 R159, 08 R222) -/

/-- The digest of the alias public keys in an origin record (08 Table 08.8a). -/
def aliasDigest (s : State) : Bytes :=
  match s.sbx.aliasKeys with
  | some (a, b) => Config.sha384 (Config.ecdsaPublic a ++ Config.mldsaPublic b)
  | none => Config.sha384 []

/-- The origin record (08 Table 08.8a). -/
def originRecord (s : State) (k ep policy : Nat) (owners dk : Bytes) : Bytes :=
  leBytes 2 1 ++ leBytes 2 k ++ leBytes 4 ep ++ leBytes 4 policy ++ leBytes 4 s.dom.epoch ++ leBytes 2 s.dom.ownId ++ zeros 2
    ++ leBytes 8 (now s) ++ zeros 4 ++ kCommit dk ++ owners ++ aliasDigest s ++ leBytes 8 s.kvt.serial ++ zeros 8

/-- A KEYED entry with a DEVICE blob is written with the status that its KTAB write gets; on OK the map bit is set and the pages under the KeyID
join the reset list (09 R242, R245), and KVT loads the key into a slot (08 Table 08.7). -/
def writeKeyed (s : State) (k ep policy : Nat) (owners dk : Bytes) (wst : Nat) : State :=
  let dkek := (s.kvt.dkek.getD Masked.zero).val
  let s := ktabWrite s k ⟨true, ep, 0, makeBlob dkek 1 k ep 0 policy owners dk⟩
  if wst = 0 then startLoad (keyedWritten s k) ⟨k, none, loadCharge s k none, false, false⟩ else s

/-- Four messages of 131 random bits (08 R202). -/
def drawMessages (s : State) : Nat → List (List Bool) × State
  | 0 => ([], s)
  | n + 1 =>
    let (l, s) := drawMessages s n
    let (b, s) := drbg s 17
    (l ++ [bitsOf 131 b], s)

/-- The helper words of an enrolment: 16 reads of the array, four drawn messages (08 R202). -/
def enrolHelper (s : State) : List Word × State :=
  let reads := (List.range 16).map (fun i => Config.pufRead (s.free + i))
  let (msgs, s) := drawMessages { s with free := s.free + 16 } 4
  (helperData (pufReference reads) msgs, s)

/-- Carry out a key-generation command once entropy is available (06 R159); GENERATE's KTAB write status stands in `arg1`. It leaves the queue and is in execution. -/
def runKeygen (s : State) (c : KCmd) : State :=
  let s := kvtHold { s with kvt := { s.kvt with queue := s.kvt.queue.erase c } } c
  if c.op = 0x01 then
    (if !resetRoom s c.keyId then kvtDone s c Status.retry.code
     else
       let (dk, s) := drbg s 32
       let policy := blobField c.inputs 0 4
       let owners := (c.inputs.drop 8).take 32
       let (s, wst) := ktabEnd s c.keyId c.arg1
       let s := writeKeyed s c.keyId c.arg0 policy owners dk wst
       if wst = 0 then
         (let s := { s with kvt := { s.kvt with serial := s.kvt.serial + 1 } }
          kvtDone (putWords s (pgKvt + 0x800) (originRecord s c.keyId c.arg0 policy owners dk)) c 0)
       else kvtDone s c wst)
  else if c.op = 0x08 then
    (let (helper, s) := enrolHelper s
     startWdrCell s (.enrol 0 0 helper))
  else if c.op = 0x10 then
    (let (a, s) := drbg s 48
     let (b, s) := drbg s 64
     let s := { s with kvt := { s.kvt with join := ⟨some a, some b, none, none, none⟩ } }
     kvtDone (putWords s (pgKvt + 0x800) (Config.ecdhPublic a ++ Config.kemPublic b)) c 0)
  else if c.op = 0x11 then
    (let (a, s) := drbg s 48
     let (n, s) := drbgNat s
     match Config.ecdhShared a (c.inputs.take 96), Config.kemEncaps (c.inputs.drop 96) n with
     | some ss, some (ct, kss) =>
       let s := { s with kvt := { s.kvt with join := ⟨some a, none, some ss, some kss, none⟩ } }
       kvtDone (putWords s (pgKvt + 0x800) (Config.ecdhPublic a ++ ct)) c 0
     | _, _ => kvtDone s c Status.denied.code)
  else if c.op = 0x14 then
    (let (k, s) := drbg s 32
     let (k, s) := maskKey s k
     kvtDone { s with kvt := { s.kvt with pendingKey := some ⟨c.arg0, k⟩ } } c 0)
  else kvtDone s c Status.denied.code

/-- Serve the queue in order of arrival while ENT is READY and no command is in execution (06 R159, 08 R222). -/
def serveKeygen (s : State) : State :=
  s.kvt.queue.foldl (fun t c => if t.ent.st = .ready && t.kvt.cmd.isNone then runKeygen t c else t) s

/-- A command that needs entropy: served behind the queue, queued, or refused (06 R159). A queued command leaves BUSY 0: it is not in execution yet (08 Table 08.9). -/
def keygen (s : State) (c : KCmd) : State :=
  if s.ent.st = .failed then kvtDone s c Status.notReady.code
  else if s.ent.st = .ready && s.kvt.queue = [] then runKeygen s c
  else if 64 ≤ s.kvt.queue.length then kvtDone s c Status.retry.code
  else serveKeygen { s with kvt := { s.kvt with queue := s.kvt.queue ++ [c] } }

/-- DRBG_INSTANTIATED (06 R158): READY; BN and the scrambling key are drawn (08 R203, R212), the queue is served in order (06 R159), waiting
loads start. -/
def execDrbgInstantiated (s : State) : Host.Outcome State Fault Refusal :=
  .next (onlyIf (s.ent.st = .instantiating) s
    (let (n, s) := drawNat s
     let s := setEnt { s with ent := { s.ent with drbg := some n, calls := 0, samples := 0 } } .ready
     let s := fillInternal (drawScramble (drawBn s))
     settleAll (serveLoads (serveKeygen s))))

/-- KEYGEN_QUEUE_TIMEOUT (06 R159): the oldest queued command completes with NOT_READY. -/
def execKeygenQueueTimeout (s : State) : Host.Outcome State Fault Refusal :=
  .next (match s.kvt.queue with
    | c :: q => kvtReport { s with kvt := { s.kvt with queue := q } } c Status.notReady.code
    | [] => s)

/-- A read of ENT_DRBG_DATA once it is judged (06 R159, 08 R225). -/
def doDrbgRead (r : Role) (s : State) : State :=
  match s.ent.st with
  | .ready =>
    let (b, s) := drbg s 4
    regDone s r (pgEnt + 0x040) .ok (BitVec.ofNat 32 (leNat (b.take 4)))
  | _ => regDone s r (pgEnt + 0x040) .notReady 0

/-- ENT_DRBG_READ (08 R225). -/
def execEntDrbgRead (role : Role) (s : State) : Host.Outcome State Fault Refusal :=
  .next (judge s role (pgEnt + 0x040) 4 false none (doDrbgRead role))

/-- DRBG_RESEED_DUE (08 R225): 512 samples are gathered; the old state goes on serving. -/
def execDrbgReseedDue (s : State) : Host.Outcome State Fault Refusal :=
  .next (onlyIf (s.ent.st = .ready && !s.ent.reseeding) s { s with ent := { s.ent with reseeding := true, reseedSamples := 0 } })

/-- DRBG_RESEED_DONE (08 R225). -/
def execDrbgReseedDone (s : State) : Host.Outcome State Fault Refusal :=
  .next (onlyIf (s.ent.st = .ready && s.ent.reseeding && s.ent.reseedSamples = 512) s
    (let (n, s) := drawNat s
     incWrap { s with ent := { s.ent with drbg := some n, calls := 0, reseeding := false, reseedSamples := 0 } } (pgEnt + 0x044) 31 16 1))

/-! ### The command register (08 R222, R223) -/

/-- The operations that 07 R181 refuses after a life-cycle zeroise: loads, generations and derivations. -/
def derives (op : Nat) : Bool := !([0x05, 0x07, 0x17].contains op)

/-- A write of KVT_CMD with an operation, judged; `k` carries the operation out. `n` is the number of input bytes it leaves in XBUF. -/
def kvtCmd (r : Role) (op seq keyId n : Nat) (k : KCmd → State → State) (s : State) : State :=
  judgeGuarded s r (pgKvt + 0x040) (fun s =>
    if regBit s (pgKvt + 0x04C) 16 then regDone s r (pgKvt + 0x040) .retry 0
    else
      let s := commitDone s r (pgKvt + 0x040)
      let f := r.kind = .f
      let c : KCmd := ⟨op, seq, if f then keyId else 0, (rawReg s (pgKvt + 0x044)).toNat, 0, xbuf s n⟩
      if f != (op != 0x08) then kvtDone s c Status.denied.code
      else
        let s := clearXbuf s n
        if s.kvt.refuseAll && derives op then kvtDone s c Status.denied.code
        else if s.kvt.zeroised then kvtDone s c Status.notReady.code
        else k c s)

/-- GENERATE's judgement (08 R561). -/
def doGenerate (kt : KtabRead) (wst : Status) (c : KCmd) (s : State) : State :=
  let b := c.inputs
  if !isTenant c.keyId || allZero ((b.drop 8).take 32) || 4 ≤ blobField b 0 4 || blobField b 4 4 != 0 then kvtDone s c Status.denied.code
  else if !ktabValid s || s.kvt.dkek.isNone then kvtDone s c Status.notReady.code
  else match kentRead s c.keyId kt with
    | (s, .inl st) => kvtDone s c st
    | (s, .inr none) => keygen s { c with arg1 := wst.code }
    | (s, .inr (some x)) =>
      if x.keyed || c.arg0 ≤ x.kidEpoch then kvtDone s c Status.denied.code else keygen s { c with arg1 := wst.code }

/-- GENERATE (08 R222, R561). `kt` is what the KTAB read gives, `wst` the status of the KTAB write. -/
def execGenerate (role : Role) (seq : BitVec 8) (keyId : BitVec 16) (kt : KtabRead) (wst : Status) (s : State) : Host.Outcome State Fault Refusal :=
  .next (kvtCmd role 0x01 seq.toNat keyId.toNat 40 (doGenerate kt wst) s)

/-- EXPORT's judgement (08 R561). -/
def doExport (kt : KtabRead) (c : KCmd) (s : State) : State :=
  if !isTenant c.keyId then kvtDone s c Status.denied.code
  else if !ktabValid s then kvtDone s c Status.notReady.code
  else match s.kvt.dkek with
  | none => kvtDone s c Status.notReady.code
  | some dkek =>
    match kentRead s c.keyId kt with
    | (s, .inl st) => kvtDone s c st
    | (s, .inr none) => kvtDone s c Status.denied.code
    | (s, .inr (some x)) =>
      if !x.keyed || gatewayOpen s || !blobOuterOk x.blob 1 then kvtDone s c Status.denied.code
      else match openBlob dkek.val x.blob with
        | .inl n => kvtDone (unwrapFail s c.keyId 1 n) c Status.authFail.code
        | .inr (policy, owners, dk) =>
          if policy % 2 = 0 then kvtDone s c Status.denied.code
          else match loadedEpoch s c.arg0 with
            | none => kvtDone s c Status.epochStale.code
            | some (_, e) =>
              kvtDone (putWords s (pgKvt + 0x800) (makeBlob (kDomkek e.key.val e.num) 2 c.keyId x.kidEpoch e.num policy owners dk)) c 0

/-- EXPORT (08 R222, R561). -/
def execExport (role : Role) (seq : BitVec 8) (keyId : BitVec 16) (kt : KtabRead) (s : State) : Host.Outcome State Fault Refusal :=
  .next (kvtCmd role 0x02 seq.toNat keyId.toNat 0 (doExport kt) s)

/-- IMPORT's judgement (08 R561); its KeyID is the blob's. -/
def doImport (kt : KtabRead) (wst : Status) (c : KCmd) (s : State) : State :=
  let b := c.inputs
  let k := blobField b 4 2
  let ea := blobField b 8 4
  let c := { c with keyId := k }
  if !blobOuterOk b 2 || !isTenant k || gatewayOpen s then kvtDone s c Status.denied.code
  else if !ktabValid s || s.kvt.dkek.isNone then kvtDone s c Status.notReady.code
  else match kentRead s k kt with
    | (s, .inl st) => kvtDone s c st
    | (s, .inr x) =>
      if (x.map (fun y => decide (ea ≤ y.kidEpoch))).getD false then kvtDone s c Status.denied.code
      else match loadedEpoch s (blobField b 12 4) with
        | none => kvtDone s c Status.epochStale.code
        | some (_, e) =>
          match openBlob (kDomkek e.key.val e.num) b with
          | .inl n => kvtDone (unwrapFail s k 2 n) c Status.authFail.code
          | .inr (policy, owners, dk) =>
            if !resetRoom s k then kvtDone s c Status.retry.code
            else
              let (s, w) := ktabEnd s k wst.code
              kvtDone (writeKeyed s k ea policy owners dk w) c w

/-- IMPORT (08 R222, R561). -/
def execImport (role : Role) (seq : BitVec 8) (kt : KtabRead) (wst : Status) (s : State) : Host.Outcome State Fault Refusal :=
  .next (kvtCmd role 0x03 seq.toNat 0 112 (doImport kt wst) s)

/-- Whether no slot of a charge can ever be chosen before an UNPIN or a larger share: it has no slot, or every slot of it is pinned (08 R216). -/
def allPinned (s : State) (c : Charge) : Bool :=
  chargeSize s c ≤ slotsHeld s c && (s.kvt.slots.filter (fun x => x.2.charge = c)).all (fun x => x.2.pinned)

/-- LOAD's judgement (08 R216, R217): RETRY where every slot of the share is pinned; otherwise it waits as a miss does. -/
def doLoad (c : KCmd) (s : State) : State :=
  let pin := regBit s (pgKvt + 0x048) 0
  if !isTenant c.keyId then kvtDone s c Status.denied.code
  else if isRetiring s c.keyId then kvtDone s c Status.keyRetired.code
  else match slotOf s c.keyId with
    | some (n, x) =>
      if x.st = .live then kvtDone (touchSlot (putSlot s n { x with pinned := x.pinned || pin }) c.keyId) c 0
      else startLoad (kvtHold s c) ⟨c.keyId, none, x.charge, true, pin⟩
    | none =>
      match loadRefused s c.keyId with
      | some st => kvtDone s c st
      | none =>
        let ch := loadCharge s c.keyId none
        if (loadOf s c.keyId).isNone && allPinned s ch then kvtDone s c Status.retry.code
        else startLoad (kvtHold s c) ⟨c.keyId, none, ch, true, pin⟩

/-- LOAD (08 R217, R222). -/
def execLoad (role : Role) (seq : BitVec 8) (keyId : BitVec 16) (s : State) : Host.Outcome State Fault Refusal :=
  .next (kvtCmd role 0x04 seq.toNat keyId.toNat 0 doLoad s)

/-- UNPIN's effect (08 R222); a miss that waited for an unpinned slot may start. -/
def doUnpin (c : KCmd) (s : State) : State :=
  match slotOf s c.keyId with
  | some (n, x) => if x.st = .live then serveLoads (kvtDone (putSlot s n { x with pinned := false }) c 0) else kvtDone s c Status.denied.code
  | none => kvtDone s c Status.denied.code

/-- UNPIN (08 R222). -/
def execUnpin (role : Role) (seq : BitVec 8) (keyId : BitVec 16) (s : State) : Host.Outcome State Fault Refusal :=
  .next (kvtCmd role 0x05 seq.toNat keyId.toNat 0 doUnpin s)

/-- STEP stage 1 (08 R218): the new SK into the inactive bank, the other keys copied, and the KTAB entry written with STEP_EPOCH + 1. -/
def doStep (kt : KtabRead) (c : KCmd) (s : State) : State :=
  if !isTenant c.keyId || !mapBit s c.keyId then kvtDone s c Status.denied.code
  else if isRetiring s c.keyId then kvtDone s c Status.keyRetired.code
  else if !ktabValid s then kvtDone s c Status.notReady.code
  else match s.kvt.dkek with
  | none => kvtDone s c Status.notReady.code
  | some dkek =>
    match kentRead s c.keyId kt with
    | (s, .inl st) => kvtDone s c st
    | (s, .inr none) => kvtDone s c Status.denied.code
    | (s, .inr (some x)) =>
      if !x.keyed || x.stepEpoch = 0xFFFFFFFF then kvtDone s c Status.denied.code
      else
        let write (s : State) : State := kvtHold (ktabWrite s c.keyId { x with stepEpoch := x.stepEpoch + 1 }) { c with arg0 := x.stepEpoch + 1 }
        match keyedSlot s c.keyId with
        | none => write s
        | some (n, sl) =>
          if gatewayOpen s || !blobOuterOk x.blob 1 then kvtDone s c Status.denied.code
          else match openBlob dkek.val x.blob with
            | .inl m => kvtDone (unwrapFail s c.keyId 1 m) c Status.authFail.code
            | .inr (_, _, dk) =>
              let (sk, s) := maskKey s (kStep dk c.keyId sl.kidEpoch (x.stepEpoch + 1))
              let banks := sl.banks.map (fun b => if sl.active then (⟨b.2.ek, b.2.tk, sk, b.2.gk⟩, b.2) else (b.1, ⟨b.1.ek, b.1.tk, sk, b.1.gk⟩))
              write (putSlot s n { sl with banks := banks })

/-- KVT_STEP (08 R218, R222). -/
def execKvtStep (role : Role) (seq : BitVec 8) (keyId : BitVec 16) (kt : KtabRead) (s : State) : Host.Outcome State Fault Refusal :=
  .next (kvtCmd role 0x06 seq.toNat keyId.toNat 0 (doStep kt) s)

/-- A bank pair with the inactive bank erased (08 R218). -/
def eraseInactive (active : Bool) (b : Bank × Bank) : Bank × Bank := if active then (Bank.empty, b.2) else (b.1, Bank.empty)

/-- A STEP ends with the status of its KTAB write: on OK the active bank flips and the old one is erased (08 R218, 01 R25). The mailbox command
that asked for it ends too (17 Table 17.2). -/
def stepEnds (st : Nat) (c : KCmd) (s : State) : State :=
  let s := match keyedSlot s c.keyId with
    | some (n, x) =>
      if st = 0 then putSlot s n { x with active := !x.active, stepEpoch := c.arg0, banks := x.banks.map (eraseInactive (!x.active)) }
      else putSlot s n { x with banks := x.banks.map (eraseInactive x.active) }
    | none => s
  kvtDone s c st

/-- STEP_KTAB_WRITE_DONE (08 R218). -/
def execStepKtabWriteDone (st : Status) (s : State) : Host.Outcome State Fault Refusal :=
  .next (match s.kvt.cmd with
    | some c =>
      if c.op = 0x06 then
        (let (s, w) := ktabEnd s c.keyId st.code
         let s := stepEnds w c s
         if c.arg1 = 0 then s else mbDone s (c.arg1 - 1) true 0x10 c.seq w)
      else s
    | none => s)

/-! ### Retirement (08 R219) -/

/-- RETIRE's judgement (08 R219); a repeated RETIRE after a failed KTAB write writes the entry again. -/
def doRetire (c : KCmd) (s : State) : State :=
  if !isTenant c.keyId || !mapBit s c.keyId then kvtDone s c Status.denied.code
  else match tblFind s.kvt.retiring c.keyId with
    | some .ktabFailed => kvtHold { s with kvt := { s.kvt with retiring := tblPut s.kvt.retiring c.keyId .writeback } } c
    | some .drain | some .writeback | some .ktab => kvtHold s c
    | some .orphan | none => retireCommit (kvtHold s c) c.keyId

/-- RETIRE (08 R219, R222). -/
def execRetire (role : Role) (seq : BitVec 8) (keyId : BitVec 16) (s : State) : Host.Outcome State Fault Refusal :=
  .next (kvtCmd role 0x07 seq.toNat keyId.toNat 0 doRetire s)

/-- Whether an admitted request under a KeyID remains (08 R219 step 2, 01 R26): in an engine, outstanding at a span, or retained for a replay. -/
def admittedUnder (s : State) (k : Nat) : Bool :=
  s.engs.any (fun e => e.2.slots.any (fun a => a.2.snap.keyId = k))
    || s.spans.any (fun x => x.2.outst.any (fun o => o.2.req.keyId = k))
    || s.wrc.replays.any (fun r => r.items.any (fun a => a.2.snap.keyId = k))

/-- RETIRE_DRAIN_DONE (08 R219 step 3): CTC writes back the KeyID's dirty lines; those without a LIVE slot are discarded. -/
def execRetireDrainDone (keyId : BitVec 16) (s : State) : Host.Outcome State Fault Refusal :=
  .next (match tblFind s.kvt.retiring keyId.toNat with
    | some .drain =>
      if admittedUnder s keyId.toNat then s
      else writeBackKey { s with kvt := { s.kvt with retiring := tblPut s.kvt.retiring keyId.toNat .writeback } } keyId.toNat
    | _ => s)

/-- A RETIRE completes: the command where one is in execution, otherwise only the record; the sequences of instances that wait for it go on (17 R449, R461). -/
def retireDone (s : State) (k st : Nat) : State :=
  let s := match s.kvt.cmd with
    | some c => if c.op = 0x07 && c.keyId = k then kvtDone s c st else s
    | none => record s pgKvt (rcKvtCommand (st != 0)) 0x07 st k
  serveLoads (imuRetired s k st)

/-- The slot of a retired KeyID is erased (08 R219 step 5). -/
def retireErase (s : State) (k : Nat) : State := match slotOf s k with
  | some (n, _) => dropSlot s n
  | none => s

/-- A retirement whose table access fails: RETIRE completes with the status, the slot is erased, and the KeyID stays retiring for TTB until a repeated
RETIRE writes the entry (08 R208, R219). -/
def retireFails (s : State) (k st : Nat) : State :=
  let s := retireErase s k
  retireDone { s with kvt := { s.kvt with retiring := tblPut s.kvt.retiring k .ktabFailed } } k st

/-- The RETIRED entry stands: the KeyID is unbound, its map bit and its reset ranges clear (08 R219, 09 R242, R245). -/
def retireStands (s : State) (k : Nat) : State :=
  let s := retiredWritten { s with kvt := { s.kvt with retiring := tblDel s.kvt.retiring k } } k
  { s with imu := { s.imu with binds := tblDel s.imu.binds k } }

/-- RETIRE_WRITEBACK_DONE (08 R219 steps 3, 4): a line that is still dirty and can be written goes back, the KeyID's lines are invalidated, and
KVT rewrites the entry RETIRED with KID_EPOCH kept: the slot's, or the entry's own where no slot is left. A failed read of the entry ends the command with its status (R208). -/
def execRetireWritebackDone (keyId : BitVec 16) (kt : KtabRead) (s : State) : Host.Outcome State Fault Refusal :=
  let k := keyId.toNat
  .next (match tblFind s.kvt.retiring k with
    | some .writeback =>
      let s := invalidateKey (writeBackKey s k) k
      let write (s : State) (ep : Nat) : State := ktabWrite { s with kvt := { s.kvt with retiring := tblPut s.kvt.retiring k .ktab } } k ⟨false, ep, 0, []⟩
      (match slotOf s k with
       | some (_, x) => write s x.kidEpoch
       | none => match kentRead s k kt with
         | (s, .inr (some x)) => write s x.kidEpoch
         | (s, .inr none) => retireFails s k Status.authFail.code
         | (s, .inl st) => retireFails s k st)
    | _ => s)

/-- RETIRE_KTAB_WRITE_DONE (08 R219 step 5): the slot is erased; on OK the KeyID is unbound and its map bit and reset ranges clear, on another
status the KeyID stays retiring. The write of a retirement that a reset or a zeroise ended still makes the entry RETIRED. -/
def execRetireKtabWriteDone (keyId : BitVec 16) (st : Status) (s : State) : Host.Outcome State Fault Refusal :=
  let k := keyId.toNat
  .next (match tblFind s.kvt.retiring k, ktabEnd s k st.code with
    | some .ktab, (s, w) => if w = 0 then retireDone (retireStands (retireErase s k) k) k 0 else retireFails s k w
    | some .orphan, (s, w) =>
      if w = 0 then retireStands (retireErase s k) k else { s with kvt := { s.kvt with retiring := tblDel s.kvt.retiring k } }
    | _, _ => s)

/-! ### Enrolment (08 R202) -/

/-- ENROL's judgement (08 R202): MAKER, and every helper word reads zero. -/
def doEnrol (c : KCmd) (s : State) : State :=
  if s.lco.lc != .maker || (List.range 2053).any (fun w => otpWord s (0x100 + w) != 0) then kvtDone s c Status.denied.code
  else keygen s c

/-- ENROL (08 R202). -/
def execEnrol (role : Role) (seq : BitVec 8) (s : State) : Host.Outcome State Fault Refusal :=
  .next (kvtCmd role 0x08 seq.toNat 0 0 doEnrol s)

/-- ENROL_COMPLETE (08 R202): the words are programmed, or one failed its eighth verify. -/
def execEnrolComplete (s : State) : Host.Outcome State Fault Refusal :=
  .next (match s.lco.op with
    | some (.enrolEnd ok) =>
      let s := opOver s
      (match s.kvt.cmd with
       | some c => if c.op = 0x08 then serveKeygen (kvtDone s c (if ok then 0 else Status.aborted.code)) else s
       | none => s)
    | _ => s)

/-! ### Join and epochs (08 R222, 02 R38 to R41) -/

/-- JOIN_KEYGEN (08 R222). -/
def execJoinKeygen (role : Role) (seq : BitVec 8) (s : State) : Host.Outcome State Fault Refusal :=
  .next (kvtCmd role 0x10 seq.toNat 0 0 (fun c s => keygen s c) s)

/-- JOIN_RESPOND (08 R222). -/
def execJoinRespond (role : Role) (seq : BitVec 8) (s : State) : Host.Outcome State Fault Refusal :=
  .next (kvtCmd role 0x11 seq.toNat 0 1664 (fun c s => keygen s c) s)

/-- JOIN_DECAP's effect (08 R222): a key that is not a point is refused; a ciphertext that does not decapsulate yields the rejection secret. -/
def doJoinDecap (c : KCmd) (s : State) : State :=
  match s.kvt.join.ecdh, s.kvt.join.kem with
  | some a, some b =>
    (match Config.ecdhShared a (c.inputs.take 96) with
     | some ss =>
       let kss := (Config.kemDecaps b ((c.inputs.drop 96).take 1568)).getD []
       kvtDone { s with kvt := { s.kvt with join := { s.kvt.join with ssEcdh := some ss, ssKem := some kss } } } c 0
     | none => kvtDone s c Status.denied.code)
  | _, _ => kvtDone s c Status.denied.code

/-- JOIN_DECAP (08 R222). -/
def execJoinDecap (role : Role) (seq : BitVec 8) (s : State) : Host.Outcome State Fault Refusal :=
  .next (kvtCmd role 0x12 seq.toNat 0 1664 doJoinDecap s)

/-- JOIN_FINISH's effect (08 R222): JTK derived, the secrets and ephemeral keys erased. -/
def doJoinFinish (c : KCmd) (s : State) : State :=
  match s.kvt.join.ssEcdh, s.kvt.join.ssKem with
  | some a, some b =>
    let (k, s) := maskKey s (kJtk b a (c.inputs.take 48))
    kvtDone { s with kvt := { s.kvt with join := { JoinSlot.empty with jtk := some k } } } c 0
  | _, _ => kvtDone s c Status.denied.code

/-- JOIN_FINISH (08 R222). -/
def execJoinFinish (role : Role) (seq : BitVec 8) (s : State) : Host.Outcome State Fault Refusal :=
  .next (kvtCmd role 0x13 seq.toNat 0 48 doJoinFinish s)

/-- The refusal of an epoch is recorded (02 R38, 09 R231). -/
def epochRefused (s : State) (e st : Nat) : State := record s pgKvt rcEpochRefused e s.dom.epoch st

/-- EPOCH_GENERATE's judgement (08 R222). -/
def doEpochGenerate (c : KCmd) (s : State) : State :=
  if c.arg0 ≤ s.dom.epoch then kvtDone (epochRefused s c.arg0 Status.epochStale.code) c Status.epochStale.code else keygen s c

/-- EPOCH_GENERATE (08 R222). -/
def execEpochGenerate (role : Role) (seq : BitVec 8) (s : State) : Host.Outcome State Fault Refusal :=
  .next (kvtCmd role 0x14 seq.toNat 0 0 doEpochGenerate s)

/-- The epoch key of a number that KVT holds, pending or loaded. -/
def heldEpoch (s : State) (e : Nat) : Option EpochKey :=
  match s.kvt.pendingKey with
  | some x => if x.num = e then some x else (loadedEpoch s e).map Prod.snd
  | none => (loadedEpoch s e).map Prod.snd

/-- Erase JTK with its one use (08 R222). -/
def dropJtk (s : State) : State := { s with kvt := { s.kvt with join := { s.kvt.join with jtk := none } } }

/-- EPOCH_WRAP's effect (08 R222). -/
def doEpochWrap (c : KCmd) (s : State) : State :=
  match s.kvt.join.jtk, heldEpoch s c.arg0 with
  | some jtk, some e =>
    kvtDone (dropJtk (putWords s (pgKvt + 0x800) (makeBlob jtk.val 3 0 e.num 0 0 (zeros 32) e.key.val))) c 0
  | _, _ => kvtDone s c Status.denied.code

/-- EPOCH_WRAP (08 R222). -/
def execEpochWrap (role : Role) (seq : BitVec 8) (s : State) : Host.Outcome State Fault Refusal :=
  .next (kvtCmd role 0x15 seq.toNat 0 0 doEpochWrap s)

/-- A new epoch key is loaded beside the current one (02 R40 phase 1). -/
def loadEpochKey (s : State) (e : EpochKey) : State := setEpochKey s (if s.kvt.pos0.isNone then 0 else 1) (some e)

/-- EPOCH_LOAD's judgement (02 R38, R41, 08 R222). -/
def doEpochLoad (c : KCmd) (s : State) : State :=
  if s.kvt.pos0.isSome && s.kvt.pos1.isSome then kvtDone s c Status.retry.code
  else
    let stale (e : Nat) : Bool := e ≤ s.dom.epoch || (loadedEpoch s e).isSome
    if regBit s (pgKvt + 0x048) 1 then
      match s.kvt.pendingKey with
      | some e =>
        if stale e.num then kvtDone (epochRefused s e.num Status.epochStale.code) c Status.epochStale.code
        else kvtDone (loadEpochKey { s with kvt := { s.kvt with pendingKey := none } } e) c 0
      | none => kvtDone s c Status.authFail.code
    else
      let b := c.inputs
      let e := blobField b 8 4
      if stale e then kvtDone (epochRefused s e Status.epochStale.code) c Status.epochStale.code
      else match s.kvt.join.jtk with
        | none => kvtDone s c Status.authFail.code
        | some jtk =>
          if !blobOuterOk b 3 then kvtDone (dropJtk s) c Status.authFail.code
          else match openBlob jtk.val b with
            | .inl n => kvtDone (dropJtk (unwrapFail s 0 3 n)) c Status.authFail.code
            | .inr (_, _, k) =>
              let (k, s) := maskKey s k
              kvtDone (dropJtk (loadEpochKey s ⟨e, k⟩)) c 0

/-- EPOCH_LOAD (02 R40 phase 1, 08 R222). -/
def execEpochLoad (role : Role) (seq : BitVec 8) (s : State) : Host.Outcome State Fault Refusal :=
  .next (kvtCmd role 0x16 seq.toNat 0 112 doEpochLoad s)

/-- EPOCH_SEND's effect (02 R40 phase 2, 09 R231, 18 R477): the key is designated for sending, and the configuration, accelerator ID, pod and members
of the plan take effect. An epoch that is not newer than the current one is refused (R38). -/
def doEpochSend (c : KCmd) (s : State) : State :=
  match loadedEpoch s c.arg0 with
  | none => kvtDone s c Status.denied.code
  | some (p, e) =>
    if !isNewer s e then kvtDone (epochRefused s e.num Status.epochStale.code) c Status.epochStale.code
    else if s.dom.nextOwnId != s.dom.ownId && s.anchor.kmap.any (fun x => x.2) then
      kvtDone (epochRefused s e.num Status.denied.code) c Status.denied.code
    else
      let d := s.dom
      let s := refreshEpochs { s with
        kvt := { s.kvt with sendPos := p }
        dom := { d with epoch := e.num, ownId := d.nextOwnId, pod := d.nextPod, config := d.nextConfig, members := d.nextMembers } }
      kvtDone (epochSent s) c 0

/-- EPOCH_SEND (02 R40 phase 2, 08 R222). -/
def execEpochSend (role : Role) (seq : BitVec 8) (s : State) : Host.Outcome State Fault Refusal :=
  .next (kvtCmd role 0x17 seq.toNat 0 0 doEpochSend s)

/-- EPOCH_KEY_ERASE (02 R40, 08 R207): 2 ms after phase 2 the old key goes, with its pair keys and its member map. -/
def execEpochKeyErase (s : State) : Host.Outcome State Fault Refusal :=
  .next (match olderPos s with
    | some p => epochErased (eraseEpoch s p) p
    | none => s)

/-! ### Key loads (08 R215, R217) -/

/-- A load ends with the slot LIVE (08 Table 08.7); a LOAD command completes, lines that a parity failure left dirty go back (R214), waiting misses and
fills go on. -/
def loadLive (s : State) (l : Load) (n : Nat) (x : Kent) (policy : Nat) (dk : Bytes) : State :=
  let (b, s) := makeBank s dk l.keyId x.kidEpoch x.stepEpoch
  let s := { s with kvt := { s.kvt with loads := s.kvt.loads.filter (fun y => y.keyId != l.keyId), useClock := s.kvt.useClock + 1 } }
  let s := putSlot s n ⟨l.keyId, .live, some (b, b), false, l.pin, l.charge, s.kvt.useClock, x.kidEpoch, x.stepEpoch, policy⟩
  let s := match s.kvt.cmd with
    | some c => if l.cmd && c.op = 4 && c.keyId = l.keyId then kvtDone s c 0 else s
    | none => s
  serveLoads (settleAll (writeBackKey s l.keyId))

/-- KEY_LOAD_DONE (08 R208, R210, R215, R217): the entry is read and its blob opened. -/
def execKeyLoadDone (keyId : BitVec 16) (kt : KtabRead) (s : State) : Host.Outcome State Fault Refusal :=
  let k := keyId.toNat
  .next (match loadOf s k with
    | none => s
    | some l =>
      match l.slot with
      | none => s
      | some n => spansGoOn <|
        match kentRead s k kt with
        | (s, .inl st) => loadEnds s k st
        | (s, .inr none) => loadEnds s k Status.denied.code
        | (s, .inr (some x)) =>
          if !x.keyed || gatewayOpen s then loadEnds s k Status.denied.code
          else if !blobOuterOk x.blob 1 then loadEnds s k Status.authFail.code
          else
            match openBlob (s.kvt.dkek.getD Masked.zero).val x.blob with
            | .inl m => loadEnds (unwrapFail s k 1 m) k Status.authFail.code
            | .inr (policy, _, dk) =>
              if blobField x.blob 4 2 = k && blobField x.blob 8 4 = x.kidEpoch && !injArmed s pgKvt 1 then loadLive s l n x policy dk
              else loadEnds (unwrapFail s k 1 4) k Status.authFail.code)

/-- KEY_LOAD_WAIT_TIMEOUT (08 R203, R212): a load has waited 5 ms for BN or a scrambling key. -/
def execKeyLoadWaitTimeout (keyId : BitVec 16) (s : State) : Host.Outcome State Fault Refusal :=
  .next (match loadOf s keyId.toNat with
    | some l => if l.slot.isNone && loadBlocked s then spansGoOn (loadEnds s keyId.toNat Status.notReady.code) else s
    | none => s)

/-- A masked key under another mask (08 R212). -/
def Masked.remask (k : Masked) (r : Bytes) : Masked :=
  ⟨xorBytes k.m r, xorBytes k.x r, shareParity (xorBytes k.m r) ++ shareParity (xorBytes k.x r)⟩

/-- A bank under another mask. -/
def Bank.remask (b : Bank) (r : Bytes) : Bank := ⟨b.ek.remask r, b.tk.remask r, b.sk.remask r, b.gk.remask r⟩

/-- SLOT_REMASK (08 R212): the next slot, round-robin over the 8,192 hot and 32 internal slots. -/
def execSlotRemask (s : State) : Host.Outcome State Fault Refusal :=
  .next (onlyIf (domUp s 1 && s.kvt.maskGen.isSome) s
    (let (r, s) := drawBytes s 32
     let n := s.kvt.remask
     let s := { s with kvt := { s.kvt with remask := (n + 1) % 8224 } }
     if n < 8192 then
       (match tblFind s.kvt.slots n with
        | some x => putSlot s n { x with banks := x.banks.map (fun b => (b.1.remask r, b.2.remask r)) }
        | none => s)
     else match tblFind s.kvt.internal (n - 8192) with
       | some b => { s with kvt := { s.kvt with internal := tblPut s.kvt.internal (n - 8192) (b.1.remask r, b.2.remask r) } }
       | none => s))

end Sys2Proof.Machine
end

