-- ==== Sys2Proof/Machine/Attest.lean ====
section
/-!
DEFINITION. SBX's DOE service: SPDM, attestation, sessions, bounce channels, IDE keys, and the domain join (15 R393 to R400, R408 to R413). What the published
standards lay down stands behind the opaque functions of Config; what a message says once it is opened comes as operands.
-/
namespace Sys2Proof.Machine

/-! ### Objects (15 R393) -/

/-- DOE_DISCOVERY (15 R393, 06 R160): entry `index` of the objects served, with the index of the next. -/
def execDoeDiscovery (index : BitVec 8) (s : State) : Host.Outcome State Fault Refusal :=
  .next (onlyIf (doeOpen s) s (
    let vid := getBits (otpWord s 0x004) 15 0
    let rows : List (Nat × Nat) := if s.sbx.boot = .running then [(1, 0x00), (1, 0x01), (1, 0x02), (vid, 0x5A), (vid, 0x5B)] else [(1, 0x00), (vid, 0x5A)]
    let i := index.toNat
    let e := rows.getD i (0xFFFF, 0)
    doeSay s 0 0 0 (leBytes 2 e.1 ++ [BitVec.ofNat 8 e.2, BitVec.ofNat 8 (if i + 1 < rows.length then i + 1 else 0)])))

/-- An object of firmware's: served in RUNNING; an object of more than 16,384 B, or one the boot ROM does not know, sets HD_ERROR (15 R393, 06 R160). -/
def doeServe (s : State) (len : Nat) (k : State → State) : State :=
  if !doeOpen s then s
  else if s.sbx.boot != .running || 16384 < len + 8 then { s with sbx := { s.sbx with hdError := true } }
  else k s

/-- An SPDM ERROR response (15 Table 15.2). -/
def spdmError (s : State) (sid err : Nat) : State := doeSay s sid 0x7F err []

/-- A message in a session (15 R395): one that does not decrypt ends the session; an unknown session sets HD_ERROR. -/
def inSession (s : State) (sid : Word) (auth : Bool) (len : Nat) (k : Session → State → State) : State :=
  doeServe s len (fun s =>
    match tblFind s.att.sessions sid.toNat with
    | none => { s with sbx := { s.sbx with hdError := true } }
    | some x =>
      if !auth then sessionEnd s sid.toNat
      else
        let x := { x with last := now s }
        k x (setAtt s { s.att with sessions := tblPut s.att.sessions sid.toNat x }))

/-- A message in a session or outside one. -/
def inEither (s : State) (sid : Option Word) (auth : Bool) (len : Nat) (k : Option Session → State → State) : State :=
  match sid with
  | some n => inSession s n auth len (fun x => k (some x))
  | none => doeServe s len (k none)

/-- The session number that an answer goes out under. -/
def sidNum (sid : Option Word) : Nat := (sid.map (fun n => n.toNat)).getD 0

/-- Set a session. -/
def putSession (s : State) (sid : Nat) (x : Session) : State := setAtt s { s.att with sessions := tblPut s.att.sessions sid x }

/-- A VENDOR_DEFINED answer (15 R399). -/
def vdAnswer (s : State) (sid code st : Nat) (b : Bytes) : State := doeSay s sid (code + 0x80) st b

/-! ### The SPDM responder (15 R394 to R397) -/

/-- The alias signing keys, where they exist. -/
def aliasEcdsa (s : State) : Bytes := (s.sbx.aliasKeys.map Prod.fst).getD []
/-- The ML-DSA alias key. -/
def aliasMldsa (s : State) : Bytes := (s.sbx.aliasKeys.map Prod.snd).getD []

/-- The chain of slot 0: the chain supplied, then the ECDSA alias certificate (15 R396, 06 R172). -/
def slot0 (s : State) (c : Bytes) : Bytes := Config.spdmCertChain c ((s.sbx.certs.map Prod.fst).getD [])

/-- The ML-DSA chain as PQ_CERT returns it: the chain supplied, then the ML-DSA alias certificate (15 R398). -/
def pqChain (s : State) (c : Bytes) : Bytes := Config.mldsaChain c ((s.sbx.certs.map Prod.snd).getD [])

/-- Whether entropy is at hand for a response. -/
def entropyUp (s : State) : Bool := s.ent.st = .ready

/-- SPDM_REQUEST (15 R394, R396, R399): what is outside the profile of Table 15.2 gets the ERROR that the table names. -/
def execSpdmRequest (sid : Option Word) (auth : Bool) (ask : SpdmAsk) (req : Bytes) (s : State) : Host.Outcome State Fault Refusal :=
  .next (inEither s sid auth req.length (fun _ s =>
    let n := sidNum sid
    let say (s : State) (code : Nat) : State :=
      let (d, s) := drbgNat s
      doeSay s n code 0 (Config.spdmAnswer req d)
    match ask with
    | .version => spdmError s n 0x41
    | .unsupported => spdmError s n 0x07
    | .tooLarge => spdmError s n 0x0E
    | .slot => spdmError s n 0x01
    | .sessionRequired => spdmError s n 0x0B
    | .algorithms => setAtt (doeSay s n 0x63 0 []) { s.att with m := none }
    | .plain => doeSay s n 1 0 (Config.spdmAnswer req 0)
    | .digests => doeSay s n 0x01 0 (match s.att.ecdsa with
        | some c => [0x01] ++ Config.sha384 (slot0 s c)
        | none => [0x00])
    | .random => if entropyUp s then say s 1 else spdmError s n 0x03
    | .challenge => if s.att.ecdsa.isNone then spdmError s n 0x04 else if entropyUp s then say s 0x03 else spdmError s n 0x03))

/-- SPDM_GET_CERTIFICATE (15 R396): bytes of the chain in slot 0. -/
def execSpdmGetCertificate (sid : Option Word) (auth : Bool) (slot : BitVec 8) (off len : BitVec 16) (s : State) : Host.Outcome State Fault Refusal :=
  .next (inEither s sid auth 8 (fun _ s =>
    let n := sidNum sid
    match s.att.ecdsa with
    | none => spdmError s n 0x04
    | some c =>
      if slot != 0 then spdmError s n 0x01
      else
        let b := slot0 s c
        let p := (b.drop off.toNat).take len.toNat
        doeSay s n 0x02 0 ([slot, 0] ++ leBytes 2 p.length ++ leBytes 2 (b.length - off.toNat - p.length) ++ p)))

/-- The bytes of a measurement block (15 Table 15.3): value type and content; index 14 needs a session. -/
def measBlock (s : State) (x : Option Session) (i : Nat) : Option (Nat × Bytes) :=
  if i = 1 then some (0x00, Config.sha384 ((List.range 65536).flatMap (fun w => leBytes 4 (Config.bootRom w).toNat)))
  else if i = 2 then some (0x01, measAt s 0)
  else if i = 3 then some (0x03, measAt s 1)
  else if i = 4 then some (0x83, configRecord s)
  else if i = 5 then some (0x87, leBytes 4 (rawReg s (pgSbx + 0x044)).toNat)
  else if 6 ≤ i ∧ i ≤ 11 then some (0x03, measAt s (i - 4))
  else if i = 12 then
    some (0x82, [BitVec.ofNat 8 (getFld s (pgLco + 0x040) 7 0), BitVec.ofNat 8 (getFld s (pgLco + 0x040) 10 8), BitVec.ofNat 8 (getFld s (pgLco + 0x040) 13 13),
      BitVec.ofNat 8 (getFld s (pgSbx + 0x040) 16 16)] ++ leBytes 2 (thermometer s 0x008 256) ++ zeros 2)
  else if i = 13 then
    some (0x83, leBytes 4 s.dom.epoch ++ leBytes 2 s.dom.ownId ++ leBytes 2 s.dom.pod ++ leBytes 2 (max 1 s.dom.members.length) ++ zeros 6
      ++ (if s.dom.epoch = 0 then zeros 48 else (s.att.digest ++ zeros 48).take 48))
  else if i = 14 then
    x.map (fun y => (0x83, [BitVec.ofNat 8 (y.inst.getD 0), BitVec.ofNat 8 (b2n y.inst.isSome + 2 * b2n y.kem)] ++ zeros 6))
  else none

/-- The indices that a request for an index returns (15 R397). -/
def measList (s : State) (x : Option Session) (i : Nat) : List Nat :=
  if i = 0xFF then (if x.isSome then (List.range 14).map (· + 1) else (List.range 13).map (· + 1))
  else if (measBlock s x i).isSome then [i] else []

/-- The measurement record of a list of indices. -/
def measRecord (s : State) (x : Option Session) (l : List Nat) : Bytes :=
  l.flatMap (fun i => match measBlock s x i with
    | some (t, b) => [BitVec.ofNat 8 i, 1] ++ leBytes 2 (b.length + 3) ++ [BitVec.ofNat 8 t] ++ leBytes 2 b.length ++ b
    | none => [])

/-- SPDM_GET_MEASUREMENTS (15 R394, R397): index 0 asks for the number of blocks. A signed response keeps the hash that its signature covers (R398). -/
def execSpdmGetMeasurements (sid : Option Word) (auth : Bool) (index : BitVec 8) (signed : Bool) (req : Bytes) (s : State) :
    Host.Outcome State Fault Refusal :=
  .next (inEither s sid auth req.length (fun x s =>
    let n := sidNum sid
    let l := measList s x index.toNat
    if signed && s.att.ecdsa.isNone then spdmError s n 0x04
    else if index != 0 && l = [] then spdmError s n 0x01
    else if !entropyUp s then spdmError s n 0x03
    else
      let (nonce, s) := drbg s 32
      let body := [BitVec.ofNat 8 (if index = 0 then (if x.isSome then 14 else 13) else l.length)] ++ measRecord s x l ++ nonce
      if !signed then doeSay s n 0x60 0 body
      else
        let m := Config.sha384 (Config.spdmTranscript req body)
        let (d, s) := drbgNat s
        let sig := Config.ecdsaSign (aliasEcdsa s) m d
        let s := match x with
          | some y => putSession s n { y with m := some m }
          | none => setAtt s { s.att with m := some m }
        doeSay s n 0x60 0 (body ++ sig)))

/-- SPDM_KEY_EXCHANGE (15 R394, R400): a session opens under the ID given; `leaf` is the leaf certificate of a requester that authenticates, `kem` the encapsulation
key of the Sarub KEM element, `dh` the requester's ECDH key. -/
def execSpdmKeyExchange (sid : Word) (dh : Bytes) (kem leaf : Option Bytes) (req : Bytes) (s : State) : Host.Outcome State Fault Refusal :=
  .next (doeServe s req.length (fun s =>
    if s.att.ecdsa.isNone then spdmError s 0 0x04
    else if !entropyUp s then spdmError s 0 0x03
    else if 64 ≤ s.att.sessions.length then spdmError s 0 0x0A
    else if (tblFind s.att.sessions sid.toNat).isSome then spdmError s 0 0x01
    else
      let (a, s) := drbg s 48
      let (rnd, s) := drbg s 32
      let (kn, s) := drbgNat s
      let ct := match kem with
        | some ek => Config.kemEncaps ek kn
        | none => none
      match Config.ecdhShared a dh with
      | none => spdmError s 0 0x01
      | some ss =>
        if kem.isSome && ct.isNone then spdmError s 0 0x01
        else
          let rsp := rnd ++ Config.ecdhPublic a ++ (match ct with | some c => [0x02] ++ c.1 | none => [])
          let th2 := Config.sha384 (Config.spdmTranscript req rsp)
          let ems := Config.spdmDerive ss (ascii "exp master" ++ th2) 48
          let secret := match ct with
            | some c => Config.hkdfExtract ems c.2
            | none => ems
          let (d, s) := drbgNat s
          let s := putSession s sid.toNat ⟨leaf.map Config.sha384, secret, ct.isSome, 0, none, now s, none, th2, none⟩
          doeSay s sid.toNat 0x64 0 (rsp ++ Config.ecdsaSign (aliasEcdsa s) th2 d)))

/-- SPDM_END_SESSION (15 R395). -/
def execSpdmEndSession (sid : Word) (auth : Bool) (s : State) : Host.Outcome State Fault Refusal :=
  .next (inSession s sid auth 8 (fun _ s => doeSay (sessionEnd s sid.toNat) sid.toNat 0x6C 0 []))

/-- SESSION_IDLE_TIMEOUT (15 R395): 120 s without a message in the session. -/
def execSessionIdleTimeout (sid : Word) (s : State) : Host.Outcome State Fault Refusal :=
  .next (match tblFind s.att.sessions sid.toNat with
    | some x => onlyIf (x.last + 120000000000 ≤ now s) s (sessionEnd s sid.toNat)
    | none => s)

/-! ### Sarub's own messages (15 R398 to R400, R407, R413) -/

/-- PQ_ATTEST (15 R398). -/
def execPqAttest (sid : Option Word) (auth : Bool) (nonce : Bytes) (s : State) : Host.Outcome State Fault Refusal :=
  .next (inEither s sid auth nonce.length (fun x s =>
    let n := sidNum sid
    match (match x with | some y => y.m | none => s.att.m) with
    | none => vdAnswer s n 0x01 Status.denied.code []
    | some m =>
      let (d, s) := drawNat s
      vdAnswer s n 0x01 0 (m ++ Config.mldsaSign (aliasMldsa s) (ascii "SRB-PQATTEST") (m ++ nonce.take 32) d)))

/-- PQ_CERT (15 R398, Table 15.4): at most 16,000 bytes of the ML-DSA chain; none before it is accepted. -/
def execPqCert (sid : Option Word) (auth : Bool) (off : Word) (len : BitVec 16) (s : State) : Host.Outcome State Fault Refusal :=
  .next (inEither s sid auth 7 (fun _ s =>
    let n := sidNum sid
    match s.att.mldsa with
    | none => vdAnswer s n 0x02 Status.denied.code []
    | some c => if 16000 < len.toNat then vdAnswer s n 0x02 Status.denied.code []
      else vdAnswer s n 0x02 0 (((pqChain s c).drop off.toNat).take len.toNat)))

/-- SESSION_BIND (15 R399): the requester's leaf is the instance's owner credential, no other session is bound to it, and the session binds once. -/
def execSessionBind (sid : Word) (auth : Bool) (inst : Fin 256) (s : State) : Host.Outcome State Fault Refusal :=
  let i := inst.val
  .next (inSession s sid auth 2 (fun x s =>
    if x.inst.isNone && x.leaf == some (instRec s i).owner && (instRec s i).st != .free && s.att.sessions.all (fun y => y.2.inst != some i) then
      vdAnswer (putSession (setRegBit s (instPage i + 0x040) 8 true) sid.toNat { x with inst := some i }) sid.toNat 0x03 0 []
    else vdAnswer s sid.toNat 0x03 Status.denied.code []))

/-- The pairs of a session. -/
def sessionPairs (s : State) (sid : Nat) : List Nat := (s.hgt.pairs.filter (fun p => p.2.session = some sid)).map Prod.fst

/-- The words that CHANNEL_OPEN's fields put into the registers of a pair's channels. -/
def chLoad (s : State) (p i : Nat) (f keyH keyD : Bytes) : State :=
  let w (o n : Nat) : Nat := leNat ((f.drop o).take n)
  let put (t : Tbl Word) (ch o v : Nat) : Tbl Word := tblSet 0 t (ch * 256 + o) (BitVec.ofNat 32 v)
  let keyTo (t : Tbl Word) (ch : Nat) (k : Bytes) : Tbl Word := (List.range 8).foldl (fun t j => tblSet 0 t (ch * 256 + 0x080 + 4 * j) (wordAt k j)) t
  let t := put (put (put s.hgt.cfg (2 * p) 0x044 (w 0 4)) (2 * p) 0x048 (w 4 4)) (2 * p) 0x04C (w 16 1 + w 17 1 * 32 + i * 0x10000)
  let t := put (put (put t (2 * p) 0x050 (w 20 2)) (2 * p) 0x054 (w 24 4)) (2 * p) 0x058 (w 28 4)
  let t := put (put (put t (2 * p + 1) 0x044 (w 8 4)) (2 * p + 1) 0x048 (w 12 4)) (2 * p + 1) 0x04C (w 18 1 + w 19 1 * 32)
  setHgt s { s.hgt with cfg := keyTo (keyTo t (2 * p) keyH) (2 * p + 1) keyD }

/-- The checks of R400 on CHANNEL_OPEN's 32 bytes, in order: the instance, or the first failing status. -/
def judgeChannel (s : State) (sid : Nat) (x : Session) (f : Bytes) : Status ⊕ Nat :=
  let w (o n : Nat) : Nat := leNat ((f.drop o).take n)
  match x.inst with
  | none => .inl .denied
  | some i =>
    if 4 ≤ (sessionPairs s sid).length || 64 ≤ s.hgt.pairs.length then .inl .retry
    else if f.length != 32 || w 0 8 % 4096 != 0 || w 8 8 % 4096 != 0 || !ringOk ⟨0, w 16 1, w 17 1⟩ || !ringOk ⟨0, w 18 1, w 19 1⟩ || w 22 2 != 0
        || 2 ^ 30 ≤ w 24 4 || 2 ^ 30 ≤ w 28 4 || w 28 4 < w 24 4 then .inl .denied
    else if !sameRange (w 24 4) (w 28 4) then .inl .denied
    else if !isTenant (w 20 2) || !boundTo s (w 20 2) i then .inl .denied
    else if isRetiring s (w 20 2) then .inl .keyRetired
    else .inr i

/-- CHANNEL_OPEN (15 R400): the keys come from S under the session's new open count, and the lowest free pair opens with them. -/
def execChannelOpen (sid : Word) (auth : Bool) (fields : Bytes) (s : State) : Host.Outcome State Fault Refusal :=
  let n := sid.toNat
  .next (inSession s sid auth fields.length (fun x s =>
    match judgeChannel s n x fields with
    | .inl st => vdAnswer s n 0x04 st.code []
    | .inr i =>
      let p := ((List.range 64).find? (fun p => (pairAt s p).isNone)).getD 0
      if !pageUp s pgHgt || inReset12 s pgHgt then vdAnswer s n 0x04 Status.retry.code []
      else
        let c := x.opens + 1
        let key (name : String) : Bytes := Config.hkdfExpand x.secret (Config.binStr 32 (ascii name) (leBytes 4 c)) 32
        let s := putSession s n { x with opens := c }
        let s := chLoad (setFld s (pgHgt + 0x040) 6 0 p) p i fields (key "srb bb h2d") (key "srb bb d2h")
        let (s, st) := chOpen s p (some n) x.kem
        let s := bumpEpoch (setFld s (pgHgt + 0x060) 7 0 st.code) pgHgt
        vdAnswer s n 0x04 st.code (if st = .ok then [BitVec.ofNat 8 p] else [])))

/-- CHANNEL_CLOSE (15 R407): a pair of the session. -/
def execChannelClose (sid : Word) (auth : Bool) (pair : BitVec 8) (s : State) : Host.Outcome State Fault Refusal :=
  .next (inSession s sid auth 2 (fun _ s =>
    if (sessionPairs s sid.toNat).contains pair.toNat then
      vdAnswer (bumpEpoch (pairClose s pair.toNat) pgHgt) sid.toNat 0x05 0 []
    else vdAnswer s sid.toNat 0x05 Status.denied.code []))

/-- FLOW_OPEN (15 R413): firmware opens the matching flow on the receiver's port. What its message does not give of the entry is a free value. -/
def execFlowOpen (sid : Word) (auth : Bool) (peer : BitVec 14) (flow : BitVec 16) (kind sport rport inst : BitVec 8) (keyId : BitVec 16) (group : Word)
    (s : State) : Host.Outcome State Fault Refusal :=
  .next (inSession s sid auth 13 (fun _ s =>
    let n := rport.toNat
    if 18 ≤ n || 32 ≤ sport.toNat || 4096 ≤ flow.toNat || 3 ≤ kind.toNat then vdAnswer s sid.toNat 0x20 Status.denied.code []
    else if !pageUp s (pgVdt n) || pageGated s (pgVdt n) || inReset12 s (pgVdt n) then vdAnswer s sid.toNat 0x20 Status.retry.code []
    else
      let (a, s) := drawNat s
      let (b, s) := drawNat s
      let (c, s) := drawNat s
      let (d, s) := drawNat s
      let x : Flow := { Flow.zero with
        kind := kind.toNat, dest := if kind = 2 then 2 else a % 3, ballast := b % 4, dscp := c % 64, saf := d % 2 = 1, peerId := peer.toNat, peerPort := sport.toNat
        inst := inst.toNat, keyId := keyId.toNat, group := group.toNat }
      let (s, st) := flowOpen s n flow.toNat x
      vdAnswer (bumpEpoch (setFld s (pgVdt n + 0x08C) 7 0 st.code) (pgVdt n)) sid.toNat 0x20 st.code []))

/-! ### Firmware's own KVT commands -/

/-- Firmware issues a KVT command and reads its status (08 R222): inputs in XBUF, ARG0, the PENDING flag of ARG1. A busy KVT answers RETRY. -/
def fwKvt (s : State) (op keyId arg0 : Nat) (pend : Bool) (inputs : Bytes) (k : KCmd → State → State) : State × Nat :=
  if regBit s (pgKvt + 0x04C) 16 || !pageUp s pgKvt || inReset12 s pgKvt then (s, Status.retry.code)
  else
    let (q, s) := drawNat s
    let s := setRegBit (setReg s (pgKvt + 0x044) (BitVec.ofNat 32 arg0)) (pgKvt + 0x048) 1 pend
    let s := clearXbuf (bumpEpoch (putWords s (pgKvt + 0x800) inputs) pgKvt) inputs.length
    let c : KCmd := ⟨op, q % 0x100, keyId, arg0, 0, inputs⟩
    let s := if s.kvt.refuseAll && derives op then kvtDone s c Status.denied.code
      else if s.kvt.zeroised then kvtDone s c Status.notReady.code
      else k c s
    (s, if regBit s (pgKvt + 0x04C) 16 then Status.retry.code else getFld s (pgKvt + 0x04C) 15 8)

/-- KEY_SHARE (15 R413): the DOMAIN blob is imported. `kt` is what the KTAB read gives, `wst` the status of the KTAB write. -/
def execKeyShare (sid : Word) (auth : Bool) (blob : Bytes) (kt : KtabRead) (wst : Status) (s : State) : Host.Outcome State Fault Refusal :=
  .next (inSession s sid auth blob.length (fun _ s =>
    let (s, st) := fwKvt s 0x03 0 0 false blob (doImport kt wst)
    vdAnswer s sid.toNat 0x21 st []))

/-! ### PCIe IDE keys (15 R408, 03 R85) -/

/-- An IDE_KM message: in a session that is not bound, and, for all but a first KEY_PROG, not against another session's role. -/
def ideMsg (s : State) (sid : Word) (auth : Bool) (len : Nat) (k : State → State) : State :=
  inSession s sid auth len (fun x s =>
    if x.inst.isSome || s.att.ide.any (fun r => r != sid.toNat) then spdmError s sid.toNat 0x04 else k s)

/-- The stream IDs in use: of loaded sets and of loads under way. -/
def ideStreams (s : State) : List Nat := (s.hgt.ide.map Prod.fst ++ (s.hgt.hi.filter (fun c => c.cmd = 0)).map HiCmd.stream).eraseDups

/-- IDE_KM_QUERY (15 Table 15.7): QUERY_RESP with port index 0 and 8 streams. -/
def execIdeKmQuery (sid : Word) (auth : Bool) (s : State) : Host.Outcome State Fault Refusal :=
  .next (ideMsg s sid auth 4 (fun s => doeSay s sid.toNat 0x01 0 [0, 8]))

/-- IDE_KM_KEY_PROG (15 R408): the first such session holds the IDE role; the key goes out on HI, or KP_ACK reports a non-zero Status. -/
def execIdeKmKeyProg (sid : Word) (auth : Bool) (port stream : BitVec 8) (sub : BitVec 2) (dir kset : Bool) (key iv : Bytes) (s : State) :
    Host.Outcome State Fault Refusal :=
  .next (ideMsg s sid auth (8 + key.length + iv.length) (fun s =>
    let s := setAtt s { s.att with ide := some sid.toNat }
    let ids := ideStreams s
    if port != 0 || key.length != 32 || (!ids.contains stream.toNat && 8 ≤ ids.length) then doeSay s sid.toNat 0x03 1 []
    else hiPush s ⟨0, stream.toNat, sub.toNat, b2n dir, b2n kset, key, iv, true⟩))

/-- IDE_KM_K_SET_GO (15 Table 15.7). -/
def execIdeKmKSetGo (sid : Word) (auth : Bool) (stream : BitVec 8) (sub : BitVec 2) (dir kset : Bool) (s : State) : Host.Outcome State Fault Refusal :=
  .next (ideMsg s sid auth 8 (fun s => hiPush s ⟨1, stream.toNat, sub.toNat, b2n dir, b2n kset, [], [], true⟩))

/-- IDE_KM_K_SET_STOP (15 Table 15.7). -/
def execIdeKmKSetStop (sid : Word) (auth : Bool) (stream : BitVec 8) (sub : BitVec 2) (dir kset : Bool) (s : State) : Host.Outcome State Fault Refusal :=
  .next (ideMsg s sid auth 8 (fun s => hiPush s ⟨2, stream.toNat, sub.toNat, b2n dir, b2n kset, [], [], true⟩))

/-- The answer to the IDE_KM message behind an HI command: KP_ACK or K_GOSTOP_ACK. -/
def ideAnswer (s : State) (c : HiCmd) (st : Nat) : State :=
  if c.answers then doeSay s (s.att.ide.getD 0) (if c.cmd = 0 then 0x03 else 0x06) st [] else s

/-- The driven HI command is late (15 R408): IDE_KEY, an erase of the same key set, a non-zero Status. -/
def hiLate (s : State) (c : HiCmd) : State :=
  let s := ideAnswer (detect s pgHgt 5) c 1
  let s := setHgt s { s.hgt with hi := c :: ⟨2, c.stream, c.sub, c.dir, c.kset, [], [], false⟩ :: s.hgt.hi.drop 1 }
  hiPop s

/-- HI_ACK (15 R408): the driven command is over; a load adds its key set, an erase removes it. -/
def execHiAck (s : State) : Host.Outcome State Fault Refusal :=
  .next (match s.hgt.hi with
    | [] => s
    | c :: _ =>
      if injArmed s pgHgt 5 then hiLate s c
      else
        let k := (c.stream, c.sub, c.dir, c.kset)
        let ide := if c.cmd = 0 then (if s.hgt.ide.contains k then s.hgt.ide else s.hgt.ide ++ [k])
          else if c.cmd = 2 then s.hgt.ide.filter (· != k) else s.hgt.ide
        hiPop (ideAnswer (ideRefresh (setHgt s { s.hgt with ide := ide })) c 0))

/-- HI_ACK_TIMEOUT (15 R408). -/
def execHiAckTimeout (s : State) : Host.Outcome State Fault Refusal :=
  .next (match s.hgt.hi with
    | [] => s
    | c :: _ => hiLate s c)

/-! ### The service object (15 R396, R410) -/

/-- A service command's answer. -/
def svcAnswer (s : State) (cmd st : Nat) (b : Bytes) : State := doeSay s 0 (cmd + 0x80) st b

/-- CERT_PUT (15 R396): bytes of a chain in order; the last part judges it. -/
def execCertPut (chain : BitVec 8) (off : Word) (last : Bool) (bytes : Bytes) (s : State) : Host.Outcome State Fault Refusal :=
  .next (doeServe s (7 + bytes.length) (fun s =>
    let c := chain.toNat
    let have_ := if off = 0 then [] else (tblFind s.att.put c).getD []
    if 1 < c || off.toNat != have_.length then svcAnswer s 0x20 Status.denied.code []
    else
      let b := have_ ++ bytes
      if !last then svcAnswer (setAtt s { s.att with put := tblPut s.att.put c b }) 0x20 0 []
      else
        let s := setAtt s { s.att with put := tblDel s.att.put c }
        let own := if c = 0 then s.sbx.devid.take 96 else s.sbx.devid.drop 96
        if own != [] && Config.chainLeaf c b == some own then
          svcAnswer (setAtt s (if c = 0 then { s.att with ecdsa := some b } else { s.att with mldsa := some b })) 0x20 0 []
        else svcAnswer s 0x20 Status.denied.code []))

/-- A policy of R412: 1 to 4 root digests, 1 to 8 MEAS0 values, a count byte before each list. -/
def policyOk (p : Bytes) : Bool :=
  let a := leNat (p.take 1)
  let b := leNat ((p.drop (1 + 48 * a)).take 1)
  1 ≤ a && a ≤ 4 && 1 ≤ b && b ≤ 8 && p.length = 2 + 48 * a + 48 * b

/-- DOMAIN_PLAN (15 R410, R412). -/
def execDomainPlan (epoch : Word) (plan : BitVec 8) (ownId pod : BitVec 16) (policy : Bytes) (s : State) : Host.Outcome State Fault Refusal :=
  .next (doeServe s (10 + policy.length) (fun s =>
    if s.att.going then svcAnswer s 0x30 Status.retry.code []
    else if 1 < plan.toNat || 0x4000 ≤ ownId.toNat || 0x800 ≤ pod.toNat || !policyOk policy then svcAnswer s 0x30 Status.denied.code []
    else svcAnswer (setAtt s { s.att with plan := some ⟨epoch.toNat, plan = 0, ownId.toNat, pod.toNat, Config.sha384 policy⟩, joiners := [], outbox := [] }) 0x30 0 []))

/-- A failed or refused join is recorded (15 R412, 02 R36, 22 Table 22.8). -/
def joinFail (s : State) (peer check st : Nat) : State := record s pgSbx rcJoinFail peer check st

/-- DOMAIN_ADD (15 R410, 02 R36): an ID that is taken, or a ninth member of a pod, is refused and recorded. -/
def execDomainAdd (peer pod : BitVec 16) (s : State) : Host.Outcome State Fault Refusal :=
  .next (doeServe s 5 (fun s =>
    let deny (s : State) : State := svcAnswer s 0x31 Status.denied.code []
    match s.att.plan with
    | none => deny s
    | some p =>
      let n := peer.toNat
      let d := pod.toNat
      if !p.leader || s.att.going || 0x4000 ≤ n || 0x800 ≤ d then deny s
      else if p.ownId = n || s.att.joiners.any (fun j => j.id = n)
          || 8 ≤ (s.att.joiners.filter (fun j => j.pod = d)).length + b2n (p.pod = d) then deny (joinFail s n 0 Status.denied.code)
      else svcAnswer (setAtt s { s.att with joiners := s.att.joiners ++ [⟨n, d, .idle, [], [], [], [], none, false⟩] }) 0x31 0 []))

/-! ### The leader (15 R411) -/

/-- The members of a plan that is about to be installed (02 R36, R38) and the configuration their number gives (00 R4). -/
def planNext (s : State) (own pod : Nat) (ms : List Member) : State :=
  let c : Configuration := if ms.length ≤ 1 then .singleNode else if ms.length ≤ 8 then .pod else .fullDomain
  { s with dom := { s.dom with nextOwnId := own, nextPod := pod, nextConfig := c, nextMembers := ms } }

/-- Install a member map at the position that the next epoch key takes; a position whose key is loaded keeps its map (11 R323). -/
def putMap (s : State) (map : Bytes) : State :=
  if s.kvt.pos0.isSome && s.kvt.pos1.isSome then s
  else
    let pos := if s.kvt.pos0.isNone then 0 else 1
    let rest := s.maps.filter (fun e => e.1 / 512 != pos)
    { s with maps := (List.range 512).foldl (fun t w => tblSet 0 t (pos * 512 + w) (wordAt map w)) rest }

/-- The member map of a list of members: bit i is member i. -/
def mapOf (ms : List Member) : Bytes := leBytes 2048 (ms.foldl (fun a m => a ||| 2 ^ m.id) 0)

/-- The members of the leader's plan. -/
def planMembers (p : Plan) (js : List Joiner) : List Member := ⟨p.ownId, p.pod⟩ :: js.map (fun j => ⟨j.id, j.pod⟩)

/-- Set a joiner. -/
def putJoiner (s : State) (j : Joiner) : State :=
  setAtt s { s.att with joiners := s.att.joiners.map (fun x => if x.id = j.id then j else x) }

/-- A joiner's join ends; DOMAIN_GO is answered with the failure (15 R410). -/
def endJoin (s : State) (id st : Nat) : State :=
  let go := s.att.going
  let s := setAtt s { s.att with joiners := s.att.joiners.filter (fun j => j.id != id), outbox := s.att.outbox.filter (fun o => o.1 != id), going := false }
  if go then svcAnswer s 0x32 st [] else s

/-- Queue a message to a peer. -/
def sendPeer (s : State) (id : Nat) (b : Bytes) : State := setAtt s { s.att with outbox := s.att.outbox ++ [(id, b)] }

/-- What the leader can do next: start the next exchange; JOIN_SEND to every joiner once all have loaded; EPOCH_SEND on itself at the end. While 64 messages
wait it makes no progress. -/
def joinAdvance (s : State) : Nat → State
  | 0 => s
  | n + 1 =>
    match s.att.plan with
    | none => s
    | some p =>
      let js := s.att.joiners
      let mid (j : Joiner) : Bool := j.stage = .offered || j.stage = .confirmed || j.stage = .epochSent
      if !s.att.going || 64 ≤ s.att.outbox.length || js.any mid then s
      else match js.find? (fun j => j.stage = .idle) with
      | some j =>
        if !entropyUp s then s
        else
          let (s, st) := fwKvt s 0x10 0 0 false [] (fun c s => keygen s c)
          if st != 0 then endJoin s j.id st
          else
            let offer := leBytes 4 p.epoch ++ p.digest ++ xbuf s 1664
            let (th, s) := drawFree s
            sendPeer (putJoiner s { j with stage := .offered, offer := offer, th2 := th }) j.id ([0x10] ++ offer)
      | none =>
        match js.find? (fun j => j.stage = .loaded) with
        | some j => joinAdvance (sendPeer (putJoiner s { j with stage := .sendSent }) j.id ([0x13] ++ leBytes 4 p.epoch)) n
        | none =>
          if js.any (fun j => j.stage = .sendSent) then s
          else
            let (s, st) := fwKvt s 0x17 0 p.epoch false [] doEpochSend
            let s := setAtt s { s.att with going := false, joiners := [], digest := if st = 0 then p.digest else s.att.digest }
            svcAnswer s 0x32 st []

/-- Go on as far as possible. -/
def advance (s : State) : State := joinAdvance s (s.att.joiners.length + 1)

/-- DOMAIN_GO (15 R411): the leader generates and loads the pending key on itself, then starts the first exchange. -/
def execDomainGo (s : State) : Host.Outcome State Fault Refusal :=
  .next (doeServe s 1 (fun s =>
    match s.att.plan with
    | none => svcAnswer s 0x32 Status.denied.code []
    | some p =>
      if !p.leader || s.att.going then svcAnswer s 0x32 Status.denied.code []
      else if !entropyUp s then svcAnswer s 0x32 Status.notReady.code []
      else
        let ms := planMembers p s.att.joiners
        let (s, st) := fwKvt s 0x14 0 p.epoch false [] doEpochGenerate
        if st != 0 then svcAnswer s 0x32 st []
        else
          let (s, st) := fwKvt (putMap s (mapOf ms)) 0x16 0 p.epoch true [] doEpochLoad
          if st != 0 then svcAnswer s 0x32 st []
          else advance (setAtt (planNext s p.ownId p.pod ms) { s.att with going := true })))

/-- POLL (15 R410): the next outgoing message. -/
def execPoll (s : State) : Host.Outcome State Fault Refusal :=
  .next (doeServe s 1 (fun s =>
    match s.att.outbox with
    | [] => svcAnswer s 0x10 0 (zeros 6)
    | (id, b) :: rest =>
      let s := setAtt s { s.att with outbox := rest, joiners := s.att.joiners.map (fun j => if j.id = id then { j with polled := some (now s) } else j) }
      advance (svcAnswer s 0x10 0 (leBytes 2 id ++ leBytes 4 b.length ++ b))))

/-- DELIVER (15 R410): a peer's answer; one for no outstanding request is discarded. -/
def execDeliver (peer : BitVec 16) (answer : Bytes) (s : State) : Host.Outcome State Fault Refusal :=
  .next (doeServe s (3 + answer.length) (fun s =>
    svcAnswer (setAtt s { s.att with joiners := s.att.joiners.map (fun j =>
      if j.id = peer.toNat && j.polled.isSome then { j with polled := none, answered := true } else j) }) 0x11 0 []))

/-- SBX takes a delivered answer of a joiner that stands at a stage. -/
def takeAnswer (s : State) (peer : BitVec 14) (stage : JoinStage) (k : Plan → Joiner → State → State) : State :=
  match s.att.plan, s.att.joiners.find? (fun j => j.id = peer.toNat && j.answered && j.stage = stage) with
  | some p, some j => if sbxRuns s && s.att.outbox.length < 64 then k p j (putJoiner s { j with answered := false }) else s
  | _, _ => s

/-- An alias signature over TJ (15 Table 15.9). -/
def signTj (s : State) (tj : Bytes) : Bytes × State :=
  let (d, s) := drawNat s
  (Config.mldsaSign (aliasMldsa s) [] tj d, s)

/-- JOIN_ACCEPT (15 R411, R412): `bad` is the first check of R412 that the joiner fails, 0 for none; `key` its ML-DSA alias key. -/
def execJoinAccept (peer : BitVec 14) (fields key : Bytes) (bad : Fin 4) (s : State) : Host.Outcome State Fault Refusal :=
  .next (takeAnswer s peer .offered (fun _ j s =>
    if bad.val != 0 then endJoin (joinFail s j.id bad.val Status.denied.code) j.id Status.denied.code
    else
      let (s, st) := fwKvt s 0x12 0 0 false fields doJoinDecap
      if st != 0 then endJoin s j.id st
      else
        let tj := Config.sha384 (j.th2 ++ j.offer ++ fields)
        let (s, st) := fwKvt s 0x13 0 0 false tj doJoinFinish
        if st != 0 then endJoin s j.id st
        else
          let (sig, s) := signTj s tj
          sendPeer (putJoiner s { j with stage := .confirmed, tj := tj, key := key, answered := false }) j.id ([0x11] ++ sig)))

/-- JOIN_CONFIRMED (15 R411): the joiner's signature over TJ; then the EPOCH blob and the membership go out. -/
def execJoinConfirmed (peer : BitVec 14) (sig : Bytes) (s : State) : Host.Outcome State Fault Refusal :=
  .next (takeAnswer s peer .confirmed (fun p j s =>
    if !Config.mldsaVerify j.key [] j.tj sig then endJoin (joinFail s j.id 0 Status.denied.code) j.id Status.denied.code
    else
      let (s, st) := fwKvt s 0x15 0 p.epoch false [] doEpochWrap
      if st != 0 then endJoin s j.id st
      else
        let ms := planMembers p s.att.joiners
        let ids := (ms.filter (fun m => m.pod = j.pod)).map Member.id
        let pods := (List.range 8).flatMap (fun k => leBytes 2 (ids.getD k 0xFFFF))
        sendPeer (putJoiner s { j with stage := .epochSent, answered := false }) j.id
          ([0x12] ++ xbuf s 112 ++ leBytes 2 j.id ++ leBytes 2 j.pod ++ pods ++ mapOf ms)))

/-- JOIN_LOADED (15 R411): the status of the joiner's EPOCH_LOAD. -/
def execJoinLoaded (peer : BitVec 14) (st : BitVec 8) (s : State) : Host.Outcome State Fault Refusal :=
  .next (takeAnswer s peer .epochSent (fun _ j s =>
    if st != 0 then endJoin s j.id st.toNat else advance (putJoiner s { j with stage := .loaded, answered := false })))

/-- JOIN_SENT (15 R411). -/
def execJoinSent (peer : BitVec 14) (st : BitVec 8) (s : State) : Host.Outcome State Fault Refusal :=
  .next (takeAnswer s peer .sendSent (fun _ j s =>
    if st != 0 then endJoin s j.id st.toNat else advance (putJoiner s { j with stage := .done, answered := false })))

/-- JOIN_PEER_TIMEOUT (15 R410): no answer 10 s after POLL. -/
def execJoinPeerTimeout (peer : BitVec 14) (s : State) : Host.Outcome State Fault Refusal :=
  .next (match s.att.joiners.find? (fun j => j.id = peer.toNat) with
    | some j => onlyIf (j.polled.any (fun t => t + 10000000000 ≤ now s)) s (endJoin s j.id Status.retry.code)
    | none => s)

/-! ### The joiner (15 R411, R412) -/

/-- A failed join session (15 R412): recorded, answered with DENIED, ended. -/
def failJoinIn (s : State) (sid code check : Nat) : State :=
  sessionEnd (vdAnswer (joinFail s (s.att.plan.elim 0 Plan.ownId) check Status.denied.code) sid code Status.denied.code []) sid

/-- JOIN_OFFER (15 R411, R412): `bad` is the first of checks 1 to 3 that the leader fails, `key` its ML-DSA alias key. The policy digest must equal
the joiner's own (check 4). -/
def execJoinOffer (sid : Word) (auth : Bool) (fields key : Bytes) (bad : Fin 4) (s : State) : Host.Outcome State Fault Refusal :=
  let n := sid.toNat
  .next (inSession s sid auth fields.length (fun x s =>
    match s.att.plan with
    | none => vdAnswer s n 0x10 Status.denied.code []
    | some p =>
      if p.leader || x.leaf.isNone || fields.length != 1716 then vdAnswer s n 0x10 Status.denied.code []
      else if bad.val != 0 then failJoinIn s n 0x10 bad.val
      else if (fields.drop 4).take 48 != p.digest then failJoinIn s n 0x10 4
      else if !entropyUp s then spdmError s n 0x03
      else
        let (s, st) := fwKvt s 0x11 0 0 false (fields.drop 52) (fun c s => keygen s c)
        if st != 0 then vdAnswer s n 0x10 st []
        else
          let acc := xbuf s 1664
          let tj := Config.sha384 (x.th2 ++ fields ++ acc)
          vdAnswer (putSession s n { x with join := some ⟨key, fields, tj, false⟩ }) n 0x10 0 acc))

/-- JOIN_CONFIRM (15 R411): the leader's signature over TJ; JOIN_FINISH; the joiner's own signature. -/
def execJoinConfirm (sid : Word) (auth : Bool) (sig : Bytes) (s : State) : Host.Outcome State Fault Refusal :=
  let n := sid.toNat
  .next (inSession s sid auth sig.length (fun x s =>
    match x.join with
    | none => vdAnswer s n 0x11 Status.denied.code []
    | some j =>
      if !Config.mldsaVerify j.key [] j.tj sig then failJoinIn s n 0x11 0
      else
        let (s, st) := fwKvt s 0x13 0 0 false j.tj doJoinFinish
        if st != 0 then vdAnswer s n 0x11 st []
        else
          let (own, s) := signTj s j.tj
          vdAnswer (putSession s n { x with join := some { j with confirmed := true } }) n 0x11 0 own))

/-- The members that JOIN_EPOCH names: the map's bits, the pod members in the joiner's pod; the pods of other members are not told (0x800). -/
def toldMembers (pod : Nat) (ids : List Nat) (map : Bytes) : List Member :=
  let m := leNat map
  ((List.range 16384).filter (fun i => m.testBit i)).map (fun i => ⟨i, if ids.contains i then pod else 0x800⟩)

/-- JOIN_EPOCH (15 R411): member map, EPOCH_LOAD of the blob, and the plan that step 7 puts in force. -/
def execJoinEpoch (sid : Word) (auth : Bool) (fields : Bytes) (s : State) : Host.Outcome State Fault Refusal :=
  let n := sid.toNat
  .next (inSession s sid auth fields.length (fun x s =>
    if !x.join.any JoinIn.confirmed || fields.length != 2180 then vdAnswer s n 0x12 Status.denied.code []
    else
      let w (o k : Nat) : Nat := leNat ((fields.drop o).take k)
      let map := fields.drop 132
      let ids := (List.range 8).map (fun k => w (116 + 2 * k) 2)
      let (s, st) := fwKvt (putMap s map) 0x16 0 0 false (fields.take 112) doEpochLoad
      let s := if st = 0 then planNext s (w 112 2) (w 114 2) (toldMembers (w 114 2) ids map) else s
      vdAnswer s n 0x12 st []))

/-- JOIN_SEND (15 R411): EPOCH_SEND; the policy digest of the new epoch is the plan's. -/
def execJoinSend (sid : Word) (auth : Bool) (epoch : Word) (s : State) : Host.Outcome State Fault Refusal :=
  let n := sid.toNat
  .next (inSession s sid auth 5 (fun x s =>
    if !x.join.any JoinIn.confirmed then vdAnswer s n 0x13 Status.denied.code []
    else
      let (s, st) := fwKvt s 0x17 0 epoch.toNat false [] doEpochSend
      let s := if st = 0 then setAtt s { s.att with digest := s.att.plan.elim [] Plan.digest } else s
      vdAnswer s n 0x13 st []))

end Sys2Proof.Machine
end

