-- ==== Sys2Proof/Machine/CceModes.lean ====
section
/-!
DEFINITION. The modes of operation of CCE (16 R425, Table 16.2), over AES-256 as an opaque block cipher: SP 800-38A, SP 800-38B and SP 800-38D as the
chapter names them.
-/
namespace Sys2Proof.Machine

/-- Multiplication in the field of GHASH: `z` accumulates, `v` runs through the multiples of the second factor (SP 800-38D). -/
def gfStep (x : BitVec 128) (zv : BitVec 128 × BitVec 128) (i : Nat) : BitVec 128 × BitVec 128 :=
  let z := if x.getMsbD i then zv.1 ^^^ zv.2 else zv.1
  let v := if zv.2.getLsbD 0 then (zv.2 >>> 1) ^^^ 0xE1000000000000000000000000000000 else zv.2 >>> 1
  (z, v)

/-- The product of two elements. -/
def gfMul (x y : BitVec 128) : BitVec 128 := ((List.range 128).foldl (gfStep x) (0, y)).1

/-- A string cut into blocks of 16 bytes, the last one padded with zeros. -/
def blocks16 (b : Bytes) : List Bytes :=
  (List.range ((b.length + 15) / 16)).map (fun k => let p := (b.drop (16 * k)).take 16; p ++ zeros (16 - p.length))

/-- The GHASH accumulator after a string, padded to whole blocks. -/
def ghash (h acc b : Bytes) : Bytes :=
  beBytes 16 ((blocks16 b).foldl (fun a x => (gfMul (BitVec.ofNat 128 (beNat x) ^^^ a) (BitVec.ofNat 128 (beNat h)))) (BitVec.ofNat 128 (beNat acc))).toNat

/-- The GCM tag from the accumulator over data, with the lengths in bytes, before truncation. -/
def gcmFinish (key iv acc : Bytes) (add len : Nat) : Bytes :=
  let h := Config.aes256 key (zeros 16)
  xorBytes (ghash h acc (beBytes 8 (8 * add) ++ beBytes 8 (8 * len))) (Config.aes256 key (iv ++ beBytes 4 1))

/-- inc32 on a counter block (16 R425). -/
def inc32 (c : Bytes) : Bytes := c.take 12 ++ beBytes 4 ((beNat (c.drop 12) + 1) % 2 ^ 32)

/-- The increment of CTR: the low 64 bits (16 R425). -/
def inc64 (c : Bytes) : Bytes := c.take 8 ++ beBytes 8 ((beNat (c.drop 8) + 1) % 2 ^ 64)

/-- Doubling of SP 800-38B. -/
def cmacDbl (b : Bytes) : Bytes :=
  let v := BitVec.ofNat 128 (beNat b)
  beBytes 16 ((if v.getMsbD 0 then (v <<< 1) ^^^ 0x87 else v <<< 1)).toNat

/-- The subkeys K1 and K2 of SP 800-38B. -/
def cmacKeys (key : Bytes) : Bytes × Bytes :=
  let k1 := cmacDbl (Config.aes256 key (zeros 16))
  (k1, cmacDbl k1)

/-- The last step of CMAC: `last` is what is left of the message, at most one block. With nothing left of a message that is not empty, its last block
stands in the chaining value already. -/
def cmacFinish (key chain last : Bytes) (before : Nat) : Bytes :=
  let (k1, k2) := cmacKeys key
  if last.length = 16 then Config.aes256 key (xorBytes (xorBytes chain last) k1)
  else if last = [] && before != 0 then Config.aes256 key (xorBytes (Config.aes256Inv key chain) k1)
  else Config.aes256 key (xorBytes (xorBytes chain (last ++ [0x80] ++ zeros (15 - last.length))) k2)

/-- One block of an operation: output and next chaining value (16 Table 16.2). A last block may be short in CTR and GCM. -/
def cceBlock (op : Nat) (key chain b : Bytes) : Bytes × Bytes :=
  if op = 1 then (Config.aes256 key b, chain)
  else if op = 2 then (Config.aes256Inv key b, chain)
  else if op = 3 then (let c := Config.aes256 key (xorBytes b chain); (c, c))
  else if op = 4 then (xorBytes (Config.aes256Inv key b) chain, b)
  else if op = 5 then (xorBytes b (Config.aes256 key chain), inc64 chain)
  else if op = 6 || op = 7 then (xorBytes b (Config.aes256 key chain), inc32 chain)
  else ([], Config.aes256 key (xorBytes chain b))

/-- The blocks of a run of data: output and next chaining value. -/
def cceBlocks (op : Nat) (key chain b : Bytes) : Bytes × Bytes :=
  (List.range ((b.length + 15) / 16)).foldl (fun a k =>
    let r := cceBlock op key a.2 ((b.drop (16 * k)).take 16)
    (a.1 ++ r.1, r.2)) ([], chain)

end Sys2Proof.Machine
end

