-- ==== Sys2Proof/Machine/CceOps.lean ====
section
/-!
DEFINITION. CCE as shared operations (16 R417 to R432): the checks of a descriptor, its accesses, its blocks, its verdict and its completion record.
An access carries the kind: 0 descriptor, 1 source, 2 additional data, 3 state record, 4 destination, 5 zeroing, 6 state record written, 7 completion record.
-/
namespace Sys2Proof.Machine

/-! ### Descriptors (16 Tables 16.1, 16.2) -/

/-- OP of a descriptor. -/
def CceJob.op (j : CceJob) : Nat := j.fld 0 1
/-- KKEYID of a descriptor. -/
def CceJob.kkey (j : CceJob) : Nat := j.fld 2 2
/-- LEN of a descriptor. -/
def CceJob.len (j : CceJob) : Nat := j.fld 8 4
/-- ALEN of a descriptor. -/
def CceJob.alen (j : CceJob) : Nat := j.fld 12 4
/-- SRC of a descriptor. -/
def CceJob.srcA (j : CceJob) : Nat := j.fld 16 6
/-- DST of a descriptor. -/
def CceJob.dstA (j : CceJob) : Nat := j.fld 24 6
/-- STATE_ADDR of a descriptor. -/
def CceJob.stateA (j : CceJob) : Nat := j.fld 72 6
/-- TAGLEN of a descriptor. -/
def CceJob.tagLen (j : CceJob) : Nat := j.fld 5 1
/-- Whether the operation is GCM-ENC or GCM-DEC. -/
def CceJob.gcm (j : CceJob) : Bool := j.op = 6 || j.op = 7
/-- Whether the operation is CMAC-GEN or CMAC-VER. -/
def CceJob.cmac (j : CceJob) : Bool := j.op = 8 || j.op = 9
/-- TWO_PASS. -/
def CceJob.twoPass (j : CceJob) : Bool := j.flag 2
/-- CONT_IN. -/
def CceJob.contIn (j : CceJob) : Bool := j.flag 3
/-- CONT_OUT. -/
def CceJob.contOut (j : CceJob) : Bool := j.flag 4
/-- Whether the descriptor compares a tag. -/
def CceJob.verifies (j : CceJob) : Bool := (j.op = 7 || j.op = 9) && !j.contOut
/-- Whether the descriptor reports a tag. -/
def CceJob.tags (j : CceJob) : Bool := (j.op = 6 || j.op = 8) && !j.contOut

/-- The first check of R426. -/
def CceJob.formOk (j : CceJob) : Bool :=
  let op := j.op
  let z (i n : Nat) : Bool := j.fld i n = 0
  let addr (i : Nat) : Bool := j.fld i 6 < 2 ^ 42
  let cont := j.contIn || j.contOut
  1 ≤ op && op ≤ 9 && j.fld 4 1 < 2 && j.fld 1 1 < 32 && z 6 2 && z 38 2 && z 78 2 && z 83 5 && z 96 32 && addr 16 && addr 24 && addr 32 && addr 72
    && (!j.gcm || z 52 4) && (!j.cmac || z 40 16) && (if op = 7 || op = 9 then allZero ((j.desc.drop (56 + j.tagLen)).take (16 - j.tagLen)) else z 56 16)
    && j.len ≤ 1048576 && (4 < op || (j.len % 16 = 0 && 16 ≤ j.len)) && (op != 5 || 1 ≤ j.len)
    && (if j.gcm then j.alen ≤ 65536 else j.alen = 0)
    && (if j.gcm then 12 ≤ j.tagLen && j.tagLen ≤ 16 else if j.cmac then 8 ≤ j.tagLen && j.tagLen ≤ 16 else j.tagLen = 0)
    && (if cont then j.stateA % 128 = 0 else j.stateA = 0)
    && !(j.twoPass && (op != 7 || cont))
    && !(j.contOut && (j.len % 16 != 0 || op ≤ 2 || op = 9))
    && !(j.contIn && j.alen != 0)

/-- The second check of R426: source and destination overlap without being the same range. -/
def CceJob.overlaps (j : CceJob) : Bool :=
  !j.cmac && j.srcA != j.dstA && j.srcA < j.dstA + j.len && j.dstA < j.srcA + j.len

/-- Whether R419 admits a KeyID for a queue, CCE_USE aside. -/
def cceKeyOk (s : State) (q : Nat) (x : CceQ) (k : Nat) : Bool :=
  if x.fw then isTenant k || k = 0xFF10 + q else isTenant k && (boundTo s k x.inst || leftBy s k x.inst)

/-- Whether a slot's POLICY refuses CCE (08 R211, Table 08.5). -/
def cceBarred (s : State) (k : Nat) : Bool :=
  match keyedSlot s k with
  | some (_, x) => !x.policy.testBit 1
  | none => false

/-- The checks of R426 in order: a status, or none. -/
def cceJudge (s : State) (q : Nat) (x : CceQ) (j : CceJob) : Option Nat :=
  let k := j.kkey
  let opnd (i : Nat) : Bool := j.fld i 2 = 0 || cceKeyOk s q x (j.fld i 2)
  let gone := x.gone.any (fun r => r.1 ≤ j.n && j.n < r.2)
  if gone then some Status.unitGone.code
  else if !j.formOk then some Status.denied.code
  else if j.overlaps then some Status.denied.code
  else if !x.fw && ctxLost s x.inst (j.fld 80 3) then some Status.contextLost.code
  else if !cceKeyOk s q x k || cceBarred s k then some Status.denied.code
  else if !opnd 22 || !opnd 30 then some Status.denied.code
  else if isRetiring s k || isRetiring s (j.fld 22 2) || isRetiring s (j.fld 30 2) then some Status.keyRetired.code
  else none

/-! ### Accesses (16 R427) -/

/-- An access of a queue for a piece of a byte range. -/
def cceReq (s : State) (q : Nat) (x : CceQ) (j : CceJob) (kind keyId : Nat) (p : Nat × Nat × Bytes × List Bool) : Req :=
  let wr := 4 ≤ kind
  ⟨.cce q (j.id * 8 + kind), b2n wr, 0, p.1, s.dom.ownId, 0, p.2.1, keyId, 0, if 1 ≤ kind && kind ≤ 6 then j.fld 80 3 else 0, 0, p.2.2.1,
    if wr then p.2.2.2 else List.replicate 256 false, if x.fw then none else some x.inst, x.gen⟩

/-- The accesses of a byte range. -/
def cceReqs (s : State) (q : Nat) (x : CceQ) (j : CceJob) (kind keyId a n : Nat) (data : Bytes) : List Req :=
  (rangePairs a n data).map (cceReq s q x j kind keyId)

/-- The kind of an access. -/
def Req.cceKind (r : Req) : Nat :=
  match r.src with
  | .cce _ t => t % 8
  | _ => 0

/-- Present what a queue's descriptor waits to present, in order; reads run at most 4 KiB ahead (16 R427, 18 Table 18.2). -/
def cceIssue (s : State) (q : Nat) : State :=
  match (cceQ s q).job with
  | none => s
  | some j0 => j0.todo.foldl (fun t r =>
      match (cceQ t q).job with
      | some j =>
        if j.todo.head? = some r && canOffer t r && (4 ≤ r.cceKind || (j.waits.filter (fun w => w.1 < 4)).length < 16) then
          offer (setJob t q { j with todo := j.todo.drop 1, waits := j.waits ++ [(r.cceKind, r.addr)] }) r
        else t
      | none => t) s

/-- The bytes of a write's enables. -/
def wbeCount (j : CceJob) (addr : Nat) : Nat := min (j.dstA + j.len) (addr + 256) - max j.dstA addr

/-- An answer to an access of a descriptor. -/
def cceAnswer (s : State) (q : Nat) (j : CceJob) (kind addr st : Nat) (data : Bytes) : State :=
  let j := { j with waits := j.waits.erase (kind, addr) }
  let pair := if data = [] then zeros 256 else data
  if kind = 0 then setJob s q { j with stage := .fetched, desc := (pair.drop (addr % 256 + (j.n % 2 ^ (cceQ s q).log2) % 2 * 128)).take 128, st := st }
  else if kind = 7 then setJob s q { j with stage := .done, ringSt := st }
  else if kind = 4 && st = 0 then
    instCount (setJob s q { j with held := j.held + wbeCount j addr }) (if (cceQ s q).fw then none else some (cceQ s q).inst) 0x538 (wbeCount j addr)
  else if kind = 5 then
    setJob s q (if st = 0 then { j with held := j.held - wbeCount j addr } else { j with zeroBad := true })
  else if j.stage = .ending then setJob s q j
  else if st != 0 && !(st = 1 && kind < 3) then cceEnd s q j (if kind = 3 && st = 1 then Status.denied.code else st)
  else if kind ≤ 3 then setJob s q { j with got := tblPut j.got (addr / 256) pair }
  else setJob s q j

/-- Whether a reply is for CCE. -/
def Reply.isCce (r : Reply) : Bool :=
  match r.src with
  | .cce _ _ => true
  | _ => false

/-- A reply to the descriptor it names; a reply to one that is over is discarded (18 R476). -/
def cceReply (s : State) (r : Reply) : State :=
  match r.src with
  | .cce q t => (match (cceQ s q).job with
    | some j => if j.id = t / 8 && j.stage != .held then cceAnswer s q j (t % 8) r.addr r.st r.data else staleRsp s
    | none => staleRsp s)
  | _ => s

/-! ### Blocks, tags and state records (16 R425, R428 to R431) -/

/-- How many bytes of the source stand in a row from `a` on: `m` pairs at most. -/
def cceRun (t : Tbl Bytes) (p : Nat) : Nat → Nat
  | 0 => 0
  | m + 1 => if (tblFind t p).isSome then 1 + cceRun t (p + 1) m else 0

/-- The bytes of the source that can be processed: whole blocks, or all that is left. -/
def cceReady (j : CceJob) : Nat :=
  let a := j.srcA
  let n := cceRun j.got ((a + j.pos) / 256) ((a + j.len + 255) / 256 - (a + j.pos) / 256)
  let top := min (a + j.len) (((a + j.pos) / 256 + n) * 256) - a
  let top := if top = j.len then top else top / 16 * 16
  if n = 0 then j.pos else top

/-- The GHASH accumulator over what the descriptor has hashed: additional data, then ciphertext. -/
def CceJob.hashed (j : CceJob) : Bytes :=
  let h := Config.aes256 j.key (zeros 16)
  ghash h (ghash h j.acc j.add) j.ct

/-- The tag of the whole chain, truncated (16 R429). -/
def CceJob.tag (j : CceJob) : Bytes :=
  (if j.gcm then gcmFinish j.key j.iv j.hashed (j.addBefore + j.alen) (j.dataBefore + j.len)
   else cmacFinish j.key j.chain j.ct j.dataBefore).take j.tagLen

/-- The state record (16 Table 16.3). -/
def CceJob.record (j : CceJob) : Bytes :=
  [BitVec.ofNat 8 j.op, BitVec.ofNat 8 (b2n (j.relBefore || j.released))] ++ leBytes 2 j.kkey ++ [BitVec.ofNat 8 (j.fld 4 1), 0, 0, 0]
    ++ leBytes 8 (j.addBefore + j.alen) ++ leBytes 8 (j.dataBefore + j.len) ++ (if j.gcm || 3 ≤ j.op then j.chain else zeros 16)
    ++ (if j.gcm then j.hashed ++ j.iv else zeros 28) ++ zeros 60

/-- The first chaining value of an operation that starts (16 Table 16.1): CBC and CTR take IV, GCM inc32 of J0, CMAC zero. -/
def CceJob.start (j : CceJob) : CceJob :=
  let iv := (j.desc.drop 40).take 16
  { j with chain := if j.gcm then iv.take 12 ++ beBytes 4 2 else if j.op = 3 || j.op = 4 || j.op = 5 then iv else zeros 16,
           acc := zeros 16, iv := iv.take 12 }

/-- A descriptor goes on from a state record; one of another operation, KeyID or key is refused (16 R431). -/
def cceRestore (j : CceJob) (b : Bytes) : Option CceJob :=
  let f (i n : Nat) : Nat := leNat ((b.drop i).take n)
  if f 0 1 = j.op && f 2 2 = j.kkey && f 4 1 = j.fld 4 1 then
    some { j with relBefore := f 1 1 % 2 = 1, addBefore := f 8 8, dataBefore := f 16 8, chain := (b.drop 24).take 16, acc := (b.drop 40).take 16,
                  iv := (b.drop 56).take 12, got := [] }
  else none

/-- The detector that a disagreement between two cores sets (16 R428): GHASH_CMP for the multipliers, otherwise CORE_CMP. -/
def cceCheckBit (s : State) (j : CceJob) : Option Nat :=
  if injArmed s pgCce 0 then some 0 else if j.gcm && injArmed s pgCce 1 then some 1 else none

/-- The source reads of a descriptor. -/
def cceSource (s : State) (q : Nat) (j : CceJob) : List Req := cceReqs s q (cceQ s q) j 1 (j.fld 22 2) j.srcA j.len []

/-- The additional-data reads of a descriptor. -/
def cceAdd (s : State) (q : Nat) (j : CceJob) : List Req := cceReqs s q (cceQ s q) j 2 (j.fld 22 2) (j.fld 32 6) j.alen []

/-- A tag does not match (16 R429). -/
def cceMismatch (s : State) (q : Nat) (j : CceJob) : State :=
  if j.op = 9 || !(j.released || j.relBefore) then cceEnd s q j Status.authFail.code
  else if !j.flag 1 then cceEnd s q j Status.untrustedResult.code
  else setJob s q { j with stage := .zero, zeroBad := false, todo := cceReqs s q (cceQ s q) j 5 (j.fld 30 2) j.dstA j.len (zeros j.len) }

/-- Every operand is processed and every output is written: the verdict (16 R429 to R431). -/
def cceVerdict (s : State) (q : Nat) (j : CceJob) : State :=
  if j.contOut then
    setJob s q { j with stage := .save, todo := cceReqs s q (cceQ s q) j 6 (0xFF10 + q) j.stateA 128 j.record }
  else if j.verifies then
    let t := j.tag
    if t = (j.desc.drop 56).take j.tagLen && (j.tag1.isNone || j.tag1 = some t) then cceEnd s q j 0 else cceMismatch s q j
  else if j.tags then cceEnd s q { j with tagOut := j.tag } 0
  else cceEnd s q j 0

/-- The first pass of TWO_PASS is over (16 R430). -/
def cceFirstDone (s : State) (q : Nat) (j : CceJob) : State :=
  let j := { j with ct := gather j.got j.srcA j.len }
  let t := j.tag
  if t = (j.desc.drop 56).take j.tagLen then
    setJob s q { j with stage := .src, tag1 := some t, ct := [], got := [], todo := cceSource s q j }
  else cceEnd s q j Status.authFail.code

/-- New blocks of a descriptor: checked on the other core, then released as the destination pairs fill (16 R427, R428). CMAC keeps its last block back. -/
def cceProcess (s : State) (q : Nat) (j : CceJob) (top : Nat) : State :=
  let b := gather j.got (j.srcA + j.pos) (top - j.pos)
  let keep := if j.cmac && !j.contOut && top = j.len then (if b.length % 16 = 0 then min 16 b.length else b.length % 16) else 0
  let r := cceBlocks j.op j.key j.chain (b.take (b.length - keep))
  let j := { j with pos := top, chain := r.2, out := j.out ++ r.1, got := j.got.filter (fun e => (j.srcA + top) / 256 ≤ e.1),
                    ct := if j.op = 6 then j.ct ++ r.1 else if j.op = 7 then j.ct ++ b else if j.cmac then b.drop (b.length - keep) else [] }
  let lim := if top = j.len then j.dstA + j.len else (j.dstA + top) / 256 * 256
  let n := lim - (j.dstA + j.wpos)
  if j.cmac || n = 0 then setJob s q j
  else
    let ws := cceReqs s q (cceQ s q) j 4 (j.fld 30 2) (j.dstA + j.wpos) n (j.out.take n)
    setJob s q { j with todo := ws ++ j.todo, wpos := j.wpos + n, out := j.out.drop n, released := true }

/-- A disagreement of the cores (16 R428): nothing more is released, the detector fires and WRC starts an L1 of CCE. -/
def cceDisagree (s : State) (q : Nat) (j : CceJob) (bit : Nat) : State :=
  detect (setJob s q { j with todo := [], out := [] }) pgCce bit

/-- The source and the additional data are in: what comes next. -/
def cceNext (s : State) (q : Nat) (j : CceJob) : State :=
  if j.alen != 0 && j.add = [] then setJob s q { j with stage := .aad, got := [], todo := j.todo ++ cceAdd s q j }
  else setJob s q { j with stage := .drain }

/-- One thing that a descriptor can do with what has come back for it. -/
def cceAdvance (s : State) (q : Nat) : State :=
  match (cceQ s q).job with
  | none => s
  | some j =>
    let idle := j.todo = [] && j.waits = []
    match j.stage with
    | .key =>
      if cceBarred s j.kkey then cceEnd s q j Status.denied.code
      else match busRead s j.kkey with
        | .absent => keyMiss s j.kkey (if (cceQ s q).fw then none else some (cceQ s q).inst)
        | .parity => cceEnd (keyParity s j.kkey) q j Status.poison.code
        | .keys ks =>
          let j := { j.start with key := if j.fld 4 1 = 0 then ks.ek else ks.tk }
          let s := touchSlot s j.kkey
          if j.contIn then setJob s q { j with stage := .restore, todo := cceReqs s q (cceQ s q) j 3 (0xFF10 + q) j.stateA 128 [] }
          else if j.twoPass then setJob s q { j with stage := .first, todo := (if j.alen = 0 then [] else cceAdd s q j) }
          else setJob s q { j with stage := .src, todo := cceSource s q j }
    | .restore =>
      if !idle then s
      else match cceRestore j (gather j.got j.stateA 128) with
        | none => cceEnd s q j Status.denied.code
        | some j => setJob s q { j with stage := .src, todo := cceSource s q j }
    | .first =>
      if !idle then s
      else if j.alen != 0 && j.add = [] then
        let j := { j with add := gather j.got (j.fld 32 6) j.alen, got := [] }
        setJob s q { j with todo := cceSource s q j }
      else if j.len != 0 && j.got = [] then setJob s q { j with todo := cceSource s q j }
      else cceFirstDone s q j
    | .src =>
      let top := cceReady j
      if j.pos < top then
        (match cceCheckBit s j with
         | some b => cceDisagree s q j b
         | none => cceProcess s q j top)
      else if j.pos = j.len then cceNext s q j
      else s
    | .aad => if !idle then s else setJob s q { j with stage := .drain, add := gather j.got (j.fld 32 6) j.alen, got := [] }
    | .drain => if !idle then s else cceVerdict s q j
    | .zero =>
      if !idle then s
      else cceEnd s q j (if j.zeroBad || j.relBefore then Status.untrustedResult.code else Status.authFail.code)
    | .save => if !idle then s else cceEnd s q j 0
    | _ => s

/-! ### Rings (16 R420 to R423, R432) -/

/-- The completion record (16 Table 16.4a). -/
def cceCompletion (j : CceJob) : Bytes :=
  [BitVec.ofNat 8 j.st, BitVec.ofNat 8 j.op, BitVec.ofNat 8 (j.pair % 4), 0] ++ leBytes 4 j.n ++ leBytes 4 j.held ++ zeros 4 ++ ((j.desc.drop 88).take 8) ++ zeros 8
    ++ (j.tagOut ++ zeros (16 - j.tagOut.length)) ++ zeros 16

/-- A descriptor that has ended and has nothing outstanding has its completion record written. -/
def cceRecord (s : State) (q : Nat) : State :=
  match (cceQ s q).job with
  | some j =>
    if j.stage = .ending && j.waits = [] then
      let x := cceQ s q
      setJob s q { j with stage := .record, todo := cceReqs s q x j 7 x.ringKey (x.cq * 4096 + j.n % 2 ^ x.log2 * 64) 64 (cceCompletion j) }
    else s
  | none => s

/-- Whether CCE fetches: enabled, clocked, not in a reset, not in SLEEP (16 R423). -/
def cceFetches (s : State) : Bool := inService s pgCce && s.cru.st = .run

/-- Fetch the next descriptor of a queue (16 R422). -/
def cceFetch (s : State) (q : Nat) : State :=
  let x := cceQ s q
  if cceFetches s && x.opened && !x.closing && !x.stopped && x.job.isNone && x.done < x.prod then
    let j : CceJob := ⟨s.cce.nextId, x.done, .fetch, [], 0, [], 0, [], [], [], [], 0, 0, [], [], [], [], [], 0, 0, false, false, 0, none, [], false, 0⟩
    let a := x.sq * 4096 + x.done % 2 ^ x.log2 * 128
    setJob { s with cce := { s.cce with nextId := s.cce.nextId + 1 } } q { j with todo := cceReqs s q x j 0 x.ringKey a 128 [] }
  else s

/-- A free pair takes the next waiting descriptor, round-robin over the queues (16 R417). -/
def cceStart (s : State) : State :=
  let busy (p : Nat) : Bool := (cceJobs s).any (fun j => j.2.onPair && j.2.pair = p)
  match (List.range 4).find? (fun p => !busy p) with
  | none => s
  | some p =>
    if replaying s pgCce then s else
    match ((List.range 16).map (fun k => (s.cce.turn + 1 + k) % 16)).find? (fun q => ((cceQ s q).job.map CceJob.stage) = some .pair) with
    | none => s
    | some q =>
      match (cceQ s q).job with
      | some j => cceRefresh (setJob { pmuItem s 67 with cce := { s.cce with turn := q } } q { j with stage := .key, pair := p })
      | none => s

/-- CCE takes what has come back for it: replies, then for each queue what its descriptor can do next and what it waits to present. -/
def cceSettle (s : State) : State :=
  let mine := s.ttb.replies.filter Reply.isCce
  let s := { s with ttb := { s.ttb with replies := s.ttb.replies.filter (fun r => !r.isCce) } }
  let s := mine.foldl cceReply s
  let s := (List.range 4).foldl (fun t _ => cceStart t) s
  (List.range 16).foldl (fun t q =>
    let t := (List.range 6).foldl (fun t _ => cceAdvance t q) t
    cceIssue (cceFetch (cceRecord t q) q) q) s

end Sys2Proof.Machine
end

