-- ==== Sys2Proof/Machine/Cce.lean ====
section
/-!
DEFINITION. The commands of CCE (16).
-/
namespace Sys2Proof.Machine

/-- The queue that Q_SEL selects. -/
def cceSel (s : State) : Nat := getFld s (pgCce + 0x040) 3 0

/-- A register of a queue (16 Table 16.7). -/
def cceReg (s : State) (q o : Nat) : Word := tblGet 0 s.cce.cfg (q * 256 + o)

/-- CSTATUS of a queue. -/
def cceStatus (s : State) (q : Nat) (st : Status) : State :=
  { s with cce := { s.cce with cfg := tblSet 0 s.cce.cfg (q * 256 + 0x058) (BitVec.ofNat 32 st.code) } }

/-- The conditions of R420 on the selected queue's registers. -/
def cceOpenOk (s : State) (q : Nat) : Bool :=
  let w := cceReg s q 0x044
  let k := getBits (cceReg s q 0x050) 15 0
  let lg := getBits w 19 16
  1 ≤ lg && lg ≤ 10 && (if getBit w 0 then k = 0xFF10 + q else 1 ≤ k && k < 0xFF00 && boundTo s k (getBits w 15 8))

/-- OPEN of the selected queue. A queue that is open and not stopped is refused; one whose last record is still to be written answers RETRY. -/
def doCceOpen (r : Role) (s : State) : State :=
  let q := cceSel s
  let x := cceQ s q
  let w := cceReg s q 0x044
  let i := getBits w 15 8
  if !cceOpenOk s q || (x.opened && !x.stopped) then commitDone (cceStatus s q .denied) r (pgCce + 0x054)
  else if x.job.isSome then commitDone (cceStatus s q .retry) r (pgCce + 0x054)
  else
    let y : CceQ := { CceQ.zero with
      opened := true, fw := getBit w 0, inst := i, gen := if getBit w 0 then 0 else instGen s i, log2 := getBits w 19 16,
      sq := getBits (cceReg s q 0x048) 29 0, cq := getBits (cceReg s q 0x04C) 29 0, ringKey := getBits (cceReg s q 0x050) 15 0 }
    commitDone (cceStatus (setCceQ s q y) q .ok) r (pgCce + 0x054)

/-- A closing queue without a descriptor in work is closed, and its CLOSE has completed (16 R433). -/
def cceClosed (s : State) (q : Nat) : State :=
  let x := cceQ s q
  if x.closing && x.job.isNone then cceStatus (setCceQ s q { x with opened := false, closing := false, stopped := false, gone := [] }) q .ok else s

/-- CLOSE of the selected queue. -/
def doCceClose (r : Role) (s : State) : State :=
  let q := cceSel s
  let x := cceQ s q
  let s := commitDone s r (pgCce + 0x054)
  if x.opened then
    let job := match x.job with
      | some j => if j.stage = .fetch || j.stage = .fetched then none else some j
      | none => none
    cceClosed (setCceQ s q { x with closing := true, job := job }) q
  else cceStatus s q .ok

/-- CCE_Q_OPEN (16 R420). -/
def execCceQOpen (role : Role) (s : State) : Host.Outcome State Fault Refusal := .next (judgeGuarded s role (pgCce + 0x054) (doCceOpen role))

/-- CCE_Q_CLOSE (16 R433). -/
def execCceQClose (role : Role) (s : State) : Host.Outcome State Fault Refusal := .next (judgeGuarded s role (pgCce + 0x054) (doCceClose role))

/-- A doorbell value for a queue (16 R421, R423): taken as PROD where it lies above PROD and no more than 2^LOG2 above DONE; any other is ignored and counted. -/
def cceDoorbell (s : State) (q v : Nat) : State :=
  let x := cceQ s q
  if x.opened && x.prod < v && v ≤ x.done + 2 ^ x.log2 then
    let gone := if inService s pgCce then x.gone else x.gone ++ [(x.prod, v)]
    cceSettle (setCceQ s q { x with prod := v, gone := gone })
  else incSat s (pgCce + 0x024) 15 0 1

/-- A write of CCE_DB or of a doorbell of an instance page, once it is judged. An instance's write for a queue it does not own is dropped and counted on its page. -/
def doCceDoorbell (r : Role) (off q : Nat) (v : Word) (s : State) : State :=
  let s := wake s 3
  let s :=
    if isInstOff off then
      let x := cceQ s q
      if x.fw || !x.opened || x.inst != instOf off then
        incSat s ((if x.opened then pageOf off else pgCce) + 0x024) 15 0 1
      else cceDoorbell s q v.toNat
    else if (cceQ s (cceSel s)).fw then cceDoorbell s (cceSel s) v.toNat
    else incSat s (pgCce + 0x024) 15 0 1
  regDone s r off .ok 0

/-- CCE_DOORBELL (16 R421, 17 Table 17.13): an instance writes the doorbell of queue `q` on its own page; any other role writes CCE_DB for the queue that
Q_SEL selects. -/
def execCceDoorbell (role : Role) (q : Fin 16) (v : Word) (s : State) : Host.Outcome State Fault Refusal :=
  let off := match role with
    | .t i => instPage i.val + 0x400 + 4 * q.val
    | _ => pgCce + 0x064
  .next (judgeWrite s role off (doCceDoorbell role off q.val v))

/-- A ring access failed (16 R422): the queue stops. -/
def cceRingErr (s : State) (q : Nat) (j : CceJob) (st : Nat) : State :=
  cceClosed (setCceQ (detectAs s pgCce 2 rcCceRing none q (j.n % 2 ^ 32) (injP3 (injArmed s pgCce 2) st)) q { cceQ s q with stopped := true, job := none }) q

/-- CCE_DESC_FETCHED (16 R422, R426, R417): the descriptor that a queue has read is judged, then started on a free pair. -/
def execCceDescFetched (q : Fin 16) (s : State) : Host.Outcome State Fault Refusal :=
  let q := q.val
  .next (onlyIf (pageUp s pgCce) s (
    let s := cceSettle s
    match (cceQ s q).job with
    | some j =>
      if j.stage = .fetched then
        (if j.st != 0 || injArmed s pgCce 2 then cceRingErr s q j j.st
         else match cceJudge s q (cceQ s q) j with
           | some st => cceSettle (cceEnd s q j st)
           | none => cceSettle (setJob s q { j with stage := .pair }))
      else s
    | none => s))

/-- CCE_DESC_END (16 R422, R428 to R432): the completion record of a queue's descriptor is written, so DONE advances. `core` and `mul` stand for a disagreement of the
cores or of the GHASH multipliers in a block of the running descriptor. -/
def execCceDescEnd (q : Fin 16) (core mul : Bool) (s : State) : Host.Outcome State Fault Refusal :=
  let q := q.val
  .next (onlyIf (pageUp s pgCce) s (
    let s := cceSettle s
    match (cceQ s q).job with
    | some j =>
      if (core || (mul && j.gcm)) && (j.stage = .src || j.stage = .drain || j.stage = .first) then cceDisagree s q j (if core then 0 else 1)
      else if j.stage != .done then s
      else if j.ringSt != 0 || injArmed s pgCce 2 then cceSettle (cceRingErr s q j j.ringSt)
      else
        let x := cceQ s q
        let s := setCceQ s q { x with done := if x.opened then j.n + 1 else x.done, job := none }
        let s := incSat s (pgCce + (if j.st = 0 then 0x070 else 0x074)) 31 0 1
        let s := if j.st = Status.untrustedResult.code then incSat s (pgCce + 0x078) 31 0 1 else s
        let s := if j.flag 0 then irqEvent s (0xE0 + q) (if x.fw then none else some x.inst) j.st q (j.n % 2 ^ 32) (cceQ s q).done else s
        cceSettle (cceClosed s q)
    | none => s))

end Sys2Proof.Machine
end

