-- ==== Sys2Proof/Machine/ImuRun.lean ====
section
/-!
DEFINITION. IMU's own memory accesses (17 R457 to R459): the first value of an object, a signal, and the read that an armed wait begins with.
-/
namespace Sys2Proof.Machine

/-- An access of IMU to the word at an address, under the page's KeyID. -/
def imuReq (s : State) (i tag op aop addr keyId v : Nat) : Req :=
  let o := addr % 256
  let en := List.replicate o false ++ List.replicate 8 true ++ List.replicate (248 - o) false
  ⟨.imu i tag, op, aop, addr / 256 * 256, s.dom.ownId, 0, if o < 128 then 1 else 2, keyId, 0, 0, 0, zeros o ++ leBytes 8 v ++ zeros (248 - o),
    if op = 0 then List.replicate 256 false else en, some i, instGen s i⟩

/-- Present what IMU waits to present. -/
def imuIssue (s : State) : State :=
  s.imu.todo.foldl (fun t q =>
    if canOffer t q then offer (setImu t { t.imu with todo := t.imu.todo.erase q }) q else t) s

/-- IMU has an access to present. -/
def imuAsk (s : State) (q : Req) : State := imuIssue (setImu s { s.imu with todo := s.imu.todo ++ [q] })

/-- The first value of an object is written (17 R457): serial, valid, handle and word address in the response words. -/
def createDone (s : State) (i st : Nat) : State :=
  match (instRec s i).tWait with
  | some w =>
    if w.cmd != 0x13 then s
    else if st != 0 then mbDone s i true 0x13 w.seq st
    else
      let slot := w.arg % 256
      let o := objAt s i slot
      let s := setObj s i slot ⟨256 ≤ w.arg, (o.serial + 1) % 2 ^ 16, true⟩
      let a := (instRec s i).objPage.getD 0 * 4096 + 8 * slot
      mbDone (putWords s (instPage i + 0x0C0) (leBytes 8 (objHandle s i slot) ++ leBytes 8 a)) i true 0x13 w.seq 0
  | none => s

/-- A reply to an access of IMU. -/
def imuReply (s : State) (r : Reply) : State :=
  match r.src with
  | .imu i 0 => createDone s i r.st
  | .imu i 1 =>
    (match (instRec s i).sig with
     | some _ =>
       let s := setInst s i { instRec s i with sig := none }
       setRegBit (setFld s (instPage i + 0x234) 7 0 r.st) (instPage i + 0x234) 8 false
     | none => s)
  | .imu i (n + 2) =>
    (match s.imu.watches.find? (fun w => w.inst = i && w.slot = n) with
     | some w =>
       if 1 < r.st then waitEnd s i n r.st
       else if w.target ≤ leNat ((r.data.drop (w.addr % 256)).take 8) then waitEnd s i n 0
       else s
     | none => s)
  | _ => s

/-- Whether a reply is for IMU. -/
def Reply.isImu (r : Reply) : Bool :=
  match r.src with
  | .imu _ _ => true
  | _ => false

/-- IMU takes what has come back for it and presents what waits. -/
def imuSettle (s : State) : State :=
  let mine := s.ttb.replies.filter Reply.isImu
  let s := { s with ttb := { s.ttb with replies := s.ttb.replies.filter (fun r => !r.isImu) } }
  imuIssue (mine.foldl imuReply s)

end Sys2Proof.Machine
end

