-- ==== Sys2Proof/Machine/Instances.lean ====
section
/-!
DEFINITION. The mailbox commands, the tenant switch, objects and wait slots (17).
-/
namespace Sys2Proof.Machine

/-! ### Mailbox commands (17 R441, R442, Table 17.2) -/

/-- Request word `k` of a mailbox. -/
def mbWord (s : State) (i : Nat) (tenant : Bool) (k : Nat) : Word := rawReg s (instPage i + (if tenant then 0x080 else 0x140) + 4 * k)

/-- Request words from `k` on as bytes. -/
def mbBytes (s : State) (i : Nat) (tenant : Bool) (k n : Nat) : Bytes := (List.range n).flatMap (fun j => leBytes 4 (mbWord s i tenant (k + j)).toNat)

/-- A command waits for another unit. -/
def mbHold (s : State) (i : Nat) (tenant : Bool) (w : MbWait) : State :=
  let x := instRec s i
  setInst s i (if tenant then { x with tWait := some w } else { x with mWait := some w })

/-- CREATE (17 Table 17.2, R443). -/
def mbCreate (s : State) (i seq : Nat) : State :=
  let s := setInst s i { instRec s i with owner := mbBytes s i false 1 12 }
  mbDone (setInstSt s i .active) i false 0x01 seq 0

/-- PASID_ADD (17 R439, Table 17.2). -/
def mbPasidAdd (s : State) (i seq : Nat) : State :=
  let p := (mbWord s i false 1).toNat
  let held := (s.imu.pasids.filter (fun x => x.2 = i)).length
  if 2 ^ 20 ≤ p || (tblFind s.imu.pasids p).isSome || 64 ≤ held || 4096 ≤ s.imu.pasids.length then mbDone s i false 0x02 seq Status.denied.code
  else mbDone (imuRefresh (setImu s { s.imu with pasids := tblPut s.imu.pasids p i })) i false 0x02 seq 0

/-- PASID_DEL (17 Table 17.2). -/
def mbPasidDel (s : State) (i seq : Nat) : State :=
  let p := (mbWord s i false 1).toNat
  if tblFind s.imu.pasids p = some i then mbDone (imuRefresh (setImu s { s.imu with pasids := tblDel s.imu.pasids p })) i false 0x03 seq 0
  else mbDone s i false 0x03 seq Status.denied.code

/-- Whether IMU takes new shares for an instance (17 Table 17.3, R446). -/
def sliceOk (s : State) (i : Nat) (ks sl : Word) : Bool :=
  let pg := instPage i
  let other (hi lo : Nat) : Nat := sliceSum s hi lo - getFld s (pg + 0x04C) hi lo
  let f (hi lo : Nat) : Nat := getBits sl hi lo
  ks.toNat ≤ 8192 && f 3 0 ≤ 12 && f 7 4 ≤ 8 && f 14 8 ≤ 96 && f 22 16 ≤ 96 && f 14 8 ≤ f 22 16 && f 15 15 = 0 && f 23 23 = 0
    && ksSum s - ksShare s i + ks.toNat ≤ 8192 && other 14 8 + f 14 8 ≤ 96
    && other 3 0 + f 3 0 ≤ (partWays s 2).2 && other 7 4 + f 7 4 ≤ (partWays s 1).2 && trsTaken s (some i) &&& f 31 24 = 0

/-- SLICE (17 R446): request word 1 holds KS, word 2 the fields of SLICE as the instance page shows them. -/
def mbSlice (s : State) (i seq : Nat) : State :=
  let a := mbWord s i false 1
  let b := mbWord s i false 2
  if sliceOk s i a b then
    mbDone (serveLoads (imuRefresh (setReg (setReg s (instPage i + 0x048) a) (instPage i + 0x04C) b))) i false 0x04 seq 0
  else mbDone s i false 0x04 seq Status.denied.code

/-- The four ranges of a SCRATCH request. -/
def mbRanges (s : State) (i : Nat) : List ScRange :=
  (List.range 4).map (fun k =>
    let a := mbWord s i false (1 + 2 * k)
    ⟨getBits a 7 0, getBits a 31 8, (mbWord s i false (2 + 2 * k)).toNat⟩)

/-- Whether two ranges overlap. -/
def scOverlap (a b : ScRange) : Bool := a.len != 0 && b.len != 0 && a.tgt = b.tgt && a.base < b.base + b.len && b.base < a.base + a.len

/-- Whether some two ranges of a list overlap. -/
def anyOverlap : List ScRange → Bool
  | [] => false
  | a :: t => t.any (scOverlap a) || anyOverlap t

/-- SCRATCH (17 Table 17.2). -/
def mbScratch (s : State) (i seq : Nat) : State :=
  let rs := mbRanges s i
  let others := s.imu.inst.flatMap (fun x => if x.1 = i then [] else x.2.scratch)
  let bad := rs.any (fun r => 2 ^ 24 ≤ r.len || (r.len != 0 && scratchCount s ≤ r.tgt)) || anyOverlap rs || rs.any (fun r => others.any (scOverlap r))
  if bad then mbDone s i false 0x05 seq Status.denied.code
  else mbDone (setInst s i { instRec s i with scratch := rs.filter (fun r => r.len != 0) }) i false 0x05 seq 0

/-- An owner ID in a blob's OWNERS (08 R211, 17 R443). -/
def ownerAdmits (owners owner : Bytes) : Bool :=
  !allZero (owner.take 8) && (List.range 4).any (fun k => (owners.drop (8 * k)).take 8 = owner.take 8)

/-- A sorted list with a number added. -/
def addSorted (i : Nat) : List Nat → List Nat
  | [] => [i]
  | j :: t => if i < j then i :: j :: t else if i = j then j :: t else j :: addSorted i t

/-- BIND's judgement in the order of R448: a status, or the KeyID's epoch. -/
def bindJudge (s : State) (i k : Nat) (kt : KtabRead) : State × (Nat ⊕ Nat) :=
  let x := instRec s i
  let denied : Nat ⊕ Nat := .inl Status.denied.code
  if gatewayOpen s then (recordInst s pgSbx rcGatewayRefusal (some i) i k 0, denied)
  else if !isTenant k then (s, denied)
  else if x.st != .active || !regBit s (instPage i + 0x040) 8 then (s, denied)
  else match kentRead s k kt with
    | (s, .inr (some e)) =>
      if !e.keyed || !blobOuterOk e.blob 1 then (s, denied)
      else match openBlob (s.kvt.dkek.getD Masked.zero).val e.blob with
        | .inl m => (unwrapFail s k 1 m, denied)
        | .inr (_, owners, _) =>
          if !ownerAdmits owners x.owner then (recordInst s pgImu rcAccessDenied (some i) i k 0, denied)
          else if isRetiring s k then (s, .inl Status.keyRetired.code)
          else
            let now := (tblFind s.imu.binds k).getD []
            let sets := ((tblPut s.imu.binds k (addSorted i now)).map Prod.snd).eraseDups
            if now = [] && e.kidEpoch < tblGet 0 s.imu.lastEpoch k then (s, denied)
            else if 255 < sets.length then (s, denied)
            else (s, .inr e.kidEpoch)
    | (s, _) => (s, denied)

/-- BIND (17 R448, 02 R48, R49). -/
def mbBind (s : State) (i seq : Nat) (kt : KtabRead) : State :=
  let k := (mbWord s i false 1).toNat
  match bindJudge s i k kt with
  | (s, .inl st) => mbDone s i false 0x06 seq st
  | (s, .inr ep) =>
    let now := (tblFind s.imu.binds k).getD []
    let last := if now = [] then tblSet 0 s.imu.lastEpoch k (ep + 1) else s.imu.lastEpoch
    mbDone (setImu s { s.imu with binds := tblPut s.imu.binds k (addSorted i now), lastEpoch := last }) i false 0x06 seq 0

/-- UNBIND (17 R449): the last instance's UNBIND retires the KeyID and completes with it. -/
def mbUnbind (s : State) (i seq : Nat) : State :=
  let k := (mbWord s i false 1).toNat
  let now := (tblFind s.imu.binds k).getD []
  let rest := now.filter (· != i)
  if !now.contains i then mbDone s i false 0x07 seq Status.denied.code
  else if rest != [] then mbDone (setImu s { s.imu with binds := tblPut s.imu.binds k rest }) i false 0x07 seq 0
  else
    let s := setImu s { s.imu with binds := tblDel s.imu.binds k, leaving := tblPut s.imu.leaving k [i] }
    let s := mbHold s i false ⟨0x07, seq, k, .unwritten⟩
    if isRetiring s k then s else retireCommit s k

/-- RESET, SWITCH and DESTROY begin: the commit of R450 and step 1 of Table 17.5. -/
def mbSequence (s : State) (i cmd seq : Nat) (st : InstSt) : State :=
  let owner := if cmd = 0x09 then mbBytes s i false 1 12 else []
  let s := recordInstance (genCommit s i) i cmd 0xFF
  let s := mbHold s i false ⟨cmd, seq, 0, .unwritten⟩
  setInstSt (setInst s i { instRec s i with seq := some ⟨cmd, seq, false, [], none, false, [], [], false, owner⟩ }) i st

/-- STEP from the T mailbox: SBX gives KVT a STEP (17 Table 17.2, 08 R218). -/
def mbStep (s : State) (i seq : Nat) (kt : KtabRead) : State :=
  let k := (mbWord s i true 1).toNat
  let bound := boundTo s k i || ((tblFind s.imu.leaving k).getD []).contains i
  if !bound then mbDone s i true 0x10 seq Status.denied.code
  else if isRetiring s k then mbDone s i true 0x10 seq Status.keyRetired.code
  else if regBit s (pgKvt + 0x04C) 16 then mbDone s i true 0x10 seq Status.retry.code
  else if s.kvt.refuseAll then mbDone s i true 0x10 seq Status.denied.code
  else if s.kvt.zeroised then mbDone s i true 0x10 seq Status.notReady.code
  else
    let c : KCmd := ⟨0x06, seq, k, 0, i + 1, []⟩
    let s := doStep kt c (mbHold s i true ⟨0x10, seq, k, .unwritten⟩)
    if s.kvt.cmd.isSome then s else mbDone s i true 0x10 seq (getFld s (pgKvt + 0x04C) 15 8)

/-- CTX_LOSE (17 R452). -/
def mbCtxLose (s : State) (i seq : Nat) : State :=
  let c := (mbWord s i true 1).toNat
  if 2 ^ 24 ≤ c then mbDone s i true 0x11 seq Status.denied.code else mbDone (loseContext s i c) i true 0x11 seq 0

/-- OBJ_PAGE (17 R456). -/
def mbObjPage (s : State) (i seq : Nat) : State :=
  let pg := (mbWord s i true 1).toNat
  let x := instRec s i
  let ok := (engineOfPage pg).isSome && (match winner s.jct.active pg with
    | some (_, j) => j.cls = .s && !j.ro && boundTo s j.ksrc i
    | none => false)
  let holds := x.objPage.isSome && x.objs.any (fun o => o.2.valid)
  let taken := (objPageOwner s pg).any (· != i)
  if 2 ^ 30 ≤ pg || !ok || holds || taken then mbDone s i true 0x12 seq Status.denied.code
  else mbDone (setInst s i { x with objPage := some pg }) i true 0x12 seq 0

/-- OBJ_CREATE (17 R457): the first value is written, then the slot becomes valid. -/
def mbObjCreate (s : State) (i seq : Nat) : State :=
  let w := (mbWord s i true 1).toNat
  let slot := w % 256
  match (instRec s i).objPage with
  | some pg =>
    if 512 ≤ w || (objAt s i slot).valid then mbDone s i true 0x13 seq Status.denied.code
    else imuAsk (mbHold s i true ⟨0x13, seq, w, .unwritten⟩) (imuReq s i 0 1 0 (pg * 4096 + 8 * slot) (objKey s pg) (leNat (mbBytes s i true 2 2)))
  | none => mbDone s i true 0x13 seq Status.denied.code

/-- OBJ_DESTROY (17 R460). -/
def mbObjDestroy (s : State) (i seq : Nat) : State :=
  let h := leNat (mbBytes s i true 1 2)
  let n := h / 2 ^ 16 % 2 ^ 16
  let slot := n % 256
  let o := objAt s i slot
  if n / 256 != i || !o.valid || h != objHandle s i slot then mbDone s i true 0x14 seq Status.denied.code
  else mbDone (waitsAbort (setObj s i slot { o with valid := false }) n) i true 0x14 seq 0

/-- The M commands that an instance's state serves (17 R437): none where the command is not served, with its status. -/
def mbRefused (s : State) (i : Nat) (tenant : Bool) (cmd : Nat) : Option Nat :=
  let known := if tenant then 0x10 ≤ cmd && cmd ≤ 0x14 else 1 ≤ cmd && cmd ≤ 0x0A
  match (instRec s i).st with
  | .free => if !tenant && cmd = 0x01 then none else some Status.denied.code
  | .active => if known && cmd != 0x01 then none else some Status.denied.code
  | .scrubPending => if !tenant && (cmd = 0x09 || cmd = 0x0A) then none else some Status.denied.code
  | _ => some Status.retry.code

/-- SBX serves the command in a mailbox (17 R441, R442); `kt` is what a KTAB read returns where the command needs one. -/
def mbServe (s : State) (i : Nat) (tenant : Bool) (seq : Nat) (kt : KtabRead) : State :=
  let w := (mbWord s i tenant 0).toNat
  let cmd := w % 256
  if w / 256 % 256 != instGen s i then mbDone s i tenant cmd seq Status.genStale.code
  else if 2 ^ 16 ≤ w then mbDone s i tenant cmd seq Status.denied.code
  else match mbRefused s i tenant cmd with
    | some st => mbDone s i tenant cmd seq st
    | none =>
      if cmd = 0x01 then mbCreate s i seq
      else if cmd = 0x02 then mbPasidAdd s i seq
      else if cmd = 0x03 then mbPasidDel s i seq
      else if cmd = 0x04 then mbSlice s i seq
      else if cmd = 0x05 then mbScratch s i seq
      else if cmd = 0x06 then mbBind s i seq kt
      else if cmd = 0x07 then mbUnbind s i seq
      else if cmd = 0x08 then mbSequence s i 0x08 seq .resetting
      else if cmd = 0x09 then mbSequence s i 0x09 seq .switching
      else if cmd = 0x0A then mbSequence s i 0x0A seq .destroying
      else if cmd = 0x10 then mbStep s i seq kt
      else if cmd = 0x11 then mbCtxLose s i seq
      else if cmd = 0x12 then mbObjPage s i seq
      else if cmd = 0x13 then mbObjCreate s i seq
      else mbObjDestroy s i seq

/-- The offsets of a mailbox's CTRL and STAT words. -/
def mbCtrl (i : Nat) (tenant : Bool) : Nat := instPage i + (if tenant then 0x100 else 0x1C0)

/-- The commands that SBX has not taken yet: instance, whether the tenant's, the command. -/
def mbWaiting (s : State) : List (Nat × Bool × MbWait) :=
  (s.imu.inst.flatMap (fun x => (x.2.mWait.toList.map (fun w => (x.1, false, w))) ++ x.2.tWait.toList.map (fun w => (x.1, true, w)))).filter
    (fun x => x.2.2.cmd = 0x100)

/-- The place of the last of them in the order of GO. -/
def mbLast (s : State) : Nat := (mbWaiting s).foldl (fun n x => max n x.2.2.arg) 0

/-- A write of GO, judged (17 R441): dropped while BUSY; new work with IMU's ENABLE 0 ends UNIT_GONE (05 R141); otherwise SBX serves the command, at once
where its firmware runs (04 R124, 07 R196). -/
def doMbGo (r : Role) (i : Nat) (tenant : Bool) (seq : Nat) (kt : KtabRead) (s : State) : State :=
  let a := mbCtrl i tenant
  let s := regDone s r a .ok 0
  if regBit s (a + 4) 16 then setFld s (a + 4) 15 8 Status.retry.code
  else
    let s := setRegBit s (a + 4) 16 true
    if !enabled s pgImu then mbDone s i tenant ((mbWord s i tenant 0).toNat % 256) seq Status.unitGone.code
    else if sbxRuns s then mbServe s i tenant seq kt
    else mbHold s i tenant ⟨0x100, seq, mbLast s + 1, kt⟩

/-- The command that SBX takes next (17 R441): the first in the order of GO, and of one instance the M command. -/
def mbNext (s : State) : Option (Nat × Bool × MbWait) :=
  let l := mbWaiting s
  (l.find? (fun x => l.all (fun y => x.2.2.arg ≤ y.2.2.arg))).map (fun x => (l.find? (fun y => y.1 = x.1 && !y.2.1)).getD x)

/-- SBX takes one command that was posted while it did not run. -/
def mbTake (s : State) : State :=
  match mbNext s with
  | none => s
  | some (i, tenant, w) =>
    let x := instRec s i
    mbServe (setInst s i (if tenant then { x with tWait := none } else { x with mWait := none })) i tenant w.seq w.kt

/-- SBX takes the commands that were posted while it did not run (17 R441). -/
def mbResume (s : State) : State :=
  if !sbxRuns s then s else (mbWaiting s).foldl (fun t _ => mbTake t) s

/-- A role posts a command: word 0 from CMD and generation, the further words, then GO (17 R441). -/
def mbPost (s : State) (i : Nat) (tenant : Bool) (cmd seq gen : Nat) (ws : Bytes) (kt : KtabRead) : Host.Outcome State Fault Refusal :=
  let r : Role := if tenant then .t (BitVec.ofNat 8 i).toFin else .m
  let base := instPage i + (if tenant then 0x080 else 0x140)
  .next (judgeWrite s r (mbCtrl i tenant) (fun s =>
    doMbGo r i tenant seq kt (putWords s base (leBytes 4 (cmd + 256 * gen) ++ ws ++ zeros (60 - ws.length)))))

/-- CREATE (17 R442). -/
def execCreate (i : Fin 256) (seq gen : BitVec 8) (digest : BitVec 384) (s : State) : Host.Outcome State Fault Refusal :=
  mbPost s i.val false 0x01 seq.toNat gen.toNat (leBytes 48 digest.toNat) .unwritten

/-- PASID_ADD (17 R442). -/
def execPasidAdd (i : Fin 256) (seq gen : BitVec 8) (pasid : Word) (s : State) : Host.Outcome State Fault Refusal :=
  mbPost s i.val false 0x02 seq.toNat gen.toNat (leBytes 4 pasid.toNat) .unwritten

/-- PASID_DEL (17 R442). -/
def execPasidDel (i : Fin 256) (seq gen : BitVec 8) (pasid : Word) (s : State) : Host.Outcome State Fault Refusal :=
  mbPost s i.val false 0x03 seq.toNat gen.toNat (leBytes 4 pasid.toNat) .unwritten

/-- SLICE (17 R446). -/
def execSlice (i : Fin 256) (seq gen : BitVec 8) (ks shares : Word) (s : State) : Host.Outcome State Fault Refusal :=
  mbPost s i.val false 0x04 seq.toNat gen.toNat (leBytes 4 ks.toNat ++ leBytes 4 shares.toNat) .unwritten

/-- SCRATCH (17 R442). -/
def execScratch (i : Fin 256) (seq gen : BitVec 8) (ranges : BitVec 256) (s : State) : Host.Outcome State Fault Refusal :=
  mbPost s i.val false 0x05 seq.toNat gen.toNat (leBytes 32 ranges.toNat) .unwritten

/-- BIND (17 R448); `kt` is what the KTAB read gives. -/
def execBind (i : Fin 256) (seq gen : BitVec 8) (keyId : Word) (kt : KtabRead) (s : State) : Host.Outcome State Fault Refusal :=
  mbPost s i.val false 0x06 seq.toNat gen.toNat (leBytes 4 keyId.toNat) kt

/-- UNBIND (17 R449). -/
def execUnbind (i : Fin 256) (seq gen : BitVec 8) (keyId : Word) (s : State) : Host.Outcome State Fault Refusal :=
  mbPost s i.val false 0x07 seq.toNat gen.toNat (leBytes 4 keyId.toNat) .unwritten

/-- INSTANCE_RESET (17 R450). -/
def execInstanceReset (i : Fin 256) (seq gen : BitVec 8) (s : State) : Host.Outcome State Fault Refusal :=
  mbPost s i.val false 0x08 seq.toNat gen.toNat [] .unwritten

/-- SWITCH (17 R461). -/
def execSwitch (i : Fin 256) (seq gen : BitVec 8) (digest : BitVec 384) (s : State) : Host.Outcome State Fault Refusal :=
  mbPost s i.val false 0x09 seq.toNat gen.toNat (leBytes 48 digest.toNat) .unwritten

/-- DESTROY (17 R461). -/
def execDestroy (i : Fin 256) (seq gen : BitVec 8) (s : State) : Host.Outcome State Fault Refusal :=
  mbPost s i.val false 0x0A seq.toNat gen.toNat [] .unwritten

/-- MB_STEP (17 Table 17.2); `kt` is what the KTAB read gives. -/
def execMbStep (i : Fin 256) (seq gen : BitVec 8) (keyId : Word) (kt : KtabRead) (s : State) : Host.Outcome State Fault Refusal :=
  mbPost s i.val true 0x10 seq.toNat gen.toNat (leBytes 4 keyId.toNat) kt

/-- CTX_LOSE (17 R452). -/
def execCtxLose (i : Fin 256) (seq gen : BitVec 8) (ctx : Word) (s : State) : Host.Outcome State Fault Refusal :=
  mbPost s i.val true 0x11 seq.toNat gen.toNat (leBytes 4 ctx.toNat) .unwritten

/-- OBJ_PAGE (17 R456). -/
def execObjPage (i : Fin 256) (seq gen : BitVec 8) (page : Word) (s : State) : Host.Outcome State Fault Refusal :=
  mbPost s i.val true 0x12 seq.toNat gen.toNat (leBytes 4 page.toNat) .unwritten

/-- OBJ_CREATE (17 R457). -/
def execObjCreate (i : Fin 256) (seq gen : BitVec 8) (slotKind : Word) (value : BitVec 64) (s : State) : Host.Outcome State Fault Refusal :=
  mbPost s i.val true 0x13 seq.toNat gen.toNat (leBytes 4 slotKind.toNat ++ leBytes 8 value.toNat) .unwritten

/-- OBJ_DESTROY (17 R460). -/
def execObjDestroy (i : Fin 256) (seq gen : BitVec 8) (handle : BitVec 64) (s : State) : Host.Outcome State Fault Refusal :=
  mbPost s i.val true 0x14 seq.toNat gen.toNat (leBytes 8 handle.toNat) .unwritten

/-! ### The sequences (17 R450, R461 to R463, 03 R91) -/

/-- INSTANCE_DRAIN_DONE (17 R450). -/
def execInstanceDrainDone (i : Fin 256) (s : State) : Host.Outcome State Fault Refusal :=
  .next (onlyIf (domUp s 12 && drained s i.val) s (drainDone s i.val))

/-- The instance whose scrub-bus command holds a tag. -/
def scHolder (s : State) (g : Nat) : Option Nat := (s.imu.inst.find? (fun x => (x.2.seq.elim [] InstSeq.out).any (fun o => o.1 = g))).map Prod.fst

/-- A scrub-bus command ends, cleared or ABORTED: an ABORTED one is recorded with its scratchpad and range, and the next commands follow. -/
def scEnd (s : State) (g : Nat) (ok : Bool) : State :=
  match scHolder s g with
  | none => s
  | some i =>
    let rs := ((instRec s i).seq.elim [] InstSeq.out).filter (fun o => o.1 = g)
    let s := mapSeq s i (fun q => { q with out := q.out.filter (fun o => o.1 != g), aborted := q.aborted || !ok })
    let s := if ok then s else rs.foldl (fun t o => recordInst t pgImu rcInstance (some i) (o.2.1.tgt + o.2.1.base * 0x100) o.2.1.len Status.aborted.code) s
    (s.imu.inst.map Prod.fst).foldl (fun t j => scIssue t j) (switchFinish (scIssue s i) i)

/-- SCRUB_DONE (03 R91): SC_DVALID with SC_DTAG and SC_DSTAT. -/
def execScrubDone (tag : BitVec 4) (failed : Bool) (s : State) : Host.Outcome State Fault Refusal :=
  .next (scEnd s tag.toNat (!failed && !injArmed s pgImu 3))

/-- The time within which SC_DVALID is expected, in ns: 2 × SC_LEN × 4,096 B at 64 B × INT_SCRUB_RATE per CK_CTL cycle, and 10 µs (03 R91); a
rate of 0 counts as 1 (log entry 118). -/
def scBound (s : State) (r : ScRange) : Nat := 2 * r.len * 4096 / (64 * max 1 (scrubRate s)) + 10000

/-- SCRUB_TIMEOUT (03 R91): the done signal is late. -/
def execScrubTimeout (tag : BitVec 4) (s : State) : Host.Outcome State Fault Refusal :=
  .next (match scHolder s tag.toNat with
    | none => s
    | some i =>
      let due := ((instRec s i).seq.elim [] InstSeq.out).any (fun o => o.1 = tag.toNat && o.2.2 + scBound s o.2.1 ≤ now s)
      onlyIf due s (scEnd s tag.toNat false))

/-- Every line charged to an instance leaves CTC (17 R462): a dirty one is written back; one that cannot go yet is no longer charged. -/
def uncharge (s : State) (i : Nat) : State :=
  (s.ctc.lines.filter (fun x => x.charge = some i)).foldl (fun t x =>
    match if x.pins = 0 then evict t x else none with
    | some t => t
    | none => mapLine t x.tree x.kind x.idx (fun y => { y with charge := none })) s

/-- The scrub of an instance's block state (17 R462). -/
def blockScrub (s : State) (i : Nat) : State :=
  let pg := instPage i
  let s := waitClear (clearLost s i) i
  let s := ((instRec s i).objs.map Prod.fst).foldl (fun t n => waitsAbort t (i * 256 + n)) s
  let x := instRec s i
  let s := setInst s i { x with objPage := none, objs := x.objs.map (fun o => (o.1, { o.2 with valid := false })) }
  let s := uncharge s i
  let s := setTrs s { s.trs with clearing := s.trs.clearing.filter (fun c => c.inst != i) }
  let s := { s with inc := { s.inc with acts := s.inc.acts.filter (fun a => a.inst != some i) } }
  let s := (List.range 19).foldl (fun t k => refreshSrc t (0xE0 + k)) s
  let s := resetRegs (setReg s (pg + 0x300) 0) pg 0x500 0x548
  resetRegs (resetRegs s pg 0x080 0x100) pg 0x140 0x1C0

/-- SWITCH_BLOCK_SCRUB_DONE (17 R462): step 4, after step 3. -/
def execSwitchBlockScrubDone (i : Fin 256) (s : State) : Host.Outcome State Fault Refusal :=
  .next (match (instRec s i.val).seq with
    | some q =>
      onlyIf (q.cmd != 0x08 && q.drained && q.keys = [] && q.retiring.isNone && !q.scrubbed) s
        (switchFinish (mapSeq (blockScrub s i.val) i.val (fun q => { q with scrubbed := true })) i.val)
    | none => s)

/-! ### Signals and waits (17 R458, R459) -/

/-- A write of SIG_GO, judged. -/
def doSigGo (r : Role) (i : Nat) (s : State) : State :=
  let pg := instPage i
  if regBit s (pg + 0x234) 8 then regDone s r (pg + 0x230) .retry 0
  else
    let s := regDone s r (pg + 0x230) .ok 0
    let h := pairWord s (pg + 0x220)
    if !enabled s pgImu then setFld s (pg + 0x234) 7 0 Status.unitGone.code
    else match objOf s i h with
    | some (_, a, k) =>
      let s := setRegBit (setInst s i { instRec s i with sig := some h }) (pg + 0x234) 8 true
      imuAsk s (imuReq s i 1 3 (if h / 2 ^ 14 % 2 = 1 then 2 else 8) a k (pairWord s (pg + 0x228)))
    | none => setFld s (pg + 0x234) 7 0 Status.denied.code

/-- SIG_GO (17 R458). -/
def execSigGo (role : Role) (i : Fin 256) (s : State) : Host.Outcome State Fault Refusal :=
  .next (judgeWrite s role (instPage i.val + 0x230) (doSigGo role i.val))

/-- ARM of the selected wait slot, judged: a refused arm completes with DENIED, one that finds the engine's watches full with RETRY. -/
def doWaitArm (r : Role) (i : Nat) (s : State) : State :=
  let pg := instPage i
  let slot := getFld s (pg + 0x200) 3 0
  let fin (t : State) (st : Status) : State := regDone t r (pg + 0x214) st 0
  if !enabled s pgImu then fin s .unitGone
  else match objOf s i (pairWord s (pg + 0x204)) with
  | none => fin s .denied
  | some (n, a, k) =>
    if regBit s (pg + 0x218) (16 + slot) then fin s .denied
    else match engineOfPage (a / 4096) with
      | none => fin s .denied
      | some e =>
        if 32 ≤ (s.imu.watches.filter (fun w => w.engine = e)).length then fin s .retry
        else
          let s := setRegBit s (pg + 0x218) (16 + slot) true
          let s := imuRefresh (setImu s { s.imu with watches := s.imu.watches ++ [⟨e, i, slot, n, a, pairWord s (pg + 0x20C)⟩] })
          fin (imuAsk s (imuReq s i (2 + slot) 0 0 a k 0)) .ok

/-- WAIT_ARM (17 R459). -/
def execWaitArm (role : Role) (i : Fin 256) (s : State) : Host.Outcome State Fault Refusal :=
  .next (judgeWrite s role (instPage i.val + 0x214) (doWaitArm role i.val))

/-- CANCEL of the selected wait slot, judged. -/
def doWaitCancel (r : Role) (i : Nat) (s : State) : State :=
  let pg := instPage i
  let slot := getFld s (pg + 0x200) 3 0
  let s := regDone s r (pg + 0x214) .ok 0
  if regBit s (pg + 0x218) (16 + slot) then waitEnd s i slot Status.aborted.code else s

/-- WAIT_CANCEL (17 R459). -/
def execWaitCancel (role : Role) (i : Fin 256) (s : State) : Host.Outcome State Fault Refusal :=
  .next (judgeWrite s role (instPage i.val + 0x214) (doWaitCancel role i.val))

end Sys2Proof.Machine
end

