-- ==== Sys2Proof/Machine/Interrupts.lean ====
section
/-!
DEFINITION. INC (20 R507 to R516): delivery to the four sinks, completion, routing.
-/
namespace Sys2Proof.Machine

/-- The target of an activation state: that of its source; target 3 without an instance is target 0 (20 R512). -/
def actTarget (s : State) (a : Act) : Nat :=
  let t := getFld s (srcReg a.src) 1 0
  if t = 3 && a.inst.isNone then 0 else t

/-- Delivery order (20 R511): lowest source, then lowest instance, events without an instance last. -/
def actBefore (a b : Act) : Bool :=
  a.src < b.src || (a.src = b.src && a.inst.getD 256 < b.inst.getD 256)

/-- The first of a list in delivery order. -/
def firstAct : List Act → Option Act
  | [] => none
  | a :: t => match firstAct t with
    | some b => if actBefore b a then some b else some a
    | none => some a

/-- Whether the sink of a target can take a delivery (20 Table 20.2). -/
def sinkTakes (s : State) (t : Nat) : Bool := if t = 1 then eqTakes s else if t = 2 then s.inc.mailbox.length < 32 else true

/-- MGRMB_COUNT (20 Table 20.6). -/
def mgrRefresh (s : State) : State := setFld s (pgInc + 0x04C) 5 0 s.inc.mailbox.length

/-- What a delivery puts into its target's sink (20 Table 20.2). -/
def sinkPut (s : State) (t : Nat) (a : Act) : State :=
  if t = 1 then eqWrite s a
  else if t = 2 then
    let s := mgrRefresh { s with inc := { s.inc with mailbox := s.inc.mailbox ++ [⟨a, s.inc.mbSeq⟩], mbSeq := (s.inc.mbSeq + 1) % 2 ^ 32 } }
    if pageUp s pgHgt then msiDue s else s
  else if t = 3 then
    let pg := instPage (a.inst.getD 0)
    let s := setRegBit s (pg + 0x300) (a.src - 0xE0) true
    if pairWord s (pg + 0x308) != 0 && pageUp s pgHgt then hmWrite s hmVector (pairWord s (pg + 0x308)) (leBytes 4 (rawReg s (pg + 0x310)).toNat) else s
  else s

/-- INTERRUPT_DELIVER (20 R511, R512): the first pending state of a target is delivered, unless HOLD is set or the sink cannot take it. -/
def execInterruptDeliver (target : Fin 4) (s : State) : Host.Outcome State Fault Refusal :=
  .next (
    let t := target.val
    if !domUp s 12 || regBit s (pgInc + 0x040) 0 || !sinkTakes s t then s
    else match firstAct (s.inc.acts.filter (fun a => !a.delivered && actTarget s a = t)) with
    | none => s
    | some a =>
      let s := { s with inc := { s.inc with acts := s.inc.acts.map (fun b => if isAct a.src a.inst b then { b with delivered := true } else b) } }
      let s := incSat (refreshSrc s a.src) (pgInc + 0x088) 31 0 1
      wake (sinkPut s t a) 6)

/-! ### Completion (20 R513) -/

/-- Who completes a delivery to a target (20 Table 20.2). -/
def mayComplete (r : Role) (t : Nat) : Bool :=
  match r with
  | .f => true
  | .m => t = 1 || t = 2
  | .t _ => t = 3
  | .d | .x _ => false

/-- A completion: accepted for a delivered state, ignored and counted otherwise. A level source whose level is 1 stays delivered until it falls. -/
def actDone (r : Role) (src : Nat) (inst : Option Nat) (s : State) : State :=
  match s.inc.acts.find? (fun a => isAct src inst a && a.delivered && mayComplete r (actTarget s a)) with
  | none => incSat s (pgInc + 0x080) 31 0 1
  | some a =>
    let level := match sourcePage src with
      | some pg => errLevel s pg
      | none => false
    let acts := if level then s.inc.acts.map (fun b => if isAct src inst b then { b with done := true } else b)
      else s.inc.acts.filter (fun b => !isAct src inst b)
    let s := refreshSrc { s with inc := { s.inc with acts := acts } } src
    match a.inst with
    | some i => if isInstSource src then setRegBit s (instPage i + 0x300) (src - 0xE0) false else s
    | none => s

/-- A write of INC_DONE, judged. -/
def doIncDone (r : Role) (v : Word) (s : State) : State :=
  let src := getBits v 7 0
  let inst := if isInstSource src && getBit v 16 then some (getBits v 15 8) else none
  regDone (actDone r src inst s) r (pgInc + 0x044) .ok 0

/-- INC_DONE (20 R513). -/
def execIncDone (role : Role) (v : Word) (s : State) : Host.Outcome State Fault Refusal := .next (judgeWrite s role (pgInc + 0x044) (doIncDone role v))

/-- A write of INST_DONE, judged: it names the instance of its page. -/
def doInstDone (r : Role) (i : Nat) (v : Word) (s : State) : State :=
  let src := getBits v 7 0
  let s := if isInstSource src then actDone r src (some i) s else incSat s (pgInc + 0x080) 31 0 1
  regDone s r (instPage i + 0x304) .ok 0

/-- INST_DONE (20 R513). -/
def execInstDone (role : Role) (i : Fin 256) (v : Word) (s : State) : Host.Outcome State Fault Refusal :=
  .next (judgeWrite s role (instPage i.val + 0x304) (doInstDone role i.val v))

/-! ### Routing (20 R510, R514) -/

/-- A write of INC_CTRL, judged. -/
def doIncHold (r : Role) (v : Word) (s : State) : State := regDone (storeReg s r (pgInc + 0x040) v) r (pgInc + 0x040) .ok 0

/-- INC_HOLD_WRITE (20 R510). -/
def execIncHoldWrite (role : Role) (v : Word) (s : State) : Host.Outcome State Fault Refusal := .next (judgeWrite s role (pgInc + 0x040) (doIncHold role v))

/-- Whether a write by a role would change TARGET or EN of a source. -/
def srcChanges (s : State) (r : Role) (src : Nat) (v : Word) : Bool :=
  (r.kind = .m || r.kind = .f) && getBits v 2 0 != getFld s (srcReg src) 2 0

/-- A write of a source register, judged (20 R514): OVERRUN is cleared where a 1 is written; a change of TARGET or EN is refused while a state of the source is
active, and target 3 to a source without instances. -/
def doIncSource (r : Role) (src : Nat) (v : Word) (s : State) : State :=
  let a := srcReg src
  if !isSource src then regDone s r a .ok 0
  else
    let ch := srcChanges s r src v
    if ch && (s.inc.acts.any (fun x => x.src = src) || (getBits v 1 0 = 3 && !isInstSource src)) then regDone s r a .denied 0
    else
      let s := if getBit v 10 then setRegBit s a 10 false else s
      if ch then commitDone (setFld s a 2 0 (getBits v 2 0)) r a else regDone s r a .ok 0

/-- A write of a source register: guarded where it would change TARGET or EN. -/
def writeIncSource (r : Role) (src : Nat) (v : Word) (s : State) : State :=
  if srcChanges s r src v then judgeGuarded s r (srcReg src) (doIncSource r src v) else judgeWrite s r (srcReg src) (doIncSource r src v)

/-- INC_SOURCE_WRITE (20 R514). -/
def execIncSourceWrite (role : Role) (src : Fin 256) (v : Word) (s : State) : Host.Outcome State Fault Refusal :=
  .next (writeIncSource role src.val v s)

/-- A write of MGRMB_POP, judged: the oldest record goes; its delivery is not completed (20 Table 20.2). -/
def doMgrPop (r : Role) (s : State) : State :=
  regDone (mgrRefresh { s with inc := { s.inc with mailbox := s.inc.mailbox.drop 1 } }) r (pgInc + 0x050) .ok 0

/-- MGRMB_POP (20 R512). -/
def execMgrmbPop (role : Role) (s : State) : Host.Outcome State Fault Refusal := .next (judgeWrite s role (pgInc + 0x050) (doMgrPop role))

end Sys2Proof.Machine
end

