-- ==== Sys2Proof/Machine/LifeCycle.lean ====
section
/-!
DEFINITION. Life cycle, OTP programming and debug authorisation (07), the anti-rollback counter (06 R168, R169).
-/
namespace Sys2Proof.Machine

/-! ### Decode (07 R175 to R177) -/

/-- The state of a life-cycle word (07 Table 07.1). -/
def lcOfWord (w : Word) : Option Lc := [Lc.maker, .integrator, .fielded, .returned, .scrapped].find? (fun l => l.word = w)

/-- The decoded state of three copies: a valid word that at least two copies hold, otherwise LOCKED (07 R176). -/
def decodeCopies (a b c : Word) : Lc :=
  if a = b ∨ a = c then (lcOfWord a).getD .locked
  else if b = c then (lcOfWord b).getD .locked
  else .locked

/-- COPY_AGREE: which copies equal the decoded word; all zero in LOCKED (07 R176). -/
def copyAgree (l : Lc) (a b c : Word) : Nat :=
  if l = .locked then 0 else b2n (a = l.word) + 2 * b2n (b = l.word) + 4 * b2n (c = l.word)

/-- LC_STAT.DBG_OPEN follows the gateway (07 Table 07.7). -/
def refreshGate (s : State) : State := setRegBit s (pgLco + 0x040) 13 (gatewayOpen s)

/-- The first OTP word from `w` on that does not read all ones, among `n` words. -/
def nextBlank (s : State) (w : Nat) : Nat → Option Nat
  | 0 => none
  | n + 1 => if otpWord s w != 0xFFFFFFFF then some w else nextBlank s (w + 1) n

/-- The registers that OTP loads at decode (04 Tables 04.10, 04.13, 04.15, 06 Table 06.9, 19 Table 19.10). -/
def loadFromOtp (s : State) : State :=
  let ssc := otpWord s 0x005 &&& 0x7F
  let s := setReg s (pgCru + 0x040) ssc
  let s := { s with cru := { s.cru with sscActive := ssc } }
  let s := setReg s (pgCru + 0x050) (BitVec.ofNat 32 (mebPresent s))
  let s := setReg s (pgCru + 0x054) (BitVec.ofNat 32 (vdtPresent s))
  let s := setRegBit s (pgCru + 0x05C) 6 (mebPresent s != 0)
  let s := setFld s (pgLco + 0x0C0) 8 0 (thermometer s 0x008 256)
  let set := thermometer s 0x010 64
  let clr := thermometer s 0x012 64
  let s := setFld (setFld s (pgWrc + 0x060) 6 0 set) (pgWrc + 0x060) 22 16 clr
  ctcWays (setRegBit s (pgWrc + 0x040) 7 (clr < set))

/-- The scrap wipe starts or restarts (07 R186). -/
def startWipe (s : State) : State :=
  match nextBlank s 0 4096 with
  | some w => setRegBit (setRegBit { s with lco := { s.lco with op := some (.wipe w 0 0) } } (pgLco + 0x040) 12 true) (pgLco + 0x040) 14 true
  | none => s

/-- LC_DECODE (07 R176, R177): once after every PORST_N. -/
def execLcDecode (s : State) : Host.Outcome State Fault Refusal :=
  .next (onlyIf (!s.cru.porst && !s.lco.decoded) s
    (let a := otpWord s 0
     let b := otpWord s 1
     let c := otpWord s 2
     let l := decodeCopies a b c
     let s := loadFromOtp (setLc { s with lco := { s.lco with decoded := true } } l)
     let s := refreshGate (setFld s (pgLco + 0x040) 10 8 (copyAgree l a b c))
     let s := if copyAgree l a b c = 7 then s else record s pgLco (rcLcDecode (l = .locked)) a.toNat b.toNat c.toNat
     if l = .scrapped then startWipe s else s))

/-! ### Ending a command -/

/-- LAST_STAT, the LC_COMMAND record and the event of source 0x82 (07 R179, 20 Table 20.1). Commands: 1 GO, 2 DBG_UNLOCK, 3 PROG, 4 TARGET. -/
def lcoEnd (s : State) (cmd arg : Nat) (st : Status) : State :=
  let s := setFld s (pgLco + 0x040) 31 24 st.code
  irqEvent s 0x82 none st.code cmd arg 0

/-- The same with the record that R179 and R192 ask for. -/
def lcoJudged (s : State) (cmd arg : Nat) (st : Status) : State :=
  record s pgLco (rcLcCommand (st != .ok)) cmd arg st.code

/-! ### Transitions (07 R178 to R185) -/

/-- The state of a TARGET code. -/
def lcOfCode (n : Nat) : Option Lc := [Lc.maker, .integrator, .fielded, .returned, .scrapped].find? (fun l => l.code = n)

/-- The rows of Table 07.2. -/
def lcRow (a b : Lc) : Bool :=
  (a = .maker && b = .integrator) || (a = .integrator && b = .fielded) || (a = .fielded && b = .returned)
    || ([Lc.maker, .integrator, .fielded, .returned, .locked].contains a && b = .scrapped)

/-- The OTP words of the token digest of a target (22 Table 22.2). -/
def tokenWords (b : Lc) : Nat :=
  match b with
  | .integrator => 0x020
  | .fielded => 0x02C
  | .returned => 0x038
  | _ => 0x044

/-- Whether a firmware key slot is non-empty and not revoked (06 R165). -/
def fwSlotLive (s : State) (n : Nat) : Bool := !allZero (otpBytes s (0x05C + 12 * n) 12) && !getBit (otpWord s 0x003) n

/-- The guards of Table 07.2 other than the token (03 R97). -/
def lcGuard (s : State) (r : Role) (b : Lc) : Bool :=
  if s.lco.lc = .integrator && b = .fielded then
    scrubRate s != 0 && scratchCount s != 0 && (fwSlotLive s 0 || fwSlotLive s 1) && !allZero (otpBytes s 0x038 12) && !allZero (otpBytes s 0x044 12)
  else if s.lco.lc = .locked then r = .m
  else true

/-- Whether a target word includes every bit set in each copy (07 R179 step 4). -/
def lcIncludes (s : State) (b : Lc) : Bool := [0, 1, 2].all (fun k => otpWord s k &&& ~~~ b.word = 0)

/-- The refusals of a GO before the token (07 R179 steps 1 to 5). -/
def goRefusal (s : State) (r : Role) (tgt : Nat) : Option Status :=
  if s.lco.op.isSome then some .retry
  else if s.lco.pendingLc || getFld s (pgLco + 0x040) 19 16 = 8 then some .denied
  else match lcOfCode tgt with
    | none => some .denied
    | some b =>
      if !lcRow s.lco.lc b then some .denied
      else if !lcIncludes s b then some .denied
      else if !lcGuard s r b then some .denied
      else none

/-- What a GO does once its epoch check passed (07 R179). A write that is refused commits nothing, so EPOCH stands (05 R144). -/
def doGo (r : Role) (tgt : Nat) (s : State) : State :=
  let off := pgLco + 0x044
  match goRefusal s r tgt with
  | some st => regDone (lcoEnd (lcoJudged s 1 tgt st) 1 tgt st) r off st 0
  | none => commitDone (opStart s (.compareGo ((lcOfCode tgt).getD .locked))) r off

/-- The boot states in which an unlock is accepted (07 R192). -/
def unlockBoot (s : State) : Bool := s.sbx.boot = .dlWait || s.sbx.boot = .dlReceive || s.sbx.boot = .verify

/-- The refusals of a debug unlock (07 R192); RETRY while an OTP operation is in progress is the model's (log 103). -/
def unlockRefusal (s : State) : Option Status :=
  if !unlockBoot s || s.lco.lc != .integrator || getFld s (pgLco + 0x040) 19 16 = 8 || allZero (otpBytes s 0x050 12) then some .denied
  else if s.lco.op.isSome then some .retry
  else none

/-- What a DBG_UNLOCK does once its epoch check passed (07 R192). -/
def doUnlock (r : Role) (s : State) : State :=
  let off := pgLco + 0x044
  match unlockRefusal s with
  | some st => regDone (lcoEnd (lcoJudged s 2 0 st) 2 0 st) r off st 0
  | none => commitDone (opStart s .compareUnlock) r off

/-- What a DBG_CLOSE does (07 R193). -/
def doClose (s : State) : State := refreshGate { s with lco := { s.lco with gateClosed := true } }

/-- A write of LC_CTRL: TARGET, GO and DBG_UNLOCK are guarded, DBG_CLOSE is not (07 Table 07.7). -/
def doLcCtrl (r : Role) (v : Word) (s : State) : State :=
  let off := pgLco + 0x044
  let s := if getBit v 10 && (r.kind = .m || r.kind = .f) then doClose s else s
  if getBit v 8 then doGo r (getBits v 7 0) s
  else if getBit v 9 then doUnlock r s
  else if getBits v 7 0 != 0 then commitDone s r off
  else regDone s r off .ok 0

/-- The judgement of a write of LC_CTRL. -/
def lcCtrlWrite (r : Role) (v : Word) (s : State) : State :=
  if getBits v 9 0 != 0 then judgeGuarded s r (pgLco + 0x044) (doLcCtrl r v) else judgeWrite s r (pgLco + 0x044) (doLcCtrl r v)

/-- LC_GO (07 R178, R179): LC_CTRL with GO. -/
def execLcGo (role : Role) (v : Word) (s : State) : Host.Outcome State Fault Refusal := .next (lcCtrlWrite role (v ||| 0x100) s)

/-- DBG_UNLOCK (07 R192): LC_CTRL with DBG_UNLOCK and no GO. -/
def execDbgUnlock (role : Role) (v : Word) (s : State) : Host.Outcome State Fault Refusal :=
  .next (lcCtrlWrite role ((v &&& 0xFFFFFEFF) ||| 0x200) s)

/-- DBG_CLOSE (07 R193): LC_CTRL with DBG_CLOSE and neither GO nor DBG_UNLOCK. -/
def execDbgClose (role : Role) (v : Word) (s : State) : Host.Outcome State Fault Refusal :=
  .next (lcCtrlWrite role ((v &&& 0xFFFFFCFF) ||| 0x400) s)

/-- The next byte that a transition programs: copies in order, most significant byte first, bytes that already read as the target skipped (07 R180). -/
def nextByte (s : State) (b : Lc) : Option (Nat × Nat) :=
  [(0, 3), (0, 2), (0, 1), (0, 0), (1, 3), (1, 2), (1, 1), (1, 0), (2, 3), (2, 2), (2, 1), (2, 0)].find?
    (fun x => getBits b.word (8 * x.2 + 7) (8 * x.2) != getBits (otpWord s x.1) (8 * x.2 + 7) (8 * x.2))

/-- LC_PENDING (07 R182): ENABLE is held at 0 on the data-path pages until PORST_N. -/
def setPending (s : State) : State :=
  let s := setRegBit { s with lco := { s.lco with pendingLc := true } } (pgLco + 0x040) 11 true
  allPages.foldl (fun t pg => if pendingHolds pg then setRegBit t (pg + 0x00C) 0 false else t) s

/-- A transition goes on with its next byte, or is complete: PENDING, and for SCRAPPED the wipe (07 R181, R182, R186). -/
def transitionStep (s : State) (b : Lc) : State :=
  match nextByte s b with
  | some (c, y) => { s with lco := { s.lco with op := some (.transition b c y 0) } }
  | none =>
    let s := lcoEnd (setPending s) 1 b.code .ok
    if b = .scrapped then startWipe (opOver s) else opOver s

/-- The next helper word not yet erased, or the life-cycle word (07 R181). -/
def eraseStep (s : State) (b : Lc) (w : Nat) : State :=
  match nextBlank s (0x100 + w) (2053 - w) with
  | some x => { s with lco := { s.lco with op := some (.helperErase b (x - 0x100) 0) } }
  | none => transitionStep s b

/-- LC_ZEROISE (07 R181): KVT zeroises and refuses loads, generations and derivations until PORST_N. -/
def lcZeroise (s : State) : State :=
  let s := zeroise s 2
  { s with kvt := { s.kvt with refuseAll := true } }

/-- The token registers (07 Table 07.7). -/
def tokenBytes (s : State) : Bytes := (List.range 8).flatMap (fun k => leBytes 4 (rawReg s (pgLco + 0x048 + 4 * k)).toNat)

/-- TOKEN_COMPARE_DONE (07 R179, R192): the tokens clear; a match goes on, a mismatch counts. An unlock whose boot state is no longer one of R192's is
DENIED and counts no attempt. -/
def execTokenCompareDone (s : State) : Host.Outcome State Fault Refusal :=
  let dg := Config.sha384 (tokenBytes s)
  let cleared := { s with regs := tblClear s.regs (pgLco + 0x048) (pgLco + 0x068) }
  .next (match s.lco.op with
    | some (.compareGo b) =>
      let s := cleared
      if dg = otpBytes s (tokenWords b) 12 then
        (let s := lcoJudged s 1 b.code .ok
         if b = .returned then eraseStep (lcZeroise s) b 0
         else if b = .scrapped then transitionStep (lcZeroise s) b
         else transitionStep s b)
      else opOver (lcoEnd (lcoJudged (incSat s (pgLco + 0x040) 19 16 1) 1 b.code .denied) 1 b.code .denied)
    | some .compareUnlock =>
      let s := cleared
      if !unlockBoot s then opOver (lcoEnd (lcoJudged s 2 0 .denied) 2 0 .denied)
      else if dg = otpBytes s 0x050 12 then
        opOver (lcoEnd (lcoJudged (refreshGate { s with lco := { s.lco with unlocked := true } }) 2 0 .ok) 2 0 .ok)
      else opOver (lcoEnd (lcoJudged (incSat s (pgLco + 0x040) 19 16 1) 2 0 .denied) 2 0 .denied)
    | _ => s)

/-! ### Programming pulses (06 R169, 07 R180, R186, R189, 19 R502, R504, 08 R202) -/

/-- Program bits of an OTP word. -/
def otpSet (s : State) (w : Nat) (v : Word) : State :=
  { s with lco := { s.lco with otp := tblSet 0 s.lco.otp w (otpWord s w ||| v) } }

/-- The OTP_FAIL record of an eighth failed verify (22 Table 22.8). -/
def otpFail (s : State) (w idx cmd : Nat) : State := record s pgLco rcOtpFail w idx cmd

/-- A pulse of a life-cycle byte (07 R180). -/
def pulseTransition (s : State) (b : Lc) (c y p : Nat) (ok : Bool) : State :=
  if ok then transitionStep (otpSet s c (b.word &&& fieldMask (8 * y + 7) (8 * y))) b
  else if p < 7 then { s with lco := { s.lco with op := some (.transition b c y (p + 1)) } }
  else opOver (lcoEnd (otpFail s c y 1) 1 b.code .aborted)

/-- A pulse of a helper word under erasure (07 R181). -/
def pulseErase (s : State) (b : Lc) (w p : Nat) (ok : Bool) : State :=
  if ok then eraseStep (otpSet s (0x100 + w) 0xFFFFFFFF) b (w + 1)
  else if p < 7 then { s with lco := { s.lco with op := some (.helperErase b w (p + 1)) } }
  else opOver (lcoEnd (otpFail s (0x100 + w) 0 1) 1 b.code .aborted)

/-- A pulse of a PROG (07 R189). -/
def pulseProg (s : State) (w : Nat) (v : Word) (p : Nat) (ok : Bool) : State :=
  if ok then opOver (lcoEnd (otpSet s w v) 3 w .ok)
  else if p < 7 then { s with lco := { s.lco with op := some (.prog w v (p + 1)) } }
  else opOver (lcoEnd (otpFail s w 0 3) 3 w .aborted)

/-- A pulse of an anti-rollback cell (06 R169): the write of TARGET completes when the target is reached, or when a cell fails its eighth verify. -/
def pulseArb (s : State) (r : Role) (target cell p : Nat) (ok : Bool) : State :=
  let off := pgLco + 0x0C4
  if ok then
    (let s := otpSet s (0x008 + cell / 32) (BitVec.ofNat 32 (2 ^ (cell % 32)))
     let s := setFld s (pgLco + 0x0C0) 8 0 (cell + 1)
     if cell + 1 = target then regDone (opOver (lcoEnd s 4 target .ok)) r off .ok 0
     else { s with lco := { s.lco with op := some (.arb r target (cell + 1) 0) } })
  else if p < 7 then { s with lco := { s.lco with op := some (.arb r target cell (p + 1)) } }
  else regDone (opOver (lcoEnd (otpFail (setRegBit s (pgLco + 0x0C0) 17 true) (0x008 + cell / 32) cell 4) 4 target .aborted)) r off .aborted 0

/-- A pulse of a WDR_SET cell (19 R502 step 5). -/
def pulseWdrSet (s : State) (cell p : Nat) (ok : Bool) : State :=
  if ok then opOver (setFld (otpSet s (0x010 + cell / 32) (BitVec.ofNat 32 (2 ^ (cell % 32)))) (pgWrc + 0x060) 6 0 (cell + 1))
  else if p < 7 then { s with lco := { s.lco with op := some (.wdrSet cell (p + 1)) } }
  else opOver (otpFail s (0x010 + cell / 32) cell 0)

/-- A pulse of a WDR_CLR cell: WITHDRAWN clears on every page and RESUMED is recorded (19 R504). -/
def pulseWdrClr (s : State) (cell p : Nat) (ok : Bool) : State :=
  if ok then
    (let s := setFld (otpSet s (0x012 + cell / 32) (BitVec.ofNat 32 (2 ^ (cell % 32)))) (pgWrc + 0x060) 22 16 (cell + 1)
     let s := setRegBit (setRegBit (setWithdrawn s false) (pgWrc + 0x040) 6 false) (pgWrc + 0x040) 7 false
     opOver (wrcRecord s rcResumed (cell + 1) 0 0))
  else if p < 7 then { s with lco := { s.lco with op := some (.wdrClr cell (p + 1)) } }
  else opOver (otpFail s (0x012 + cell / 32) cell 0)

/-- The wipe goes on with its next word, or is complete and recorded (07 R186). -/
def wipeStep (s : State) (w n : Nat) : State :=
  match nextBlank s w (4096 - w) with
  | some x => { s with lco := { s.lco with op := some (.wipe x 0 n) } }
  | none =>
    match nextBlank s 0 4096 with
    | some x => { s with lco := { s.lco with op := some (.wipe x 0 n) } }
    | none =>
      let s := if s.lco.wipeRecorded then s else record s pgLco rcWipeDone n 0 0
      opOver (setRegBit { s with lco := { s.lco with wipeRecorded := true } } (pgLco + 0x040) 14 false)

/-- A pulse of a word under the wipe; a word that fails its eighth verify is taken again after the words that follow it, since the wipe goes on until every
word reads all ones (07 R186, log 102). -/
def pulseWipe (s : State) (w p n : Nat) (ok : Bool) : State :=
  if ok then wipeStep (otpSet s w 0xFFFFFFFF) (w + 1) (n + 1)
  else if p < 7 then { s with lco := { s.lco with op := some (.wipe w (p + 1) n) } }
  else wipeStep (otpFail s w 0 0) (w + 1) n

/-- A pulse of a helper word under enrolment (08 R202); the end is reported by ENROL_COMPLETE. -/
def pulseEnrol (s : State) (w p : Nat) (h : List Word) (ok : Bool) : State :=
  match h with
  | [] => { s with lco := { s.lco with op := some (.enrolEnd true) } }
  | x :: t =>
    if ok then
      (let s := otpSet s (0x100 + w) x
       { s with lco := { s.lco with op := some (if t.isEmpty then .enrolEnd true else .enrol (w + 1) 0 t) } })
    else if p < 7 then { s with lco := { s.lco with op := some (.enrol w (p + 1) h) } }
    else { s with lco := { s.lco with op := some (.enrolEnd false) } }

/-- OTP_PULSE_DONE (07 R180): `ok` is the margin verify after the pulse. -/
def execOtpPulseDone (ok : Bool) (s : State) : Host.Outcome State Fault Refusal :=
  .next (match s.lco.op with
    | some (.transition b c y p) => pulseTransition s b c y p ok
    | some (.helperErase b w p) => pulseErase s b w p ok
    | some (.prog w v p) => pulseProg s w v p ok
    | some (.arb r t c p) => pulseArb s r t c p ok
    | some (.wdrSet c p) => pulseWdrSet s c p ok
    | some (.wdrClr c p) => pulseWdrClr s c p ok
    | some (.wipe w p n) => pulseWipe s w p n ok
    | some (.enrol w p h) => pulseEnrol s w p h ok
    | _ => s)

/-! ### Anti-rollback (06 R169) -/

/-- What a write of ARB_CTRL.TARGET does once its epoch check passed: a write that programs cells completes at the end of the increment (06 R169). -/
def doArb (r : Role) (v : Word) (s : State) : State :=
  let off := pgLco + 0x0C4
  let t := getBits v 8 0
  if s.lco.op.isSome then regDone (lcoEnd s 4 t .retry) r off .retry 0
  else if t > (rawReg s (pgSbx + 0x044)).toNat ∨ t > 256 then regDone (lcoEnd s 4 t .denied) r off .denied 0
  else if t ≤ getFld s (pgLco + 0x0C0) 8 0 then commitDone (lcoEnd s 4 t .ok) r off
  else opStart (bumpEpoch s pgLco) (.arb r t (getFld s (pgLco + 0x0C0) 8 0) 0)

/-- ARB_TARGET_WRITE (06 R169). -/
def execArbTargetWrite (role : Role) (v : Word) (s : State) : Host.Outcome State Fault Refusal :=
  .next (judgeGuarded s role (pgLco + 0x0C4) (doArb role v))

/-! ### OTP access (07 R188 to R190, 22 R549) -/

/-- The OTP fields of Table 07.4, by word (22 Table 22.2). -/
inductive OtpField where
  | lcWord | tokMaker | tokInt | key0 | key1 | revoke | vidTrim | ssc | integ | helper | arb | wdr | unused
deriving DecidableEq, Repr

/-- The field of an OTP word. -/
def otpField (w : Nat) : OtpField :=
  if w ≤ 0x002 then .lcWord
  else if w = 0x003 then .revoke
  else if w = 0x004 then .vidTrim
  else if w = 0x005 then .ssc
  else if w = 0x006 ∨ w = 0x007 then .integ
  else if w ≤ 0x00F then .arb
  else if w ≤ 0x013 then .wdr
  else if 0x020 ≤ w ∧ w ≤ 0x02B then .tokMaker
  else if 0x02C ≤ w ∧ w ≤ 0x037 then .tokInt
  else if 0x038 ≤ w ∧ w ≤ 0x04F then .tokMaker
  else if 0x050 ≤ w ∧ w ≤ 0x05B then .tokInt
  else if 0x05C ≤ w ∧ w ≤ 0x067 then .key0
  else if 0x068 ≤ w ∧ w ≤ 0x073 then .key1
  else if 0x080 ≤ w ∧ w ≤ 0x0BF then .vidTrim
  else if 0x100 ≤ w ∧ w ≤ 0x904 then .helper
  else .unused

/-- Whether PROG may set bits `v` of a field in the decoded state by a role (07 Table 07.4, R190). -/
def mayProg (s : State) (r : Role) (f : OtpField) (v : Word) : Bool :=
  let l := s.lco.lc
  match f with
  | .tokMaker | .key0 | .vidTrim => l = .maker
  | .tokInt | .key1 | .ssc => l = .maker || l = .integrator
  | .integ => l = .integrator
  | .revoke =>
    l = .maker || ((l = .integrator || l = .fielded) && r.kind = .f && !getBit v (getFld s (pgSbx + 0x040) 17 17))
  | _ => false

/-- Whether READ serves a field to a role in the decoded state (07 Table 07.4). -/
def mayRead (s : State) (r : Role) (f : OtpField) : Bool :=
  match s.lco.lc with
  | .maker | .integrator | .returned => f != .helper && f != .unused
  | .fielded => (r.kind = .m || r.kind = .f) && !(f = .tokMaker || f = .tokInt || f = .helper || f = .unused)
  | _ => false

/-- What a PROG does once its epoch check passed (07 R189). -/
def doProg (r : Role) (s : State) : State :=
  let off := pgLco + 0x074
  let w := getFld s (pgLco + 0x068) 11 0
  let wd := rawReg s (pgLco + 0x06C)
  let f := otpField w
  if s.lco.op.isSome then regDone (lcoEnd s 3 w .retry) r off .retry 0
  else if !mayProg s r f wd || (otpWord s w != 0 && f != .revoke) || s.lco.pendingLc then
    regDone (lcoEnd s 3 w .denied) r off .denied 0
  else commitDone (opStart s (.prog w (wd ||| otpWord s w) 0)) r off

/-- Load OTP_RDATA: the word where Table 07.4 serves it, otherwise zero with DENIED (07 R188). -/
def loadRdata (r : Role) (s : State) : State × Status :=
  let w := getFld s (pgLco + 0x068) 11 0
  if mayRead s r (otpField w) then (setReg s (pgLco + 0x070) (otpWord s w), .ok) else (setReg s (pgLco + 0x070) 0, .denied)

/-- What a READ does once it is judged (07 R188, R189). -/
def doOtpRead (r : Role) (s : State) : State :=
  regDone (loadRdata r s).1 r (pgLco + 0x074) (loadRdata r s).2 0

/-- A write of OTP_CMD: PROG is guarded, READ is not (07 Table 07.7). Of a write with both bits the READ is carried out first, and the status is PROG's
(log 103). -/
def otpCmdWrite (r : Role) (v : Word) (s : State) : State :=
  let off := pgLco + 0x074
  if getBit v 1 then judgeGuarded s r off (fun t => doProg r (if getBit v 0 then (loadRdata r t).1 else t))
  else judgeWrite s r off (fun t => if getBit v 0 then doOtpRead r t else regDone t r off .ok 0)

/-- OTP_PROG (07 R189). -/
def execOtpProg (role : Role) (s : State) : Host.Outcome State Fault Refusal := .next (otpCmdWrite role 2 s)

/-- OTP_READ (07 R188, R189). -/
def execOtpRead (role : Role) (s : State) : Host.Outcome State Fault Refusal := .next (otpCmdWrite role 1 s)

/-! ### The memory gateway (07 R193, R195) -/

/-- Whether a memory code is served in the decoded state (07 Table 07.6). -/
def gateServes (s : State) (code : Nat) : Bool :=
  gatewayOpen s && (match s.lco.lc with
    | .maker => 1 ≤ code && code ≤ 0x0A
    | .integrator => 3 ≤ code && code ≤ 0x0A
    | .returned => code = 1 || (3 ≤ code && code ≤ 0x0A)
    | _ => false)

/-- The page whose unit holds the memory of a code. -/
def gateMemPage (code : Nat) : Nat :=
  if code = 1 || code = 2 then pgKvt else if code = 3 || code = 4 || code = 5 then pgSbx
  else if code = 7 then pgTrs else if code = 8 then pgJct else if code = 9 then pgEvr else if code = 0x0A then pgLco else pgCtc

/-- The 32 bytes of a written record (20 Table 20.3). -/
def recBytes (r : RecW) : Bytes :=
  leBytes 2 r.body.code ++ leBytes 1 r.body.unit ++ leBytes 1 (r.body.sev + (if r.body.inst.isSome then 16 else 0))
    ++ leBytes 1 (r.body.inst.getD 0) ++ leBytes 1 r.body.uinst ++ r.chain ++ leBytes 4 r.seq ++ leBytes 8 r.body.time
    ++ leBytes 4 r.body.p1.toNat ++ leBytes 4 r.body.p2.toNat ++ leBytes 4 r.body.p3.toNat

/-- A gateway word: none beyond the memory (23 Table 23.3, 00 Table 00.5) or where OTP is not readable. Code 1 holds the key slots, the pair-key cache and
the 256 internal slots of two banks. Words whose layout the spec does not give are free values, and so are the sizes that it does not give (log 35). -/
def gateWord (s : State) (r : Role) (code idx : Nat) : Option (Word × State) :=
  let free (n : Nat) : Option (Word × State) :=
    if idx < n then (let (v, t) := drawNat s; some (BitVec.ofNat 32 v, t)) else none
  if code = 2 then (if idx < 2048 then some (Config.pufArray idx, s) else none)
  else if code = 3 then
    (if s.sbx.boot = .dlReceive || s.sbx.boot = .verify || s.sbx.boot = .measure then
       (if idx < 262144 then some (wordAt (s.sbx.image.drop 9216) idx, s) else none)
     else free 262144)
  else if code = 4 then (if idx < 65536 then some (Config.bootRom idx, s) else none)
  else if code = 5 then (if s.sbx.halted then free Config.gateCoreWords else none)
  else if code = 9 then
    (if idx < 524288 then some ((tblFind s.evr.ring (idx / 8)).elim 0 (fun x => wordAt (recBytes x) (idx % 8)), s) else none)
  else if code = 0x0A then
    (if idx < 4096 ∧ (mayRead s r (otpField idx) ∨ (s.lco.lc = .maker ∧ otpField idx = .helper)) then some (otpWord s idx, s) else none)
  else if code = 1 then free 1146880
  else if code = 6 then free 16777216
  else if code = 7 then free 1310720
  else if code = 8 then free Config.gateTableWords
  else none

/-- What a read of DBG_DATA does once it is judged (07 R195); DBG_ADDR advances after each read (07 Table 07.7). -/
def doDbgData (r : Role) (s : State) : State :=
  let off := pgLco + 0x088
  let code := getFld s (pgLco + 0x080) 7 0
  let idx := (rawReg s (pgLco + 0x084)).toNat
  let next (t : State) : State := setReg t (pgLco + 0x084) (rawReg t (pgLco + 0x084) + 1)
  if !gateServes s code then regDone (next s) r off .denied 0
  else if !pageUp s (gateMemPage code) || pageGated s (gateMemPage code) then regDone (next (incSat s (pgCru + 0x058) 31 0 1)) r off .ok 0
  else match gateWord s r code idx with
    | some (w, t) => regDone (next t) r off .ok w
    | none => regDone (next s) r off .denied 0

/-- DBG_DATA_READ (07 R195). -/
def execDbgDataRead (role : Role) (s : State) : Host.Outcome State Fault Refusal :=
  .next (judge s role (pgLco + 0x088) 4 false none (doDbgData role))

/-! ### SBX halt (07 R196) -/

/-- Whether a halt is within the reach of Table 07.5. -/
def mayHalt (s : State) : Bool :=
  match s.lco.lc with
  | .maker | .returned => true
  | .integrator => s.lco.unlocked && !s.sbx.romMode
  | _ => false

/-- What a write of DBG_CTRL does once it is judged (07 R196); only role D writes HALT. -/
def doHalt (r : Role) (on : Bool) (s : State) : State :=
  let off := pgSbx + 0x0C0
  if r.kind != .d || s.sbx.halted = on then regDone s r off .ok 0
  else if on && !mayHalt s then regDone s r off .denied 0
  else
    let s := setRegBit (setRegBit { s with sbx := { s.sbx with halted := on } } off 0 on) off 1 on
    regDone (record s pgSbx rcDbgHalt (b2n on) 0 0) r off .ok 0

/-- SBX_HALT (07 R196). -/
def execSbxHalt (role : Role) (s : State) : Host.Outcome State Fault Refusal :=
  .next (judgeWrite s role (pgSbx + 0x0C0) (doHalt role true))

/-- SBX_RESUME (07 R196). -/
def execSbxResume (role : Role) (s : State) : Host.Outcome State Fault Refusal :=
  .next (judgeWrite s role (pgSbx + 0x0C0) (doHalt role false))

/-- SUPPLY_LOSS (07 R184, 03 R95): programming is cut as PORST_N cuts it, and everything but OTP is lost; the integrator holds PORST_N asserted
until the supplies are stable. -/
def execSupplyLoss (s : State) : Host.Outcome State Fault Refusal := .next (porst s)

end Sys2Proof.Machine
end

