-- ==== Sys2Proof/Machine/Recorder.lean ====
section
/-!
DEFINITION. EVR, the Train Register (20 R517 to R526, R560).
-/
namespace Sys2Proof.Machine

/-! ### Writing (20 R519, R560) -/

/-- The order in which waiting records are written: TIME, then UNIT, UINST, INSTANCE (20 R560). -/
def recBefore (a b : Rec) : Bool :=
  let k (r : Rec) : List Nat := [r.time, r.unit, r.uinst, r.inst.getD 0]
  k a < k b

/-- What EVR considers: the oldest record of each buffer, by its key, and the records handed over. -/
def waitingRecs (s : State) : List (Option Nat × Rec) :=
  s.evr.bufs.filterMap (fun b => b.2.recs.head?.map (fun r => (some b.1, r))) ++ s.evr.handed.map (fun r => (none, r))

/-- The first of a list of waiting records in the order of R560. -/
def firstRec : List (Option Nat × Rec) → Option (Option Nat × Rec)
  | [] => none
  | a :: t => match firstRec t with
    | some b => if recBefore b.2 a.2 then some b else some a
    | none => some a

/-- The LOST record of a buffer (20 R520, Table 20.5); bit 31 of its third parameter tells an injected loss (05 R151). -/
def lostRec (s : State) (key n : Nat) (inj : Bool) : Rec :=
  let pg := if key = 1 then none else some key
  ⟨rcLost.code, rcLost.sev, pg.elim 0xFF unitOf, pg.elim 0 uinstOf, none, now s, BitVec.ofNat 32 n, 0, BitVec.ofNat 32 (injP3 inj 0)⟩

/-- A record leaves its buffer; one that has lost records then raises its LOST record (20 R520). -/
def takeRec (s : State) (x : Option Nat × Rec) : State :=
  match x.1 with
  | some key =>
    let b := (tblFind s.evr.bufs key).getD ⟨[], 0, false⟩
    let recs := b.recs.drop 1 ++ (if b.lost = 0 then [] else [lostRec s key b.lost b.inj])
    { s with evr := { s.evr with bufs := if recs = [] then tblDel s.evr.bufs key else tblPut s.evr.bufs key ⟨recs, 0, false⟩ } }
  | none => { s with evr := { s.evr with handed := s.evr.handed.erase x.2 } }

/-- The oldest retained record: in the ring, or in the spill region where its blocks reach the ring; never older than the latest CLEARED (20 R521). -/
def oldestNow (s : State) : Nat :=
  let ring := s.evr.nextSeq - 65536
  let o := match s.evr.spill with
    | some (lo, hi) => if lo * 128 < ring && ring ≤ hi * 128 + 128 then lo * 128 else ring
    | none => ring
  max o s.evr.cleared

/-- The byte address of a block in the spill region (20 R521). -/
def spillAddr (s : State) (k : Nat) : Nat :=
  4096 * getFld s (pgEvr + 0x100) 29 0 + 4096 * (k % max 1 (getFld s (pgEvr + 0x104) 16 0))

/-- The spill write of a block: its 128 records to the region, placed in the service register under 0xFF01 (20 R521). Port number 40 stands for the service
registers. -/
def spillBlock (s : State) (k : Nat) : State :=
  let body := (List.range 128).flatMap (fun i => (tblFind s.evr.ring ((128 * k + i) % 65536)).elim (zeros 32) recBytes)
  emit { s with evr := { s.evr with spilling := s.evr.spilling ++ [k] } } ⟨.memWrite, 40, k, 0, spillAddr s k, body⟩

/-- EVR writes one record: number, chain, ring, and a spill of the block it completes; source 0x84 where its severity asks for it (20 R519, R521, R526). -/
def evrWrite (s : State) (r : Rec) : State :=
  let n := s.evr.nextSeq
  let h := Config.sha384 (s.evr.head ++ recBytes ⟨r, n % 2 ^ 32, [0, 0]⟩)
  let w : RecW := ⟨r, n % 2 ^ 32, (h.take 2 ++ zeros 2).take 2⟩
  let s := { s with evr := { s.evr with ring := tblPut s.evr.ring (n % 65536) w, nextSeq := n + 1, head := h } }
  let s := { s with evr := { s.evr with oldest := oldestNow s } }
  let s := if n % 128 = 127 && regBit s (pgEvr + 0x100) 31 then spillBlock s (n / 128) else s
  if getFld s (pgEvr + 0x108) 3 0 ≤ r.sev then irqEvent s 0x84 none 0 (r.code + r.sev * 0x10000) (n % 2 ^ 32) (r.unit + r.uinst * 0x100) else s

/-- Record 0 after PORST_N (20 R519, Table 20.5). -/
def powerOnRec (s : State) : Rec :=
  mkRec s rcPowerOn uEvr 0 none s.lco.lc.code (getFld s (pgWrc + 0x060) 6 0 + getFld s (pgWrc + 0x060) 22 16 * 0x100) 0

/-- EVR_RECORD_WRITE (20 R560): POWER_ON first, once the life-cycle state is decoded, then the next waiting record; nothing while frozen or clearing. -/
def execEvrRecordWrite (s : State) : Host.Outcome State Fault Refusal :=
  .next (onlyIf (clocksRun s && s.evr.frozen.isNone && !s.evr.clearing) s (
    let s := if injArmed s pgEvr 1 then fire s pgEvr 1 else s
    if s.evr.nextSeq = 0 then (if s.lco.decoded then evrWrite s (powerOnRec s) else s)
    else match firstRec (waitingRecs s) with
    | some x => evrWrite (takeRec s x) x.2
    | none => s))

/-- EVR_SPILL_WRITE_DONE (20 R521): the oldest spill write out completes with a status, JCT's where it refuses it (09 R254). -/
def execEvrSpillWriteDone (st : Status) (s : State) : Host.Outcome State Fault Refusal :=
  .next (match s.evr.spilling with
    | [] => s
    | k :: rest =>
      let (s, st) := serviceEnd { s with evr := { s.evr with spilling := rest } } (spillAddr s k / 4096) 0xFF01 true st.code
      if st != 0 || injArmed s pgEvr 0 then
        let s := setRegBit { s with evr := { s.evr with spilling := [] } } (pgEvr + 0x100) 31 false
        fireAs s pgEvr 0 rcSpillStop none st k 0
      else
        let m := max 1 (getFld s (pgEvr + 0x104) 16 0)
        let sp := match s.evr.spill with
          | some (lo, hi) => if k = hi + 1 then (max lo (k + 1 - m), k) else (k, k)
          | none => (k, k)
        { s with evr := { s.evr with spill := some sp, oldest := oldestNow { s with evr := { s.evr with spill := some sp } } } })

/-! ### Reading (20 R522) -/

/-- The register page and offsets of a role's record read: RD_SEQ on the EVR page, or on the instance page of T. -/
def rdSeqOff (r : Role) : Nat :=
  match r with
  | .t i => instPage i.val + 0x320
  | _ => pgEvr + 0x050

/-- A write of RD_SEQ, judged: the record is loaded from the ring or, with the answer `rd`, from the spill region. -/
def doRecordLoad (r : Role) (sq : Word) (rd : KtabRead) (s : State) : State :=
  let n := sq.toNat
  let put (s : State) (data : Bytes) (st : Nat) : State := regDone { s with evr := { s.evr with rd := tblPut s.evr.rd r.key ⟨n, data, st⟩ } } r (rdSeqOff r) .ok 0
  let top := s.evr.nextSeq
  let full := top - (2 ^ 32 + top - n) % 2 ^ 32
  if (2 ^ 32 + top - n) % 2 ^ 32 = 0 || top < (2 ^ 32 + top - n) % 2 ^ 32 then put s (zeros 32) Status.notReady.code
  else if full < s.evr.oldest then put s (zeros 32) Status.denied.code
  else if top ≤ full + 65536 then put s ((tblFind s.evr.ring (full % 65536)).elim (zeros 32) recBytes) 0
  else match serviceRead s (spillAddr s (full / 128) / 4096) 0xFF01 rd with
    | (s, .entry b) => put s b 0
    | (s, .unwritten) => put s (zeros 32) Status.unwritten.code
    | (s, .fail st) => put s (zeros 32) st.code

/-- EVR_RECORD_LOAD (20 R522); `rd` is what a read of the spill region gives. -/
def execEvrRecordLoad (role : Role) (sq : Word) (rd : KtabRead) (s : State) : Host.Outcome State Fault Refusal :=
  .next (judgeWrite s role (rdSeqOff role) (doRecordLoad role sq rd))

/-! ### Freeze and clear (20 R523, R524) -/

/-- The records that wait are taken and counted. -/
def absorb (s : State) (f : Freeze) : Nat → Freeze × State
  | 0 => (f, s)
  | n + 1 => match firstRec (waitingRecs s) with
    | some x => absorb (takeRec s x) (freezeCount f x.2) n
    | none => (f, s)

/-- FREEZE, judged. -/
def doEvrFreeze (r : Role) (s : State) : State :=
  let soon := match s.evr.lastFreezeEnd with
    | some t => now s < t + 10000000
    | none => false
  if s.evr.frozen.isSome || s.evr.clearing || soon then regDone s r (pgEvr + 0x04C) .retry 0
  else
    let (f, t) := absorb s ⟨0, 0, 0, now s⟩ (s.evr.handed.length + 5 * s.evr.bufs.length)
    commitDone (setRegBit { t with evr := { t.evr with frozen := some f } } (pgEvr + 0x040) 0 true) r (pgEvr + 0x04C)

/-- EVR_FREEZE (20 R523). -/
def execEvrFreeze (role : Role) (s : State) : Host.Outcome State Fault Refusal := .next (judgeGuarded s role (pgEvr + 0x04C) (doEvrFreeze role))

/-- UNFREEZE, judged. -/
def doEvrUnfreeze (r : Role) (s : State) : State := commitDone (endFreeze s) r (pgEvr + 0x04C)

/-- EVR_UNFREEZE (20 R523). -/
def execEvrUnfreeze (role : Role) (s : State) : Host.Outcome State Fault Refusal := .next (judgeGuarded s role (pgEvr + 0x04C) (doEvrUnfreeze role))

/-- EVR_FREEZE_TIMEOUT (20 R523). -/
def execEvrFreezeTimeout (s : State) : Host.Outcome State Fault Refusal :=
  .next (match s.evr.frozen with
    | some f => onlyIf (f.start + 10000000 ≤ now s) s (endFreeze s)
    | none => s)

/-- The clear token and its digest as they stand in their registers. -/
def evrToken (s : State) : Bytes := (List.range 8).flatMap (fun k => leBytes 4 (rawReg s (pgEvr + 0x080 + 4 * k)).toNat)
/-- The digest registers. -/
def evrDigest (s : State) : Bytes := (List.range 12).flatMap (fun k => leBytes 4 (rawReg s (pgEvr + 0x0A0 + 4 * k)).toNat)

/-- An accepted CLEAR: the CLEARED record, every other ring entry zero, OLDEST raised, CLEARING set. -/
def evrAccept (s : State) : State :=
  let r := mkRec s rcCleared uEvr 0 none s.evr.oldest (wordAt s.evr.head 0).toNat (wordAt s.evr.head 1).toNat
  let n := s.evr.nextSeq
  let s := evrWrite s r
  let s := { s with evr := { s.evr with ring := s.evr.ring.filter (fun e => e.1 = n % 65536), oldest := n, cleared := n, clearing := true } }
  setRegBit s (pgEvr + 0x040) 1 true

/-- CLEAR, judged in the order of R524. -/
def doEvrClear (r : Role) (s : State) : State :=
  let a := pgEvr + 0x04C
  if r.kind != .m then regDone s r a .denied 0
  else if s.evr.frozen.isSome || s.evr.clearing then regDone s r a .retry 0
  else if s.dom.config = .fullDomain then commitDone (evrAccept s) r a
  else if s.evr.digestWritten.length < 12 || allZero (evrDigest s) || 8 ≤ s.evr.tokenFails then regDone s r a .denied 0
  else
    let ok := Config.sha384 (evrToken s) = evrDigest s
    let s := resetRegs s pgEvr 0x080 0x0A0
    if ok then commitDone (evrAccept s) r a
    else
      let k := s.evr.tokenFails + 1
      regDone (setFld { s with evr := { s.evr with tokenFails := k } } (pgEvr + 0x040) 7 4 k) r a .denied 0

/-- EVR_CLEAR (20 R524). -/
def execEvrClear (role : Role) (s : State) : Host.Outcome State Fault Refusal := .next (judgeGuarded s role (pgEvr + 0x04C) (doEvrClear role))

/-- EVR_CLEAR_DONE (20 R524). -/
def execEvrClearDone (s : State) : Host.Outcome State Fault Refusal :=
  .next (onlyIf s.evr.clearing s (setRegBit { s with evr := { s.evr with clearing := false } } (pgEvr + 0x040) 1 false))

/-- A write of a CLR_DIGEST word, judged: only the first after PORST_N counts. -/
def doClrDigest (r : Role) (k : Nat) (v : Word) (s : State) : State :=
  let a := pgEvr + 0x0A0 + 4 * k
  if s.evr.digestWritten.contains k then regDone s r a .ok 0
  else regDone (setReg { s with evr := { s.evr with digestWritten := k :: s.evr.digestWritten } } a v) r a .ok 0

/-- EVR_CLR_DIGEST_WRITE (20 R524). -/
def execEvrClrDigestWrite (role : Role) (k : Fin 12) (v : Word) (s : State) : Host.Outcome State Fault Refusal :=
  .next (judgeWrite s role (pgEvr + 0x0A0 + 4 * k.val) (doClrDigest role k.val v))

end Sys2Proof.Machine
end

