-- ==== Sys2Proof/Machine/Clock.lean ====
section
/-!
DEFINITION. TTU, the Station Clock (20 R527 to R532): the calendar, the time base, the tick.
-/
namespace Sys2Proof.Machine

/-! ### The calendar (20 R527) -/

/-- The last count of the range. -/
def lastCount : Nat := 12622780799999999999

/-- Whether a year is a leap year. -/
def isLeap (y : Nat) : Bool := y % 4 = 0 && (y % 100 != 0 || y % 400 = 0)

/-- Days of a year. -/
def yearDays (y : Nat) : Nat := if isLeap y then 366 else 365

/-- Days of a month. -/
def monthDays (y m : Nat) : Nat := if m = 2 then (if isLeap y then 29 else 28) else if [4, 6, 9, 11].contains m then 30 else 31

/-- Days from 2000-01-01 to the start of year `2000 + n`. -/
def daysToYear : Nat → Nat
  | 0 => 0
  | n + 1 => daysToYear n + yearDays (2000 + n)

/-- Days from the start of a year to the start of its month `m + 1`. -/
def daysToMonth (y : Nat) : Nat → Nat
  | 0 => 0
  | m + 1 => daysToMonth y m + monthDays y (m + 1)

/-- The count of an instant. -/
def countOf (y m d sec ns : Nat) : Nat := ((daysToYear (y - 2000) + daysToMonth y (m - 1) + (d - 1)) * 86400 + sec) * 1000000000 + ns

/-- The year that holds a day, and the day in it. -/
def yearOf (y d : Nat) : Nat → Nat × Nat
  | 0 => (y, d)
  | n + 1 => if d < yearDays y then (y, d) else yearOf (y + 1) (d - yearDays y) n

/-- The month that holds a day of a year, and the day in it. -/
def monthOf (y m d : Nat) : Nat → Nat × Nat
  | 0 => (m, d)
  | n + 1 => if d < monthDays y m then (m, d) else monthOf y (m + 1) (d - monthDays y m) n

/-- NOW_DATE of a count (20 Table 20.9). -/
def dateWord (c : Nat) : Word :=
  let (y, d) := yearOf 2000 (c / 1000000000 / 86400) 400
  let (m, d) := monthOf y 1 d 12
  BitVec.ofNat 32 (d + 1 + m * 0x20 + y * 0x200)

/-- NOW_TIME of a count. -/
def timeWord (c : Nat) : Word :=
  let t := c / 1000000000 % 86400
  BitVec.ofNat 32 (t % 60 + t / 60 % 60 * 0x40 + t / 3600 * 0x1000)

/-- NOW_NS of a count. -/
def nsWord (c : Nat) : Word := BitVec.ofNat 32 (c % 1000000000)

/-! ### Calendar writes (20 R529) -/

/-- The conditions of R529 on the SET registers. -/
def dateOk (d t n : Word) : Bool :=
  let y := getBits d 20 9
  let m := getBits d 8 5
  2000 ≤ y && y ≤ 2399 && 1 ≤ m && m ≤ 12 && 1 ≤ getBits d 4 0 && getBits d 4 0 ≤ monthDays y m && getBits d 31 21 = 0
    && getBits t 16 12 ≤ 23 && getBits t 11 6 ≤ 59 && getBits t 5 0 ≤ 59 && getBits t 31 17 = 0 && getBits n 31 0 ≤ 999999999

/-- C and the base at a new count, keeping the time base. -/
def setCount (s : State) (c : Nat) : State := { s with ttu := { s.ttu with c := c, base := 64 * c, n := 0 } }

/-- A write of SET_GO, judged. -/
def doSetGo (r : Role) (s : State) : State :=
  let a := pgTtu + 0x06C
  let d := rawReg s (pgTtu + 0x060)
  let t := rawReg s (pgTtu + 0x064)
  let n := rawReg s (pgTtu + 0x068)
  if dateOk d t n && !injArmed s pgTtu 0 then
    let c := countOf (getBits d 20 9) (getBits d 8 5) (getBits d 4 0) (getBits t 16 12 * 3600 + getBits t 11 6 * 60 + getBits t 5 0) n.toNat
    let s := record s pgTtu rcTimeSet (c % 2 ^ 32) (c / 2 ^ 32) 0x2
    let s := setCount { s with ttu := { s.ttu with valid := true, ended := false } } c
    commitDone (setRegBit (setRegBit s (pgTtu + 0x040) 0 true) (pgTtu + 0x040) 2 false) r a
  else regDone (fireAs s pgTtu 0 rcDateRefused none d.toNat t.toNat n.toNat) r a .denied 0

/-- SET_GO (20 R529). -/
def execSetGo (role : Role) (s : State) : Host.Outcome State Fault Refusal := .next (judgeGuarded s role (pgTtu + 0x06C) (doSetGo role))

/-! ### Time base (20 R528) -/

/-- TTU takes the crystal as its time base from the current C on. -/
def discipline (s : State) : State :=
  let s := setCount { s with ttu := { s.ttu with disciplined := true, lost := false } } s.ttu.c
  record (setRegBit s (pgTtu + 0x040) 1 true) pgTtu rcAonChange 1 0 0

/-- AON_CHANGEOVER (20 R528). -/
def execAonChangeover (s : State) : Host.Outcome State Fault Refusal :=
  .next (onlyIf (regBit s (pgCru + 0x044) 2 && !s.ttu.disciplined && !s.ttu.lost) s (discipline s))

/-- AON_EDGE_LOSS (20 R528). -/
def execAonEdgeLoss (s : State) : Host.Outcome State Fault Refusal := .next (onlyIf s.ttu.disciplined s (aonLost s))

/-- AON_REDISCIPLINE (20 R528). -/
def execAonRediscipline (s : State) : Host.Outcome State Fault Refusal :=
  .next (onlyIf (s.ttu.lost && 16384 ≤ s.ttu.edges) s (discipline s))

/-- TIME_END_OF_RANGE (20 R532). -/
def execTimeEndOfRange (s : State) : Host.Outcome State Fault Refusal :=
  .next (onlyIf (s.ttu.c = lastCount && !s.ttu.ended) s
    (fireAs (setRegBit { s with ttu := { s.ttu with ended := true } } (pgTtu + 0x040) 2 true) pgTtu 2 rcTimeEnd none 0 0 0))

/-! ### Reading the calendar (20 R530) -/

/-- A read of NOW_DATE, judged: NOW_TIME and NOW_NS are latched for the role. -/
def doNowDate (r : Role) (s : State) : State :=
  let c := s.ttu.c
  let s := { s with ttu := { s.ttu with now := tblPut s.ttu.now r.key (timeWord c, nsWord c) } }
  regDone s r (pgTtu + 0x044) .ok (dateWord c)

/-- NOW_DATE_READ (20 R530). -/
def execNowDateRead (role : Role) (s : State) : Host.Outcome State Fault Refusal :=
  .next (judge s role (pgTtu + 0x044) 4 false none (doNowDate role))

/-- NOW_LATCH_EXPIRE (20 R530). -/
def execNowLatchExpire (role : Role) (s : State) : Host.Outcome State Fault Refusal :=
  .next { s with ttu := { s.ttu with now := tblDel s.ttu.now role.key } }

/-! ### The tick -/

/-- One CK_REF cycle of TTU: 10 ns, and the crystal's edges every 30,517.578125 ns of the same time (log entry 4). Between edges a disciplined C stands
at ⌊B⌋ + min(10 n, 30,517) (20 R528); at its last count C stops (R532). -/
def ttuTick (s : State) : State :=
  let t := s.ttu
  let edge := 1953125 ≤ t.phase + 640
  let phase := if edge then t.phase + 640 - 1953125 else t.phase + 640
  let base := if t.disciplined && edge then t.base + 1953125 else t.base
  let n := if t.disciplined then (if edge then 0 else t.n + 1) else 0
  let c := if t.ended || lastCount ≤ t.c then t.c
    else if t.disciplined then max t.c (min lastCount (base / 64 + min (10 * n) 30517))
    else min lastCount (t.c + 10)
  { s with ttu := { t with phase := phase, edges := if edge then t.edges + 1 else t.edges, base := base, n := n, c := c } }

end Sys2Proof.Machine
end

