-- ==== Sys2Proof/Machine/Coherence.lean ====
section
/-!
DEFINITION. The coherence commands (10 R281 to R286, 18 R479): each carries a message of Table 10.10 that passed its link checks, or a timer.
-/
namespace Sys2Proof.Machine

/-- A message that arrived on LR wakes a sleeping block (04 R126) and is judged; an armed injection into COH_PROTO discards it (05 R151). -/
def cohTake (s : State) (k : State → State) : State :=
  let s := wake s 5
  if injArmed s pgCtc 2 then cohDiscard s else k s

/-- GETS_RECEIVE (10 R283). -/
def execGetsReceive (sender : BitVec 14) (tree : Fin 40) (idx : BitVec 32) (s : State) : Host.Outcome State Fault Refusal :=
  .next (cohTake s fun s => demandLine s tree.val idx.toNat sender.toNat false)

/-- GETO_RECEIVE (10 R283). -/
def execGetoReceive (sender : BitVec 14) (tree : Fin 40) (idx : BitVec 32) (s : State) : Host.Outcome State Fault Refusal :=
  .next (cohTake s fun s => demandLine s tree.val idx.toNat sender.toNat true)

/-- COH_DATA_RECEIVE (10 R283): the copy is installed with its version, and the request is answered. -/
def execCohDataReceive (home : BitVec 14) (tree : Fin 40) (idx : BitVec 32) (owned : Bool) (v : Word) (line : Bytes) (s : State) :
    Host.Outcome State Fault Refusal :=
  let h := home.toNat
  let i := idx.toNat
  .next (cohTake s fun s =>
    if s.coh.reqs.any (fun r => r.home = h && r.tree = tree.val && r.idx = i) then
      (let s := dropCopy s h tree.val i
       { s with coh := { s.coh with
         copies := s.coh.copies ++ [⟨h, tree.val, i, owned, v.toNat, msgLine line, 0, false, false⟩]
         reqs := s.coh.reqs.filter (fun r => !(r.home = h && r.tree = tree.val && r.idx = i && (r.own = owned || owned))) } })
    else cohDiscard s)

/-- INV_RECEIVE (10 R283): the copy is dropped and INV_ACK answers. -/
def execInvReceive (home : BitVec 14) (tree : Fin 40) (idx : BitVec 32) (v : Word) (s : State) : Host.Outcome State Fault Refusal :=
  .next (cohTake s fun s => cohSend (dropCopy s home.toNat tree.val idx.toNat) home.toNat tree.val idx.toNat (.invAck v.toNat))

/-- INV_ACK_RECEIVE (10 R283, R284): the sharer bit clears; another version is discarded. -/
def execInvAckReceive (sender : BitVec 14) (tree : Fin 40) (idx : BitVec 32) (v : Word) (s : State) : Host.Outcome State Fault Refusal :=
  .next (cohTake s fun s => match dirOf s tree.val idx.toNat with
    | some d =>
      if d.v = v.toNat && d.invs.any (fun i => i.1 = sender.toNat) then
        (let st := match d.st with
           | .s m => (if (m.filter (· != sender.toNat)) = [] then DirSt.u else .s (m.filter (· != sender.toNat)))
           | x => x
         let s := putDir s { d with st := st, invs := d.invs.filter (fun i => i.1 != sender.toNat) }
         serveLate (tidyDir (serveLine s tree.val idx.toNat) tree.val idx.toNat))
      else cohDiscard s
    | none => cohDiscard s)

/-- RECALL_RECEIVE (10 R283): the owner prepares its write-back. -/
def execRecallReceive (home : BitVec 14) (tree : Fin 40) (idx : BitVec 32) (v : Word) (s : State) : Host.Outcome State Fault Refusal :=
  .next (cohTake s fun s => match copyOf s home.toNat tree.val idx.toNat with
    | some c =>
      if c.owned && c.v = v.toNat then mapCopy s home.toNat tree.val idx.toNat (fun d => { d with recalled := true })
      else cohDiscard s
    | none => cohDiscard s)

/-- RECALL_ANSWER (10 R285): every admitted write of the line has been handed to its span, so WB leaves. -/
def execRecallAnswer (home : BitVec 14) (tree : Fin 40) (idx : BitVec 32) (s : State) : Host.Outcome State Fault Refusal :=
  .next (match copyOf s home.toNat tree.val idx.toNat with
    | some c => onlyIf (c.owned && c.recalled && !writeCtWaits s c.home c.tree c.idx) s (sendWb s c)
    | none => s)

/-- WB_RECEIVE (10 R283 to R285): applied once its counted WRITE_CTs have arrived, held until then. -/
def execWbReceive (sender : BitVec 14) (tree : Fin 40) (idx : BitVec 32) (v count : Word) (line : Bytes) (s : State) :
    Host.Outcome State Fault Refusal :=
  .next (cohTake s fun s => match dirOf s tree.val idx.toNat with
    | some d =>
      if d.st = .o sender.toNat && d.v = v.toNat then
        (if count.toNat ≤ d.wct then applyWb s d sender.toNat (msgLine line)
         else putDir s { d with heldWb := some ⟨sender.toNat, v.toNat, count.toNat - d.wct, msgLine line⟩ })
      else cohDiscard s
    | none => cohDiscard s)

/-- WB_ACK_RECEIVE (10 R283): the owner frees its retained copy. -/
def execWbAckReceive (home : BitVec 14) (tree : Fin 40) (idx : BitVec 32) (_v : Word) (s : State) : Host.Outcome State Fault Refusal :=
  .next (cohTake s fun s => match copyOf s home.toNat tree.val idx.toNat with
    | some c => if c.retained then dropCopy s home.toNat tree.val idx.toNat else cohDiscard s
    | none => cohDiscard s)

/-- NACK_RECEIVE (10 R283): the request stays held and will be sent again. -/
def execNackReceive (home : BitVec 14) (tree : Fin 40) (idx : BitVec 32) (_reason : BitVec 8) (s : State) : Host.Outcome State Fault Refusal :=
  .next (cohTake s fun s => { s with coh := { s.coh with reqs := s.coh.reqs.map (fun r =>
    if r.home = home.toNat && r.tree = tree.val && r.idx = idx.toNat then { r with nacked := true } else r) } })

/-- NACK_RETRY (10 R283): 1 µs later the request is sent again. -/
def execNackRetry (home : BitVec 14) (tree : Fin 40) (idx : BitVec 32) (s : State) : Host.Outcome State Fault Refusal :=
  let hit (r : CohReq) : Bool := r.home = home.toNat && r.tree = tree.val && r.idx = idx.toNat && r.nacked
  .next (
    let again := s.coh.reqs.filter hit
    let s := { s with coh := { s.coh with reqs := s.coh.reqs.map (fun r => if hit r then { r with nacked := false } else r) } }
    again.foldl (fun t r => cohSend t r.home r.tree r.idx (if r.own then .geto else .gets)) s)

/-- WRITE_CT_RECEIVE (10 R283, R285). -/
def execWriteCtReceive (sender : BitVec 14) (granule : BitVec 35) (v : Word) (major : BitVec 64) (minor : BitVec 12) (tag data : Bytes) (s : State) :
    Host.Outcome State Fault Refusal :=
  .next (cohTake s fun s => offerCt s ⟨sender.toNat, granule.toNat / 32, granule.toNat % 32, v.toNat, major.toNat, minor.toNat, tag, data⟩)

/-- WB_HOLD_TIMEOUT (10 R285): the missing WRITE_CTs are counted lost and the WB is applied. -/
def execWbHoldTimeout (tree : Fin 40) (idx : BitVec 32) (s : State) : Host.Outcome State Fault Refusal :=
  .next (match dirOf s tree.val idx.toNat with
    | some d => (match d.heldWb with
      | some w =>
        let s := incSat s (pgCtc + 0x058) 31 0 (w.missing - 1)
        applyWb (lineLost s d.tree d.idx 2) d w.src w.data
      | none => s)
    | none => s)

/-- RECALL_REPEAT (10 R285): an unanswered RECALL is repeated; after three the owner is gone. -/
def execRecallRepeat (tree : Fin 40) (idx : BitVec 32) (s : State) : Host.Outcome State Fault Refusal :=
  .next (match dirOf s tree.val idx.toNat with
    | some d => (match d.st with
      | .o w =>
        if d.recalls = 0 then s
        else if 3 ≤ d.recalls then memberGone s w
        else cohSend (putDir s { d with recalls := d.recalls + 1 }) w d.tree d.idx (.recall d.v)
      | _ => s)
    | none => s)

/-- INV_REPEAT (18 R479): an unanswered INV is repeated; after three the sharer is gone. -/
def execInvRepeat (tree : Fin 40) (idx : BitVec 32) (member : BitVec 14) (s : State) : Host.Outcome State Fault Refusal :=
  .next (match dirOf s tree.val idx.toNat with
    | some d => (match d.invs.find? (fun i => i.1 = member.toNat) with
      | some i =>
        if 3 ≤ i.2 then memberGone s member.toNat
        else cohSend (putDir s { d with invs := d.invs.map (fun j => if j.1 = member.toNat then (j.1, j.2 + 1) else j) }) member.toNat d.tree d.idx (.inv d.v)
      | none => s)
    | none => s)

end Sys2Proof.Machine
end

