-- ==== Sys2Proof/Machine/Dispatching.lean ====
section
/-!
DEFINITION. Constant-rate dispatch of a span (14 R387 to R391).
-/
namespace Sys2Proof.Machine

/-- The wire length of an NI frame with `w` body bytes (14 R387). -/
def niWire (s : State) (n w : Nat) : Nat := w + 142 + 4 * b2n (regBit s (pgVdt n + 0x044) 24)

/-- The load of entries over a common denominator: numerator and denominator in B/µs (14 R387 check 5). -/
def dspLoad (s : State) (n : Nat) (ds : List Dsp) : Nat × Nat :=
  ds.foldl (fun a d => (a.1 * d.period + d.frames * niWire s n d.fsize * a.2, a.2 * d.period)) (0, 1)

/-- The entry that DSP_IDX selects. -/
def dspIdx (s : State) (n : Nat) : Nat := getFld s (pgVdt n + 0x100) 3 0

/-- The staged entry (14 Table 14.6). -/
def stagedDsp (s : State) (n : Nat) : Dsp :=
  ⟨getFld s (pgVdt n + 0x104) 11 0, getFld s (pgVdt n + 0x104) 18 12, getFld s (pgVdt n + 0x108) 13 0, getFld s (pgVdt n + 0x108) 31 16,
    false, false, [], 0, [], none⟩

/-- A dispatch command ends with its status. -/
def dspDone (s : State) (r : Role) (n : Nat) (st : Status) : State :=
  commitDone (setFld s (pgVdt n + 0x110) 7 0 st.code) r (pgVdt n + 0x10C)

/-- DSP_START: the checks of 14 R387 in order. PERIOD 0 is outside its range and is refused with FRAMES and FSIZE. -/
def doDspStart (r : Role) (n : Nat) (s : State) : State :=
  let d := stagedDsp s n
  let i := dspIdx s n
  let act := (spanAt s n).dsp
  let all := d :: act.map Prod.snd
  let f := flowAt s n d.flow
  let load := dspLoad s n all
  if (tblFind act i).isSome then dspDone s r n .denied
  else if !f.valid || f.kind != 0 || act.any (fun x => x.2.flow = d.flow) then dspDone s r n .denied
  else if d.frames = 0 || 64 < d.frames || d.fsize = 0 || 9070 < d.fsize || d.period = 0 then dspDone s r n .denied
  else if 65536 < all.foldl (fun a x => a + x.frames * x.fsize) 0 then dspDone s r n .denied
  else if gaugeCap (getFld s (pgVdt n + 0x070) 1 0) * 8 * load.2 < load.1 * 100 then dspDone s r n .denied
  else dspDone (mapSpan s n (fun x => { x with dsp := tblPut x.dsp i d })) r n .ok

/-- DSP_STOP: the entry ends at the end of its round (14 R391); a stopped entry that is not active stays so. -/
def doDspStop (r : Role) (n : Nat) (s : State) : State :=
  dspDone (match tblFind (spanAt s n).dsp (dspIdx s n) with
    | some d => mapSpan s n (fun x => { x with dsp := tblPut x.dsp (dspIdx s n) { d with stopping := true } })
    | none => s) r n .ok

/-- DSP_CMD LOAD: the staged fields are the entry's (14 Table 14.6); an entry that is not active loads zeros. -/
def doDspLoad (r : Role) (n : Nat) (s : State) : State :=
  let d := (tblFind (spanAt s n).dsp (dspIdx s n)).getD ⟨0, 0, 0, 0, false, false, [], 0, [], none⟩
  let s := setReg s (pgVdt n + 0x104) (BitVec.ofNat 32 (d.flow + d.frames * 4096))
  dspDone (setReg s (pgVdt n + 0x108) (BitVec.ofNat 32 (d.fsize + d.period * 65536))) r n .ok

/-- DSP_START (14 R387). -/
def execDspStart (role : Role) (n : Fin 18) (s : State) : Host.Outcome State Fault Refusal :=
  .next (judgeGuarded s role (pgVdt n.val + 0x10C) (doDspStart role n.val))

/-- DSP_STOP (14 R391). -/
def execDspStop (role : Role) (n : Fin 18) (s : State) : Host.Outcome State Fault Refusal :=
  .next (judgeGuarded s role (pgVdt n.val + 0x10C) (doDspStop role n.val))

/-- DSP_CMD_LOAD (14 R392). -/
def execDspCmdLoad (role : Role) (n : Fin 18) (s : State) : Host.Outcome State Fault Refusal :=
  .next (judgeGuarded s role (pgVdt n.val + 0x10C) (doDspLoad role n.val))

/-- Change a dispatch entry. -/
def setDsp (s : State) (n e : Nat) (d : Dsp) : State := mapSpan s n (fun x => { x with dsp := tblPut x.dsp e d })

/-- A span in an L1 or L2 reset sends no slot (14 R391). -/
def dspRuns (s : State) (n : Nat) : Bool := !regBit s (pgVdt n + 0x010) 9 && pageUp s (pgVdt n)

/-- A stopped entry ends: its real frames, those late first, go out as ordinary NI frames (14 R391). -/
def dspEnd (s : State) (n e : Nat) (d : Dsp) : State :=
  mapSpan s n (fun x => { x with
    dsp := tblDel x.dsp e
    outQ := x.outQ ++ (d.late.filterMap id ++ d.queue).map TxItem.ni })

/-- DISPATCH_ROUND (14 R387, R391): a round of the entry begins, or a stopped entry ends. -/
def execDispatchRound (n : Fin 18) (entry : Fin 16) (s : State) : Host.Outcome State Fault Refusal :=
  .next (match tblFind (spanAt s n.val).dsp entry.val with
    | some d =>
      if d.stopping then dspEnd s n.val entry.val d
      else if dspRuns s n.val then setDsp s n.val entry.val { d with running := true, slot := 0 }
      else s
    | none => s)

/-- Send a dispatch frame, real or dummy, with W = FSIZE and class 3 (14 R388). -/
def sendDsp (s : State) (n : Nat) (d : Dsp) (x : Option NiItem) (ep : Nat) (key : Bytes) : State :=
  match x with
  | some x =>
    let pad := d.fsize - x.data.length
    let s := incSat s (pgVdt n + 0x11C) 31 0 pad
    let dr := niDraft s n d.flow x.pasid x.ctx x.keyId x.data.length 0 3 0 (x.data ++ zeros pad)
    let s := sealSend (markTold s n d.flow) n d.flow ep key dr true x.inst
    (match x.trs with
     | some h => { s with ttb := { s.ttb with replies := s.ttb.replies ++ [⟨.trs h 0xFFFF, 0, 0, []⟩] } }
     | none => s)
  | none =>
    let dr := niDraft s n d.flow 0 0 0 0 2 3 0 (zeros d.fsize)
    incSat (sealSend (markTold s n d.flow) n d.flow ep key dr true none) (pgVdt n + 0x120) 31 0 1

/-- What a dummy of an entry is judged as. -/
def dspDummy (d : Dsp) : NiItem := ⟨0, d.flow, 0, 0, 0, none, 0, 3, [], none⟩

/-- Judge a slot's frame: a refused real frame returns and a dummy takes its place, and a refused dummy sends nothing. The frame that has to wait, if one
has: late frames leave in order, so a frame behind an earlier late one waits too (R390). -/
def dspJudge (s : State) (n : Nat) (d : Dsp) (x : Option NiItem) (behind : Bool) : State × Option (Option NiItem) :=
  let (s, x) := match x with
    | some y => if !genFresh s y.inst y.gen then (genDiscard s y.inst, none)
      else (match niRefusal s n y with
        | some st => (niReturn s n y st, none)
        | none => (s, some y))
    | none => (s, none)
  if (niRefusal s n (x.getD (dspDummy d))).isSome then (s, none)
  else if behind then (s, some x)
  else match txKey s n d.flow with
    | (s, none) => (s, some x)
    | (s, some (ep, key)) => if replaying s (pgVdt n) || !hasCredit s n (flowAt s n d.flow) then (s, some x) else (sendDsp s n d x ep key, none)

/-- A slot is late: it counts, and the first of an entry in each millisecond is recorded with its span, entry and slot (14 R390, 22 Table 22.8). -/
def dspLate (s : State) (n e k : Nat) (d : Dsp) : State :=
  let ms := now s / 1000000
  let s := incSat s (pgVdt n + 0x12C) 31 0 1
  if d.lateMs = some ms then s
  else record (setDsp s n e { d with lateMs := some ms }) (pgVdt n) rcDispatchLate n e k

/-- DISPATCH_SLOT (14 R388, R390): slot k of the running round. -/
def execDispatchSlot (n : Fin 18) (entry : Fin 16) (s : State) : Host.Outcome State Fault Refusal :=
  .next (match tblFind (spanAt s n.val).dsp entry.val with
    | some d =>
      if !d.running || d.frames ≤ d.slot || !dspRuns s n.val then s
      else
        let k := d.slot
        let d' := { d with slot := k + 1, queue := d.queue.drop 1 }
        match dspJudge (setDsp s n.val entry.val d') n.val d' d.queue.head? (!d.late.isEmpty) with
        | (s, none) => s
        | (s, some x) =>
          let d' := { d' with late := d'.late ++ [x] }
          dspLate (setDsp s n.val entry.val d') n.val entry.val k d'
    | none => s)

/-- DISPATCH_LATE_SEND (14 R390): the oldest late frame of an entry leaves once it can be admitted. -/
def execDispatchLateSend (n : Fin 18) (entry : Fin 16) (s : State) : Host.Outcome State Fault Refusal :=
  .next (match tblFind (spanAt s n.val).dsp entry.val with
    | some d =>
      (match d.late with
       | x :: rest =>
         if !dspRuns s n.val then s
         else (match dspJudge s n.val d x false with
           | (s, none) => setDsp s n.val entry.val { d with late := rest }
           | (s, some y) => setDsp s n.val entry.val { d with late := y :: rest })
       | [] => s)
    | none => s)

end Sys2Proof.Machine
end

