-- ==== Sys2Proof/Machine/EngineRows.lean ====
section
/-!
DEFINITION. The memory-engine commands whose answers TRS, HGT, CCE and IMU may wait for: after each, they take what came back for them and present what waits
(13 R363, R371, 15 R404).
-/
namespace Sys2Proof.Machine

/-- REQUEST_ADMIT (10 R258, 12 R337, 18 R468). -/
def execRequestAdmit (e : Fin 40) (s : State) : Host.Outcome State Fault Refusal :=
  .next (imuSettle (cceSettle (hgtSettle (trsSettle (doRequestAdmit e s)))))

/-- MEM_READ_DATA (10 R268, 03 R78). -/
def execMemReadData (e : Fin 40) (id : BitVec 8) (data : Bytes) (rerr perr : Bool) (s : State) : Host.Outcome State Fault Refusal :=
  .next (imuSettle (cceSettle (hgtSettle (trsSettle (doMemReadData e id data rerr perr s)))))

/-- MEM_WRITE_PRESENT (10 R269). -/
def execMemWritePresent (e : Fin 40) (slot : Fin 128) (s : State) : Host.Outcome State Fault Refusal :=
  .next (imuSettle (cceSettle (hgtSettle (trsSettle (doMemWritePresent e slot s)))))

/-- MEM_WRITE_ACK (03 R77). -/
def execMemWriteAck (e : Fin 40) (id : BitVec 8) (s : State) : Host.Outcome State Fault Refusal :=
  .next (imuSettle (cceSettle (hgtSettle (trsSettle (doMemWriteAck e id s)))))

/-- METADATA_FILL_RETURN (10 R262, R266, 03 R78). -/
def execMetadataFillReturn (e : Fin 40) (id : BitVec 8) (data : Bytes) (rerr perr : Bool) (s : State) : Host.Outcome State Fault Refusal :=
  .next (imuSettle (cceSettle (hgtSettle (trsSettle (doMetadataFillReturn e id data rerr perr s)))))

/-- RESEAL_FINISH (10 R275, R276). -/
def execResealFinish (e : Fin 40) (s : State) : Host.Outcome State Fault Refusal :=
  .next (imuSettle (cceSettle (hgtSettle (trsSettle (doResealFinish e s)))))

end Sys2Proof.Machine
end

