-- ==== Sys2Proof/Machine/Observe.lean ====
section
/-!
DEFINITION. PMU (21 R534 to R546).
-/
namespace Sys2Proof.Machine

/-- Whether PMU samples: EN, its page in service, not in SLEEP (21 R536, R537, 05 Table 05.5). -/
def pmuSamples (s : State) : Bool :=
  regBit s (pgPmu + 0x040) 0 && pageUp s pgPmu && !pageGated s pgPmu && enabled s pgPmu && s.cru.st = .run

/-! ### The ring (21 R539) -/

/-- L of 21 R539. -/
def ringL (s : State) : Nat := 2 ^ getFld s (pgPmu + 0x04C) 3 0

/-- Whether sampling may start: RING_BASE a multiple of 32, the ring in tier A, every page won by class S with KSRC 0xFF02. -/
def ringLegal (s : State) : Bool :=
  let lo := getFld s (pgPmu + 0x048) 29 0
  let hi := lo + 32 * ringL s - 1
  lo % 32 = 0 && inTierA hi && (lo :: (cuts s.jct.active []).filter (fun p => lo ≤ p && p ≤ hi)).all (fun p => protOf s.jct.active p == some (false, 0xFF02))

/-- The byte address of slot `k`. -/
def slotAddr (s : State) (k : Nat) : Nat :=
  let r := k / 32 % (16 * ringL s)
  4096 * getFld s (pgPmu + 0x048) 29 0 + 4096 * (k % 32) + 131072 * (r / 16) + 256 * (r % 16)

/-- Slot `i` of set `n`. -/
def slotOfSet (s : State) (n i : Nat) : Nat := (9 * n + i) % (512 * ringL s)

/-- A write of EN that passed its guard (21 R539); set numbers count from 0 again (R536), and no set of the new numbering is written yet. -/
def pmuEn (s : State) (en : Bool) : Option State :=
  if !en then some (setRegBit s (pgPmu + 0x040) 0 false)
  else if regBit s (pgPmu + 0x040) 0 then some s
  else if ringLegal s then
    some (pmuRestart (setRegBit { s with pmu := { s.pmu with next := 0, gap := false, lost := [], last := none } } (pgPmu + 0x040) 0 true))
  else none

/-- A write of PMU_CTRL, judged. -/
def doPmuEn (r : Role) (v : Word) (s : State) : State :=
  match pmuEn s (getBit v 0) with
  | some t => commitDone t r (pgPmu + 0x040)
  | none => regDone s r (pgPmu + 0x040) .denied 0

/-- PMU_EN_WRITE (21 R539). -/
def execPmuEnWrite (role : Role) (v : Word) (s : State) : Host.Outcome State Fault Refusal :=
  .next (judgeGuarded s role (pgPmu + 0x040) (doPmuEn role v))

/-! ### Sets (21 R536 to R538, R540) -/

/-- Cycles of an interval: 2 GHz (21 Table 21.2, Table 21.3). -/
def pmuCycles (s : State) : Nat := getFld s (pgPmu + 0x044) 19 0 * 2000

/-- The header record (21 Table 21.2). -/
def headerRec (s : State) : Bytes :=
  [0x01, 0x01, BitVec.ofNat 8 (b2n s.pmu.hot + 2 * b2n (getBit s.cru.sscActive 0) + 4 * b2n s.pmu.gap), 0]
    ++ leBytes 4 s.pmu.next ++ leBytes 8 (now s) ++ leBytes 4 (pmuCycles s) ++ leBytes 4 s.pmu.pf ++ leBytes 4 s.pmu.pfHit
    ++ leBytes 4 (rawReg s (pgPmu + 0x084)).toNat

/-- The stall reasons that an engine reports (21 Table 21.1), by its number of R534. -/
def reasonsOf (n : Nat) : List Nat :=
  if n < 40 then (List.range 16).map (· + 1) ++ [24]
  else if n < 58 then [1, 6, 12, 13, 14, 16, 17, 18, 24]
  else if n < 66 then [16, 19, 20, 23, 24]
  else if n = 66 then [16, 20, 21, 22, 24]
  else [6, 16, 20, 24]

/-- Of `stall` cycles, the two largest counts among the reasons of a list, as free values: the largest is no less than the mean, the second no less than the
mean of the rest; of equal counts the lower code is first (21 Table 21.3). -/
def stallParts (l : List Nat) (stall p q ra rb : Nat) : (Nat × Nat) × (Nat × Nat) :=
  if stall = 0 then ((0, 0), (0, 0))
  else
    let k := l.length
    let lo := (stall + k - 1) / k
    let a := lo + p % (stall - lo + 1)
    let rest := stall - a
    let lo2 := (rest + k - 2) / (k - 1)
    let b := lo2 + q % (min a rest - lo2 + 1)
    let x := l.getD (ra % k) 0
    let y := if b = 0 then 0 else (l.filter (· != x)).getD (rb % (k - 1)) 0
    if a = b && y < x then ((y, a), (x, b)) else ((x, a), (y, b))

/-- An engine record (21 Table 21.3). How the cycles fell is a matter of time, so the accounts and their reasons are free values, with
BUSY + STALL + IDLE = INTERVAL; an engine out of service all along was IDLE. -/
def engineRec (s : State) (n : Nat) : Bytes × State :=
  let c := pmuCycles s
  let out := pmuDown s n && tblFind s.pmu.down n == some (epochOf s (pmuPage n))
  let (x, s) := drawNat s
  let (y, s) := drawNat s
  let (ra, s) := drawNat s
  let (rb, s) := drawNat s
  let (p, s) := drawNat s
  let (q, s) := drawNat s
  let busy := if out then 0 else x % (c + 1)
  let stall := if out then 0 else y % (c - busy + 1)
  let ((codeA, a), (codeB, b)) := stallParts (reasonsOf n) stall p q ra rb
  ([0x02, BitVec.ofNat 8 n, BitVec.ofNat 8 (b2n out + 2 * b2n (s.pmu.resets.contains (pmuPage n))), 0]
    ++ leBytes 4 busy ++ leBytes 4 stall ++ leBytes 4 (c - busy - stall) ++ [BitVec.ofNat 8 codeA, BitVec.ofNat 8 codeB, 0, 0]
    ++ leBytes 4 a ++ leBytes 4 b ++ leBytes 4 (tblGet 0 s.pmu.admitted n), s)

/-- The 72 records of a set. -/
def setBytes (s : State) : Bytes × State :=
  let (body, s) := (List.range 68).foldl (fun acc n => let (b, t) := engineRec acc.2 n; (acc.1 ++ b, t)) (headerRec s, s)
  (body ++ zeros 96, s)

/-- Place slot `i` of the set in the buffer in the service register under 0xFF02 (21 R540, 18 R468). Port number 40 stands for the service registers. -/
def presentSlot (s : State) (n i : Nat) (body : Bytes) : State :=
  let k := slotOfSet s n i
  emit { s with pmu := { s.pmu with buf := some (n, i, body) } } ⟨.memWrite, 40, k, 0, slotAddr s k, (body.drop (256 * i)).take 256⟩

/-- A set is lost whole (21 R538, R543). -/
def loseSet (s : State) : State :=
  let n := s.pmu.next
  let s := incSat { s with pmu := { s.pmu with gap := true, lost := n :: s.pmu.lost, next := n + 1 } } (pgPmu + 0x080) 31 0 1
  irqEvent s 0x86 none 0 3 n (rawReg s (pgPmu + 0x080)).toNat

/-- PMU_INTERVAL_CLOSE (21 R536, R538): `ecc` is an ECC event of the counter SRAM, which loses the set. How many wrong-path lines SBX discarded meanwhile is a
free value (R545). -/
def execPmuIntervalClose (ecc : Bool) (s : State) : Host.Outcome State Fault Refusal :=
  .next (onlyIf (pmuSamples s && s.pmu.start + getFld s (pgPmu + 0x044) 19 0 * 1000 ≤ now s) s (
    let bad := ecc || injArmed s pgPmu 1
    if bad || s.pmu.buf.isSome then pmuRestart (loseSet (if bad then fire s pgPmu 1 else s))
    else
      let n := s.pmu.next
      let (w, s) := drawNat s
      let (body, s) := setBytes (incSat s (pgPmu + 0x084) 31 0 (w % 2 ^ 32))
      pmuRestart (presentSlot { s with pmu := { s.pmu with next := n + 1, gap := false } } n 0 body)))

/-- A set is written completely: SET_SEQ, OLDEST_SET, SETS_WRITTEN, and the event of kind 1 (21 R541, R543). -/
def setDone (s : State) (n : Nat) : State :=
  let s := { s with pmu := { s.pmu with buf := none, last := some n } }
  let s := setReg s (pgPmu + 0x050) (BitVec.ofNat 32 n)
  let s := setReg s (pgPmu + 0x054) (BitVec.ofNat 32 (n + 1 - 512 * ringL s / 9))
  let s := incSat s (pgPmu + 0x088) 31 0 1
  let irq := getFld s (pgPmu + 0x04C) 31 16
  let w := (rawReg s (pgPmu + 0x088)).toNat
  if irq != 0 && w % irq = 0 then irqEvent s 0x86 none 0 1 n w else s

/-- PMU_SLOT_WRITE_DONE (21 R540): the slot write that is out completes with a status, JCT's where it refuses it (09 R254). Parameter 3 of its record holds
status and slot. -/
def execPmuSlotWriteDone (st : Status) (s : State) : Host.Outcome State Fault Refusal :=
  .next (match s.pmu.buf with
    | none => s
    | some (n, i, body) =>
      let (s, st) := serviceEnd s (slotAddr s (slotOfSet s n i) / 4096) 0xFF02 true st.code
      if st != 0 || injArmed s pgPmu 0 then
        (let k := slotOfSet s n i
         let inj := injArmed s pgPmu 0
         let s := setRegBit { s with pmu := { s.pmu with buf := none } } (pgPmu + 0x040) 0 false
         let s := record (fireBit s pgPmu 0) pgPmu (rcDetector false) pgPmu 0 (injP3 inj (st + k * 0x100))
         irqEvent s 0x86 none st 2 k 0)
      else if i = 8 then setDone s n
      else presentSlot s n (i + 1) body)

/-! ### Reading (21 R541) -/

/-- A write of RD_REC, judged; `rd` is what the read of the ring gives. -/
def doPmuLoad (r : Role) (v : Word) (rd : KtabRead) (s : State) : State :=
  let k := getBits v 6 0
  let n := (rawReg s (pgPmu + 0x058)).toNat
  let put (s : State) (data : Bytes) (st : Nat) : State := regDone { s with pmu := { s.pmu with rd := tblPut s.pmu.rd r.key ⟨k, data, st⟩ } } r (pgPmu + 0x05C) .ok 0
  if 71 < k then regDone s r (pgPmu + 0x05C) .denied 0
  else if !enabled s pgPmu then put s (zeros 32) Status.unitGone.code
  else if s.pmu.lost.contains n || (s.pmu.last.isSome && n < (rawReg s (pgPmu + 0x054)).toNat) then put s (zeros 32) Status.denied.code
  else match s.pmu.last with
    | none => put s (zeros 32) Status.notReady.code
    | some m =>
      if m < n then put s (zeros 32) Status.notReady.code
      else match serviceRead s (slotAddr s (slotOfSet s n (k / 8)) / 4096) 0xFF02 rd with
        | (s, .entry b) => put s b 0
        | (s, .unwritten) => put s (zeros 32) Status.unwritten.code
        | (s, .fail st) => put s (zeros 32) st.code

/-- PMU_RECORD_LOAD (21 R541). -/
def execPmuRecordLoad (role : Role) (v : Word) (rd : KtabRead) (s : State) : Host.Outcome State Fault Refusal :=
  .next (judgeWrite s role (pgPmu + 0x05C) (doPmuLoad role v rd))

end Sys2Proof.Machine
end

