-- ==== Sys2Proof/Machine/Recoveries.lean ====
section
/-!
DEFINITION. WRC's and TMP's commands (19): hangs, the ends of the levels, block recovery, guilty-context replay, resumption, tamper.
-/
namespace Sys2Proof.Machine

/-- The page that a unit and an instance number name. -/
def recPage (unit : Fin 22) (inst : Fin 32) : Nat := page unit.val inst.val

/-! ### Hangs (19 R484 to R487) -/

/-- The page of a watched engine or unit (19 Table 19.2). -/
def Watched.page : Watched → Nat
  | .eng e => engPage e.val
  | .span n => pgVdt n.val
  | .group _ => pgTrs
  | .hgt => pgHgt
  | .cce => pgCce
  | .imu => pgImu

/-- A replay that is at its dry runs. -/
def dryRun (s : State) (pg : Nat) : Option Replay := s.wrc.replays.find? (fun r => r.page = pg && r.running && r.guilty.isNone)

/-- Change the replay of a page. -/
def mapReplay (s : State) (pg : Nat) (f : Replay → Replay) : State :=
  { s with wrc := { s.wrc with replays := s.wrc.replays.map (fun r => if r.page = pg then f r else r) } }

/-- Whether an item belongs to a suspect. -/
def ofSuspect (x : Suspect) (a : Nat × Adm) : Bool := a.2.snap.inst = some x.inst && a.2.snap.ctx = x.ctx

/-- The replay of an engine is over: its committed items but those of the guilty suspect return, the held items go on (19 R500). -/
def endReplay (s : State) (r : Replay) : State :=
  let back := r.items.filter (fun a => a.2.committed && !(r.guilty.any (fun x => ofSuspect x a)))
  let s := { s with wrc := { s.wrc with replays := s.wrc.replays.filter (fun x => x.page != r.page) } }
  refreshReplay (resubmit s r.page back)

/-- No suspect reproduced the hang (19 R500). -/
def noVerdict (s : State) (r : Replay) : State :=
  endReplay (wrcRecord (incSat s (pgWrc + 0x098) 31 0 1) rcVerdict 0xFF 0 r.ran) r

/-- The dry run of the next suspect whose generation is that of the hang, or the end of the replay (19 R499). -/
def nextSuspect (s : State) (r : Replay) : State :=
  match r.suspects.dropWhile (fun x => instGen s x.inst != x.gen) with
  | [] => noVerdict s { r with suspects := [] }
  | x :: t =>
    let r := { r with suspects := x :: t }
    dryReads (mapReplay s r.page (fun _ => r)) r.page (r.items.filter (ofSuspect x))

/-- Replay starts after the L1 of a watchdog hang (19 R499). -/
def startReplay (s : State) (r : Replay) : State :=
  let r := { r with running := true }
  nextSuspect (refreshReplay (mapReplay (incSat s (pgWrc + 0x090) 31 0 1) r.page (fun _ => r))) r

/-- The running suspect reproduced the hang: the L1 of R500 begins, with a capture of its own and that suspect alone. What waits for the engine stays held. -/
def guiltyL1 (s : State) (pg cause : Nat) (r : Replay) (x : Suspect) : State :=
  let s := fire s pg cause
  let s := captureStart s 1 (unitOf pg) (uinstOf pg) cause
  let s := recordSuspect s r.items x
  let s := incSat s (pgWrc + 0x080) 31 0 1
  let s := mapReplay s pg (fun r => { r with guilty := some x, ran := r.ran + 1 })
  let s := bumpIncarn { s with pmu := { s.pmu with resets := pg :: s.pmu.resets } } pg
  let s := if unitOf pg = uMea || unitOf pg = uMeb then dropTxs s (engOfPage pg) true true else flushUnit s pg 1
  addRunning (setRecovery (resetPage s pg 1) pg true) ⟨1, unitOf pg, uinstOf pg, cause, now s, false⟩

/-- ENGINE_WATCHDOG (19 R484, Table 19.1, R500): an L1 with replay, or an L2 for IMU; during a dry run the verdict. -/
def execEngineWatchdog (x : Watched) (s : State) : Host.Outcome State Fault Refusal :=
  let pg := x.page
  let bit := (watchdogBit (unitOf pg)).getD 0
  .next (onlyIf (inService s pg) s
    (match dryRun s pg with
     | some r => (match r.suspects with
       | y :: _ => guiltyL1 s pg bit r y
       | [] => s)
     | none =>
       let s := match x with
         | .group g => setTrs s { s.trs with failing := some g.val }
         | _ => s
       detect s pg bit))

/-- SBX_WATCHDOG_EXPIRE (19 R486): an L2 of SBX. While the cores are halted WRC counts no SBX hang (07 R196). -/
def execSbxWatchdogExpire (s : State) : Host.Outcome State Fault Refusal :=
  .next (onlyIf (s.wrc.sbxWdArmed && s.sbx.boot = .running && !s.sbx.halted) s (detect s pgSbx 3))

/-- What a write of SBX_KICK does once it is judged (19 R486): the watchdog is armed for another SBX_WD. -/
def doSbxKick (r : Role) (v : Word) (s : State) : State :=
  let s := if getBit v 0 && s.sbx.boot = .running then { s with wrc := { s.wrc with sbxWdArmed := true } } else s
  regDone s r (pgWrc + 0x058) .ok 0

/-- SBX_KICK (19 R486). -/
def execSbxKick (role : Role) (v : Word) (s : State) : Host.Outcome State Fault Refusal :=
  .next (judgeWrite s role (pgWrc + 0x058) (doSbxKick role v))

/-- MEMORY_PORT_SILENCE (19 R485): an L1 of the engine; an issued transaction stands unanswered. -/
def execMemoryPortSilence (e : Fin 40) (s : State) : Host.Outcome State Fault Refusal :=
  .next (onlyIf (!(engAt s e.val).txs.isEmpty) s (trigger s 1 (engPage e.val) 0xFF false))

/-- HEARTBEAT_MISS (19 R487). -/
def execHeartbeatMiss (s : State) : Host.Outcome State Fault Refusal := .next (onlyIf (!s.cru.porst) s (heartbeatMiss s))

/-! ### The ends of the levels (19 R490, R491) -/

/-- The recovery in progress of a level, unit and instance. -/
def runningAt (s : State) (level u n : Nat) : Option Recov := s.wrc.running.find? (fun r => r.level = level && r.unit = u && r.inst = n)

/-- A recovery leaves the list and is recorded (19 Table 19.7). -/
def levelOver (s : State) (r : Recov) : State :=
  let s := refreshLevel { s with wrc := { s.wrc with running := s.wrc.running.filter (· != r) } }
  wrcEnd s rcRecoveryEnd r.level (Config.unitInstCode r.unit r.inst) ((now s - r.start) / 1000)

/-- The settling of units that waited for a reset to end. -/
def settleUnits (s : State) : State := imuSettle (cceSettle (hgtSettle (trsSettle s)))

/-- The guilty context is marked lost and recorded, and the other committed items return (19 R500 steps 2 to 5). -/
def verdict (s : State) (r : Replay) (x : Suspect) : State :=
  let s := loseContext s x.inst x.ctx
  let s := wrcRecord (incSat s (pgWrc + 0x094) 31 0 1) rcVerdict x.inst x.ctx r.ran
  endReplay s r

/-- A level 1 to 3 exceeds its bound (19 R490): its detector and record, then the next level. Which step it had reached is a free value. -/
def levelTooLong (s : State) (r : Recov) : State :=
  let (k, s) := drawNat s
  let inj := injArmed s pgWrc (r.level - 1)
  let s := wrcRecord (fireBit s pgWrc (r.level - 1)) rcLevelTimeout r.level (Config.unitInstCode r.unit r.inst) (injP3 inj k)
  startLevel s (r.level + 1) (page r.unit (if r.level = 3 then 0 else r.inst)) 0xFF

/-- L1_END (19 R490, R499, R500). The L1s that replay performs are not counted under R483. While a level's time-out is armed, the check of its
bound fails at its end (05 R151). -/
def execL1End (unit : Fin 22) (inst : Fin 32) (s : State) : Host.Outcome State Fault Refusal :=
  let pg := recPage unit inst
  .next (match runningAt s 1 unit.val inst.val with
    | some r =>
      if injArmed s pgWrc 0 then levelTooLong s r else
      let s := unitBack (setRecovery (levelOver s r) pg false) pg
      (match s.wrc.replays.find? (fun x => x.page = pg) with
       | some x =>
         (match x.guilty with
          | some y => settleUnits (verdict s x y)
          | none => settleUnits (startReplay { s with wrc := { s.wrc with lastL1 := tblPut s.wrc.lastL1 pg (now s) } } x))
       | none => settleUnits { s with wrc := { s.wrc with lastL1 := tblPut s.wrc.lastL1 pg (now s) } })
    | none => s)

/-- L2_END (19 R490): what the L2 reached is released. -/
def execL2End (unit : Fin 22) (inst : Fin 32) (s : State) : Host.Outcome State Fault Refusal :=
  let pgs := l2Pages (recPage unit inst)
  .next (match runningAt s 2 unit.val inst.val with
    | some r =>
      if injArmed s pgWrc 1 then levelTooLong s r else
      let s := pgs.foldl (fun t p => unitBack (setRecovery t p false) p) (levelOver s r)
      settleUnits { s with wrc := { s.wrc with lastL2 := tblPut s.wrc.lastL2 (pgs.headD 0) (now s) } }
    | none => s)

/-- The next L3 that waits starts (19 R491). -/
def nextL3 (s : State) : State :=
  match s.wrc.l3wait with
  | r :: t => startL3 { s with wrc := { s.wrc with l3wait := t } } r.inst r.unit r.cause
  | [] => s

/-- L3_END (19 R490): the cycled domain is up again, and the next island that waits is taken. -/
def execL3End (d : Fin 13) (s : State) : Host.Outcome State Fault Refusal :=
  .next (match s.wrc.running.find? (fun r => r.level = 3 && r.inst = d.val) with
    | some r =>
      onlyIf (domSt s d = .on) s (
        if injArmed s pgWrc 2 then levelTooLong s r else
        let s := (domainPages d).foldl (fun t p => setRecovery t p false) (levelOver s r)
        settleUnits (nextL3 { s with wrc := { s.wrc with lastL3 := tblPut s.wrc.lastL3 d (now s) } }))
    | none => s)

/-- LEVEL_TIMEOUT (19 R490, R493). -/
def execLevelTimeout (level : Fin 5) (unit : Fin 22) (inst : Fin 32) (s : State) : Host.Outcome State Fault Refusal :=
  .next (if level.val = 4 then l4TooLong s
    else match runningAt s level.val unit.val inst.val with
      | some r => levelTooLong s r
      | none => s)

/-! ### Block recovery (19 R492) -/

/-- L4_DRAIN_DONE (19 Table 19.5 steps 2 to 4): the write-backs are done, every switchable domain goes off, and the first one is powered. -/
def execL4DrainDone (s : State) : Host.Outcome State Fault Refusal :=
  .next (onlyIf ((s.wrc.l4.map L4.step) = some 2) s (
    let s := [0, 1, 2, 3].foldl writebackGroup s
    let s := resetPage (bumpIncarn (offOrder.foldl losePower (setL4Step s 3)) pgCtc) pgCtc 4
    powerNext (setL4Step { s with ctc := Ctc.reset, coh := Coh.reset } 4)))

/-- A port whose partner has not answered its retraining request is down from then on, and EVR records the failure (03 R79). -/
def trainOver (s : State) (p : Nat) : State :=
  if (portAt s p).training then
    let up := (portAt s p).up
    let s := portDown (setPort s p { portAt s p with training := false, trainFailed := true }) p 3
    if up then s else recordPort s p false 3
  else s

/-- L4_RETRAIN_DONE (19 Table 19.5 steps 5 and 6, 03 R79): a port that did not train stays down, and SBX boots. -/
def execL4RetrainDone (s : State) : Host.Outcome State Fault Refusal :=
  .next (onlyIf ((s.wrc.l4.map L4.step) = some 5) s (leaveRootWait (setL4Step ((List.range 58).foldl trainOver s) 6)))

/-! ### Guilty-context replay (19 R499, R500) -/

/-- REPLAY_DRY_RUN_END (19 R499): the running suspect is cleared. -/
def execReplayDryRunEnd (unit : Fin 22) (inst : Fin 32) (s : State) : Host.Outcome State Fault Refusal :=
  .next (match dryRun s (recPage unit inst) with
    | some r => nextSuspect s { r with suspects := r.suspects.drop 1, ran := r.ran + 1 }
    | none => s)

/-! ### Resumption (19 R504) -/

/-- What a write of WRC_RESUME does once its epoch check passed. -/
def doResume (r : Role) (v : Word) (s : State) : State :=
  let off := pgWrc + 0x05C
  let clr := getFld s (pgWrc + 0x060) 22 16
  if !getBit v 0 then commitDone s r off
  else if regBit s (pgWrc + 0x040) 7 && !s.wrc.withdrawnAgain && clr < 63 then commitDone (startWdrCell s (.wdrClr clr 0)) r off
  else regDone s r off .denied 0

/-- WRC_RESUME (19 R504). -/
def execWrcResume (role : Role) (v : Word) (s : State) : Host.Outcome State Fault Refusal :=
  .next (judgeGuarded s role (pgWrc + 0x05C) (doResume role v))

/-! ### Tamper (19 R495, R496) -/

/-- Conditions of Table 19.6 begin: an alarm for those not yet present. -/
def tamperStart (s : State) (bits : BitVec 6) : State :=
  let fresh := bits &&& ~~~ s.tmp.present
  if fresh = 0 then s
  else tamperAlarm { s with tmp := { s.tmp with present := s.tmp.present ||| bits } } fresh.toNat 0

/-- MESH_CHECK (19 Table 19.6): `bad` are the nets that return another pattern than the one driven; the second mismatch of a net in a row alarms. -/
def execMeshCheck (bad : BitVec 16) (s : State) : Host.Outcome State Fault Refusal :=
  .next (onlyIf (!s.cru.porst) s (
    let twice := s.tmp.mismatches &&& bad.toNat
    let s := { s with tmp := { s.tmp with mesh := Config.meshNext s.tmp.mesh % 0x10000, mismatches := bad.toNat } }
    if twice != 0 then tamperStart s 1 else s))

/-- TAMPER_ALARM (19 R496). -/
def execTamperAlarm (bits : BitVec 6) (s : State) : Host.Outcome State Fault Refusal :=
  .next (onlyIf (!s.cru.porst) s (tamperStart s bits))

/-- The lowest set bit of a cause. -/
def lowBit (n : Nat) : Nat := ((List.range 6).find? (fun b => n.testBit b)).getD 0

/-- ZEROISE_RELEASE (19 R496): every condition has been absent for 1 ms and CK_CTL runs; the line falls with TM_ALARM_OUT, and WRC starts an L4. -/
def execZeroiseRelease (s : State) : Host.Outcome State Fault Refusal :=
  .next (onlyIf (regBit s (pgTmp + 0x040) 0 && clocksRun s) s (
    let s := setRegBit { s with tmp := { s.tmp with present := 0, mismatches := 0 } } (pgTmp + 0x040) 0 false
    if s.withdrawn then s else startL4 s uTmp 0 (lowBit (getFld s (pgTmp + 0x040) 7 2)) s.wrc.everRunning))

/-- LOCKSTEP_MISMATCH (19 Table 19.1, R491, 01 R21). -/
def execLockstepMismatch (s : State) : Host.Outcome State Fault Refusal :=
  .next (onlyIf (s.sbx.boot != .reset) s (detect s pgSbx 0))

end Sys2Proof.Machine
end

