-- ==== Sys2Proof/Machine/Reduction.lean ====
section
/-!
DEFINITION. The commands of TRS (13).
-/
namespace Sys2Proof.Machine

/-- CT_DESCRIPTOR (13 R349, R351): a transfer into the judging register, which is judged at once. With the register in use, or TRS in a reset or about to be gated, CT_READY is
low and nothing is taken. `breach`: valid was withdrawn or the payload changed before the transfer (03 R64); `perr`: CT_PAR fails (R351 check 3). -/
def execCtDescriptor (desc : BitVec 256) (breach perr : Bool) (s : State) : Host.Outcome State Fault Refusal :=
  .next (
    let s := trsSettle s
    onlyIf (s.trs.desc.isNone && !regBit s (pgTrs + 0x010) 9 && windowOpen s && !admissionStopped s pgTrs) s (
      let s := if (blockStatus s).isNone then wake s 2 else s
      let s := if breach then detect s pgTrs 2 else s
      if (perr || injArmed s pgTrs 3) && (blockStatus s).isNone && enabled s pgTrs && !pageGated s pgTrs && pageUp s pgTrs then
        trsRefused (ctComplete (detect s pgTrs 3) (desc.toNat % 2 ^ 48) Status.poison.code) none Status.poison.code
      else trsJudge (setTrs s { s.trs with desc := some desc })))

/-- The plaintext payload of a frame to TRS that is still arriving, with the KeyID of its inner header (11 R305). -/
def rxPayload (s : State) (n : Nat) (r : RxFrame) : Option (Nat × Bytes) :=
  let h := r.body.take 32
  if r.ended.isSome || bfld h 0 1 % 16 != 1 || (flowAt s n r.flow).dest != 1 || s.trs.staged.any (fun x => x.span = n && x.flow = r.flow && x.seq = r.seq) then none
  else match heldKey s n r.flow true r.epoch with
  | none => none
  | some k =>
    let pt := Config.gcmCrypt k (frameIv h) ((r.body.drop 32).take (bfld h 22 2))
    (match niOpen pt with
     | some (2, _) => none
     | some (_, d) => some (bfld pt 8 2, d)
     | none => none)

/-- Whether TRS can take a frame now: it has a chunk or fails a check, and its lane group has a staging entry free. -/
def trsTakes (s : State) (inst keyId : Nat) (p : Bytes) : Bool :=
  match trsHeader s inst keyId p with
  | .unmatched => false
  | .drop _ => true
  | .ok c _ _ _ => stagedIn s c.group < 4

/-- TRS judges a frame of a span: dropped whole, or reserved (13 R360 to R362). A frame that TRS drops before its end keeps an empty entry until the span's verdict. -/
def trsTake (s : State) (n f sq inst keyId : Nat) (p : Bytes) (arriving : Bool) : State × Option Staged :=
  let dead (t : State) : State × Option Staged :=
    if arriving then (setTrs t { t.trs with staged := t.trs.staged ++ [⟨n, f, sq, none, 0, 0, []⟩] }, none) else (t, none)
  match trsHeader s inst keyId p with
  | .unmatched => (s, none)
  | .drop r => dead (trsDropFrame s inst (partHandle p) r 0x054)
  | .ok c off w v =>
    let x : Staged := ⟨n, f, sq, some c.id, off, w, v⟩
    match trsReserve s inst c.desc.handle x c with
    | (s, true) => (s, some x)
    | (s, false) => dead s

/-- TRS_CONTRIBUTION (13 R360 to R362): the first frame of a span that TRS can take, from those that passed their seal, then from those still arriving. -/
def execTrsContribution (n : Fin 18) (s : State) : Host.Outcome State Fault Refusal :=
  .next (
    let s := trsSettle s
    let x := spanAt s n.val
    if !inService s pgTrs || (blockStatus s).isSome then s
    else match x.trsQ.find? (fun q => !genFresh s q.1.inst q.1.gen || trsTakes s (q.1.inst.getD 0) q.1.keyId q.1.data) with
    | some q =>
      let s := mapSpan s n.val (fun y => { y with trsQ := y.trsQ.erase q })
      if !genFresh s q.1.inst q.1.gen then genDiscard s q.1.inst
      else (match trsTake s n.val q.1.flow q.2 (q.1.inst.getD 0) q.1.keyId q.1.data false with
        | (s, some f) => trsCommit s f
        | (s, none) => s)
    | none =>
      match x.rx.find? (fun r => match rxPayload s n.val r with
        | some (k, p) => trsTakes s (flowAt s n.val r.flow).inst k p
        | none => false) with
      | some r =>
        (match rxPayload s n.val r with
         | some (k, p) => (trsTake (wake s 5) n.val r.flow r.seq (flowAt s n.val r.flow).inst k p true).1
         | none => s)
      | none => s)

/-- CHUNK_END (13 R371): every output write and payload of the chunk has ended. -/
def execChunkEnd (inst : Fin 256) (handle : BitVec 48) (s : State) : Host.Outcome State Fault Refusal :=
  .next (
    let s := trsSettle s
    match s.trs.chunks.find? (fun c => c.inst = inst.val && c.desc.handle = handle.toNat) with
    | some c =>
      if c.summed && c.todo = [] && c.waits = [] && c.payloads = 0 then
        trsJudge (incSat (ctComplete (trsDrop s c) c.desc.handle 0) (pgTrs + 0x048) 31 0 1)
      else s
    | none => s)

/-- TRS_NOCHUNK_TIMEOUT (13 R361): the oldest frame of a span that no chunk matches is dropped. -/
def execTrsNochunkTimeout (n : Fin 18) (s : State) : Host.Outcome State Fault Refusal :=
  .next (match (spanAt s n.val).trsQ.find? (fun q => trsHeader s (q.1.inst.getD 0) q.1.keyId q.1.data = .unmatched) with
    | some q =>
      trsDropFrame (mapSpan s n.val (fun y => { y with trsQ := y.trsQ.erase q })) (q.1.inst.getD 0) (partHandle q.1.data) 2 0x050
    | none => s)

/-- CHUNK_TIMEOUT (13 R374): CHUNK_TMO elapsed. The missing weight is what the element with the fewest committed contributions lacks. -/
def execChunkTimeout (inst : Fin 256) (handle : BitVec 48) (s : State) : Host.Outcome State Fault Refusal :=
  .next (match s.trs.chunks.find? (fun c => c.inst = inst.val && c.desc.handle = handle.toNat) with
    | some c =>
      let least := (List.range c.desc.elems).foldl (fun a j => min a (tblGet Elem.zero c.elems j).done) c.desc.expect
      let missing := if c.summed then 0 else c.desc.expect - least
      let s := incSat (trsEnd s false c Status.unitGone.code) (pgTrs + 0x05C) 31 0 1
      trsJudge (recordInst s pgTrs rcChunkTimeout (some c.inst) c.inst (c.desc.handle % 2 ^ 32) missing)
    | none => s)

/-- CHUNK_ROWS_CLEARED (13 R376, R348): the rows of the oldest ended chunk of a lane group are clear; a held descriptor is judged again. -/
def execChunkRowsCleared (group : Fin 8) (s : State) : Host.Outcome State Fault Refusal :=
  .next (match s.trs.clearing.find? (fun c => c.group = group.val) with
    | some c => trsJudge (setTrs s { s.trs with clearing := s.trs.clearing.erase c })
    | none => s)

end Sys2Proof.Machine
end

