-- ==== Sys2Proof/Machine/RegViews.lean ====
section
/-!
DEFINITION. What a register word shows (05 Table 05.4, 22): the stored word, with the fields that show the state of a unit, an indexed table or a copy of the
reading role in place.
-/
namespace Sys2Proof.Machine

/-! ### The header (05 Table 05.4) -/

/-- PAGE_STATE.STATE: the pages whose chapters give codes (04 R107, 06 R154, R158, 07 R175, 17 R437); others read 0. -/
def stateCode (s : State) (pg : Nat) : Nat :=
  if isInstOff pg then (instRec s (instOf pg)).st.code
  else if pg = pgCru then s.cru.st.code
  else if pg = pgSbx then s.sbx.boot.code
  else if pg = pgEnt then (match s.ent.st with | .off => 0 | .startup => 1 | .instantiating => 1 | .ready => 2 | .failed => 3)
  else if pg = pgLco then s.lco.lc.code
  else 0

/-- PAGE_CAPS: bit n of the CTC page reads 1 while tier-A channel n is present and up; zero elsewhere (10 R287, 22 R548). -/
def capsWord (s : State) (pg : Nat) : Word :=
  if pg = pgCtc then BitVec.ofNat 32 ((List.range 32).foldl (fun a n => if portUp s n then a + 2 ^ n else a) 0) else 0

/-- FW_IF: 1 from the end of MEASURE, when HELD clears (06 R174, 05 Table 05.4). -/
def fwIf (s : State) : Nat :=
  match s.sbx.boot with
  | .running => 1
  | _ => 0

/-- A header word of a page as a role sees it. -/
def headerWord (s : State) (r : Role) (pg o : Nat) : Word :=
  if o = 0x000 then
    (if isInstOff pg then BitVec.ofNat 32 (0x0100 + instOf pg * 0x10000) else BitVec.ofNat 32 (unitOf pg + uinstOf pg * 0x10000))
  else if o = 0x004 then putBits (rawReg s (pg + 0x004)) 23 16 (fwIf s)
  else if o = 0x008 then capsWord s pg
  else if o = 0x00C then putBits (rawReg s (pg + 0x00C)) 31 8 (expEpoch s r pg)
  else if o = 0x010 then
    putBits (putBits (putBits (rawReg s (pg + 0x010)) 7 0 (stateCode s pg)) 8 8 (b2n s.held)) 10 10 (b2n s.withdrawn)
  else if o = 0x014 then BitVec.ofNat 32 (epochOf s pg)
  else rawReg s (pg + o)

/-! ### The units -/

/-- SBX: the selected measurement, DEVID_DATA (06 Table 06.8). -/
def sbxWord (s : State) (o : Nat) : Word :=
  if 0x060 ≤ o ∧ o < 0x090 then wordAt (measAt s (getFld s (pgSbx + 0x050) 2 0)) ((o - 0x060) / 4)
  else if o = 0x0C8 then wordAt s.sbx.devid (getFld s (pgSbx + 0x0C4) 9 0)
  else rawReg s (pgSbx + o)

/-- JCT: the staged and active words of the selected entry, RESET_PEND (09 Table 09.12). -/
def jctWord (s : State) (o : Nat) : Word :=
  let i := getFld s (pgJct + 0x040) 9 0
  let st := jEntry s.jct.staged i
  let ac := jEntry s.jct.active i
  if o = 0x044 then st.w0
  else if o = 0x048 then st.w1
  else if o = 0x04C then st.w2
  else if o = 0x050 then ac.w0
  else if o = 0x054 then ac.w1
  else if o = 0x058 then ac.w2
  else if o = 0x05C then
    BitVec.ofNat 32 (b2n (s.anchor.resets.any (fun x => (x.lo :: (cuts s.jct.active []).filter (fun p => x.lo ≤ p && p ≤ x.hi)).any (fun p =>
      (winner s.jct.active p).any (fun w => w.1 = i)))))
  else rawReg s (pgJct + o)

/-- CTC: DIRTY and PINNED (10 Table 10.15). -/
def ctcWord (s : State) (o : Nat) : Word :=
  if o = 0x04C then BitVec.ofNat 32 (s.ctc.lines.filter (fun x => x.dirty)).length
  else if o = 0x050 then
    BitVec.ofNat 32 (s.ctc.lines.filter (fun x => x.pins != 0
      || (x.kind = .ctr && s.coh.dir.any (fun d => d.tree = x.tree && d.idx = x.idx && d.st != .u)))).length
  else rawReg s (pgCtc + o)

/-- A span: the selected flow, memory-flow map entry, map word, dispatch entry and peer (11 Table 11.14, 14 Table 14.6, 18 R483). -/
def vdtWord (s : State) (n o : Nat) : Word :=
  let pg := pgVdt n
  let f := flowAt s n (flowIdx s n)
  if o = 0x08C then
    let ready := (spanAt s n).keys.any (fun k => k.flow = flowIdx s n)
    putBits (putBits (rawReg s (pg + o)) 8 8 (b2n f.valid)) 9 9 (b2n ready)
  else if o = 0x090 then BitVec.ofNat 32 f.count
  else if o = 0x094 then BitVec.ofNat 32 (f.count / 2 ^ 32)
  else if o = 0x098 then BitVec.ofNat 32 (f.high.getD 0)
  else if o = 0x09C then BitVec.ofNat 32 (f.high.getD 0 / 2 ^ 32)
  else if o = 0x0A0 then BitVec.ofNat 32 f.wepoch
  else if o = 0x0A8 then tblGet 0 (spanAt s n).mf (getFld s (pg + 0x0A4) 13 0)
  else if o = 0x0B0 then tblGet 0 s.maps (getFld s (pg + 0x0AC) 16 16 * 512 + getFld s (pg + 0x0AC) 8 0)
  else if o = 0x110 then
    let d := tblFind (spanAt s n).dsp (dspIdx s n)
    let w := putBits (rawReg s (pg + o)) 8 8 (b2n d.isSome)
    putBits (putBits w 9 9 (b2n (d.any (fun x => x.stopping)))) 16 10 (d.elim 0 (fun x => x.queue.length))
  else if o = 0x114 then
    let l := dspLoad s n ((spanAt s n).dsp.map Prod.snd)
    BitVec.ofNat 32 (l.1 / l.2)
  else if o = 0x150 then
    let p := peerAt s n (getFld s (pg + 0x14C) 13 0)
    BitVec.ofNat 32 (p.st + b2n p.inc.isSome * 0x100 + p.inc.getD 0 % 256 * 0x10000)
  else rawReg s (pg + o)

/-- The channel that CH_SEL selects. -/
def chSel (s : State) : Nat := 2 * chPair s + getFld s (pgHgt + 0x040) 6 6

/-- Whether a page offset of HGT belongs to a channel's own registers: the ring's address and sizes, the key. -/
def chOwn (o : Nat) : Bool := o = 0x044 || o = 0x048 || (0x080 ≤ o && o < 0x0A0)

/-- HGT: the selected channel and pair (15 Table 15.12). -/
def hgtWord (s : State) (o : Nat) : Word :=
  let ch := chSel s
  let d := ch % 2
  let p := pairAt s (chPair s)
  if chOwn o then chReg s ch o
  else if o = 0x04C then putBits (chReg s ch o) 23 16 (getBits (chReg s (2 * chPair s) o) 23 16)
  else if o = 0x050 || o = 0x054 || o = 0x058 then chReg s (2 * chPair s) o
  else if o = 0x060 then
    let full := p.any (fun x => d = 1 && 2 ^ x.d2h.count ≤ x.prodD - x.consD)
    putBits (putBits (putBits (rawReg s (pgHgt + o)) 8 8 (b2n p.isSome)) 9 9 (b2n full)) 10 10 (b2n (p.any (fun x => x.kem)))
  else if o = 0x064 || o = 0x068 then
    let n := p.elim 0 (fun x => if d = 0 then x.expH else x.prodD)
    BitVec.ofNat 32 (if o = 0x064 then n else n / 2 ^ 32)
  else rawReg s (pgHgt + o)

/-- CCE: the selected queue (16 Table 16.7). -/
def cceWord (s : State) (o : Nat) : Word :=
  let q := cceSel s
  let x := cceQ s q
  if 0x044 ≤ o ∧ o ≤ 0x050 then cceReg s q o
  else if o = 0x058 then
    let run := x.job.any CceJob.running
    let w := putBits (cceReg s q 0x058) 8 8 (b2n x.opened)
    putBits (putBits w 9 9 (b2n run)) 11 10 (if x.job.any CceJob.onPair then x.job.elim 0 (fun j => j.pair) else 0)
  else if o = 0x05C then BitVec.ofNat 32 x.prod
  else if o = 0x060 then BitVec.ofNat 32 x.done
  else rawReg s (pgCce + o)

/-- INC: the lowest delivered state for target 0, the oldest mailbox record (20 Table 20.6). -/
def incWord (s : State) (o : Nat) : Word :=
  if o = 0x048 then
    match firstAct (s.inc.acts.filter (fun a => a.delivered && actTarget s a = 0)) with
    | some a => BitVec.ofNat 32 (a.src + a.inst.getD 0 * 0x100 + b2n a.inst.isSome * 0x10000 + 0x20000)
    | none => 0
  else if 0x060 ≤ o ∧ o < 0x080 then
    match s.inc.mailbox with
    | x :: _ => wordAt (eventBytes x.act 0 x.seq) ((o - 0x060) / 4)
    | [] => 0
  else rawReg s (pgInc + o)

/-- A role's record read of EVR. -/
def evrPort (s : State) (r : Role) : RdPort := (tblFind s.evr.rd r.key).getD ⟨0, [], 0⟩

/-- EVR (20 Table 20.8). -/
def evrWord (s : State) (r : Role) (o : Nat) : Word :=
  if o = 0x044 then BitVec.ofNat 32 s.evr.nextSeq
  else if o = 0x048 then BitVec.ofNat 32 s.evr.oldest
  else if o = 0x050 then BitVec.ofNat 32 (evrPort s r).seq
  else if o = 0x054 then BitVec.ofNat 32 (evrPort s r).status
  else if 0x060 ≤ o ∧ o < 0x080 then wordAt (evrPort s r).data ((o - 0x060) / 4)
  else if 0x0D0 ≤ o ∧ o < 0x100 then wordAt s.evr.head ((o - 0x0D0) / 4)
  else rawReg s (pgEvr + o)

/-- TTU: the calendar and COUNT; NOW_TIME and NOW_NS as latched for the role (20 R530). -/
def ttuWord (s : State) (r : Role) (o : Nat) : Word :=
  let c := s.ttu.c
  if o = 0x044 then dateWord c
  else if o = 0x048 then (tblFind s.ttu.now r.key).elim (timeWord c) Prod.fst
  else if o = 0x04C then (tblFind s.ttu.now r.key).elim (nsWord c) Prod.snd
  else if o = 0x050 then BitVec.ofNat 32 c
  else if o = 0x054 then BitVec.ofNat 32 (c / 2 ^ 32)
  else rawReg s (pgTtu + o)

/-- WRC: L4_IN_WINDOW (19 Table 19.12). -/
def wrcWord (s : State) (o : Nat) : Word :=
  if o = 0x08C then putBits (rawReg s (pgWrc + o)) 19 16 (startsInWindow s) else rawReg s (pgWrc + o)

/-- PMU: a role's record read (21 R541). -/
def pmuWord (s : State) (r : Role) (o : Nat) : Word :=
  let p := (tblFind s.pmu.rd r.key).getD ⟨0, [], 0⟩
  if o = 0x05C then BitVec.ofNat 32 (p.seq + p.status * 0x100)
  else if 0x060 ≤ o ∧ o < 0x080 then wordAt p.data ((o - 0x060) / 4)
  else rawReg s (pgPmu + o)

/-- An instance page: the tenant's record read (20 R522). -/
def instWord (s : State) (r : Role) (pg o : Nat) : Word :=
  if o = 0x320 then BitVec.ofNat 32 (evrPort s r).seq
  else if o = 0x324 then BitVec.ofNat 32 (evrPort s r).status
  else if 0x340 ≤ o ∧ o < 0x360 then wordAt (evrPort s r).data ((o - 0x340) / 4)
  else rawReg s (pg + o)

/-- The word at a window offset as a role sees it, before its Roles columns are applied. -/
def viewWord (s : State) (r : Role) (off : Nat) : Word :=
  let pg := pageOf off
  let o := off % 0x1000
  let u := unitOf off
  if o < 0x040 then headerWord s r pg o
  else if isInstOff off then instWord s r pg o
  else if u = uSbx then sbxWord s o
  else if u = uJct then jctWord s o
  else if u = uCtc then ctcWord s o
  else if u = uVdt then vdtWord s (uinstOf off) o
  else if u = uHgt then hgtWord s o
  else if u = uCce then cceWord s o
  else if u = uInc then incWord s o
  else if u = uEvr then evrWord s r o
  else if u = uTtu then ttuWord s r o
  else if u = uWrc then wrcWord s o
  else if u = uPmu then pmuWord s r o
  else rawReg s off

end Sys2Proof.Machine
end

