-- ==== Sys2Proof/Machine/Registers.lean ====
section
/-!
DEFINITION. The register access of a role to any offset (05 R133 to R139, R146 to R148, 00 R12): reads with their clears and latches, and writes. A write of a
register that starts an operation does what the row of that operation does.
-/
namespace Sys2Proof.Machine

/-! ### Reads -/

/-- The low words of the pairs whose two words have names of their own: RELOAD_LO (06 Table 06.8), BASE_LO and EQ_BASE_LO (15 Table 15.12). -/
def namedPairs : List Nat := [pgSbx + 0x048, pgHgt + 0x044, pgHgt + 0x0A0]

/-- The offset of the low word of the pair that an offset belongs to (05 R136). -/
def pairLow (off : Nat) : Option Nat :=
  match regAt off with
  | some x => if x.words = 2 then some (pageOf off + x.off) else namedPairs.find? (fun a => off = a || off = a + 4)
  | none => none

/-- The key of a role's latch or held word of a pair. -/
def latchKey (r : Role) (low : Nat) : Nat := 2 ^ 23 * r.key + low

/-- The value a role reads, with the latch of a pair taken or left (05 R136). -/
def pairRead (s : State) (r : Role) (off : Nat) : Word × State :=
  match pairLow off with
  | none => (viewWord s r off, s)
  | some low =>
    let k := latchKey r low
    if off = low then (viewWord s r off, { s with latch := tblPut s.latch k (viewWord s r (off + 4)) })
    else match tblFind s.latch k with
      | some w => (w, { s with latch := tblDel s.latch k })
      | none => (viewWord s r off, s)

/-- What a read does once it is judged: the value, then the clear of its RC fields (00 Table 00.6); a read of NOW_NS releases the calendar latch (20 R530). -/
def doRead (r : Role) (off : Nat) (s : State) : State :=
  if off = pgTtu + 0x044 then doNowDate r s
  else if off = pgEnt + 0x040 then doDrbgRead r s
  else if off = pgLco + 0x088 then doDbgData r s
  else
    let (w, s) := pairRead s r off
    let s := setReg s off (clearRc r off (rawReg s off))
    let s := if off = pgTtu + 0x04C then { s with ttu := { s.ttu with now := tblDel s.ttu.now r.key } } else s
    regDone s r off .ok (readFlds r off w)

/-- A register read of a role, of a width. -/
def regRead (s : State) (r : Role) (off len : Nat) : State := judge s r off len false none (doRead r off)

/-- Whether a role's accesses arrive on HT (05 Table 05.3, 03 R86). -/
def onHt (r : Role) : Bool := match r.kind with
  | .m | .t | .x => true
  | .f | .d => false

/-- The protocol checker of HT takes a breach of the handshake (03 R64). -/
def htBreach (s : State) (r : Role) (breach : Bool) : State := if breach && onHt r && windowOpen s then detect s pgHgt 2 else s

/-- REGISTER_READ (05 R133 to R139). `breach`: the handshake on HT is breached (03 R64). -/
def execRegisterRead (role : Role) (off : BitVec 23) (len : Nat) (breach : Bool) (s : State) : Host.Outcome State Fault Refusal :=
  .next (regRead (htBreach s role breach) role off.toNat len)

/-- RC_COUNTER_READ (00 R12): the field is returned, then cleared. -/
def execRcCounterRead (role : Role) (off : BitVec 23) (s : State) : Host.Outcome State Fault Refusal := .next (regRead s role off.toNat 4)

/-- PAIR_LOW_READ (05 R136): the high word is latched for the role. -/
def execPairLowRead (role : Role) (off : BitVec 23) (s : State) : Host.Outcome State Fault Refusal := .next (regRead s role off.toNat 4)

/-- PAIR_LATCH_EXPIRE (05 R136): 1 µs after the read of the low word. -/
def execPairLatchExpire (role : Role) (off : BitVec 23) (s : State) : Host.Outcome State Fault Refusal :=
  .next (match pairLow off.toNat with
    | some low => { s with latch := tblDel s.latch (latchKey role low) }
    | none => s)

/-! ### Writes -/

/-- Whether the values of a register that is refused with DENIED outside its range are within it (11 R321, Table 11.13, 13 Table 13.12, 18 Table 18.6, 19 Tables 19.9,
19.10, 20 Table 20.8, 21 Table 21.5). -/
def legalWord (u o : Nat) (v : Word) : Bool :=
  let within (hi lo a b : Nat) : Bool := a ≤ getBits v hi lo && getBits v hi lo ≤ b
  if u = uVdt then
    (if o = 0x070 then getBits v 1 0 ≤ getBits v 3 2
     else if o = 0x074 then within 13 0 10 10000
     else if o = 0x144 then 1 ≤ getBits v 7 0 && 10 ≤ getBits v 23 8
     else if o = 0x148 then within 15 0 10 60000
     else true)
  else if u = uTrs then (o != 0x040 || within 19 0 10 1000000)
  else if u = uEvr then (o != 0x104 || within 16 0 1 65536)
  else if u = uWrc then
    (if o = 0x044 then within 3 0 2 15
     else if o = 0x048 then within 16 0 60 86400
     else if o = 0x04C then within 11 0 2000 4000
     else if o = 0x050 then within 16 0 100 100000
     else if o = 0x054 then within 9 0 1 1000
     else true)
  else if u = uPmu then (if o = 0x044 then within 19 0 1 1000000 else if o = 0x04C then getBits v 3 0 ≤ 10 else true)
  else if u = uTmp then (o != 0x044 || within 7 0 85 115)
  else true

/-- Set a channel register of HGT. -/
def chPut (s : State) (ch o : Nat) (w : Word) : State := setHgt s { s.hgt with cfg := tblSet 0 s.hgt.cfg (ch * 256 + o) w }

/-- Store a write of one word of a pair: BASE is the selected channel's (15 R416). -/
def storePairWord (s : State) (r : Role) (off : Nat) (v : Word) : State :=
  let o := off - pgHgt
  if pageOf off = pgHgt && chOwn o then chPut s (chSel s) o (writeFlds r off v (chReg s (chSel s) o)) else storeReg s r off v

/-- The completion of a write that was stored: a guarded one advances EPOCH. -/
def wroteDone (r : Role) (off : Nat) (s : State) : State := if hasGuard r off then commitDone s r off else regDone s r off .ok 0

/-- A write to a plain register, judged: its fields take the value, unless it lies outside the register's range. -/
def doStore (r : Role) (off : Nat) (v : Word) (s : State) : State :=
  if isInstOff off || legalWord (unitOf off) (off % 0x1000) v then wroteDone r off (storeReg s r off v) else regDone s r off .denied 0

/-- A write to one word of a pair, judged (05 R136): the high word is held; the low word commits with it, or alone. -/
def doPair (r : Role) (off low : Nat) (v : Word) (s : State) : State :=
  let k := latchKey r low
  if off != low then regDone { s with hold := tblPut s.hold k v } r off .ok 0
  else
    let s := match tblFind s.hold k with
      | some h => storePairWord { s with hold := tblDel s.hold k } r (low + 4) h
      | none => s
    wroteDone r off (storePairWord s r off v)

/-- A write to the header, judged. -/
def doHeader (r : Role) (off : Nat) (v : Word) (s : State) : State :=
  let pg := pageOf off
  let o := off % 0x1000
  if o = 0x00C then doPageCtrl r pg v s
  else if o = 0x018 then doErrClear r pg v 0 s
  else if o = 0x01C then doErrMask r pg v s
  else if o = 0x020 then doErrInj r pg v s
  else doStore r off v s

/-- The operation of a write of KVT_CMD, by OP, with the bytes it leaves in XBUF (08 Table 08.8). -/
def kvtOp (op : Nat) (kt : KtabRead) (wst : Status) : Nat × (KCmd → State → State) :=
  if op = 0x01 then (40, doGenerate kt wst)
  else if op = 0x02 then (0, doExport kt)
  else if op = 0x03 then (112, doImport kt wst)
  else if op = 0x04 then (0, doLoad)
  else if op = 0x05 then (0, doUnpin)
  else if op = 0x06 then (0, doStep kt)
  else if op = 0x07 then (0, doRetire)
  else if op = 0x08 then (0, doEnrol)
  else if op = 0x10 then (0, fun c t => keygen t c)
  else if op = 0x11 then (1664, fun c t => keygen t c)
  else if op = 0x12 then (1664, doJoinDecap)
  else if op = 0x13 then (48, doJoinFinish)
  else if op = 0x14 then (0, doEpochGenerate)
  else if op = 0x15 then (0, doEpochWrap)
  else if op = 0x16 then (112, doEpochLoad)
  else if op = 0x17 then (0, doEpochSend)
  else (0, fun c t => kvtDone t c Status.denied.code)

/-- A write of KVT_CMD (08 R222). -/
def writeKvtCmd (r : Role) (v : Word) (kt : KtabRead) (wst : Status) (s : State) : State :=
  let x := kvtOp (getBits v 7 0) kt wst
  kvtCmd r (getBits v 7 0) (getBits v 15 8) (getBits v 31 16) x.1 x.2 s

/-- A write of a staged word of JCT, judged (09 R255): RETRY while a commit is being judged. -/
def doStaged (r : Role) (off : Nat) (v : Word) (s : State) : State :=
  let i := getFld s (pgJct + 0x040) 9 0
  let e := jEntry s.jct.staged i
  let o := off % 0x1000
  let w (k : Nat) (x : Word) : Word := if o = k then writeFlds r off v x else x
  if s.jct.judging then regDone s r off .retry 0
  else
    let x := JEntry.ofWords (w 0x044 e.w0) (w 0x048 e.w1) (w 0x04C e.w2)
    regDone { s with jct := { s.jct with staged := tblSet JEntry.zero s.jct.staged i x } } r off .ok 0

/-- A write to a span's page, judged (11 Table 11.14, 14 Table 14.6): the commands, the memory-flow map, the member maps. -/
def doSpanReg (r : Role) (off : Nat) (v : Word) (s : State) : State :=
  let n := uinstOf off
  let o := off % 0x1000
  let pg := pgVdt n
  if o = 0x088 then
    (match getBits v 1 0 with
     | 1 => doFlowOpen r n s
     | 2 => doFlowClose r n s
     | 3 => doFlowLoad r n s
     | _ => commitDone s r off)
  else if o = 0x10C then
    (match getBits v 1 0 with
     | 1 => doDspStart r n s
     | 2 => doDspStop r n s
     | 3 => doDspLoad r n s
     | _ => commitDone s r off)
  else if o = 0x0A8 then
    let i := getFld s (pg + 0x0A4) 13 0
    commitDone (mapSpan s n (fun x => { x with mf := tblSet 0 x.mf i (writeFlds r off v (tblGet 0 x.mf i)) })) r off
  else if o = 0x0B0 then
    let pos := getFld s (pg + 0x0AC) 16 16
    if (if pos = 0 then s.kvt.pos0 else s.kvt.pos1).isSome then regDone s r off .denied 0
    else commitDone { s with maps := tblSet 0 s.maps (pos * 512 + getFld s (pg + 0x0AC) 8 0) v } r off
  else doStore r off v s

/-- A write of EQ_CTRL, judged (15 Table 15.12): EQ_LOG2 takes 6 to 16 while EQ_EN is 0; setting EQ_EN starts the queue. -/
def doEqCtrl (r : Role) (v : Word) (s : State) : State :=
  let off := pgHgt + 0x0A8
  let on := regBit s off 8
  let s := if !on && 6 ≤ getBits v 4 0 && getBits v 4 0 ≤ 16 then setFld s off 4 0 (getBits v 4 0) else s
  let s := setRegBit s off 8 (getBit v 8)
  regDone (if !on && getBit v 8 then eqEnable s else s) r off .ok 0

/-- A write to HGT's page, judged: the selected channel's registers, its commands, the queue, the doorbells (15 Table 15.12). -/
def doHgtReg (r : Role) (off : Nat) (v : Word) (s : State) : State :=
  let o := off % 0x1000
  let ch := chSel s
  let p := chPair s
  if chOwn o then regDone (chPut s ch o (writeFlds r off v (chReg s ch o))) r off .ok 0
  else if o = 0x04C then
    let s := chPut s ch o (putBits (chReg s ch o) 8 0 (getBits v 8 0))
    regDone (chPut s (2 * p) o (putBits (chReg s (2 * p) o) 23 16 (getBits v 23 16))) r off .ok 0
  else if o = 0x050 || o = 0x054 || o = 0x058 then regDone (chPut s (2 * p) o (writeFlds r off v (chReg s (2 * p) o))) r off .ok 0
  else if o = 0x05C then
    (match getBits v 1 0 with
     | 1 => doChOpen r s
     | 2 => doChClose r s
     | _ => commitDone s r off)
  else if o = 0x0A8 then doEqCtrl r v s
  else if o = 0x0AC then doEqCons r v s
  else if 0x200 ≤ o ∧ o < 0x400 then doDoorbell r ((o - 0x200) / 8) ((o - 0x200) / 4 % 2) v s
  else doStore r off v s

/-- A write to CCE's page, judged (16 Table 16.7). -/
def doCceReg (r : Role) (off : Nat) (v : Word) (s : State) : State :=
  let o := off % 0x1000
  let q := cceSel s
  if 0x044 ≤ o ∧ o ≤ 0x050 then
    regDone { s with cce := { s.cce with cfg := tblSet 0 s.cce.cfg (q * 256 + o) (writeFlds r off v (cceReg s q o)) } } r off .ok 0
  else if o = 0x054 then
    (match getBits v 1 0 with
     | 1 => doCceOpen r s
     | 2 => doCceClose r s
     | _ => commitDone s r off)
  else if o = 0x064 then doCceDoorbell r off q v s
  else doStore r off v s

/-- A write to EVR's page, judged (20 Table 20.8). -/
def doEvrReg (r : Role) (off : Nat) (v : Word) (kt : KtabRead) (s : State) : State :=
  let o := off % 0x1000
  if o = 0x04C then
    (match getBits v 1 0 with
     | 1 => doEvrFreeze r s
     | 2 => doEvrUnfreeze r s
     | 3 => doEvrClear r s
     | _ => commitDone s r off)
  else if o = 0x050 then doRecordLoad r v kt s
  else if 0x0A0 ≤ o ∧ o < 0x0D0 then doClrDigest r ((o - 0x0A0) / 4) v s
  else doStore r off v s

/-- A write to CRU's page, judged (04). -/
def doCruReg (r : Role) (off : Nat) (v : Word) (s : State) : State :=
  let o := off % 0x1000
  if o = 0x040 then doSscWrite r v s
  else if 0x048 ≤ o ∧ o ≤ 0x054 then doClkEn r ((o - 0x048) / 4) v s
  else if o = 0x05C then doPwrCtrl r v s
  else if o = 0x064 then doSleepCtrl r v s
  else doStore r off v s

/-- A write to an instance page beyond its header, judged (17 Table 17.6, 20 Table 20.7). -/
def doInstReg (r : Role) (off : Nat) (v : Word) (kt : KtabRead) (s : State) : State :=
  let i := instOf off
  let o := off % 0x1000
  if o = 0x100 || o = 0x1C0 then
    (if getBit v 8 then doMbGo r i (o = 0x100) (getBits v 7 0) kt s else regDone s r off .ok 0)
  else if o = 0x214 then
    (match getBits v 1 0 with
     | 1 => doWaitArm r i s
     | 2 => doWaitCancel r i s
     | _ => regDone s r off .ok 0)
  else if o = 0x230 then (if getBit v 0 then doSigGo r i s else regDone s r off .ok 0)
  else if o = 0x304 then doInstDone r i v s
  else if o = 0x320 then doRecordLoad r v kt s
  else if 0x400 ≤ o ∧ o < 0x440 then doCceDoorbell r off ((o - 0x400) / 4) v s
  else doStore r off v s

/-- A write to any other unit's page beyond its header, judged. -/
def doUnitReg (r : Role) (off : Nat) (v : Word) (kt : KtabRead) (s : State) : State :=
  let u := unitOf off
  let o := off % 0x1000
  if u = uSbx && o = 0x050 then doMeasCtrl r v s
  else if u = uSbx && o = 0x0C0 then doHalt r (getBit v 0) s
  else if u = uLco && o = 0x0C4 then doArb r v s
  else if u = uKvt && o = 0x050 && regBit s off 31 then regDone s r off .denied 0
  else if u = uJct && 0x044 ≤ o && o ≤ 0x04C then doStaged r off v s
  else if u = uCtc && o = 0x040 then doCtcPart r v s
  else if u = uCtc && o = 0x044 then doCtcPf r v s
  else if u = uVdt then doSpanReg r off v s
  else if u = uHgt then doHgtReg r off v s
  else if u = uCce then doCceReg r off v s
  else if u = uInc && o = 0x040 then doIncHold r v s
  else if u = uInc && o = 0x044 then doIncDone r v s
  else if u = uInc && o = 0x050 then (if getBit v 0 then doMgrPop r s else regDone s r off .ok 0)
  else if u = uEvr then doEvrReg r off v kt s
  else if u = uTtu && o = 0x06C then (if getBit v 0 then doSetGo r s else commitDone s r off)
  else if u = uWrc && o = 0x058 then doSbxKick r v s
  else if u = uWrc && o = 0x05C then doResume r v s
  else if u = uPmu && o = 0x040 then doPmuEn r v s
  else if u = uPmu && o = 0x05C then doPmuLoad r v kt s
  else if u = uCru then doCruReg r off v s
  else doStore r off v s

/-- What a write does once it is judged. `kt` is what a read of KTAB, of the spill region or of the PMU ring gives, where the write starts one. -/
def doWrite (r : Role) (off : Nat) (v : Word) (kt : KtabRead) (s : State) : State :=
  if off % 0x1000 < 0x040 then doHeader r off v s
  else match pairLow off with
    | some low => doPair r off low v s
    | none => if isInstOff off then doInstReg r off v kt s else doUnitReg r off v kt s

/-- The judgement of a 32-bit write: guarded where a guarded field of the register lists the role, with the words whose guard depends on the value judged
by their own operations (05 R147). -/
def writeWord (s : State) (r : Role) (off : Nat) (v : Word) (kt : KtabRead) (wst : Status) : State :=
  if off = pgLco + 0x044 then lcCtrlWrite r v s
  else if off = pgLco + 0x074 then otpCmdWrite r v s
  else if off = pgKvt + 0x040 then writeKvtCmd r v kt wst s
  else if off = pgJct + 0x060 then jctCtrlWrite r v s
  else if pgInc + 0x400 ≤ off ∧ off < pgInc + 0x800 then writeIncSource r ((off - pgInc - 0x400) / 4) v s
  else if hasGuard r off then judgeGuarded s r off (doWrite r off v kt)
  else judgeWrite s r off (doWrite r off v kt)

/-- A register write of a role, of a width: one that is not an aligned 32-bit access meets its refusal in `judge` (05 R135, R139). -/
def regWrite (s : State) (r : Role) (off len : Nat) (v : Word) (kt : KtabRead) (wst : Status) : State :=
  if len != 4 || off % 4 != 0 then judge s r off len true none (fun t => t) else writeWord s r off v kt wst

/-- REGISTER_WRITE (05 R133 to R139, R147). `breach`: the handshake on HT is breached (03 R64); `perr`: HT_WPAR fails, so the write completes with POISON and
is dropped (R65). -/
def execRegisterWrite (role : Role) (off : BitVec 23) (len : Nat) (v : Word) (kt : KtabRead) (wst : Status) (breach perr : Bool) (s : State) :
    Host.Outcome State Fault Refusal :=
  let t := htBreach s role breach
  .next (if perr && onHt role && windowOpen s then regDone (detect t pgHgt 3) role off.toNat .poison 0
    else regWrite t role off.toNat len v kt wst)

/-- The epoch by which a write is guarded, where it is (05 R146, R147): PAGE_CTRL carries it, elsewhere it is the role's EXP_EPOCH. -/
def writeGuard (s : State) (r : Role) (off : Nat) (v : Word) : Option Nat :=
  let pg := pageOf off
  if off = pg + 0x00C then (if ctrlChanges s pg v || ctrlResets r pg v then some (getBits v 31 8) else none)
  else
    let g := if off = pgLco + 0x044 then getBits v 9 0 != 0
      else if off = pgLco + 0x074 then getBit v 1
      else if off = pgJct + 0x060 then getBit v 0
      else if pgInc + 0x400 ≤ off ∧ off < pgInc + 0x800 then srcChanges s r ((off - pgInc - 0x400) / 4) v
      else hasGuard r off
    if g then some (expEpoch s r pg) else none

/-- REGISTER_ACCESS_TIMEOUT (05 R137, R139): no answer of the page within 256 CK_MGT cycles; a guarded write with a stale epoch meets EPOCH_STALE first. -/
def execRegisterAccessTimeout (role : Role) (off : BitVec 23) (wr : Bool) (v : Word) (s : State) : Host.Outcome State Fault Refusal :=
  .next (judge s role off.toNat 4 wr (if wr then writeGuard s role off.toNat v else none) (doTimeout role off.toNat))

/-- PAIR_HIGH_WRITE (05 R136): the high word of a pair is held for the role. -/
def execPairHighWrite (role : Role) (off : BitVec 23) (v : Word) (s : State) : Host.Outcome State Fault Refusal :=
  .next (regWrite s role off.toNat 4 v .unwritten .ok)

/-- PAIR_LOW_WRITE (05 R136): both words are committed, or the low word alone. -/
def execPairLowWrite (role : Role) (off : BitVec 23) (v : Word) (s : State) : Host.Outcome State Fault Refusal :=
  .next (regWrite s role off.toNat 4 v .unwritten .ok)

end Sys2Proof.Machine
end

