-- ==== Sys2Proof/Machine/Dispatch.lean ====
section
/-!
DEFINITION. The dispatch: one arm for each command.
-/
namespace Sys2Proof.Machine

def exec (i : Instr) (s : State) : Host.Outcome State Fault Refusal :=
  match i with
  | .porstNAssert => Sys2Proof.Machine.execPorstNAssert s
  | .porstNRelease => Sys2Proof.Machine.execPorstNRelease s
  | .lcDecode => Sys2Proof.Machine.execLcDecode s
  | .pllLockRise => Sys2Proof.Machine.execPllLockRise s
  | .pllLockFall => Sys2Proof.Machine.execPllLockFall s
  | .pllLockTimeout => Sys2Proof.Machine.execPllLockTimeout s
  | .pllResetHoldEnd => Sys2Proof.Machine.execPllResetHoldEnd s
  | .pllStabilityCountDone => Sys2Proof.Machine.execPllStabilityCountDone s
  | .aonStableCountDone => Sys2Proof.Machine.execAonStableCountDone s
  | .pswAckReceived d => Sys2Proof.Machine.execPswAckReceived d s
  | .pswAckTimeout d => Sys2Proof.Machine.execPswAckTimeout d s
  | .domainIsolationRelease d => Sys2Proof.Machine.execDomainIsolationRelease d s
  | .domainResetRelease d => Sys2Proof.Machine.execDomainResetRelease d s
  | .domainOffDrained d => Sys2Proof.Machine.execDomainOffDrained d s
  | .domainOffWritebackDone d => Sys2Proof.Machine.execDomainOffWritebackDone d s
  | .sscCtrlWrite role v => Sys2Proof.Machine.execSscCtrlWrite role v s
  | .sscApply => Sys2Proof.Machine.execSscApply s
  | .sleepEnter role => Sys2Proof.Machine.execSleepEnter role s
  | .sleepExit role => Sys2Proof.Machine.execSleepExit role s
  | .sleepEnginesIdle => Sys2Proof.Machine.execSleepEnginesIdle s
  | .sleepEntryTimeout => Sys2Proof.Machine.execSleepEntryTimeout s
  | .wakeClocksRestarted => Sys2Proof.Machine.execWakeClocksRestarted s
  | .portWakeTimeout port => Sys2Proof.Machine.execPortWakeTimeout port s
  | .clkEnWrite role reg v => Sys2Proof.Machine.execClkEnWrite role reg v s
  | .gateUnitIdle u => Sys2Proof.Machine.execGateUnitIdle u s
  | .gateIdleTimeout u => Sys2Proof.Machine.execGateIdleTimeout u s
  | .pwrCtrlWrite role v => Sys2Proof.Machine.execPwrCtrlWrite role v s
  | .pwrOffIdleCheck d => Sys2Proof.Machine.execPwrOffIdleCheck d s
  | .thermalWarningStart temp => Sys2Proof.Machine.execThermalWarningStart temp s
  | .thermalWarningEnd temp => Sys2Proof.Machine.execThermalWarningEnd temp s
  | .portUpSignalChange port up => Sys2Proof.Machine.execPortUpSignalChange port up s
  | .portClockWindow edges => Sys2Proof.Machine.execPortClockWindow edges s
  | .portTrainDone port => Sys2Proof.Machine.execPortTrainDone port s
  | .gaugeWindow n => Sys2Proof.Machine.execGaugeWindow n s
  | .gaugeAck n => Sys2Proof.Machine.execGaugeAck n s
  | .gaugeAckTimeout n => Sys2Proof.Machine.execGaugeAckTimeout n s
  | .gaugeRequestRepeat n => Sys2Proof.Machine.execGaugeRequestRepeat n s
  | .registerWrite role off len v kt wst breach perr => Sys2Proof.Machine.execRegisterWrite role off len v kt wst breach perr s
  | .rcCounterRead role off => Sys2Proof.Machine.execRcCounterRead role off s
  | .pairLowRead role off => Sys2Proof.Machine.execPairLowRead role off s
  | .pairHighWrite role off v => Sys2Proof.Machine.execPairHighWrite role off v s
  | .pairLowWrite role off v => Sys2Proof.Machine.execPairLowWrite role off v s
  | .pairLatchExpire role off => Sys2Proof.Machine.execPairLatchExpire role off s
  | .registerAccessTimeout role off wr v => Sys2Proof.Machine.execRegisterAccessTimeout role off wr v s
  | .pageEnableWrite role pg v => Sys2Proof.Machine.execPageEnableWrite role pg v s
  | .pageSreset role pg v => Sys2Proof.Machine.execPageSreset role pg v s
  | .expEpochWrite role pg v => Sys2Proof.Machine.execExpEpochWrite role pg v s
  | .errStatClear role pg v firing => Sys2Proof.Machine.execErrStatClear role pg v firing s
  | .errInjWrite role pg v => Sys2Proof.Machine.execErrInjWrite role pg v s
  | .sbxResetRelease => Sys2Proof.Machine.execSbxResetRelease s
  | .rootAttemptDone array => Sys2Proof.Machine.execRootAttemptDone array s
  | .pufOffPeriodEnd => Sys2Proof.Machine.execPufOffPeriodEnd s
  | .entSample raw => Sys2Proof.Machine.execEntSample raw s
  | .entStartupSetDone pass => Sys2Proof.Machine.execEntStartupSetDone pass s
  | .drbgInstantiated => Sys2Proof.Machine.execDrbgInstantiated s
  | .keygenQueueTimeout => Sys2Proof.Machine.execKeygenQueueTimeout s
  | .entDrbgRead role => Sys2Proof.Machine.execEntDrbgRead role s
  | .drbgReseedDue => Sys2Proof.Machine.execDrbgReseedDue s
  | .drbgReseedDone => Sys2Proof.Machine.execDrbgReseedDone s
  | .doeDiscovery index => Sys2Proof.Machine.execDoeDiscovery index s
  | .dlBegin vid typ cmd seq len extra => Sys2Proof.Machine.execDlBegin vid typ cmd seq len extra s
  | .dlChunk vid typ seq off data extra => Sys2Proof.Machine.execDlChunk vid typ seq off data extra s
  | .dlEnd vid typ seq extra => Sys2Proof.Machine.execDlEnd vid typ seq extra s
  | .dlCancel vid typ seq extra => Sys2Proof.Machine.execDlCancel vid typ seq extra s
  | .doeAbort => Sys2Proof.Machine.execDoeAbort s
  | .dlIdleTimeout => Sys2Proof.Machine.execDlIdleTimeout s
  | .reloadFetchDone data => Sys2Proof.Machine.execReloadFetchDone data s
  | .reloadFetchFail => Sys2Proof.Machine.execReloadFetchFail s
  | .reloadTimeout => Sys2Proof.Machine.execReloadTimeout s
  | .verifyDone => Sys2Proof.Machine.execVerifyDone s
  | .measureDone => Sys2Proof.Machine.execMeasureDone s
  | .measExtend role v => Sys2Proof.Machine.execMeasExtend role v s
  | .measExtendDone => Sys2Proof.Machine.execMeasExtendDone s
  | .arbTargetWrite role v => Sys2Proof.Machine.execArbTargetWrite role v s
  | .lcGo role v => Sys2Proof.Machine.execLcGo role v s
  | .dbgUnlock role v => Sys2Proof.Machine.execDbgUnlock role v s
  | .dbgClose role v => Sys2Proof.Machine.execDbgClose role v s
  | .tokenCompareDone => Sys2Proof.Machine.execTokenCompareDone s
  | .otpPulseDone ok => Sys2Proof.Machine.execOtpPulseDone ok s
  | .otpProg role => Sys2Proof.Machine.execOtpProg role s
  | .otpRead role => Sys2Proof.Machine.execOtpRead role s
  | .dbgDataRead role => Sys2Proof.Machine.execDbgDataRead role s
  | .sbxHalt role => Sys2Proof.Machine.execSbxHalt role s
  | .sbxResume role => Sys2Proof.Machine.execSbxResume role s
  | .generate role seq keyId kt wst => Sys2Proof.Machine.execGenerate role seq keyId kt wst s
  | .keyExport role seq keyId kt => Sys2Proof.Machine.execExport role seq keyId kt s
  | .keyImport role seq kt wst => Sys2Proof.Machine.execImport role seq kt wst s
  | .load role seq keyId => Sys2Proof.Machine.execLoad role seq keyId s
  | .unpin role seq keyId => Sys2Proof.Machine.execUnpin role seq keyId s
  | .kvtStep role seq keyId kt => Sys2Proof.Machine.execKvtStep role seq keyId kt s
  | .stepKtabWriteDone st => Sys2Proof.Machine.execStepKtabWriteDone st s
  | .retire role seq keyId => Sys2Proof.Machine.execRetire role seq keyId s
  | .retireDrainDone keyId => Sys2Proof.Machine.execRetireDrainDone keyId s
  | .retireWritebackDone keyId kt => Sys2Proof.Machine.execRetireWritebackDone keyId kt s
  | .retireKtabWriteDone keyId st => Sys2Proof.Machine.execRetireKtabWriteDone keyId st s
  | .enrol role seq => Sys2Proof.Machine.execEnrol role seq s
  | .enrolComplete => Sys2Proof.Machine.execEnrolComplete s
  | .joinKeygen role seq => Sys2Proof.Machine.execJoinKeygen role seq s
  | .joinRespond role seq => Sys2Proof.Machine.execJoinRespond role seq s
  | .joinDecap role seq => Sys2Proof.Machine.execJoinDecap role seq s
  | .joinFinish role seq => Sys2Proof.Machine.execJoinFinish role seq s
  | .epochGenerate role seq => Sys2Proof.Machine.execEpochGenerate role seq s
  | .epochWrap role seq => Sys2Proof.Machine.execEpochWrap role seq s
  | .epochLoad role seq => Sys2Proof.Machine.execEpochLoad role seq s
  | .epochSend role seq => Sys2Proof.Machine.execEpochSend role seq s
  | .epochKeyErase => Sys2Proof.Machine.execEpochKeyErase s
  | .pairKeyDelivered span => Sys2Proof.Machine.execPairKeyDelivered span s
  | .keyLoadDone keyId kt => Sys2Proof.Machine.execKeyLoadDone keyId kt s
  | .keyLoadWaitTimeout keyId => Sys2Proof.Machine.execKeyLoadWaitTimeout keyId s
  | .slotRemask => Sys2Proof.Machine.execSlotRemask s
  | .jctGo role v => Sys2Proof.Machine.execJctGo role v s
  | .jctCommitJudged => Sys2Proof.Machine.execJctCommitJudged s
  | .jctRestage role v => Sys2Proof.Machine.execJctRestage role v s
  | .jctCopySweep upsets masterEcc => Sys2Proof.Machine.execJctCopySweep upsets masterEcc s
  | .jctEntryReload island index => Sys2Proof.Machine.execJctEntryReload island index s
  | .resetListRangeDone ok => Sys2Proof.Machine.execResetListRangeDone ok s
  | .fmRequestSample e op aop addr home link gmask keyId pasid ctx tag wdata wbe breach perr => Sys2Proof.Machine.execFmRequestSample e op aop addr home link gmask keyId pasid ctx tag wdata wbe breach perr s
  | .orderFlagProceed => Sys2Proof.Machine.execOrderFlagProceed s
  | .requestAdmit e => Sys2Proof.Machine.execRequestAdmit e s
  | .memWritePresent e slot => Sys2Proof.Machine.execMemWritePresent e slot s
  | .memReadData e id data rerr perr => Sys2Proof.Machine.execMemReadData e id data rerr perr s
  | .memWriteAck e id => Sys2Proof.Machine.execMemWriteAck e id s
  | .metadataFillReturn e id data rerr perr => Sys2Proof.Machine.execMetadataFillReturn e id data rerr perr s
  | .prefetchDepthAdjust => Sys2Proof.Machine.execPrefetchDepthAdjust s
  | .prefetchOverrideEnd => Sys2Proof.Machine.execPrefetchOverrideEnd s
  | .ctcPartWrite role v => Sys2Proof.Machine.execCtcPartWrite role v s
  | .ctcPartChangeDone => Sys2Proof.Machine.execCtcPartChangeDone s
  | .ctcPfWrite role v => Sys2Proof.Machine.execCtcPfWrite role v s
  | .resealCheckpointAck e data => Sys2Proof.Machine.execResealCheckpointAck e data s
  | .resealFinish e => Sys2Proof.Machine.execResealFinish e s
  | .getsReceive sender tree idx => Sys2Proof.Machine.execGetsReceive sender tree idx s
  | .getoReceive sender tree idx => Sys2Proof.Machine.execGetoReceive sender tree idx s
  | .cohDataReceive home tree idx owned v line => Sys2Proof.Machine.execCohDataReceive home tree idx owned v line s
  | .invReceive home tree idx v => Sys2Proof.Machine.execInvReceive home tree idx v s
  | .invAckReceive sender tree idx v => Sys2Proof.Machine.execInvAckReceive sender tree idx v s
  | .recallReceive home tree idx v => Sys2Proof.Machine.execRecallReceive home tree idx v s
  | .recallAnswer home tree idx => Sys2Proof.Machine.execRecallAnswer home tree idx s
  | .wbReceive sender tree idx v count line => Sys2Proof.Machine.execWbReceive sender tree idx v count line s
  | .wbAckReceive home tree idx v => Sys2Proof.Machine.execWbAckReceive home tree idx v s
  | .nackReceive home tree idx reason => Sys2Proof.Machine.execNackReceive home tree idx reason s
  | .nackRetry home tree idx => Sys2Proof.Machine.execNackRetry home tree idx s
  | .writeCtReceive sender granule v major minor tag data => Sys2Proof.Machine.execWriteCtReceive sender granule v major minor tag data s
  | .wbHoldTimeout tree idx => Sys2Proof.Machine.execWbHoldTimeout tree idx s
  | .recallRepeat tree idx => Sys2Proof.Machine.execRecallRepeat tree idx s
  | .invRepeat tree idx member => Sys2Proof.Machine.execInvRepeat tree idx member s
  | .lrFrameStart n frame perr => Sys2Proof.Machine.execLrFrameStart n frame perr s
  | .lrFrameEnd n err nrReady => Sys2Proof.Machine.execLrFrameEnd n err nrReady s
  | .homeMreqHandover n => Sys2Proof.Machine.execHomeMreqHandover n s
  | .ntFrameStart n hdr breach perr => Sys2Proof.Machine.execNtFrameStart n hdr breach perr s
  | .ntFrameEnd n payload perr => Sys2Proof.Machine.execNtFrameEnd n payload perr s
  | .spanEgressAdmit n => Sys2Proof.Machine.execSpanEgressAdmit n s
  | .responseTimeout n idx => Sys2Proof.Machine.execResponseTimeout n idx s
  | .peerGoneTimeout n peer => Sys2Proof.Machine.execPeerGoneTimeout n peer s
  | .flowCmdOpen role n => Sys2Proof.Machine.execFlowCmdOpen role n s
  | .flowCmdClose role n => Sys2Proof.Machine.execFlowCmdClose role n s
  | .flowCmdLoad role n => Sys2Proof.Machine.execFlowCmdLoad role n s
  | .creditReturnDue n flow => Sys2Proof.Machine.execCreditReturnDue n flow s
  | .credTmoExpire n flow => Sys2Proof.Machine.execCredTmoExpire n flow s
  | .dspStart role n => Sys2Proof.Machine.execDspStart role n s
  | .dspStop role n => Sys2Proof.Machine.execDspStop role n s
  | .dspCmdLoad role n => Sys2Proof.Machine.execDspCmdLoad role n s
  | .dispatchRound n entry => Sys2Proof.Machine.execDispatchRound n entry s
  | .dispatchSlot n entry => Sys2Proof.Machine.execDispatchSlot n entry s
  | .dispatchLateSend n entry => Sys2Proof.Machine.execDispatchLateSend n entry s
  | .ctDescriptor desc breach perr => Sys2Proof.Machine.execCtDescriptor desc breach perr s
  | .trsContribution n => Sys2Proof.Machine.execTrsContribution n s
  | .chunkEnd inst handle => Sys2Proof.Machine.execChunkEnd inst handle s
  | .trsNochunkTimeout n => Sys2Proof.Machine.execTrsNochunkTimeout n s
  | .chunkTimeout inst handle => Sys2Proof.Machine.execChunkTimeout inst handle s
  | .hostMemAccess func wr addr len data breach perr => Sys2Proof.Machine.execHostMemAccess func wr addr len data breach perr s
  | .h2dDoorbell role pair v => Sys2Proof.Machine.execH2dDoorbell role pair v s
  | .d2hDoorbell role pair v => Sys2Proof.Machine.execD2hDoorbell role pair v s
  | .h2dRecord pair data rerr perr => Sys2Proof.Machine.execH2dRecord pair data rerr perr s
  | .h2dRecordAccessesDone pair => Sys2Proof.Machine.execH2dRecordAccessesDone pair s
  | .d2hRecordAcked pair err => Sys2Proof.Machine.execD2hRecordAcked pair err s
  | .hgtChOpen role => Sys2Proof.Machine.execHgtChOpen role s
  | .hgtChClose role => Sys2Proof.Machine.execHgtChClose role s
  | .hiAck => Sys2Proof.Machine.execHiAck s
  | .hiAckTimeout => Sys2Proof.Machine.execHiAckTimeout s
  | .eqRecordAcked err => Sys2Proof.Machine.execEqRecordAcked err s
  | .eqConsWrite role v => Sys2Proof.Machine.execEqConsWrite role v s
  | .msiGapEnd => Sys2Proof.Machine.execMsiGapEnd s
  | .spdmRequest sid auth ask req => Sys2Proof.Machine.execSpdmRequest sid auth ask req s
  | .spdmGetCertificate sid auth slot off len => Sys2Proof.Machine.execSpdmGetCertificate sid auth slot off len s
  | .spdmGetMeasurements sid auth index signed req => Sys2Proof.Machine.execSpdmGetMeasurements sid auth index signed req s
  | .spdmKeyExchange sid dh kem leaf req => Sys2Proof.Machine.execSpdmKeyExchange sid dh kem leaf req s
  | .spdmEndSession sid auth => Sys2Proof.Machine.execSpdmEndSession sid auth s
  | .sessionIdleTimeout sid => Sys2Proof.Machine.execSessionIdleTimeout sid s
  | .pqAttest sid auth nonce => Sys2Proof.Machine.execPqAttest sid auth nonce s
  | .pqCert sid auth off len => Sys2Proof.Machine.execPqCert sid auth off len s
  | .sessionBind sid auth inst => Sys2Proof.Machine.execSessionBind sid auth inst s
  | .channelOpen sid auth fields => Sys2Proof.Machine.execChannelOpen sid auth fields s
  | .channelClose sid auth pair => Sys2Proof.Machine.execChannelClose sid auth pair s
  | .flowOpen sid auth peer flow kind sport rport inst keyId group => Sys2Proof.Machine.execFlowOpen sid auth peer flow kind sport rport inst keyId group s
  | .keyShare sid auth blob kt wst => Sys2Proof.Machine.execKeyShare sid auth blob kt wst s
  | .joinOffer sid auth fields key bad => Sys2Proof.Machine.execJoinOffer sid auth fields key bad s
  | .joinAccept peer fields key bad => Sys2Proof.Machine.execJoinAccept peer fields key bad s
  | .joinConfirm sid auth sig => Sys2Proof.Machine.execJoinConfirm sid auth sig s
  | .joinConfirmed peer sig => Sys2Proof.Machine.execJoinConfirmed peer sig s
  | .joinEpoch sid auth fields => Sys2Proof.Machine.execJoinEpoch sid auth fields s
  | .joinLoaded peer st => Sys2Proof.Machine.execJoinLoaded peer st s
  | .joinSend sid auth epoch => Sys2Proof.Machine.execJoinSend sid auth epoch s
  | .joinSent peer st => Sys2Proof.Machine.execJoinSent peer st s
  | .joinPeerTimeout peer => Sys2Proof.Machine.execJoinPeerTimeout peer s
  | .ideKmQuery sid auth => Sys2Proof.Machine.execIdeKmQuery sid auth s
  | .ideKmKeyProg sid auth port stream sub dir kset key iv => Sys2Proof.Machine.execIdeKmKeyProg sid auth port stream sub dir kset key iv s
  | .ideKmKSetGo sid auth stream sub dir kset => Sys2Proof.Machine.execIdeKmKSetGo sid auth stream sub dir kset s
  | .ideKmKSetStop sid auth stream sub dir kset => Sys2Proof.Machine.execIdeKmKSetStop sid auth stream sub dir kset s
  | .poll => Sys2Proof.Machine.execPoll s
  | .deliver peer answer => Sys2Proof.Machine.execDeliver peer answer s
  | .certPut chain off last bytes => Sys2Proof.Machine.execCertPut chain off last bytes s
  | .domainPlan epoch plan ownId pod policy => Sys2Proof.Machine.execDomainPlan epoch plan ownId pod policy s
  | .domainAdd peer pod => Sys2Proof.Machine.execDomainAdd peer pod s
  | .domainGo => Sys2Proof.Machine.execDomainGo s
  | .cceQOpen role => Sys2Proof.Machine.execCceQOpen role s
  | .cceQClose role => Sys2Proof.Machine.execCceQClose role s
  | .cceDoorbell role q v => Sys2Proof.Machine.execCceDoorbell role q v s
  | .cceDescFetched q => Sys2Proof.Machine.execCceDescFetched q s
  | .cceDescEnd q core mul => Sys2Proof.Machine.execCceDescEnd q core mul s
  | .create inst seq gen digest => Sys2Proof.Machine.execCreate inst seq gen digest s
  | .pasidAdd inst seq gen pasid => Sys2Proof.Machine.execPasidAdd inst seq gen pasid s
  | .pasidDel inst seq gen pasid => Sys2Proof.Machine.execPasidDel inst seq gen pasid s
  | .slice inst seq gen ks shares => Sys2Proof.Machine.execSlice inst seq gen ks shares s
  | .scratch inst seq gen ranges => Sys2Proof.Machine.execScratch inst seq gen ranges s
  | .bind inst seq gen keyId kt => Sys2Proof.Machine.execBind inst seq gen keyId kt s
  | .unbind inst seq gen keyId => Sys2Proof.Machine.execUnbind inst seq gen keyId s
  | .instanceReset inst seq gen => Sys2Proof.Machine.execInstanceReset inst seq gen s
  | .switch inst seq gen digest => Sys2Proof.Machine.execSwitch inst seq gen digest s
  | .destroy inst seq gen => Sys2Proof.Machine.execDestroy inst seq gen s
  | .mbStep inst seq gen keyId kt => Sys2Proof.Machine.execMbStep inst seq gen keyId kt s
  | .ctxLose inst seq gen ctx => Sys2Proof.Machine.execCtxLose inst seq gen ctx s
  | .objPage inst seq gen page => Sys2Proof.Machine.execObjPage inst seq gen page s
  | .objCreate inst seq gen slotKind value => Sys2Proof.Machine.execObjCreate inst seq gen slotKind value s
  | .objDestroy inst seq gen handle => Sys2Proof.Machine.execObjDestroy inst seq gen handle s
  | .instanceDrainDone inst => Sys2Proof.Machine.execInstanceDrainDone inst s
  | .scrubDone tag failed => Sys2Proof.Machine.execScrubDone tag failed s
  | .scrubTimeout tag => Sys2Proof.Machine.execScrubTimeout tag s
  | .switchBlockScrubDone inst => Sys2Proof.Machine.execSwitchBlockScrubDone inst s
  | .sigGo role inst => Sys2Proof.Machine.execSigGo role inst s
  | .waitArm role inst => Sys2Proof.Machine.execWaitArm role inst s
  | .waitCancel role inst => Sys2Proof.Machine.execWaitCancel role inst s
  | .interruptDeliver target => Sys2Proof.Machine.execInterruptDeliver target s
  | .incDone role v => Sys2Proof.Machine.execIncDone role v s
  | .instDone role inst v => Sys2Proof.Machine.execInstDone role inst v s
  | .incHoldWrite role v => Sys2Proof.Machine.execIncHoldWrite role v s
  | .incSourceWrite role src v => Sys2Proof.Machine.execIncSourceWrite role src v s
  | .mgrmbPop role => Sys2Proof.Machine.execMgrmbPop role s
  | .evrRecordWrite => Sys2Proof.Machine.execEvrRecordWrite s
  | .evrSpillWriteDone st => Sys2Proof.Machine.execEvrSpillWriteDone st s
  | .evrRecordLoad role sq rd => Sys2Proof.Machine.execEvrRecordLoad role sq rd s
  | .evrFreeze role => Sys2Proof.Machine.execEvrFreeze role s
  | .evrUnfreeze role => Sys2Proof.Machine.execEvrUnfreeze role s
  | .evrFreezeTimeout => Sys2Proof.Machine.execEvrFreezeTimeout s
  | .evrClear role => Sys2Proof.Machine.execEvrClear role s
  | .evrClearDone => Sys2Proof.Machine.execEvrClearDone s
  | .evrClrDigestWrite role k v => Sys2Proof.Machine.execEvrClrDigestWrite role k v s
  | .setGo role => Sys2Proof.Machine.execSetGo role s
  | .aonChangeover => Sys2Proof.Machine.execAonChangeover s
  | .aonEdgeLoss => Sys2Proof.Machine.execAonEdgeLoss s
  | .aonRediscipline => Sys2Proof.Machine.execAonRediscipline s
  | .timeEndOfRange => Sys2Proof.Machine.execTimeEndOfRange s
  | .nowDateRead role => Sys2Proof.Machine.execNowDateRead role s
  | .nowLatchExpire role => Sys2Proof.Machine.execNowLatchExpire role s
  | .pmuEnWrite role v => Sys2Proof.Machine.execPmuEnWrite role v s
  | .pmuIntervalClose ecc => Sys2Proof.Machine.execPmuIntervalClose ecc s
  | .pmuSlotWriteDone st => Sys2Proof.Machine.execPmuSlotWriteDone st s
  | .pmuRecordLoad role v rd => Sys2Proof.Machine.execPmuRecordLoad role v rd s
  | .engineWatchdog x => Sys2Proof.Machine.execEngineWatchdog x s
  | .sbxWatchdogExpire => Sys2Proof.Machine.execSbxWatchdogExpire s
  | .sbxKick role v => Sys2Proof.Machine.execSbxKick role v s
  | .memoryPortSilence e => Sys2Proof.Machine.execMemoryPortSilence e s
  | .heartbeatMiss => Sys2Proof.Machine.execHeartbeatMiss s
  | .l1End unit inst => Sys2Proof.Machine.execL1End unit inst s
  | .l2End unit inst => Sys2Proof.Machine.execL2End unit inst s
  | .l3End d => Sys2Proof.Machine.execL3End d s
  | .l4DrainDone => Sys2Proof.Machine.execL4DrainDone s
  | .l4RetrainDone => Sys2Proof.Machine.execL4RetrainDone s
  | .levelTimeout level unit inst => Sys2Proof.Machine.execLevelTimeout level unit inst s
  | .replayDryRunEnd unit inst => Sys2Proof.Machine.execReplayDryRunEnd unit inst s
  | .wrcResume role v => Sys2Proof.Machine.execWrcResume role v s
  | .meshCheck bad => Sys2Proof.Machine.execMeshCheck bad s
  | .tamperAlarm bits => Sys2Proof.Machine.execTamperAlarm bits s
  | .zeroiseRelease => Sys2Proof.Machine.execZeroiseRelease s
  | .registerRead role off len breach => Sys2Proof.Machine.execRegisterRead role off len breach s
  | .lockstepMismatch => Sys2Proof.Machine.execLockstepMismatch s
  | .supplyLoss => Sys2Proof.Machine.execSupplyLoss s
  | .domainHeldOffEnd d => Sys2Proof.Machine.execDomainHeldOffEnd d s
  | .chunkRowsCleared group => Sys2Proof.Machine.execChunkRowsCleared group s

end Sys2Proof.Machine
end

