-- ==== Sys2Proof/Machine/Tick.lean ====
section
/-!
DEFINITION. What time does while no command waits: one CK_REF cycle, 10 ns (log entry 4).
-/
namespace Sys2Proof.Machine

/-- EQ_FULL counts the CK_MGT cycles spent with the host event queue full: five in 10 ns (15 R415, 04 R99). -/
def eqFullTick (s : State) : State :=
  let full := regBit s (pgHgt + 0x0A8) 8 && pageUp s pgHgt
    && ((rawReg s (pgHgt + 0x0B0)).toNat + 2 ^ 32 - (rawReg s (pgHgt + 0x0AC)).toNat) % 2 ^ 32 = 2 ^ getFld s (pgHgt + 0x0A8) 4 0
  onlyIf full s (incSat s (pgHgt + 0x0D8) 31 0 5)

/-- One CK_REF cycle: the Station Clock counts, a full event queue is counted, SBX takes the mailbox commands posted while it did not run (17 R441).
While PORST_N is asserted nothing runs (04 R107). -/
def tick (s : State) : State := onlyIf (!s.cru.porst) s (eqFullTick (mbResume (ttuTick s)))

end Sys2Proof.Machine
end

