-- ==== Sys2Proof/Safety.lean ====
section
/-!
DEFINITION. What counts as a safe state of the block, and the terms that claims use: the access a command makes, when an access meets no refusal, and
which parts of the state two states share.
-/
namespace Sys2Proof.Machine

/-- The three canonical forms that claims rest on: the register file, the OTP array, and the epoch file list no key twice, rise, and list no default. -/
def State.wf (s : State) : Bool :=
  tblWf regReset s.regs && tblWf (fun _ => 0) s.lco.otp && tblWf (fun _ => 0) s.epochs

/-- No bit of an OTP word was cleared between two states (07 R176). -/
def otpKept (s t : State) : Prop := ∀ w n, getBit (otpWord s w) n = true → getBit (otpWord t w) n = true

/-- The parts of the state, as claims about what a command leaves alone name them: the fields of `State`, with the OTP array apart from the rest
of `lco`, and `pending`, the queue of commands. -/
inductive Part where
  | regs | latch | hold | exps | epochs | held | withdrawn | denied | cru | ports | tmp | wrc | sbx | ent | lco | otp | kvt | dom | jct | anchor
    | ctc | coh | engs | incarn | ttb | spans | maps | trs | hgt | cce | imu | inc | evr | ttu | pmu | att | free | out | pending
deriving DecidableEq, Repr

/-- Whether two states share a part. -/
def Part.same (s t : State) : Part → Prop
  | .regs => t.regs = s.regs
  | .latch => t.latch = s.latch
  | .hold => t.hold = s.hold
  | .exps => t.exps = s.exps
  | .epochs => t.epochAll = s.epochAll ∧ t.epochs = s.epochs
  | .held => t.held = s.held
  | .withdrawn => t.withdrawn = s.withdrawn
  | .denied => t.denied = s.denied
  | .cru => t.cru = s.cru
  | .ports => t.ports = s.ports
  | .tmp => t.tmp = s.tmp
  | .wrc => t.wrc = s.wrc
  | .sbx => t.sbx = s.sbx
  | .ent => t.ent = s.ent
  | .lco => { t.lco with otp := [] } = { s.lco with otp := [] }
  | .otp => t.lco.otp = s.lco.otp
  | .kvt => t.kvt = s.kvt
  | .dom => t.dom = s.dom
  | .jct => t.jct = s.jct
  | .anchor => t.anchor = s.anchor
  | .ctc => t.ctc = s.ctc
  | .coh => t.coh = s.coh
  | .engs => t.engs = s.engs
  | .incarn => t.incarn = s.incarn
  | .ttb => t.ttb = s.ttb
  | .spans => t.spans = s.spans
  | .maps => t.maps = s.maps
  | .trs => t.trs = s.trs
  | .hgt => t.hgt = s.hgt
  | .cce => t.cce = s.cce
  | .imu => t.imu = s.imu
  | .inc => t.inc = s.inc
  | .evr => t.evr = s.evr
  | .ttu => t.ttu = s.ttu
  | .pmu => t.pmu = s.pmu
  | .att => t.att = s.att
  | .free => t.free = s.free
  | .out => t.out = s.out
  | .pending => t.pending = s.pending

/-- Every part but the listed ones is as before. -/
def keeps (touched : List Part) (s t : State) : Prop := ∀ p : Part, p ∉ touched → p.same s t

/-- The parts of the state that a command reaches through the recoveries it may begin (19): whatever a unit or domain reset touches. -/
def recoveryParts : List Part :=
  [.regs, .exps, .epochs, .held, .withdrawn, .cru, .wrc, .sbx, .ent, .lco, .kvt, .jct, .anchor, .ctc, .coh, .engs, .incarn, .ttb, .spans, .maps, .trs,
   .hgt, .cce, .imu, .inc, .evr, .pmu, .att, .out]

/-- The parts of the state that a command may change. -/
def touches : Instr → List Part
  | .porstNAssert .. | .supplyLoss .. =>
    [.regs, .latch, .hold, .exps, .epochs, .held, .withdrawn, .denied, .cru, .ports, .tmp, .wrc, .sbx, .ent, .lco, .otp, .kvt, .dom, .jct, .anchor, .ctc,
     .coh, .engs, .incarn, .ttb, .spans, .maps, .trs, .hgt, .cce, .imu, .inc, .evr, .ttu, .pmu, .att, .free]
  | .porstNRelease .. =>
    [.epochs, .cru]
  | .lcDecode .. =>
    [.regs, .epochs, .cru, .lco, .inc, .evr]
  | .pllLockRise .. =>
    [.regs, .epochs, .cru]
  | .pllLockFall .. =>
    [.regs, .epochs, .cru, .wrc, .kvt, .anchor, .ctc, .engs, .ttb, .spans, .trs, .hgt, .cce, .inc, .evr, .att, .out]
  | .pllLockTimeout .. | .gateUnitIdle .. | .gateIdleTimeout .. | .pwrOffIdleCheck .. =>
    [.regs, .cru, .inc, .evr]
  | .pllResetHoldEnd .. | .sscApply .. | .domainHeldOffEnd .. =>
    [.cru]
  | .pllStabilityCountDone .. =>
    [.regs, .epochs, .withdrawn, .cru, .ports, .wrc, .evr]
  | .aonStableCountDone .. =>
    [.regs]
  | .pswAckReceived .. | .pswAckTimeout .. =>
    [.regs, .epochs, .withdrawn, .cru, .ports, .wrc, .ctc, .engs, .ttb, .spans, .hgt, .inc, .evr, .out]
  | .domainIsolationRelease .. =>
    [.regs, .cru]
  | .domainResetRelease .. =>
    [.regs, .epochs, .withdrawn, .cru, .ports, .wrc, .ent, .kvt, .jct, .anchor, .ctc, .engs, .ttb, .spans, .trs, .hgt, .cce, .imu, .inc, .evr, .pmu, .out]
  | .domainOffDrained .. =>
    [.regs, .cru, .kvt, .anchor, .ctc, .engs, .inc, .evr, .out]
  | .domainOffWritebackDone .. =>
    [.regs, .exps, .epochs, .held, .cru, .wrc, .sbx, .ent, .kvt, .jct, .anchor, .ctc, .coh, .engs, .incarn, .ttb, .spans, .maps, .trs, .hgt, .cce, .imu,
     .inc, .evr, .pmu, .att, .out]
  | .sscCtrlWrite .. | .pwrCtrlWrite .. =>
    [.regs, .denied, .cru, .inc, .evr, .out]
  | .sleepEnter .. | .sleepExit .. =>
    [.regs, .epochs, .denied, .cru, .spans, .inc, .evr, .out]
  | .sleepEnginesIdle .. =>
    [.regs, .epochs, .cru, .inc, .evr]
  | .sleepEntryTimeout .. =>
    [.regs, .epochs, .cru, .spans, .inc, .evr, .out]
  | .wakeClocksRestarted .. =>
    [.regs, .epochs, .cru, .spans, .inc, .evr, .pmu, .out]
  | .portWakeTimeout .. =>
    [.regs, .cru, .ports, .ctc, .engs, .ttb, .spans, .hgt, .inc, .evr, .out]
  | .clkEnWrite .. =>
    [.regs, .denied, .cru, .inc, .evr, .pmu, .out]
  | .thermalWarningStart .. | .sbxResetRelease .. | .dlCancel .. | .dlIdleTimeout .. | .reloadFetchFail .. | .reloadTimeout .. | .verifyDone ..
  | .resealCheckpointAck .. | .lrFrameStart .. | .ntFrameStart .. | .ntFrameEnd .. | .ctDescriptor .. | .trsContribution .. | .chunkEnd .. | .hostMemAccess ..
  | .h2dRecord .. | .d2hRecordAcked .. | .hiAck .. | .hiAckTimeout .. | .eqRecordAcked .. | .engineWatchdog .. | .sbxWatchdogExpire .. | .memoryPortSilence ..
  | .heartbeatMiss .. | .lockstepMismatch .. =>
    recoveryParts
  | .thermalWarningEnd .. =>
    [.regs, .ctc, .spans, .inc, .evr, .pmu, .out]
  | .portUpSignalChange .. | .portClockWindow .. =>
    [.regs, .cru, .ports, .kvt, .anchor, .ctc, .engs, .ttb, .spans, .hgt, .inc, .evr, .out]
  | .portTrainDone .. =>
    [.regs, .ports, .kvt, .anchor, .ctc, .engs, .inc, .evr, .out]
  | .gaugeWindow .. =>
    [.regs, .spans, .inc, .evr, .out]
  | .gaugeAck .. | .gaugeAckTimeout .. =>
    [.regs, .spans, .inc, .evr]
  | .gaugeRequestRepeat .. =>
    [.spans, .out]
  | .registerWrite .. | .pairHighWrite .. | .pairLowWrite .. =>
    [.hold, .denied, .dom, .ttu, .free] ++ recoveryParts
  | .rcCounterRead .. | .pairLowRead .. =>
    [.regs, .latch, .denied, .ent, .inc, .evr, .ttu, .free, .out]
  | .pairLatchExpire .. =>
    [.latch]
  | .registerAccessTimeout .. | .errStatClear .. =>
    [.denied] ++ recoveryParts
  | .pageEnableWrite .. | .pageSreset .. | .expEpochWrite .. | .cceDoorbell .. =>
    [.denied, .free] ++ recoveryParts
  | .errInjWrite .. =>
    [.denied, .ttu] ++ recoveryParts
  | .rootAttemptDone .. | .measureDone .. | .pairKeyDelivered .. | .keyLoadDone .. | .keyLoadWaitTimeout .. | .fmRequestSample .. | .requestAdmit ..
  | .memWritePresent .. | .memReadData .. | .memWriteAck .. | .metadataFillReturn .. | .resealFinish .. | .lrFrameEnd .. | .spanEgressAdmit ..
  | .cceDescFetched .. | .cceDescEnd .. | .l1End .. | .l2End .. | .l3End .. | .levelTimeout .. =>
    [.free] ++ recoveryParts
  | .pufOffPeriodEnd .. =>
    [.kvt]
  | .entSample .. | .entStartupSetDone .. =>
    [.regs, .epochs, .ent, .inc, .evr]
  | .drbgInstantiated .. =>
    [.regs, .epochs, .ent, .lco, .kvt, .anchor, .ctc, .coh, .engs, .ttb, .spans, .hgt, .cce, .inc, .evr, .free, .out]
  | .keygenQueueTimeout .. =>
    [.regs, .kvt, .inc, .evr]
  | .entDrbgRead .. =>
    [.regs, .denied, .ent, .inc, .evr, .free, .out]
  | .drbgReseedDue .. =>
    [.ent]
  | .drbgReseedDone .. =>
    [.regs, .ent, .free]
  | .doeDiscovery .. =>
    [.out]
  | .dlBegin .. | .dlEnd .. =>
    [.regs, .epochs, .sbx, .out]
  | .dlChunk .. =>
    [.regs, .sbx, .out]
  | .doeAbort .. =>
    [.sbx]
  | .reloadFetchDone .. =>
    [.epochs, .sbx, .out]
  | .measExtend .. | .sbxHalt .. | .sbxResume .. =>
    [.regs, .denied, .sbx, .inc, .evr, .out]
  | .measExtendDone .. =>
    [.regs, .sbx]
  | .arbTargetWrite .. | .lcGo .. | .dbgUnlock .. | .dbgClose .. | .otpProg .. | .otpRead .. | .wrcResume .. =>
    [.regs, .epochs, .denied, .lco, .inc, .evr, .out]
  | .tokenCompareDone .. =>
    [.regs, .wrc, .lco, .kvt, .anchor, .ctc, .engs, .ttb, .spans, .trs, .hgt, .cce, .inc, .evr, .att, .out]
  | .otpPulseDone .. =>
    [.regs, .epochs, .withdrawn, .wrc, .lco, .otp, .inc, .evr, .out]
  | .dbgDataRead .. =>
    [.regs, .denied, .inc, .evr, .free, .out]
  | .generate .. | .enrol .. | .joinKeygen .. | .joinRespond .. | .epochGenerate .. =>
    [.regs, .epochs, .denied, .ent, .lco, .kvt, .anchor, .ctc, .engs, .inc, .evr, .free, .out]
  | .keyExport .. | .joinDecap .. | .epochWrap .. =>
    [.regs, .epochs, .denied, .kvt, .inc, .evr, .out]
  | .keyImport .. | .unpin .. =>
    [.regs, .epochs, .denied, .kvt, .anchor, .ctc, .engs, .inc, .evr, .out]
  | .load .. =>
    [.regs, .epochs, .denied, .kvt, .anchor, .ctc, .engs, .inc, .evr, .free, .out]
  | .kvtStep .. | .joinFinish .. | .epochLoad .. =>
    [.regs, .epochs, .denied, .kvt, .inc, .evr, .free, .out]
  | .stepKtabWriteDone .. =>
    [.regs, .kvt, .imu, .inc, .evr]
  | .retire .. =>
    [.regs, .epochs, .denied, .kvt, .anchor, .ctc, .engs, .ttb, .spans, .trs, .hgt, .cce, .inc, .evr, .out]
  | .retireDrainDone .. | .ctcPartChangeDone .. =>
    [.regs, .kvt, .anchor, .ctc, .engs, .inc, .evr, .out]
  | .retireWritebackDone .. | .retireKtabWriteDone .. | .instanceDrainDone .. =>
    [.regs, .epochs, .kvt, .anchor, .ctc, .engs, .ttb, .spans, .trs, .hgt, .cce, .imu, .inc, .evr, .out]
  | .enrolComplete .. =>
    [.regs, .ent, .lco, .kvt, .anchor, .ctc, .engs, .inc, .evr, .free, .out]
  | .epochSend .. =>
    [.regs, .epochs, .denied, .kvt, .dom, .spans, .inc, .evr, .out]
  | .epochKeyErase .. =>
    [.regs, .kvt, .spans, .maps]
  | .slotRemask .. =>
    [.regs, .kvt, .free]
  | .jctGo .. | .jctRestage .. =>
    [.regs, .epochs, .denied, .jct, .inc, .evr, .out]
  | .jctCommitJudged .. =>
    [.regs, .jct, .anchor, .inc, .evr]
  | .jctCopySweep .. =>
    [.regs, .jct, .inc, .evr]
  | .jctEntryReload .. =>
    [.jct]
  | .resetListRangeDone .. =>
    [.regs, .kvt, .anchor, .ctc, .engs, .ttb, .spans, .hgt, .cce, .inc, .evr, .out]
  | .orderFlagProceed .. | .homeMreqHandover .. | .h2dRecordAccessesDone .. =>
    [.regs, .engs, .ttb, .spans, .hgt, .inc, .evr, .out]
  | .prefetchDepthAdjust .. =>
    [.regs, .ctc]
  | .prefetchOverrideEnd .. =>
    [.regs, .ctc, .inc, .evr]
  | .ctcPartWrite .. | .ctcPfWrite .. =>
    [.regs, .epochs, .denied, .ctc, .inc, .evr, .out]
  | .getsReceive .. | .getoReceive .. | .invAckReceive .. | .wbReceive .. | .writeCtReceive .. =>
    [.regs, .epochs, .cru, .kvt, .anchor, .ctc, .coh, .engs, .ttb, .spans, .hgt, .cce, .inc, .evr, .out]
  | .cohDataReceive .. | .invReceive .. | .recallReceive .. | .wbAckReceive .. | .nackReceive .. =>
    [.regs, .epochs, .cru, .coh, .spans, .inc, .evr, .out]
  | .recallAnswer .. | .nackRetry .. =>
    [.coh, .spans]
  | .wbHoldTimeout .. | .recallRepeat .. | .invRepeat .. | .peerGoneTimeout .. =>
    [.regs, .kvt, .anchor, .ctc, .coh, .engs, .ttb, .spans, .hgt, .cce, .inc, .evr, .out]
  | .responseTimeout .. =>
    [.regs, .ttb, .spans, .hgt, .inc, .evr, .out]
  | .flowCmdOpen .. | .dspStart .. | .dspStop .. =>
    [.regs, .epochs, .denied, .spans, .inc, .evr, .out]
  | .flowCmdClose .. =>
    [.regs, .epochs, .denied, .ttb, .spans, .inc, .evr, .out]
  | .flowCmdLoad .. | .dspCmdLoad .. | .incSourceWrite .. | .evrFreeze .. | .evrUnfreeze .. | .evrClear .. =>
    [.regs, .epochs, .denied, .inc, .evr, .out]
  | .creditReturnDue .. =>
    [.regs, .kvt, .spans, .out]
  | .credTmoExpire .. =>
    [.regs, .spans]
  | .dispatchRound .. =>
    [.spans]
  | .dispatchSlot .. =>
    [.regs, .kvt, .ttb, .spans, .inc, .evr, .out]
  | .dispatchLateSend .. =>
    [.regs, .kvt, .ttb, .spans, .out]
  | .trsNochunkTimeout .. =>
    [.regs, .spans, .trs, .inc, .evr]
  | .chunkTimeout .. | .chunkRowsCleared .. =>
    [.regs, .engs, .ttb, .spans, .trs, .hgt, .inc, .evr, .out]
  | .h2dDoorbell .. | .d2hDoorbell .. =>
    [.regs, .denied, .hgt, .inc, .evr, .out]
  | .hgtChOpen .. | .hgtChClose .. =>
    [.regs, .epochs, .denied, .hgt, .inc, .evr, .out]
  | .eqConsWrite .. | .incDone .. | .instDone .. | .incHoldWrite .. | .mgrmbPop .. | .evrRecordLoad .. | .evrClrDigestWrite .. =>
    [.regs, .denied, .inc, .evr, .out]
  | .msiGapEnd .. =>
    [.hgt, .out]
  | .spdmRequest .. | .spdmGetMeasurements .. =>
    [.regs, .sbx, .ent, .hgt, .att, .free, .out]
  | .spdmGetCertificate .. | .spdmEndSession .. | .pqCert .. | .sessionBind .. | .ideKmQuery .. | .ideKmKeyProg .. | .ideKmKSetGo .. | .ideKmKSetStop .. =>
    [.regs, .sbx, .hgt, .att, .out]
  | .spdmKeyExchange .. =>
    [.sbx, .ent, .att, .free, .out]
  | .sessionIdleTimeout .. =>
    [.regs, .hgt, .att]
  | .pqAttest .. =>
    [.regs, .sbx, .hgt, .att, .free, .out]
  | .channelOpen .. | .channelClose .. =>
    [.regs, .epochs, .sbx, .hgt, .att, .out]
  | .flowOpen .. =>
    [.regs, .epochs, .sbx, .spans, .hgt, .att, .free, .out]
  | .keyShare .. =>
    [.regs, .epochs, .sbx, .kvt, .anchor, .ctc, .engs, .hgt, .inc, .evr, .att, .free, .out]
  | .joinOffer .. =>
    [.regs, .epochs, .sbx, .ent, .lco, .kvt, .anchor, .ctc, .engs, .hgt, .inc, .evr, .att, .free, .out]
  | .joinAccept .. | .joinConfirmed .. =>
    [.regs, .epochs, .kvt, .inc, .evr, .att, .free, .out]
  | .joinConfirm .. =>
    [.regs, .epochs, .sbx, .kvt, .hgt, .inc, .evr, .att, .free, .out]
  | .joinEpoch .. =>
    [.regs, .epochs, .sbx, .kvt, .dom, .maps, .hgt, .inc, .evr, .att, .free, .out]
  | .joinLoaded .. | .joinSent .. =>
    [.regs, .epochs, .ent, .lco, .kvt, .dom, .anchor, .ctc, .engs, .spans, .inc, .evr, .att, .free, .out]
  | .joinSend .. =>
    [.regs, .epochs, .sbx, .kvt, .dom, .spans, .hgt, .inc, .evr, .att, .free, .out]
  | .joinPeerTimeout .. =>
    [.att, .out]
  | .poll .. =>
    [.regs, .epochs, .sbx, .ent, .lco, .kvt, .dom, .anchor, .ctc, .engs, .spans, .inc, .evr, .att, .free, .out]
  | .deliver .. | .certPut .. | .domainPlan .. =>
    [.sbx, .att, .out]
  | .domainAdd .. =>
    [.regs, .sbx, .inc, .evr, .att, .out]
  | .domainGo .. =>
    [.regs, .epochs, .sbx, .ent, .lco, .kvt, .dom, .anchor, .ctc, .engs, .spans, .maps, .inc, .evr, .att, .free, .out]
  | .cceQOpen .. | .cceQClose .. =>
    [.regs, .epochs, .denied, .cce, .inc, .evr, .out]
  | .create .. | .pasidAdd .. | .pasidDel .. | .slice .. | .scratch .. | .bind .. | .unbind .. | .instanceReset .. | .switch .. | .destroy .. | .mbStep ..
  | .ctxLose .. | .objPage .. | .objCreate .. | .objDestroy .. =>
    [.regs, .epochs, .denied, .kvt, .anchor, .ctc, .engs, .ttb, .spans, .trs, .hgt, .cce, .imu, .inc, .evr, .free, .out]
  | .scrubDone .. | .scrubTimeout .. =>
    [.regs, .epochs, .imu, .inc, .evr, .out]
  | .switchBlockScrubDone .. =>
    [.regs, .epochs, .anchor, .ctc, .engs, .trs, .imu, .inc, .evr, .out]
  | .sigGo .. | .waitArm .. =>
    [.regs, .denied, .engs, .ttb, .spans, .hgt, .imu, .inc, .evr, .out]
  | .waitCancel .. =>
    [.regs, .denied, .imu, .inc, .evr, .out]
  | .interruptDeliver .. =>
    [.regs, .epochs, .cru, .spans, .hgt, .inc, .evr, .out]
  | .evrRecordWrite .. =>
    [.regs, .inc, .evr, .out]
  | .evrSpillWriteDone .. | .evrFreezeTimeout .. =>
    [.regs, .inc, .evr]
  | .evrClearDone .. =>
    [.regs, .evr]
  | .setGo .. =>
    [.regs, .epochs, .denied, .inc, .evr, .ttu, .out]
  | .aonChangeover .. | .aonEdgeLoss .. | .aonRediscipline .. | .timeEndOfRange .. =>
    [.regs, .inc, .evr, .ttu]
  | .nowDateRead .. =>
    [.regs, .denied, .inc, .evr, .ttu, .out]
  | .nowLatchExpire .. =>
    [.ttu]
  | .pmuEnWrite .. =>
    [.regs, .epochs, .denied, .inc, .evr, .pmu, .out]
  | .pmuIntervalClose .. =>
    [.regs, .inc, .evr, .pmu, .free, .out]
  | .pmuSlotWriteDone .. =>
    [.regs, .inc, .evr, .pmu, .out]
  | .pmuRecordLoad .. =>
    [.regs, .denied, .inc, .evr, .pmu, .out]
  | .sbxKick .. =>
    [.regs, .denied, .wrc, .inc, .evr, .out]
  | .l4DrainDone .. =>
    [.regs, .exps, .epochs, .held, .withdrawn, .cru, .ports, .wrc, .sbx, .ent, .kvt, .jct, .anchor, .ctc, .coh, .engs, .incarn, .ttb, .spans, .maps, .trs,
     .hgt, .cce, .imu, .inc, .evr, .pmu, .att, .out]
  | .l4RetrainDone .. =>
    [.ports] ++ recoveryParts
  | .replayDryRunEnd .. =>
    [.regs, .wrc, .ctc, .engs, .evr, .out]
  | .meshCheck .. | .tamperAlarm .. =>
    [.regs, .tmp, .wrc, .kvt, .anchor, .ctc, .engs, .ttb, .spans, .trs, .hgt, .cce, .inc, .evr, .att, .out]
  | .zeroiseRelease .. =>
    [.tmp] ++ recoveryParts
  | .registerRead .. =>
    [.latch, .denied, .ttu, .free] ++ recoveryParts

/-- Every register word but the listed ones is as before. -/
def regsKept (offs : List Nat) (s t : State) : Prop := ∀ a, a ∉ offs → rawReg t a = rawReg s a

/-- An access that meets none of the refusals of 05 R139; a guarded write also needs the role's expected epoch to be the page's. -/
def passes (s : State) (r : Role) (off : Nat) (wr guarded : Bool) : Bool :=
  windowOpen s && reaches s r off wr && off % 4 = 0 && pageUp s (pageOf off) && !pageGated s (pageOf off)
    && !(inReset12 s (pageOf off) && (wr || 0x40 ≤ off % 0x1000)) && anyField r off
    && (!guarded || expEpoch s r (pageOf off) = epochOf s (pageOf off))

/-- The completion of a register write of a role with OK. -/
def regOk (r : Role) (off : Nat) : Out := ⟨.reg, r.key, 0, Status.ok.code, off, leBytes 4 0⟩

/-- The completion of a register write of a role with a status. -/
def regSt (r : Role) (off : Nat) (st : Status) : Out := ⟨.reg, r.key, 0, st.code, off, leBytes 4 0⟩

/-- The stored word at an offset of a pair: BASE is the selected channel's (15 R416). -/
def storedPairWord (s : State) (off : Nat) : Word :=
  if pageOf off = pgHgt && chOwn (off - pgHgt) then chReg s (chSel s) (off - pgHgt) else rawReg s off

/-- A write of KVT_CMD by a role is taken: no refusal of 05 R139, KVT in no command and not zeroised (08 R222, R223, 07 R181). -/
def kvtTakes (s : State) (r : Role) : Bool :=
  passes s r (pgKvt + 0x040) true true && !regBit s (pgKvt + 0x04C) 16 && s.kvt.cmd.isNone && !s.kvt.refuseAll && !s.kvt.zeroised

/-- Nothing waits in an engine, a line fill, at the home, in a span's ingress or in CCE for what a command could make available. -/
def idleUnits (s : State) : Prop :=
  s.engs = [] ∧ s.ctc.fills = [] ∧ s.coh.cts = [] ∧ (∀ x ∈ s.spans, x.2.rx = []) ∧ cceJobs s = []

/-- JCT refuses neither the read nor the write of a KeyID's entry under 0xFF03 (08 R208, 09 R254). -/
def ktabOpen (s : State) (k : Nat) : Bool := (serviceRefusal s (ktabAddr s k / 4096) 0xFF03 true).isNone

/-- The command that a write of KVT_CMD starts: its arguments and the first `n` bytes of XBUF (08 Table 08.8). -/
def kvtTaken (s : State) (op seq keyId n : Nat) : KCmd := ⟨op, seq, keyId, (rawReg s (pgKvt + 0x044)).toNat, 0, xbuf s n⟩

/-- What CSTAT shows at the end of a KVT command: its sequence number, its status, BUSY clear (08 Table 08.9). -/
def kvtEnded (t : State) (seq st : Nat) : Prop :=
  t.kvt.cmd = none ∧ getFld t (pgKvt + 0x04C) 7 0 = seq % 0x100 ∧ getFld t (pgKvt + 0x04C) 15 8 = st % 0x100 ∧ regBit t (pgKvt + 0x04C) 16 = false

/-- XBUF holds a byte string, as far as it reaches. -/
def xbufHolds (t : State) (b : Bytes) : Prop := ∀ i, i < 512 → 4 * i < b.length → rawReg t (pgKvt + 0x800 + 4 * i) = wordAt b i

/-- The write of a KTAB entry as it leaves on the memory path (08 R208). -/
def ktabOut (s : State) (k : Nat) (x : Kent) : Out := ⟨.memWrite, 40, k, 0, ktabAddr s k, kentBytes k x⟩

/-- The request that the fields of an FM transfer spell (03 R71), with the instance that its PASID names and that instance's generation. -/
def fmReq (op aop addr home link gmask keyId pasid ctx tag : Nat) (wdata : Bytes) (wbe : BitVec 256) (inst : Option Nat) (gen : Nat) : Req :=
  ⟨.fm, op, aop, addr * 128, home, link, gmask, keyId, pasid, ctx, tag, (wdata ++ zeros 256).take 256, (List.range 256).map (fun i => wbe.getLsbD i), inst, gen⟩

/-- An engine samples and judges what its FM port presents: the block runs, is neither held nor withdrawn, the engine is present, up, clocked, in no
recovery, its ingress register empty, no parity injection armed (10 R257). -/
def fmOpen (s : State) (e : Nat) : Bool :=
  (engAt s e).ingress.isNone && !regBit s (engPage e + 0x010) 9 && windowOpen s && (blockStatus s).isNone && !injArmed s (engPage e) 3
    && !pageAbsent s (engPage e) && pageUp s (engPage e) && !pageGated s (engPage e) && s.cru.st = .run

/-- Nothing waits at an engine's port or for one of its lines at the home that the engine would try again first (10 R257, 13 R370). -/
def quietPort (s : State) (e : Nat) : Prop :=
  (engAt s e).txq = [] ∧ s.coh.cts = [] ∧ ∀ d ∈ s.coh.dir, d.tree = e → d.queue = []

/-- An engine's memory port takes the transaction of a read or a write of a run of granules now (03 R68, R69, R76, R77). -/
def portTakes (s : State) (e : Nat) (p : TxFor) (wr : Bool) (q : Req) : Bool :=
  mayPresent s e (engAt s e).txq ⟨p, granuleOff (lineOf q) ((q.granules.map Prod.snd).headD 0), wr, 128 * q.granules.length⟩

/-- A transaction of a request's granules on the memory port (03 Table 03.3): its identifier, the mask of its 64 B units, the address of its beat. -/
def granulesOut (s : State) (e : Nat) (p : TxFor) (wr : Bool) (q : Req) (data : Bytes) : Out :=
  ⟨if wr then .memWrite else .memRead, e, firstGap (engAt s e).txs 0,
    txMask e ⟨p, granuleOff (lineOf q) ((q.granules.map Prod.snd).headD 0), wr, 128 * q.granules.length⟩,
    granuleOff (lineOf q) ((q.granules.map Prod.snd).headD 0) / beatOf e * beatOf e, data⟩

/-- A request was admitted into the first free slot of its engine with its snapshot, and waits there for its read (10 R258, 01 Table 01.4). -/
def admittedRead (s t : State) (e : Nat) (q : Req) (j : Nat) (inst : Option Nat) : Prop :=
  (engAt t e).ingress = none ∧
  (∃ a, tblFind (engAt t e).slots (firstGap (engAt s e).slots 0) = some a ∧ a.req = q ∧ a.snap.inst = inst ∧ a.snap.pasid = q.pasid ∧ a.snap.keyId = 0 ∧
    a.snap.cls = .p ∧ a.snap.jentry = j ∧ a.snap.ctx = q.ctx ∧ a.stage = .readWait) ∧
  t.out = s.out ++ [granulesOut s e (.slotRead (firstGap (engAt s e).slots 0)) false q []]

/-- A span's egress queue got items. -/
def spanQueued (s t : State) (n : Nat) (l : List TxItem) : Prop := (spanAt t n).outQ = (spanAt s n).outQ ++ l

/-- Every span but one is as it was. -/
def otherSpans (s t : State) (n : Nat) : Prop := ∀ m, m ≠ n → spanAt t m = spanAt s m

/-- A span holds a flow's key of the epoch designated for sending (11 R300, R304). -/
def holdsSendKey (s : State) (n f : Nat) : Bool :=
  match sendEpoch s n with
  | some k => (heldKey s n f false k.num).isSome
  | none => false

/-- One frame left on a flow of a span: its count advanced by one, and by `k` the count of request-class frames (11 R299, 18 R471). -/
def frameSent (s t : State) (n f k : Nat) : Prop :=
  (∃ b, t.out = s.out ++ [⟨.lt, n, f, 0, (flowAt s n f).count, b⟩]) ∧ (flowAt t n f).count = (flowAt s n f).count + 1 ∧
    (flowAt t n f).sent = (flowAt s n f).sent + k

/-- A guarded register write of a command committed: it completed with OK and its page's EPOCH advanced (05 R144). -/
def committed (s t : State) (r : Role) (off : Nat) : Prop :=
  t.out = s.out ++ [regOk r off] ∧ epochOf t (pageOf off) = (epochOf s (pageOf off) + 1) % 0x1000000

/-- What TRS answers on CT: the handle and the status of a descriptor (03 R90). -/
def ctOut (handle st : Nat) : Out := ⟨.ct, 0, 0, st, handle, leBytes 6 handle ++ [BitVec.ofNat 8 st, 0]⟩

/-- The one access that a host-initiated access within a 256 B pair makes (01 R35). -/
def hostReq (s : State) (inst : Option Nat) (wr : Bool) (addr n : Nat) (data : Bytes) : List Req :=
  (rangePairs addr n data).map (fun p =>
    ⟨.host s.hgt.nextId, b2n wr, 0, p.1, s.dom.ownId, 0, p.2.1, 0, 0, 0, 0, p.2.2.1, if wr then p.2.2.2 else List.replicate 256 false, inst,
      inst.elim 0 (instGen s)⟩)

/-- Firmware takes an object of `len` payload bytes from the DOE mailbox (15 R393). -/
def doeTakes (s : State) (len : Nat) : Bool := doeOpen s && s.sbx.boot = .running && len + 8 ≤ 16384

/-- One object was put into the DOE read mailbox: session, code, status, bytes. -/
def said (s t : State) (sid code st : Nat) (b : Bytes) : Prop := t.out = s.out ++ [⟨.doe, sid, code, st, 0, b⟩]

/-- The last thing put out is an object in the DOE read mailbox. -/
def saidLast (t : State) (sid code st : Nat) (b : Bytes) : Prop := t.out.getLast? = some ⟨.doe, sid, code, st, 0, b⟩

/-- An SPDM message is heard: outside a session, or decrypted in one that is open (15 R395). -/
def spdmHeard (s : State) (sid : Option Word) (auth : Bool) (len : Nat) : Bool :=
  doeTakes s len && (match sid with
    | some n => auth && (tblFind s.att.sessions n.toNat).isSome
    | none => true)

/-- The state after a session heard a message: the time of its last message is now (15 R395). -/
def sessionHeard (s : State) (sid : Word) (x : Session) : State :=
  setAtt s { s.att with sessions := tblPut s.att.sessions sid.toNat { x with last := now s } }

/-- A session has ended: it is gone, its pairs are closed, its instance is unbound (15 R395). -/
def sessionGone (t : State) (sid : Nat) (x : Session) : Prop :=
  tblFind t.att.sessions sid = none ∧ (∀ p ∈ t.hgt.pairs, p.2.session ≠ some sid) ∧
    (∀ i, x.inst = some i → regBit t (instPage i + 0x040) 8 = false) ∧ t.att.ide ≠ some sid

/-- The role that posts commands in a mailbox of an instance page. -/
def mbRole (i : Fin 256) (tenant : Bool) : Role := if tenant then .t i else .m

/-- A command posted in a mailbox is taken up: its GO meets no refusal, the mailbox is not busy, IMU is enabled, SBX runs, and the generation is the
instance's (17 R441, 05 R141). -/
def mbTakes (s : State) (i : Fin 256) (tenant : Bool) (gen : BitVec 8) : Bool :=
  passes s (mbRole i tenant) (mbCtrl i.val tenant) true false && !regBit s (mbCtrl i.val tenant + 4) 16 && enabled s pgImu && sbxRuns s
    && gen.toNat = instGen s i.val

/-- The state in which SBX serves a command: its request words stand in the mailbox, GO completed, BUSY is set (17 R441). -/
def mbPosted (s : State) (i : Fin 256) (tenant : Bool) (cmd gen : Nat) (ws : Bytes) : State :=
  setRegBit (regDone (putWords s (instPage i.val + (if tenant then 0x080 else 0x140)) (leBytes 4 (cmd + 256 * gen) ++ ws ++ zeros (60 - ws.length)))
    (mbRole i tenant) (mbCtrl i.val tenant) .ok 0) (mbCtrl i.val tenant + 4) 16 true

/-- A mailbox command has ended: its status word holds its sequence number and status with BUSY clear, and nothing of it waits (17 R441). -/
def mbEnded (t : State) (i : Fin 256) (tenant : Bool) (seq : BitVec 8) (st : Nat) : Prop :=
  rawReg t (mbCtrl i.val tenant + 4) = BitVec.ofNat 32 (seq.toNat + st % 0x100 * 0x100) ∧
    (if tenant then (instRec t i.val).tWait else (instRec t i.val).mWait) = none

/-- PORST_N's reset: CRU, every register, epoch and KVT at their reset values, OTP kept where no programming pulse was under way (04 R107, Table 04.4, 07 R183). -/
def resetByPorst (s t : State) : Prop :=
  t.cru = Cru.reset ∧ t.regs = [] ∧ t.epochs = [] ∧ t.epochAll = 0 ∧ t.held = true ∧ t.kvt = Kvt.reset ∧ t.out = s.out ∧
    { t.lco with otp := [] } = { Lco.reset with otp := [] } ∧ (s.lco.op = none → t.lco.otp = s.lco.otp)

/-- RESET, SWITCH or DESTROY has begun: the instance's state, its generation one on, no PASID left, the command waiting (17 R450, R461). -/
def seqBegun (s t : State) (i : Fin 256) (cmd : Nat) (seq : BitVec 8) (st : InstSt) : Prop :=
  (instRec t i.val).st = st ∧ (∃ q, (instRec t i.val).seq = some q ∧ q.cmd = cmd ∧ q.seq = seq.toNat ∧ q.drained = false) ∧
    (instRec t i.val).mWait = some ⟨cmd, seq.toNat, 0, .unwritten⟩ ∧ instGen t i.val = (instGen s i.val + 1) % 256 ∧ ∀ p ∈ t.imu.pasids, p.2 ≠ i.val

/-- An access of IMU went to the engine of its page (17 R457 to R459). -/
def imuSent (s t : State) (e : Nat) (q : Req) : Prop := (engAt t e).remoteQ = (engAt s e).remoteQ ++ [q]

/-- The engine of a page takes IMU's next access at once: none waits before it, and the engine is in service with room (12 R337). -/
def imuRoom (s : State) (pg e : Nat) : Bool :=
  s.imu.todo = [] && engineOfPage pg = some e && !engineOut s e && (engAt s e).remoteQ.length < 32

/-- The state that INTERRUPT_DELIVER takes for a target: a pending one that comes before every other pending one of it (20 R511). -/
def nextAct (s : State) (target : Nat) (a : Act) : Prop :=
  a ∈ s.inc.acts ∧ a.delivered = false ∧ actTarget s a = target ∧
    ∀ b ∈ s.inc.acts, b.delivered = false → actTarget s b = target → b = a ∨ actBefore a b = true

/-- The states of a source and instance are delivered, and DELIVERED counts it (20 R511, Table 20.6). -/
def actDelivered (s t : State) (a : Act) : Prop :=
  t.inc.acts = s.inc.acts.map (fun b => if b.src = a.src ∧ b.inst = a.inst then { b with delivered := true } else b) ∧
    getFld t (pgInc + 0x088) 31 0 = min 0xFFFFFFFF (getFld s (pgInc + 0x088) 31 0 + 1)

/-- The state of a source that a completion by a role names: delivered, and the role's to complete (20 R513, Table 20.2). -/
def completes (s : State) (r : Role) (src : Nat) (inst : Option Nat) (a : Act) : Prop :=
  a ∈ s.inc.acts ∧ a.src = src ∧ a.inst = inst ∧ a.delivered = true ∧ mayComplete r (actTarget s a) = true

/-- The level of a source, 0 for a pulse source (20 R508). -/
def srcLevel (s : State) (src : Nat) : Bool :=
  match sourcePage src with
  | some pg => errLevel s pg
  | none => false

/-- EVR wrote one record: its number, its place in the ring, the chain, and the spill write where it completes a block (20 R519, R521). -/
def recWritten (s t : State) (r : Rec) : Prop :=
  t.evr.nextSeq = s.evr.nextSeq + 1 ∧ t.evr.head = Config.sha384 (s.evr.head ++ recBytes ⟨r, s.evr.nextSeq % 2 ^ 32, [0, 0]⟩) ∧
    tblFind t.evr.ring (s.evr.nextSeq % 65536) = some ⟨r, s.evr.nextSeq % 2 ^ 32, (t.evr.head.take 2 ++ zeros 2).take 2⟩ ∧
    (∀ k, k ≠ s.evr.nextSeq % 65536 → tblFind t.evr.ring k = tblFind s.evr.ring k) ∧
    t.evr.spilling = s.evr.spilling ++ (if s.evr.nextSeq % 128 = 127 && regBit s (pgEvr + 0x100) 31 then [s.evr.nextSeq / 128] else [])

/-- EVR was cleared: the CLEARED record is the one record left in the ring, OLDEST is its number, CLEARING is set (20 R524). -/
def evrCleared (s t : State) : Prop :=
  t.evr.nextSeq = s.evr.nextSeq + 1 ∧ t.evr.oldest = s.evr.nextSeq ∧ t.evr.cleared = s.evr.nextSeq ∧ t.evr.clearing = true ∧
    regBit t (pgEvr + 0x040) 1 = true ∧ (∀ e ∈ t.evr.ring, e.1 = s.evr.nextSeq % 65536) ∧
    ∃ w, tblFind t.evr.ring (s.evr.nextSeq % 65536) = some w ∧ w.body.code = rcCleared.code ∧ w.body.p1 = BitVec.ofNat 32 s.evr.oldest

/-- What a role's record read loads, and its status (20 R522): `d` records back from the next one. -/
def recLoaded (s : State) (n : Nat) (rd : KtabRead) : Bytes × Nat :=
  let d := (2 ^ 32 + s.evr.nextSeq - n) % 2 ^ 32
  if d = 0 ∨ s.evr.nextSeq < d then (zeros 32, Status.notReady.code)
  else if s.evr.nextSeq - d < s.evr.oldest then (zeros 32, Status.denied.code)
  else if d ≤ 65536 then ((tblFind s.evr.ring ((s.evr.nextSeq - d) % 65536)).elim (zeros 32) recBytes, 0)
  else match rd with
    | .entry b => (b, 0)
    | .unwritten => (zeros 32, Status.unwritten.code)
    | .fail st => (zeros 32, st.code)

/-- An L4 began, with `failed` failed ones before it, or, where 19 R501 says so, the block is WITHDRAWN in its place. -/
def l4Begun (s t : State) (failed : Nat) (counted : Bool) : Prop :=
  if counted = true ∧ (getFld s (pgWrc + 0x044) 3 0 ≤ startsInWindow s + 1 ∨ failed = 3) then
    t.withdrawn = true ∧ t.wrc.withdrawnAgain = true ∧ t.wrc.l4 = none ∧ t.wrc.running = []
  else t.wrc.l4 = some ⟨2, now s⟩ ∧ t.wrc.failedL4 = failed ∧ t.wrc.running = [] ∧ t.wrc.l3wait = [] ∧ t.wrc.replays = [] ∧ t.withdrawn = s.withdrawn ∧
    (∀ p ∈ switchedPages, regBit t (p + 0x010) 9 = true)

/-- A trigger was discarded: it is counted and starts nothing (19 R491, R502). -/
def triggerDropped (s t : State) : Prop :=
  t.wrc = s.wrc ∧ getFld t (pgWrc + 0x074) 31 16 = min 0xFFFF (getFld s (pgWrc + 0x074) 31 16 + 1)

/-- A trigger of a level for a page is taken at that level: not withdrawn, no L4, no escalation, no recovery that covers the page (19 R483, R491). -/
def mayStart (s : State) (level pg : Nat) : Prop :=
  s.withdrawn = false ∧ s.wrc.l4 = none ∧ escalate s pg level = level ∧ coveredAt s pg level = false

/-- A recovery of a level of a page is in progress, and the page shows it (19 R490, 05 R138). -/
def recovers (t : State) (level pg : Nat) (replay : Bool) : Prop :=
  (∃ q ∈ t.wrc.running, q.level = level ∧ page q.unit q.inst = pg ∧ q.replay = replay) ∧ regBit t (pg + 0x010) 9 = true

/-- The zeroise line is asserted for conditions: KVT is zeroised, the causes are latched, a freeze and an L4 in progress have ended (19 R496, 20 R523). -/
def alarmed (s t : State) (bits : BitVec 6) : Prop :=
  t.tmp.present = s.tmp.present ||| bits ∧ t.kvt.zeroised = true ∧ regBit t (pgTmp + 0x040) 0 = true ∧ getFld t (pgTmp + 0x040) 7 2 = bits.toNat ∧
    t.evr.frozen = none ∧ t.wrc.l4 = none ∧ t.wrc.failedL4 = (if s.wrc.l4.isSome then min 3 (s.wrc.failedL4 + 1) else s.wrc.failedL4)

/-- What source 0x84 does for a record that EVR writes, and the place the ring keeps the record in (20 R526, R509, Table 20.1). -/
def raises84 (s t : State) (x : Rec) : Prop :=
  (∃ w, tblFind t.evr.ring (s.evr.nextSeq % 65536) = some w ∧ w.body = x) ∧
  (x.sev < getFld s (pgEvr + 0x108) 3 0 → t.inc = s.inc) ∧
  (enabled s pgInc = false → t.inc = s.inc) ∧
  (getFld s (pgEvr + 0x108) 3 0 ≤ x.sev → domUp s 12 = true → enabled s pgInc = true → regBit s (srcReg 0x84) 2 = true →
    ((∀ a ∈ s.inc.acts, a.src ≠ 0x84) →
      ∃ a, t.inc.acts = s.inc.acts ++ [a] ∧ a.src = 0x84 ∧ a.inst = none ∧ a.delivered = false ∧ a.status = 0 ∧
        a.p1 = BitVec.ofNat 32 (x.code + x.sev * 0x10000) ∧ a.p2 = BitVec.ofNat 32 (s.evr.nextSeq % 2 ^ 32) ∧
        a.p3 = BitVec.ofNat 32 (x.unit + x.uinst * 0x100)) ∧
    ((∃ a ∈ s.inc.acts, a.src = 0x84 ∧ a.inst = none) →
      t.inc.acts = s.inc.acts ∧ regBit t (srcReg 0x84) 10 = true ∧
        getFld t (pgInc + 0x084) 31 0 = min 0xFFFFFFFF (getFld s (pgInc + 0x084) 31 0 + 1)))

/-- One access to the register window. -/
structure RegAcc where
  role : Role
  off : Nat
  wr : Bool
  guarded : Bool
deriving DecidableEq, Repr

/-- The access of a command that is a 32-bit register access of its own row (05 R131 to R139). -/
def accessOf : Instr → Option RegAcc
  | .sscCtrlWrite r _ => some ⟨r, pgCru + 0x040, true, false⟩
  | .sleepEnter r => some ⟨r, pgCru + 0x064, true, false⟩
  | .sleepExit r => some ⟨r, pgCru + 0x064, true, false⟩
  | .clkEnWrite r n _ => some ⟨r, pgCru + 0x048 + 4 * n.val, true, false⟩
  | .pwrCtrlWrite r _ => some ⟨r, pgCru + 0x05C, true, false⟩
  | .rcCounterRead r off => some ⟨r, off.toNat, false, false⟩
  | .pairLowRead r off => some ⟨r, off.toNat, false, false⟩
  | .pageEnableWrite r pg _ => some ⟨r, pgBase pg + 0x00C, true, false⟩
  | .pageSreset r pg _ => some ⟨r, pgBase pg + 0x00C, true, false⟩
  | .expEpochWrite r pg _ => some ⟨r, pgBase pg + 0x00C, true, false⟩
  | .errStatClear r pg _ _ => some ⟨r, pgBase pg + 0x018, true, false⟩
  | .errInjWrite r pg _ => some ⟨r, pgBase pg + 0x020, true, false⟩
  | .entDrbgRead r => some ⟨r, pgEnt + 0x040, false, false⟩
  | .measExtend r _ => some ⟨r, pgSbx + 0x050, true, false⟩
  | .arbTargetWrite r _ => some ⟨r, pgLco + 0x0C4, true, true⟩
  | .otpProg r => some ⟨r, pgLco + 0x074, true, true⟩
  | .otpRead r => some ⟨r, pgLco + 0x074, true, false⟩
  | .dbgDataRead r => some ⟨r, pgLco + 0x088, false, false⟩
  | .sbxHalt r => some ⟨r, pgSbx + 0x0C0, true, false⟩
  | .sbxResume r => some ⟨r, pgSbx + 0x0C0, true, false⟩
  | .generate r _ _ _ _ => some ⟨r, pgKvt + 0x040, true, true⟩
  | .keyExport r _ _ _ => some ⟨r, pgKvt + 0x040, true, true⟩
  | .keyImport r _ _ _ => some ⟨r, pgKvt + 0x040, true, true⟩
  | .load r _ _ => some ⟨r, pgKvt + 0x040, true, true⟩
  | .unpin r _ _ => some ⟨r, pgKvt + 0x040, true, true⟩
  | .kvtStep r _ _ _ => some ⟨r, pgKvt + 0x040, true, true⟩
  | .retire r _ _ => some ⟨r, pgKvt + 0x040, true, true⟩
  | .enrol r _ => some ⟨r, pgKvt + 0x040, true, true⟩
  | .joinKeygen r _ => some ⟨r, pgKvt + 0x040, true, true⟩
  | .joinRespond r _ => some ⟨r, pgKvt + 0x040, true, true⟩
  | .joinDecap r _ => some ⟨r, pgKvt + 0x040, true, true⟩
  | .joinFinish r _ => some ⟨r, pgKvt + 0x040, true, true⟩
  | .epochGenerate r _ => some ⟨r, pgKvt + 0x040, true, true⟩
  | .epochWrap r _ => some ⟨r, pgKvt + 0x040, true, true⟩
  | .epochLoad r _ => some ⟨r, pgKvt + 0x040, true, true⟩
  | .epochSend r _ => some ⟨r, pgKvt + 0x040, true, true⟩
  | .jctGo r _ => some ⟨r, pgJct + 0x060, true, true⟩
  | .ctcPartWrite r _ => some ⟨r, pgCtc + 0x040, true, true⟩
  | .ctcPfWrite r _ => some ⟨r, pgCtc + 0x044, true, true⟩
  | .flowCmdOpen r n => some ⟨r, pgVdt n.val + 0x088, true, true⟩
  | .flowCmdClose r n => some ⟨r, pgVdt n.val + 0x088, true, true⟩
  | .flowCmdLoad r n => some ⟨r, pgVdt n.val + 0x088, true, true⟩
  | .dspStart r n => some ⟨r, pgVdt n.val + 0x10C, true, true⟩
  | .dspStop r n => some ⟨r, pgVdt n.val + 0x10C, true, true⟩
  | .dspCmdLoad r n => some ⟨r, pgVdt n.val + 0x10C, true, true⟩
  | .h2dDoorbell r p _ => some ⟨r, pgHgt + 0x200 + 8 * p.val, true, false⟩
  | .d2hDoorbell r p _ => some ⟨r, pgHgt + 0x200 + 8 * p.val + 4, true, false⟩
  | .hgtChOpen r => some ⟨r, pgHgt + 0x05C, true, true⟩
  | .hgtChClose r => some ⟨r, pgHgt + 0x05C, true, true⟩
  | .eqConsWrite r _ => some ⟨r, pgHgt + 0x0AC, true, false⟩
  | .cceQOpen r => some ⟨r, pgCce + 0x054, true, true⟩
  | .cceQClose r => some ⟨r, pgCce + 0x054, true, true⟩
  | .incDone r _ => some ⟨r, pgInc + 0x044, true, false⟩
  | .instDone r i _ => some ⟨r, instPage i.val + 0x304, true, false⟩
  | .incHoldWrite r _ => some ⟨r, pgInc + 0x040, true, false⟩
  | .mgrmbPop r => some ⟨r, pgInc + 0x050, true, false⟩
  | .sigGo r i => some ⟨r, instPage i.val + 0x230, true, false⟩
  | .waitArm r i => some ⟨r, instPage i.val + 0x214, true, false⟩
  | .waitCancel r i => some ⟨r, instPage i.val + 0x214, true, false⟩
  | .evrFreeze r => some ⟨r, pgEvr + 0x04C, true, true⟩
  | .evrUnfreeze r => some ⟨r, pgEvr + 0x04C, true, true⟩
  | .evrClear r => some ⟨r, pgEvr + 0x04C, true, true⟩
  | .evrClrDigestWrite r k _ => some ⟨r, pgEvr + 0x0A0 + 4 * k.val, true, false⟩
  | .setGo r => some ⟨r, pgTtu + 0x06C, true, true⟩
  | .nowDateRead r => some ⟨r, pgTtu + 0x044, false, false⟩
  | .pmuEnWrite r _ => some ⟨r, pgPmu + 0x040, true, true⟩
  | .pmuRecordLoad r _ _ => some ⟨r, pgPmu + 0x05C, true, false⟩
  | .sbxKick r _ => some ⟨r, pgWrc + 0x058, true, false⟩
  | .wrcResume r _ => some ⟨r, pgWrc + 0x05C, true, true⟩
  | _ => none

end Sys2Proof.Machine
end

