-- ==== Sys2Proof/Certificates/Slice0/Obligations.lean ====
section
/-!
DEFINITION. The statements for the provers.
-/
open Sys2Proof Sys2Proof.Machine

/-- For every state and command c: a step of the state with c at the front of its queue answers what exec answers for c on the state with the queue's
rest. A step on an empty queue is one cycle of CK_REF (the model's choice, log entry 4). (functional, derived; 01_block_architecture.md) -/
def Obligations.StepTakesTheFrontCommand : Prop :=
  (∀ (c : Instr) (rest : List Instr) (s : State), step { s with pending := c :: rest } = exec c { s with pending := rest }) ∧
  (∀ s : State, s.pending = [] → step s = .next (tick s))

/-- For every command and every state: exec answers a next state, and every part of the state that the command's row of touches does not list is as it
was in it. The queue is in no list, and the OTP array is only in those of PORST_N_ASSERT, SUPPLY_LOSS and OTP_PULSE_DONE. (functional, derived;
01_block_architecture.md, 05_register_model.md, 19_faults_and_recovery.md) -/
def Obligations.FrameOfEveryCommand : Prop :=
  (∀ (c : Instr) (s : State), ∃ t, exec c s = .next t ∧ keeps (touches c) s t) ∧
  (∀ c : Instr, Part.pending ∉ touches c) ∧
  (∀ c : Instr, Part.otp ∈ touches c → c = .porstNAssert ∨ c = .supplyLoss ∨ ∃ ok, c = .otpPulseDone ok)

/-- For every state and every step that answers a next state: a bit of an OTP word that is 1 before the step is 1 after it. (invariant, derived;
07_lifecycle_and_debug.md) -/
def Obligations.OtpBitsStayProgrammed : Prop :=
  ∀ s t : State, step s = .next t → otpKept s t

/-- The register file, the OTP array and the epoch file of the reset state list nothing twice and nothing at its default. (invariant, derived;
22_register_reference.md) -/
def Obligations.ResetIsWellFormed : Prop :=
  State.reset.wf = true

/-- For every command that is one register access, in every state whose register window is not reachable: exec answers the state as it was. (functional,
derived; 04_clocks_resets_power.md, 03_ports_and_integration.md) -/
def Obligations.ClosedWindowTakesNoAccess : Prop :=
  ∀ (c : Instr) (a : RegAcc) (s : State), accessOf c = some a → windowOpen s = false → exec c s = .next s

/-- For every command that is one register access of a role M, T, F or D at an unmapped offset or a page outside the role's reach: it completes with DENIED
and zero data, no register of any page outside the recorder's and the interrupt controller's changes, and no part of the state changes but the
recorder, the interrupt controller, their registers, the refusals kept per role and the outputs (05 R131, R133). One of a function that names no
role completes with DENIED and zero data and changes nothing (03 R86). (functional, derived; 05_register_model.md, 03_ports_and_integration.md) -/
def Obligations.UnreachedAccessIsDenied : Prop :=
  (∀ (c : Instr) (a : RegAcc) (s : State), accessOf c = some a → a.role.kind ≠ .x → windowOpen s = true → reaches s a.role a.off a.wr = false →
    ∃ t, exec c s = .next t ∧ t.out = s.out ++ [⟨.reg, a.role.key, 0, Status.denied.code, a.off, leBytes 4 0⟩] ∧
      keeps [.regs, .denied, .inc, .evr, .out] s t ∧ ∀ off, pageOf off ≠ pgEvr → pageOf off ≠ pgInc → rawReg t off = rawReg s off) ∧
  (∀ (c : Instr) (a : RegAcc) (s : State), accessOf c = some a → a.role.kind = .x → windowOpen s = true →
    exec c s = .next { s with out := s.out ++ [⟨.reg, a.role.key, 0, Status.denied.code, a.off, leBytes 4 0⟩] })

/-- For every command that is one aligned register access within reach of a page whose unit is unpowered, gated or declared absent: it completes with OK
and zero data, GATED_HITS of CRU counts it, saturating, and nothing else changes. One of a page that is up, clocked and in an L1 or L2 reset, a
write or a read beyond the header, completes with RETRY and zero data, and nothing else changes. (functional, derived; 04_clocks_resets_power.md,
05_register_model.md) -/
def Obligations.GatedAndResettingPages : Prop :=
  (∀ (c : Instr) (a : RegAcc) (s : State), accessOf c = some a → windowOpen s = true → reaches s a.role a.off a.wr = true → a.off % 4 = 0 →
    (pageUp s (pageOf a.off) = false ∨ pageGated s (pageOf a.off) = true) →
    ∃ t, exec c s = .next t ∧ t.out = s.out ++ [⟨.reg, a.role.key, 0, Status.ok.code, a.off, leBytes 4 0⟩] ∧
      getFld t (pgCru + 0x058) 31 0 = min (2 ^ 32 - 1) (getFld s (pgCru + 0x058) 31 0 + 1) ∧
      keeps [.regs, .out] s t ∧ regsKept [pgCru + 0x058] s t) ∧
  (∀ (c : Instr) (a : RegAcc) (s : State), accessOf c = some a → windowOpen s = true → reaches s a.role a.off a.wr = true → a.off % 4 = 0 →
    pageUp s (pageOf a.off) = true → pageGated s (pageOf a.off) = false → inReset12 s (pageOf a.off) = true →
    (a.wr = true ∨ 0x40 ≤ a.off % 0x1000) →
    exec c s = .next { s with out := s.out ++ [⟨.reg, a.role.key, 0, Status.retry.code, a.off, leBytes 4 0⟩] })

/-- At an offset where no table places a register, no field lists any role. A read or write of it, in an open window, completes with the first of:
DENIED beyond the role's reach or where it is not aligned, OK on a gated or unpowered page, RETRY in a reset; otherwise with DENIED and zero data,
and ROLE_DENIED of the page counts it, saturating, and nothing else changes. The same count and status answer every command that is one access of a
register whose fields do not list the role. (functional, stated; R548) -/
def Obligations.OffsetsWithoutARegister : Prop :=
  (∀ (r : Role) (off : BitVec 23) (wr : Bool) (v : Word) (kt : KtabRead) (wst : Status) (c : Instr) (s : State), regAt off.toNat = none →
    c = (if wr then .registerWrite r off 4 v kt wst false false else .registerRead r off 4 false) → windowOpen s = true →
    anyField r off.toNat = false ∧
    (let pg := pageOf off.toNat
     let early : Option Status := if reaches s r off.toNat wr = false ∨ off.toNat % 4 ≠ 0 then some .denied
       else if pageUp s pg = false ∨ pageGated s pg = true then some .ok
       else if inReset12 s pg = true ∧ (wr = true ∨ 0x40 ≤ off.toNat % 0x1000) then some .retry else none
     (∀ x, early = some x → ∃ t, exec c s = .next t ∧ t.out = s.out ++ [⟨.reg, r.key, 0, x.code, off.toNat, leBytes 4 0⟩]) ∧
     (early = none → ∃ t, exec c s = .next t ∧ t.out = s.out ++ [⟨.reg, r.key, 0, Status.denied.code, off.toNat, leBytes 4 0⟩] ∧
       getFld t (pg + 0x024) 31 24 = min 255 (getFld s (pg + 0x024) 31 24 + 1) ∧ keeps [.regs, .out] s t ∧ regsKept [pg + 0x024] s t))) ∧
  (∀ (c : Instr) (a : RegAcc) (s : State), accessOf c = some a → windowOpen s = true → reaches s a.role a.off a.wr = true → a.off % 4 = 0 →
    pageUp s (pageOf a.off) = true → pageGated s (pageOf a.off) = false → inReset12 s (pageOf a.off) = false → anyField a.role a.off = false →
    ∃ t, exec c s = .next t ∧ t.out = s.out ++ [⟨.reg, a.role.key, 0, Status.denied.code, a.off, leBytes 4 0⟩] ∧
      getFld t (pageOf a.off + 0x024) 31 24 = min 255 (getFld s (pageOf a.off + 0x024) 31 24 + 1) ∧
      keeps [.regs, .out] s t ∧ regsKept [pageOf a.off + 0x024] s t)

/-- For every command that is one guarded register write of a live page whose register lists the role, where the role's EXP_EPOCH differs from the
page's EPOCH: it completes with EPOCH_STALE, ERR_COUNT.STALE of the page counts it, saturating, no other register outside the pages of the recorder and
the interrupt controller changes, and no part of the state changes but the recorder, the interrupt controller, the registers and the outputs (05 R147).
(functional, derived; 05_register_model.md) -/
def Obligations.StaleGuardedWriteIsRefused : Prop :=
  ∀ (c : Instr) (a : RegAcc) (s : State), accessOf c = some a → a.guarded = true → passes s a.role a.off a.wr false = true →
    expEpoch s a.role (pageOf a.off) ≠ epochOf s (pageOf a.off) → pageOf a.off ≠ pgEvr →
    ∃ t, exec c s = .next t ∧ t.out = s.out ++ [⟨.reg, a.role.key, 0, Status.epochStale.code, a.off, leBytes 4 0⟩] ∧
      getFld t (pageOf a.off + 0x024) 23 16 = min 255 (getFld s (pageOf a.off + 0x024) 23 16 + 1) ∧
      keeps [.regs, .inc, .evr, .out] s t ∧ ∀ off, pageOf off ≠ pgEvr → pageOf off ≠ pgInc → off ≠ pageOf a.off + 0x024 → rawReg t off = rawReg s off

/-- PORST_N_ASSERT and SUPPLY_LOSS put CRU, every register, KVT and the life cycle's latches in their reset state and keep OTP where no programming
pulse was under way. PORST_N_RELEASE enters PLL_WAIT, PLL_LOCK_RISE enters PLL_COUNT with PLL_LOCKED, LC_DECODE decodes the majority of the three
life-cycle copies, AON_STABLE_COUNT_DONE sets AON_STABLE. CRU's epoch advances with each change of state. (functional, derived;
04_clocks_resets_power.md, 07_lifecycle_and_debug.md) -/
def Obligations.PowerOnResetCommands : Prop :=
  (∀ s : State,
    (∃ t, exec .porstNAssert s = .next t ∧ resetByPorst s t) ∧
    (∃ t, exec .supplyLoss s = .next t ∧ resetByPorst s t)) ∧
  (∀ s : State, s.cru.porst = true → s.cru.st = .reset →
    ∃ t, exec .porstNRelease s = .next t ∧ t.cru.st = .pllWait ∧ t.cru.porst = false ∧ epochOf t pgCru = (epochOf s pgCru + 1) % 0x1000000 ∧
      keeps [.cru, .epochs] s t) ∧
  (∀ s : State, s.cru.st = .pllWait → s.cru.pllHold = false →
    ∃ t, exec .pllLockRise s = .next t ∧ t.cru.st = .pllCount ∧ regBit t (pgCru + 0x044) 0 = true ∧ keeps [.cru, .epochs, .regs] s t ∧
      regsKept [pgCru + 0x044] s t) ∧
  (∀ s : State, s.cru.porst = false → s.lco.decoded = false →
    ∃ t, exec .lcDecode s = .next t ∧ t.lco.decoded = true ∧ t.lco.lc = decodeCopies (otpWord s 0) (otpWord s 1) (otpWord s 2) ∧ t.lco.otp = s.lco.otp) ∧
  (∀ s : State, s.cru.porst = false →
    ∃ t, exec .aonStableCountDone s = .next t ∧ regBit t (pgCru + 0x044) 2 = true ∧ keeps [.regs] s t ∧ regsKept [pgCru + 0x044] s t)

/-- PLL_STABILITY_COUNT_DONE in PLL_COUNT, with the life cycle decoded, sets ROOT_STABLE, hands CRU's buffered events on, and either asserts PSW_EN of the
first domain of the power order that needs power, in POWER_SEQ, or, where none does, enters RUN (04 R103, R105, R107, R112). PLL_LOCK_FALL in
PLL_COUNT goes back to PLL_WAIT with PLL_LOCKED 0 and CRU's epoch advanced; RELOCKS stays, which is the model's choice (log entry 119). In a later
state it enters PLL_WAIT with PLL_LOCKED and ROOT_STABLE 0, counts in RELOCKS, sets PLL_LOCK_LOST, and the tamper alarm zeroises KVT (04 R106).
PLL_LOCK_TIMEOUT in PLL_WAIT holds the PLL in reset, counts the attempt in RELOCKS and stays in PLL_WAIT (04 R104). PLL_RESET_HOLD_END ends
the hold and changes nothing else (04 R104). (functional, derived; 04_clocks_resets_power.md, 19_faults_and_recovery.md) -/
def Obligations.PllSupervision : Prop :=
  (∀ s : State, s.cru.st = .pllCount → s.lco.decoded = true →
    ∃ t, exec .pllStabilityCountDone s = .next t ∧ regBit t (pgCru + 0x044) 1 = true ∧ t.cru.events = [] ∧
      (match powerOrder.find? (needsPower s) with
        | some d => t.cru.st = .powerSeq ∧ domSt t d = .waitAck ∧ t.cru.pswEn.getLsbD d = true
        | none => t.cru.st = .run) ∧ keeps (touches .pllStabilityCountDone) s t) ∧
  (∀ s : State, s.cru.st = .pllCount →
    ∃ t, exec .pllLockFall s = .next t ∧ t.cru.st = .pllWait ∧ epochOf t pgCru = (epochOf s pgCru + 1) % 0x1000000 ∧
      regBit t (pgCru + 0x044) 0 = false ∧ getFld t (pgCru + 0x044) 15 8 = getFld s (pgCru + 0x044) 15 8 ∧ keeps [.cru, .epochs, .regs] s t ∧
      regsKept [pgCru + 0x044] s t) ∧
  (∀ s : State, s.cru.st ≠ .reset → s.cru.st ≠ .pllWait → s.cru.st ≠ .pllCount →
    ∃ t, exec .pllLockFall s = .next t ∧ t.cru.st = .pllWait ∧ t.cru.pllHold = false ∧ getFld t (pgCru + 0x044) 1 0 = 0 ∧
      getFld t (pgCru + 0x044) 15 8 = min 255 (getFld s (pgCru + 0x044) 15 8 + 1) ∧ regBit t (pgCru + 0x018) 3 = true ∧
      regBit t (pgTmp + 0x040) 0 = true ∧ t.kvt.zeroised = true ∧ keeps (touches .pllLockFall) s t) ∧
  (∀ s : State, s.cru.st = .pllWait → s.cru.pllHold = false →
    ∃ t, exec .pllLockTimeout s = .next t ∧ t.cru.pllHold = true ∧ t.cru.st = .pllWait ∧
      getFld t (pgCru + 0x044) 15 8 = min 255 (getFld s (pgCru + 0x044) 15 8 + 1) ∧ keeps [.regs, .cru, .inc, .evr] s t) ∧
  (∀ s : State, ∃ t, exec .pllResetHoldEnd s = .next t ∧ t.cru = { s.cru with pllHold := false } ∧ keeps [.cru] s t)

/-- The acknowledge moves a domain from waiting for PSW_ACK to waiting for isolation, or from the switch-off to off: held off in an L3, powered on again
where it is one of the manager's two and its bit was set meanwhile (04 R112, R114, R115). While PSW_TIMEOUT is armed the acknowledge does what the
time-out does (05 R151). The time-out sets PSW_TIMEOUT and leaves a domain that was to be powered failed, and at power-up one of KVT, SBX and
MISC dead until PORST_N (04 R113). Isolation release moves a domain to waiting for reset and shows it in PSW_STAT; reset release puts it on; drained moves
it to write-back; the write-back's end waits for the acknowledge with PSW_EN off; the end of the held-off time asserts PSW_EN again (04 R112, R114,
19 Table 19.4). (functional, derived; 04_clocks_resets_power.md, 05_register_model.md, 19_faults_and_recovery.md) -/
def Obligations.DomainSwitching : Prop :=
  (∀ (d : Fin 13) (s : State), injArmed s pgCru 2 = false → domSt s d = .waitAck →
    ∃ t, exec (.pswAckReceived d) s = .next t ∧ domSt t d = .waitIso ∧ (∀ e, e ≠ d.val → domSt t e = domSt s e) ∧ keeps [.cru] s t) ∧
  (∀ (d : Fin 13) (s : State), injArmed s pgCru 2 = false → domSt s d = .offAck →
    ∃ t, exec (.pswAckReceived d) s = .next t ∧
      domSt t d = (if l3Runs s d then .heldOff
        else if (d.val = 6 ∨ d.val = 10) ∧ regBit s (pgCru + 0x05C) d = true ∧ domPresent s d = true ∧ s.wrc.l4 = none then .waitAck else .off) ∧
      (∀ e, e ≠ d.val → domSt t e = domSt s e) ∧ keeps [.cru] s t) ∧
  (∀ (d : Fin 13) (s : State), injArmed s pgCru 2 = true → domSt s d = .waitAck ∨ domSt s d = .offAck →
    ∃ t, exec (.pswAckReceived d) s = .next t ∧ exec (.pswAckTimeout d) s = .next t ∧ regBit t (pgCru + 0x018) 2 = true) ∧
  (∀ (d : Fin 13) (s : State), domSt s d = .offAck →
    ∃ t, exec (.pswAckTimeout d) s = .next t ∧ domSt t d = .offAck ∧ regBit t (pgCru + 0x018) 2 = true ∧ keeps [.regs, .cru, .inc, .evr] s t) ∧
  (∀ (d : Fin 13) (s : State), domSt s d = .waitAck →
    ∃ t, exec (.pswAckTimeout d) s = .next t ∧ domSt t d = .failed ∧ regBit t (pgCru + 0x018) 2 = true ∧
      (s.cru.st = .powerSeq → d.val = 0 ∨ d.val = 1 ∨ d.val = 12 → t.cru.dead.contains d.val = true) ∧ keeps (touches (.pswAckTimeout d)) s t) ∧
  (∀ (d : Fin 13) (s : State), domSt s d = .waitIso →
    ∃ t, exec (.domainIsolationRelease d) s = .next t ∧ domSt t d = .waitReset ∧ regBit t (pgCru + 0x060) d = true ∧ keeps [.regs, .cru] s t ∧
      regsKept [pgCru + 0x060] s t) ∧
  (∀ (d : Fin 13) (s : State), domSt s d = .waitReset →
    ∃ t, exec (.domainResetRelease d) s = .next t ∧ domSt t d = .on ∧ keeps (touches (.domainResetRelease d)) s t) ∧
  (∀ (d : Fin 13) (s : State), domSt s d = .draining →
    ∃ t, exec (.domainOffDrained d) s = .next t ∧ domSt t d = .writeback ∧ keeps (touches (.domainOffDrained d)) s t) ∧
  (∀ (d : Fin 13) (s : State), domSt s d = .writeback →
    ∃ t, exec (.domainOffWritebackDone d) s = .next t ∧ domSt t d = .offAck ∧ t.cru.pswEn.getLsbD d = false ∧
      keeps (touches (.domainOffWritebackDone d)) s t) ∧
  (∀ (d : Fin 13) (s : State), domSt s d = .heldOff →
    ∃ t, exec (.domainHeldOffEnd d) s = .next t ∧ domSt t d = .waitAck ∧ t.cru.pswEn.getLsbD d = true ∧ keeps [.cru] s t)

/-- SLEEP_ENTER that meets no refusal enters SLEEP_ENTRY where the guard holds, and otherwise leaves CRU's state, sets SLEEP_REFUSED and reports LAST_CAUSE 8
to the manager (04 R107, R108); that an ENTER outside RUN counts as a refused one is the model's choice (log entry 88). It completes with OK.
SLEEP_EXIT in SLEEP starts the wake with cause 7, and in SLEEP_ENTRY goes back to RUN with cause 8 (04 R126). SLEEP_ENGINES_IDLE enters SLEEP and counts
it. SLEEP_ENTRY_TIMEOUT goes back to RUN with SLEEP_REFUSED (04 R107). WAKE_CLOCKS_RESTARTED enters RUN and holds the ports whose up signal is low.
PORT_WAKE_TIMEOUT ends the hold, and a port whose up signal is still low is down (04 R125). (functional, derived; 04_clocks_resets_power.md) -/
def Obligations.SleepAndWake : Prop :=
  (∀ (r : Role) (s : State), passes s r (pgCru + 0x064) true false = true → maySleep s = true →
    ∃ t, exec (.sleepEnter r) s = .next t ∧ t.cru.st = .sleepEntry ∧ t.out.getLast? = some (regOk r (pgCru + 0x064)) ∧
      keeps [.regs, .epochs, .cru, .spans, .inc, .evr, .out] s t) ∧
  (∀ (r : Role) (s : State), passes s r (pgCru + 0x064) true false = true → maySleep s = false →
    ∃ t, exec (.sleepEnter r) s = .next t ∧ t.cru = s.cru ∧ getFld t (pgCru + 0x068) 3 0 = 8 ∧ regBit t (pgCru + 0x018) 6 = true ∧
      t.out = s.out ++ [⟨.reg, r.key, 0, Status.ok.code, pgCru + 0x064, leBytes 4 0⟩] ∧
      keeps [.regs, .inc, .evr, .out] s t) ∧
  (∀ (r : Role) (s : State), passes s r (pgCru + 0x064) true false = true → s.cru.st = .sleep →
    ∃ t, exec (.sleepExit r) s = .next t ∧ t.cru.st = .wake ∧ getFld t (pgCru + 0x068) 3 0 = 7 ∧
      t.out = s.out ++ [⟨.reg, r.key, 0, Status.ok.code, pgCru + 0x064, leBytes 4 0⟩] ∧
      keeps [.regs, .epochs, .cru, .inc, .evr, .out] s t) ∧
  (∀ (r : Role) (s : State), passes s r (pgCru + 0x064) true false = true → s.cru.st = .sleepEntry →
    ∃ t, exec (.sleepExit r) s = .next t ∧ t.cru.st = .run ∧ getFld t (pgCru + 0x068) 3 0 = 8 ∧ t.out.getLast? = some (regOk r (pgCru + 0x064)) ∧
      keeps [.regs, .epochs, .cru, .spans, .inc, .evr, .out] s t) ∧
  (∀ s : State, s.cru.st = .sleepEntry → enginesIdle s = true →
    ∃ t, exec .sleepEnginesIdle s = .next t ∧ t.cru.st = .sleep ∧ getFld t (pgCru + 0x068) 31 16 = (getFld s (pgCru + 0x068) 31 16 + 1) % 0x10000 ∧
      keeps [.regs, .epochs, .cru, .inc, .evr] s t) ∧
  (∀ s : State, s.cru.st = .sleepEntry → enginesIdle s = false →
    ∃ t, exec .sleepEntryTimeout s = .next t ∧ t.cru.st = .run ∧ getFld t (pgCru + 0x068) 3 0 = 8 ∧ regBit t (pgCru + 0x018) 6 = true ∧
      keeps (touches .sleepEntryTimeout) s t) ∧
  (∀ s : State, s.cru.st = .wake →
    ∃ t, exec .wakeClocksRestarted s = .next t ∧ t.cru.st = .run ∧ t.cru.wakeHeld = lowPorts s ∧ keeps (touches .wakeClocksRestarted) s t) ∧
  (∀ (p : Fin 59) (s : State), s.cru.wakeHeld.contains p.val = true →
    ∃ t, exec (.portWakeTimeout p) s = .next t ∧ t.cru.wakeHeld = s.cru.wakeHeld.filter (· != p.val) ∧
      ((portAt s p).sig = false → (portAt t p).up = false) ∧ keeps (touches (.portWakeTimeout p)) s t)

/-- CLK_EN_WRITE and PWR_CTRL_WRITE that meet no refusal complete with OK: a clock-enable bit of a unit that is present, written 1, runs its clock, and written
0 asks for it to be gated (04 R118, R119); a manager's power bit written 0 asks a domain that is up off, and written 1 powers on a domain that is off
(04 R115). A unit asked to gate stops its clock once idle, with its bit 0, and keeps it after the time-out, with its bit 1 (04 R119). A power-off
request of a domain that still has work is refused with its bit back at 1, otherwise the domain drains (04 R115). SSC_CTRL_WRITE completes with OK and
holds the setting, and SSC_APPLY makes it active; a DEPTH above 10 leaves the setting and sets SSC_RANGE (04 R100). While the detector of one of these
checks is armed the check fails (05 R151). (functional, derived; 04_clocks_resets_power.md, 05_register_model.md) -/
def Obligations.GatingAndPowerControl : Prop :=
  (∀ (r : Role) (n : Fin 4) (v : Word) (s : State), passes s r (pgCru + 0x048 + 4 * n.val) true false = true →
    ∃ t, exec (.clkEnWrite r n v) s = .next t ∧ t.out = s.out ++ [⟨.reg, r.key, 0, Status.ok.code, pgCru + 0x048 + 4 * n.val, leBytes 4 0⟩] ∧
      keeps [.regs, .cru, .pmu, .out] s t ∧
      ∀ (u : GateUnit) (b : Nat), gateLoc u = (0x048 + 4 * n.val, b) → pageAbsent s (gatePage u) = false →
        (getBit v b = true → t.cru.gating.contains u = false ∧ t.cru.gated.contains u = false ∧ regBit t (pgCru + 0x048 + 4 * n.val) b = true) ∧
        (getBit v b = false → t.cru.gating.contains u = true ∨ t.cru.gated.contains u = true)) ∧
  (∀ (u : GateUnit) (s : State), s.cru.gating.contains u = true → gateIdle s u = true → injArmed s pgCru 1 = false →
    ∃ t, exec (.gateUnitIdle u) s = .next t ∧ t.cru.gated = s.cru.gated ++ [u] ∧ regBit t (pgCru + (gateLoc u).1) (gateLoc u).2 = false ∧
      keeps [.regs, .cru] s t ∧ regsKept [pgCru + (gateLoc u).1] s t) ∧
  (∀ (u : GateUnit) (s : State), s.cru.gating.contains u = true → gateIdle s u = true → injArmed s pgCru 1 = true →
    ∃ t, exec (.gateUnitIdle u) s = .next t ∧ t.cru.gated = s.cru.gated ∧ t.cru.gating = s.cru.gating.filter (· != u) ∧ regBit t (pgCru + 0x018) 1 = true) ∧
  (∀ (u : GateUnit) (s : State), s.cru.gating.contains u = true →
    ∃ t, exec (.gateIdleTimeout u) s = .next t ∧ t.cru.gated = s.cru.gated ∧ t.cru.gating = s.cru.gating.filter (· != u) ∧
      regBit t (pgCru + (gateLoc u).1) (gateLoc u).2 = true ∧ regBit t (pgCru + 0x018) 1 = true ∧ keeps [.regs, .cru, .inc, .evr] s t) ∧
  (∀ (r : Role) (v : Word) (s : State), passes s r (pgCru + 0x05C) true false = true →
    ∃ t, exec (.pwrCtrlWrite r v) s = .next t ∧ t.out = s.out ++ [⟨.reg, r.key, 0, Status.ok.code, pgCru + 0x05C, leBytes 4 0⟩] ∧
      keeps [.regs, .cru, .out] s t ∧ regsKept [pgCru + 0x05C] s t ∧
      (r = .m → ∀ d, d = 6 ∨ d = 10 → regBit t (pgCru + 0x05C) d = getBit v d ∧
        (getBit v d = false → domUp s d = true → t.cru.pwrReq.contains d = true) ∧
        (getBit v d = true → domSt s d = .off → domPresent s d = true → domSt t d = .waitAck ∧ t.cru.pswEn.getLsbD d = true))) ∧
  (∀ (d : Fin 13) (s : State), s.cru.pwrReq.contains d.val = true → pwrBusy s d = false → injArmed s pgCru 1 = false →
    ∃ t, exec (.pwrOffIdleCheck d) s = .next t ∧ domSt t d = .draining ∧ t.cru.pwrReq = s.cru.pwrReq.filter (· != d.val) ∧ keeps [.cru] s t) ∧
  (∀ (d : Fin 13) (s : State), s.cru.pwrReq.contains d.val = true → pwrBusy s d = true ∨ injArmed s pgCru 1 = true →
    ∃ t, exec (.pwrOffIdleCheck d) s = .next t ∧ domSt t d = domSt s d ∧ t.cru.pwrReq = s.cru.pwrReq.filter (· != d.val) ∧
      regBit t (pgCru + 0x05C) d = true ∧ regBit t (pgCru + 0x018) 1 = true ∧ keeps [.regs, .cru, .inc, .evr] s t) ∧
  (∀ (r : Role) (v : Word) (s : State), passes s r (pgCru + 0x040) true false = true → injArmed s pgCru 0 = false →
    getBits (writeFlds r (pgCru + 0x040) v (rawReg s (pgCru + 0x040))) 4 1 ≤ 10 →
    ∃ t, exec (.sscCtrlWrite r v) s = .next t ∧ t.cru.sscPending = some (writeFlds r (pgCru + 0x040) v (rawReg s (pgCru + 0x040))) ∧
      rawReg t (pgCru + 0x040) = writeFlds r (pgCru + 0x040) v (rawReg s (pgCru + 0x040)) ∧ t.out = s.out ++ [regOk r (pgCru + 0x040)] ∧
      keeps [.regs, .cru, .out] s t ∧ regsKept [pgCru + 0x040] s t) ∧
  (∀ (r : Role) (v : Word) (s : State), passes s r (pgCru + 0x040) true false = true →
    injArmed s pgCru 0 = true ∨ 10 < getBits (writeFlds r (pgCru + 0x040) v (rawReg s (pgCru + 0x040))) 4 1 →
    ∃ t, exec (.sscCtrlWrite r v) s = .next t ∧ t.cru.sscPending = s.cru.sscPending ∧ rawReg t (pgCru + 0x040) = rawReg s (pgCru + 0x040) ∧
      regBit t (pgCru + 0x018) 0 = true ∧ t.out = s.out ++ [regOk r (pgCru + 0x040)] ∧ keeps [.regs, .cru, .inc, .evr, .out] s t) ∧
  (∀ (w : Word) (s : State), s.cru.sscPending = some w →
    ∃ t, exec .sscApply s = .next t ∧ t.cru = { s.cru with sscActive := w, sscPending := none } ∧ keeps [.cru] s t)

/-- A reading at or above T_WARN sets the throttle bit, and a reading below T_WARN - 5 clears it (19 R497, 04 R123). A port's up signal is taken; a fall takes
the port down (03 R69). A window in which a port's clock count lies outside the port's range of Table 03.1 takes its clock out of range and starts its
count of windows again; one in which it lies in the range, with PORT_CLK not armed, counts a window in range, up to 100 (03 R63, R70). A port whose
retraining is done is no longer training and no longer failed (03 R79). (functional, derived; 03_ports_and_integration.md,
04_clocks_resets_power.md, 19_faults_and_recovery.md) -/
def Obligations.ThermalAndPorts : Prop :=
  (∀ (temp : BitVec 8) (s : State), tWarn (setFld s (pgTmp + 0x040) 23 16 temp.toNat) ≤ tempInt temp →
    regBit (setFld s (pgTmp + 0x040) 23 16 temp.toNat) (pgTmp + 0x040) 1 = false →
    ∃ t, exec (.thermalWarningStart temp) s = .next t ∧ regBit t (pgTmp + 0x040) 1 = true ∧ regBit t (pgCru + 0x06C) 0 = true ∧ keeps (touches (.thermalWarningStart temp)) s t) ∧
  (∀ (temp : BitVec 8) (s : State), tempInt temp < tWarn (setFld s (pgTmp + 0x040) 23 16 temp.toNat) - 5 →
    regBit (setFld s (pgTmp + 0x040) 23 16 temp.toNat) (pgTmp + 0x040) 1 = true →
    ∃ t, exec (.thermalWarningEnd temp) s = .next t ∧ regBit t (pgTmp + 0x040) 1 = false ∧ regBit t (pgCru + 0x06C) 0 = false ∧ keeps (touches (.thermalWarningEnd temp)) s t) ∧
  (∀ (p : Fin 59) (s : State), sleepExempt s p = false →
    ∃ t, exec (.portUpSignalChange p false) s = .next t ∧ (portAt t p).sig = false ∧ (portAt t p).up = false) ∧
  (∀ (p : Fin 59) (s : State),
    ∃ t, exec (.portUpSignalChange p true) s = .next t ∧ (portAt t p).sig = true ∧ keeps (touches (.portUpSignalChange p true)) s t) ∧
  (∀ (edges : List Nat) (p : Fin 59) (s : State), s.cru.porst = false → clockGood p (edges.getD p 0) = false →
    ∃ t, exec (.portClockWindow edges) s = .next t ∧ (portAt t p).inRange = false ∧ (portAt t p).windows = 0) ∧
  (∀ (edges : List Nat) (p : Fin 59) (s : State), s.cru.porst = false → clockGood p (edges.getD p 0) = true → injArmed s pgCru 4 = false →
    ∃ t, exec (.portClockWindow edges) s = .next t ∧ (portAt t p).inRange = true ∧ (portAt t p).windows = min 100 ((portAt s p).windows + 1)) ∧
  (∀ (p : Fin 59) (s : State), (s.wrc.l4.map L4.step) = some 5 →
    ∃ t, exec (.portTrainDone p) s = .next t ∧ (portAt t p).trainFailed = false ∧ (portAt t p).training = false ∧ keeps (touches (.portTrainDone p)) s t)

/-- An acknowledged gauge request takes effect in SPAN_STAT and leaves nothing outstanding; one that times out, or that is acknowledged while the gauge
detector is armed, fires the gauge detector, stays at its gauge and is repeated; the repeat asks for the gauge again (03 R83, 05 R151). A demand window of
a span in service starts its byte counts again (11 R321). (functional, derived; 03_ports_and_integration.md, 11_link_security.md) -/
def Obligations.GaugeRequests : Prop :=
  (∀ (n : Fin 18) (g : Nat) (s : State), (spanAt s n.val).gauge.req = some g → injArmed s (pgVdt n.val) 5 = false →
    ∃ t, exec (.gaugeAck n) s = .next t ∧ (spanAt t n.val).gauge.req = none ∧ getFld t (pgVdt n.val + 0x040) 14 13 = g % 4 ∧
      keeps [.regs, .spans] s t ∧ regsKept [pgVdt n.val + 0x040] s t) ∧
  (∀ (n : Fin 18) (g : Nat) (s : State), (spanAt s n.val).gauge.req = some g → injArmed s (pgVdt n.val) 5 = true →
    exec (.gaugeAck n) s = .next (gaugeLate s n.val g)) ∧
  (∀ (n : Fin 18) (g : Nat) (s : State), (spanAt s n.val).gauge.req = some g →
    exec (.gaugeAckTimeout n) s = .next (gaugeLate s n.val g) ∧ (spanAt (gaugeLate s n.val g) n.val).gauge.req = none ∧
      (spanAt (gaugeLate s n.val g) n.val).gauge.repeats = some g) ∧
  (∀ (n : Fin 18) (g : Nat) (s : State), (spanAt s n.val).gauge.repeats = some g → (spanAt s n.val).gauge.req = none →
    getFld s (pgVdt n.val + 0x040) 14 13 ≠ g →
    ∃ t, exec (.gaugeRequestRepeat n) s = .next t ∧ (spanAt t n.val).gauge.req = some g ∧ (spanAt t n.val).gauge.repeats = none ∧
      t.out = s.out ++ [⟨.lt, n.val, 0xFFFF, g, 0, []⟩] ∧ keeps [.spans, .out] s t) ∧
  (∀ (n : Fin 18) (s : State), inService s (pgVdt n.val) = true →
    ∃ t, exec (.gaugeWindow n) s = .next t ∧ (spanAt t n.val).gauge.tx = 0 ∧ (spanAt t n.val).gauge.rx = 0 ∧ keeps [.regs, .spans, .inc, .evr, .out] s t)

/-- A read that meets no refusal of a register that is no pair and starts nothing completes with OK and the fields that list the role, and clears its
read-clear fields, so RC_COUNTER_READ returns a counter and clears it (00 R12, 05 R134). A write that meets no refusal of a plain register of MEA, MEB,
TTB, TRS, IMU, TMP or ENT stores the fields that list the role and completes with OK; a value outside the register's range is refused with DENIED and
nothing is stored. An access that is no aligned 32-bit one completes with DENIED (05 R135). A write on HT whose parity fails completes with POISON and is
dropped (03 R65); an access that breaches the handshake on HT is taken after the breach is counted (03 R64). (functional, derived;
05_register_model.md, 22_register_reference.md, 03_ports_and_integration.md) -/
def Obligations.RegisterReadsAndWrites : Prop :=
  (∀ (r : Role) (off : BitVec 23) (s : State), pairLow off.toNat = none → off.toNat ≠ pgTtu + 0x044 → off.toNat ≠ pgEnt + 0x040 →
    off.toNat ≠ pgLco + 0x088 → passes s r off.toNat false false = true →
    ∃ t, exec (.registerRead r off 4 false) s = .next t ∧ exec (.rcCounterRead r off) s = .next t ∧
      t.out = s.out ++ [⟨.reg, r.key, 0, Status.ok.code, off.toNat, leBytes 4 (readFlds r off.toNat (viewWord s r off.toNat)).toNat⟩] ∧
      rawReg t off.toNat = clearRc r off.toNat (rawReg s off.toNat) ∧ regsKept [off.toNat] s t ∧ keeps [.regs, .ttu, .out] s t) ∧
  (∀ (r : Role) (off : BitVec 23) (v : Word) (kt : KtabRead) (wst : Status) (s : State), isInstOff off.toNat = false →
    [uMea, uMeb, uTtb, uTrs, uImu, uTmp, uEnt].contains (unitOf off.toNat) = true → 0x40 ≤ off.toNat % 0x1000 → pairLow off.toNat = none →
    legalWord (unitOf off.toNat) (off.toNat % 0x1000) v = true → passes s r off.toNat true (hasGuard r off.toNat) = true →
    ∃ t, exec (.registerWrite r off 4 v kt wst false false) s = .next t ∧ rawReg t off.toNat = writeFlds r off.toNat v (rawReg s off.toNat) ∧
      t.out = s.out ++ [regOk r off.toNat] ∧ regsKept [off.toNat] s t ∧ keeps [.regs, .epochs, .out] s t) ∧
  (∀ (r : Role) (off : BitVec 23) (v : Word) (kt : KtabRead) (wst : Status) (s : State), isInstOff off.toNat = false →
    [uMea, uMeb, uTtb, uTrs, uImu, uTmp, uEnt].contains (unitOf off.toNat) = true → 0x40 ≤ off.toNat % 0x1000 → pairLow off.toNat = none →
    legalWord (unitOf off.toNat) (off.toNat % 0x1000) v = false → passes s r off.toNat true (hasGuard r off.toNat) = true →
    ∃ t, exec (.registerWrite r off 4 v kt wst false false) s = .next t ∧ t.out = s.out ++ [regSt r off.toNat .denied] ∧ keeps [.out] s t) ∧
  (∀ (r : Role) (off : BitVec 23) (len : Nat) (v : Word) (kt : KtabRead) (wst : Status) (s : State), windowOpen s = true →
    reaches s r off.toNat true = true → (len ≠ 4 ∨ off.toNat % 4 ≠ 0) →
    ∃ t, exec (.registerWrite r off len v kt wst false false) s = .next t ∧ t.out = s.out ++ [regSt r off.toNat .denied] ∧ keeps [.out] s t) ∧
  (∀ (r : Role) (off : BitVec 23) (len : Nat) (v : Word) (kt : KtabRead) (wst : Status) (s : State), windowOpen s = true → onHt r = true →
    ∃ t, exec (.registerWrite r off len v kt wst false true) s = .next t ∧ t.out.getLast? = some (regSt r off.toNat .poison) ∧
      regBit t (pgHgt + 0x018) 3 = true ∧ keeps [.regs, .inc, .evr, .out] s t) ∧
  (∀ (r : Role) (off : BitVec 23) (len : Nat) (s : State), windowOpen s = true → onHt r = true →
    (tblFind s.wrc.protoTimes pgHgt = none → regBit (detect s pgHgt 2) (pgHgt + 0x018) 2 = true) ∧
    exec (.registerRead r off len true) s = exec (.registerRead r off len false) (detect s pgHgt 2) ∧
    ∀ (v : Word) (kt : KtabRead) (wst : Status),
      exec (.registerWrite r off len v kt wst true false) s = exec (.registerWrite r off len v kt wst false false) (detect s pgHgt 2))

/-- A read of the low word of a pair latches the high word for the role, which a later read of the high word returns. A write of the high word is held
for the role and changes no register; a write of the low word stores both words where a high word is held, and the low word alone where none is. The
words of BASE are the selected channel's (15 R416). A latch ends when its time does. (functional, derived; 05_register_model.md,
15_host_gate.md) -/
def Obligations.PairsAreReadAndWrittenTogether : Prop :=
  (∀ (r : Role) (off : BitVec 23) (s : State), pairLow off.toNat = some off.toNat → passes s r off.toNat false false = true →
    ∃ t, exec (.pairLowRead r off) s = .next t ∧ tblFind t.latch (latchKey r off.toNat) = some (viewWord s r (off.toNat + 4)) ∧
      t.out = s.out ++ [⟨.reg, r.key, 0, Status.ok.code, off.toNat, leBytes 4 (readFlds r off.toNat (viewWord s r off.toNat)).toNat⟩] ∧
      keeps [.regs, .latch, .ttu, .out] s t) ∧
  (∀ (r : Role) (off : BitVec 23) (low : Nat) (w : Word) (s : State), pairLow off.toNat = some low → off.toNat ≠ low →
    tblFind s.latch (latchKey r low) = some w → passes s r off.toNat false false = true →
    ∃ t, exec (.registerRead r off 4 false) s = .next t ∧ tblFind t.latch (latchKey r low) = none ∧
      t.out = s.out ++ [⟨.reg, r.key, 0, Status.ok.code, off.toNat, leBytes 4 (readFlds r off.toNat w).toNat⟩] ∧ keeps [.regs, .latch, .ttu, .out] s t) ∧
  (∀ (r : Role) (off : BitVec 23) (low : Nat) (v : Word) (s : State), pairLow off.toNat = some low → off.toNat ≠ low →
    passes s r off.toNat true (hasGuard r off.toNat) = true →
    ∃ t, exec (.pairHighWrite r off v) s = .next t ∧ tblFind t.hold (latchKey r low) = some v ∧ t.out = s.out ++ [regOk r off.toNat] ∧
      keeps [.hold, .out] s t) ∧
  (∀ (r : Role) (off : BitVec 23) (v w : Word) (s : State), pairLow off.toNat = some off.toNat →
    tblFind s.hold (latchKey r off.toNat) = some w → passes s r off.toNat true (hasGuard r off.toNat) = true →
    ∃ t, exec (.pairLowWrite r off v) s = .next t ∧ storedPairWord t off.toNat = writeFlds r off.toNat v (storedPairWord s off.toNat) ∧
      storedPairWord t (off.toNat + 4) = writeFlds r (off.toNat + 4) w (storedPairWord s (off.toNat + 4)) ∧ tblFind t.hold (latchKey r off.toNat) = none ∧
      t.out = s.out ++ [regOk r off.toNat] ∧ regsKept [off.toNat, off.toNat + 4] s t ∧ keeps [.regs, .hold, .hgt, .epochs, .out] s t) ∧
  (∀ (r : Role) (off : BitVec 23) (v : Word) (s : State), pairLow off.toNat = some off.toNat →
    tblFind s.hold (latchKey r off.toNat) = none → passes s r off.toNat true (hasGuard r off.toNat) = true →
    ∃ t, exec (.pairLowWrite r off v) s = .next t ∧ storedPairWord t off.toNat = writeFlds r off.toNat v (storedPairWord s off.toNat) ∧
      storedPairWord t (off.toNat + 4) = storedPairWord s (off.toNat + 4) ∧ t.out = s.out ++ [regOk r off.toNat] ∧ regsKept [off.toNat] s t ∧
      keeps [.regs, .hgt, .epochs, .out] s t) ∧
  (∀ (r : Role) (off : BitVec 23) (low : Nat) (s : State), pairLow off.toNat = some low →
    ∃ t, exec (.pairLatchExpire r off) s = .next t ∧ tblFind t.latch (latchKey r low) = none ∧ keeps [.latch] s t)

/-- A write of PAGE_CTRL that changes ENABLE and carries the page's EPOCH sets ENABLE, takes EXP_EPOCH and advances EPOCH; one that carries another
value takes EXP_EPOCH and is refused with EPOCH_STALE (05 R141, R146). A write that changes nothing only takes EXP_EPOCH. SRESET of a page without an
engine is ignored, SRESET of an engine's page starts an L1 of it (05 R142). Clearing ERR_STAT clears the bits written with 1 (05 R149). Arming an
injection sets the bits that the page has and the life cycle allows (05 R152). An access that is not answered completes with UNIT_GONE and is a hang
of the unit, or of the unit of an instance page (05 R137); a guarded one with a stale epoch is refused with EPOCH_STALE first (05 R139). (functional,
derived; 05_register_model.md, 07_lifecycle_and_debug.md) -/
def Obligations.PageHeaderCommands : Prop :=
  (∀ (r : Role) (pg : BitVec 11) (v : Word) (s : State), passes s r (pgBase pg + 0x00C) true false = true →
    enableWritable s (pgBase pg) = true → enabled s (pgBase pg) ≠ getBit v 0 → getBit v 1 = false → getBits v 31 8 = epochOf s (pgBase pg) →
    ∃ t, exec (.pageEnableWrite r pg v) s = .next t ∧ enabled t (pgBase pg) = getBit v 0 ∧ expEpoch t r (pgBase pg) = getBits v 31 8 ∧
      epochOf t (pgBase pg) = (epochOf s (pgBase pg) + 1) % 0x1000000 ∧ keeps [.regs, .exps, .epochs, .out] s t ∧ regsKept [pgBase pg + 0x00C] s t) ∧
  (∀ (r : Role) (pg : BitVec 11) (v : Word) (s : State), passes s r (pgBase pg + 0x00C) true false = true →
    enableWritable s (pgBase pg) = true → enabled s (pgBase pg) ≠ getBit v 0 → getBits v 31 8 ≠ epochOf s (pgBase pg) →
    ∃ t, exec (.pageEnableWrite r pg v) s = .next t ∧ expEpoch t r (pgBase pg) = getBits v 31 8 ∧
      t.out = s.out ++ [⟨.reg, r.key, 0, Status.epochStale.code, pgBase pg + 0x00C, leBytes 4 0⟩] ∧ keeps [.regs, .exps, .inc, .evr, .out] s t) ∧
  (∀ (r : Role) (pg : BitVec 11) (v : Word) (s : State), passes s r (pgBase pg + 0x00C) true false = true → isEnginePage (pgBase pg) = false →
    enabled s (pgBase pg) = getBit v 0 →
    ∃ t, exec (.pageSreset r pg v) s = .next t ∧ expEpoch t r (pgBase pg) = getBits v 31 8 ∧
      t.out = s.out ++ [⟨.reg, r.key, 0, Status.ok.code, pgBase pg + 0x00C, leBytes 4 0⟩] ∧ keeps [.exps, .out] s t) ∧
  (∀ (r : Role) (pg : BitVec 11) (v : Word) (s : State), passes s r (pgBase pg + 0x00C) true false = true → isEnginePage (pgBase pg) = true →
    r.kind ≠ .t → enabled s (pgBase pg) = getBit v 0 → getBits v 31 8 = epochOf s (pgBase pg) →
    exec (.pageSreset r pg v) s = .next (trigger { commitDone (setExpEpoch s r (pgBase pg) (getBits v 31 8)) r (pgBase pg + 0x00C) with free := s.free + 1 }
      1 (pgBase pg) (Config.freeNat s.free % 0x100) false)) ∧
  (∀ (r : Role) (pg : BitVec 11) (v : Word) (s : State), passes s r (pgBase pg + 0x00C) true false = true →
    ∃ t, exec (.expEpochWrite r pg v) s = .next t ∧ expEpoch t r (pgBase pg) = getBits v 31 8 ∧
      t.out = s.out ++ [⟨.reg, r.key, 0, Status.ok.code, pgBase pg + 0x00C, leBytes 4 0⟩] ∧ keeps [.exps, .out] s t) ∧
  (∀ (r : Role) (pg : BitVec 11) (v : Word) (s : State), passes s r (pgBase pg + 0x018) true false = true →
    ∃ t, exec (.errStatClear r pg v 0) s = .next t ∧ rawReg t (pgBase pg + 0x018) = rawReg s (pgBase pg + 0x018) &&& ~~~ v ∧
      keeps [.regs, .inc, .out] s t) ∧
  (∀ (r : Role) (pg : BitVec 11) (v : Word) (s : State), passes s r (pgBase pg + 0x020) true false = true → isInstOff (pgBase pg) = false →
    injStates s.lco.lc = true → v.toNat &&& errBits (unitOf (pgBase pg)) &&& (0xFFFFFFFF ^^^ checkBits (unitOf (pgBase pg))) = 0 →
    ∃ t, exec (.errInjWrite r pg v) s = .next t ∧
      rawReg t (pgBase pg + 0x020) = rawReg s (pgBase pg + 0x020) ||| (v &&& BitVec.ofNat 32 (errBits (unitOf (pgBase pg)))) ∧
      t.out = s.out ++ [⟨.reg, r.key, 0, Status.ok.code, pgBase pg + 0x020, leBytes 4 0⟩] ∧ keeps [.regs, .out] s t ∧ regsKept [pgBase pg + 0x020] s t) ∧
  (∀ (r : Role) (off : BitVec 23) (wr : Bool) (v : Word) (s : State), passes s r off.toNat wr false = true →
    (wr = true → ∀ e, writeGuard s r off.toNat v = some e → e = epochOf s (pageOf off.toNat)) →
    exec (.registerAccessTimeout r off wr v) s = .next (
      if isInstOff (pageOf off.toNat) then trigger (regDone s r off.toNat .unitGone 0) 2 (ownerPage (pageOf off.toNat)) 0xFF false
      else trigger (regDone s r off.toNat .unitGone 0) (if isEnginePage (pageOf off.toNat) then 1 else 2) (pageOf off.toNat) 0xFF false)) ∧
  (∀ (r : Role) (off : BitVec 23) (v : Word) (e : Nat) (s : State), passes s r off.toNat true false = true →
    writeGuard s r off.toNat v = some e → e ≠ epochOf s (pageOf off.toNat) →
    ∃ t, exec (.registerAccessTimeout r off true v) s = .next t ∧ t.out = s.out ++ [regSt r off.toNat .epochStale] ∧
      keeps [.regs, .inc, .evr, .out] s t)

/-- SBX_RESET_RELEASE with PD_SBX up starts the boot ROM in ROOT_WAIT, which it leaves at once where an exit is open; with the root ready, the life cycle
decoded, no L4, no reload ordered and fewer than eight failed boots the exit is DL_WAIT (06 Table 06.2). A root attempt passes where the helper header is
right, the four codewords decode and the check value agrees: the root is then held masked, ready, and shown by ROOT_READY (06 R157, 08 R200, R201). One of
the first two that fails starts the off period, after which the next attempt starts; the third failure, or the third attempt while its detector is
armed, reports the root failed (06 R157, 05 R151). (functional, derived; 06_boot_and_firmware.md, 08_entropy_and_keys.md) -/
def Obligations.BootLeavesReset : Prop :=
  (∀ s : State, s.sbx.boot = .reset → domUp s 0 = true → s.wrc.l4 = none →
    exec .sbxResetRelease s = .next (leaveRootWait (setBoot s .rootWait)) ∧ (leaveRootWait (setBoot s .rootWait)).sbx.boot ≠ .reset ∧
      keeps (touches .sbxResetRelease) s (leaveRootWait (setBoot s .rootWait))) ∧
  (∀ s : State, s.sbx.boot = .rootWait → s.wrc.l4 = none → s.lco.decoded = true → s.lco.lc ≠ .locked → s.lco.lc ≠ .scrapped → s.lco.lc ≠ .returned →
    s.kvt.rootSt = .ready → getFld s (pgSbx + 0x040) 3 0 ≠ 8 → s.sbx.afterPorst = true →
    (leaveRootWait s).sbx.boot = .dlWait ∧ keeps [.sbx, .epochs] s (leaveRootWait s)) ∧
  (∀ (n : Nat) (array : List Word) (m : Bytes) (s : State), s.kvt.rootSt = .attempt n → pufMessage array (helperWords s) = some m →
    (n = 3 → injArmed s pgKvt 2 = false) →
    exec (.rootAttemptDone array) s = .next (leaveRootWait (takeRoot s m)) ∧
    (s.kvt.loads = [] → s.ctc.fills = [] → s.coh.cts = [] → (∀ g ∈ s.engs, g.2.reseal = none) →
      (takeRoot s m).kvt.rootSt = .ready ∧ (takeRoot s m).kvt.root = some (Masked.make (Config.drawn s.free 32) (kRoot m)) ∧
        regBit (takeRoot s m) (pgKvt + 0x04C) 17 = true ∧ keeps [.regs, .kvt, .free] s (takeRoot s m))) ∧
  (∀ (array : List Word) (s : State), otpWord s 0x100 ≠ 0x40015055 → pufMessage array (helperWords s) = none) ∧
  (∀ (n : Nat) (array : List Word) (s : State), s.kvt.rootSt = .attempt n → n < 3 → pufMessage array (helperWords s) = none →
    exec (.rootAttemptDone array) s = .next { s with kvt := { s.kvt with rootSt := .offPeriod n } }) ∧
  (∀ (n : Nat) (array : List Word) (s : State), s.kvt.rootSt = .attempt n → 3 ≤ n →
    pufMessage array (helperWords s) = none ∨ (n = 3 ∧ injArmed s pgKvt 2 = true) →
    exec (.rootAttemptDone array) s =
      .next (leaveRootWait (detectAs { s with kvt := { s.kvt with rootSt := .failed } } pgKvt 2 rcRootFail none n 0 0))) ∧
  (∀ (n : Nat) (s : State), s.kvt.rootSt = .offPeriod n →
    exec .pufOffPeriodEnd s = .next { s with kvt := { s.kvt with rootSt := .attempt (n + 1) } })

/-- For an object of the block's own vendor and type that reaches SBX: BEGIN with a legal length in DL_WAIT or DL_RECEIVE declares the length, drops the
bytes received and answers OK; CHUNK in DL_RECEIVE at the offset received so far, of a legal length, appends its bytes and answers OK with the new count;
END with every declared byte received enters VERIFY and holds its answer; CANCEL goes back to DL_WAIT from DL_RECEIVE and answers OK (06 R160, R161).
A BEGIN of a bad length and an object of another CMD are DENIED with ERR 0x01, a CHUNK out of order with ERR 0x02, an END before the last declared byte
with ERR 0x01; LAST_ERR keeps each (06 R161, Table 06.8). An object of another vendor or type sets HD_ERROR and gets no response (06 R160). A DOE abort
drops the object in progress alone (06 R162). (functional, derived; 06_boot_and_firmware.md) -/
def Obligations.DownloadObjects : Prop :=
  (∀ (vid : BitVec 16) (seq : BitVec 8) (len : Word) (s : State), doeOpen s = true → vid.toNat = getBits (otpWord s 0x004) 15 0 →
    (s.sbx.boot = .dlWait ∨ s.sbx.boot = .dlReceive) → 9216 ≤ len.toNat → len.toNat ≤ 926720 → len.toNat % 4 = 0 →
    ∃ t, exec (.dlBegin vid 0x5A 1 seq len false) s = .next t ∧ t.sbx.boot = .dlReceive ∧ t.sbx.declared = len.toNat ∧ t.sbx.image = [] ∧
      said s t 0 seq.toNat 0 (leBytes 1 0x81 ++ leBytes 1 seq.toNat ++ [0, 0] ++ leBytes 4 0) ∧ keeps [.sbx, .epochs, .out] s t) ∧
  (∀ (vid : BitVec 16) (seq : BitVec 8) (off : Word) (data : Bytes) (s : State), doeOpen s = true → vid.toNat = getBits (otpWord s 0x004) 15 0 →
    s.sbx.boot = .dlReceive → off.toNat = s.sbx.image.length → 4 ≤ data.length → data.length ≤ 65536 → data.length % 4 = 0 →
    ∃ t, exec (.dlChunk vid 0x5A seq off data false) s = .next t ∧ t.sbx = { s.sbx with image := s.sbx.image ++ data } ∧
      said s t 0 seq.toNat 0 (leBytes 1 0x82 ++ leBytes 1 seq.toNat ++ [0, 0] ++ leBytes 4 (s.sbx.image ++ data).length) ∧ keeps [.sbx, .out] s t) ∧
  (∀ (vid : BitVec 16) (seq : BitVec 8) (s : State), doeOpen s = true → vid.toNat = getBits (otpWord s 0x004) 15 0 →
    s.sbx.boot = .dlReceive → s.sbx.declared ≤ s.sbx.image.length →
    ∃ t, exec (.dlEnd vid 0x5A seq false) s = .next t ∧ t.sbx.boot = .verify ∧ t.sbx.endSeq = some seq.toNat ∧ t.sbx.image = s.sbx.image ∧
      keeps [.sbx, .epochs] s t) ∧
  (∀ (vid : BitVec 16) (seq : BitVec 8) (s : State), doeOpen s = true → vid.toNat = getBits (otpWord s 0x004) 15 0 → s.sbx.boot = .dlReceive →
    s.wrc.l4 = none →
    ∃ t, exec (.dlCancel vid 0x5A seq false) s = .next t ∧ t.sbx.boot = .dlWait ∧ t.sbx.image = [] ∧
      said s t 0 seq.toNat 0 (leBytes 1 0x85 ++ leBytes 1 seq.toNat ++ [0, 0] ++ leBytes 4 0) ∧ keeps [.sbx, .epochs, .out] s t) ∧
  (∀ s : State, exec .doeAbort s = .next { s with sbx := { s.sbx with endSeq := none, hdError := false } }) ∧
  (∀ (vid : BitVec 16) (cmd seq : BitVec 8) (len : Word) (extra : Bool) (s : State), doeOpen s = true → vid.toNat = getBits (otpWord s 0x004) 15 0 →
    (s.sbx.boot = .dlWait ∨ s.sbx.boot = .dlReceive) → len.toNat < 9216 ∨ 926720 < len.toNat ∨ len.toNat % 4 ≠ 0 ∨ cmd ≠ 1 ∨ extra = true →
    ∃ t, exec (.dlBegin vid 0x5A cmd seq len extra) s = .next t ∧ t.sbx.boot = s.sbx.boot ∧ getFld t (pgSbx + 0x040) 15 8 = 1 ∧
      (∃ b, said s t 0 seq.toNat Status.denied.code b) ∧ keeps [.regs, .sbx, .out] s t) ∧
  (∀ (vid : BitVec 16) (seq : BitVec 8) (off : Word) (data : Bytes) (s : State), doeOpen s = true → vid.toNat = getBits (otpWord s 0x004) 15 0 →
    s.sbx.boot = .dlReceive → off.toNat ≠ s.sbx.image.length → 4 ≤ data.length → data.length ≤ 65536 → data.length % 4 = 0 →
    ∃ t, exec (.dlChunk vid 0x5A seq off data false) s = .next t ∧ t.sbx = s.sbx ∧ getFld t (pgSbx + 0x040) 15 8 = 2 ∧
      (∃ b, said s t 0 seq.toNat Status.denied.code b) ∧ keeps [.regs, .out] s t) ∧
  (∀ (vid : BitVec 16) (seq : BitVec 8) (s : State), doeOpen s = true → vid.toNat = getBits (otpWord s 0x004) 15 0 →
    s.sbx.boot = .dlReceive → s.sbx.image.length < s.sbx.declared →
    ∃ t, exec (.dlEnd vid 0x5A seq false) s = .next t ∧ t.sbx = s.sbx ∧ getFld t (pgSbx + 0x040) 15 8 = 1 ∧
      (∃ b, said s t 0 seq.toNat Status.denied.code b) ∧ keeps [.regs, .out] s t) ∧
  (∀ (vid : BitVec 16) (typ cmd seq : BitVec 8) (len off : Word) (data : Bytes) (extra : Bool) (s : State) (c : Instr),
    c = .dlBegin vid typ cmd seq len extra ∨ c = .dlChunk vid typ seq off data extra ∨ c = .dlEnd vid typ seq extra ∨ c = .dlCancel vid typ seq extra →
    doeOpen s = true → vid.toNat ≠ getBits (otpWord s 0x004) 15 0 ∨ typ ≠ 0x5A →
    exec c s = .next { s with sbx := { s.sbx with hdError := true } })

/-- An idle download goes back to DL_WAIT with LAST_ERR 3 and its bytes dropped (06 R162). A reload fetch whose reads are done goes to VERIFY with the image
whose length its first 20 B give, and one that fails or times out goes to DL_WAIT (06 R170, Table 06.2). (functional, derived;
06_boot_and_firmware.md) -/
def Obligations.DownloadTimeoutsAndReload : Prop :=
  (∀ s : State, s.sbx.boot = .dlReceive → s.wrc.l4 = none →
    ∃ t, exec .dlIdleTimeout s = .next t ∧ t.sbx.boot = .dlWait ∧ t.sbx.image = [] ∧ getFld t (pgSbx + 0x040) 15 8 = 3 ∧
      keeps [.regs, .epochs, .sbx, .inc, .evr] s t) ∧
  (∀ (data : Bytes) (s : State), s.sbx.boot = .reload →
    ∃ t, exec (.reloadFetchDone data) s = .next t ∧ t.sbx.boot = .verify ∧ t.sbx.image = data.take (reloadLen (data.take 20)) ∧
      t.sbx.viaReload = true ∧ t.sbx.endSeq = none ∧ keeps [.sbx, .epochs, .out] s t) ∧
  (∀ s : State, s.sbx.boot = .reload → s.wrc.l4 = none →
    (∃ t, exec .reloadFetchFail s = .next t ∧ t.sbx.boot = .dlWait ∧ keeps [.sbx, .epochs] s t) ∧
    (∃ t, exec .reloadTimeout s = .next t ∧ t.sbx.boot = .dlWait ∧ keeps [.sbx, .epochs] s t))

/-- A verification with no failed check of Table 06.5 enters MEASURE and retains the digest of the signed region; one with a failed check clears the
image, counts, and is DL_LOCKED at the eighth failure and DL_WAIT before it (06 R166, R167). MEASURE_DONE without an L4 enters RUNNING, clears HELD (unless
a domain of KVT, SBX or MISC is dead), leaves ROM mode, arms the SBX watchdog and measures the image and its configuration; with a root to derive from it
derives CDI_1, the alias keys and the two certificates under the device identity keys, and without one it derives none (06 R171, R172, R174). Both need
cores that are not halted (07 R196). An extend of MEAS2 to MEAS7 by firmware sets BUSY, and its end replaces the register by the digest of its old
value and the input and clears BUSY (06 R173). (functional, derived; 06_boot_and_firmware.md, 19_faults_and_recovery.md) -/
def Obligations.VerificationAndMeasurement : Prop :=
  (∀ s : State, s.sbx.boot = .verify → s.sbx.halted = false → s.wrc.l4 = none →
    ∃ t, exec .verifyDone s = .next t ∧
      (if verifyErr s s.sbx.image = 0 then
        t.sbx.boot = .measure ∧ t.sbx.retained = some (Config.sha384 (signedRegion s.sbx.image)) ∧ t.sbx.svn = imgNat s.sbx.image 8 4
      else t.sbx.boot = (if 7 ≤ getFld s (pgSbx + 0x040) 3 0 then .dlLocked else .dlWait) ∧ t.sbx.image = [] ∧
        getFld t (pgSbx + 0x040) 3 0 = min 8 (getFld s (pgSbx + 0x040) 3 0 + 1)) ∧
      t.sbx.endSeq = none ∧ keeps [.regs, .epochs, .sbx, .inc, .evr, .out] s t) ∧
  (∀ s : State, s.sbx.boot = .measure → s.sbx.halted = false → s.wrc.l4 = none →
    ∃ t, exec .measureDone s = .next t ∧ t.sbx.boot = .running ∧ t.sbx.romMode = false ∧ t.wrc = { s.wrc with sbxWdArmed := true, everRunning := true } ∧
      t.held = (s.held && !(s.cru.dead = [])) ∧
      tblFind t.sbx.meas 0 = some (Config.sha384 (signedRegion s.sbx.image)) ∧ tblFind t.sbx.meas 1 = some (Config.sha384 (configRecord s)) ∧
      rawReg t (pgSbx + 0x044) = BitVec.ofNat 32 s.sbx.svn ∧
      (diceRoot s = none → t.kvt = s.kvt ∧ t.sbx.certs = s.sbx.certs) ∧
      (∀ root, diceRoot s = some root →
        let m0 := Config.sha384 (signedRegion s.sbx.image)
        let cdi := kCdi1 (kDice root) m0 (Config.sha384 (configRecord s))
        let ids := kIdSeed (kDice root)
        t.kvt.cdi1 = some cdi ∧ t.sbx.aliasKeys = some (seedEcdsa (kAliasSeed cdi), seedMldsa (kAliasSeed cdi)) ∧
        t.sbx.certs = some (ecdsaCert (seedEcdsa ids) (Config.ecdsaPublic (seedEcdsa (kAliasSeed cdi))) m0 s.sbx.svn,
          mldsaCert (seedMldsa ids) (Config.mldsaPublic (seedMldsa (kAliasSeed cdi))) m0 s.sbx.svn)) ∧
      keeps [.regs, .epochs, .held, .wrc, .sbx, .kvt, .free] s t ∧ regsKept [pgSbx + 0x044] s t) ∧
  (∀ s : State, s.sbx.halted = true → exec .verifyDone s = .next s ∧ exec .measureDone s = .next s) ∧
  (∀ (v : Word) (s : State), passes s .f (pgSbx + 0x050) true false = true → 2 ≤ getBits v 2 0 → s.sbx.extend = none →
    ∃ t, exec (.measExtend .f v) s = .next t ∧ t.sbx.extend = some (getBits v 2 0, (List.range 12).flatMap (fun k => leBytes 4 (rawReg s (pgSbx + 0x090 + 4 * k)).toNat)) ∧
      regBit t (pgSbx + 0x050) 9 = true ∧ t.out = s.out ++ [regOk .f (pgSbx + 0x050)] ∧
      keeps [.regs, .sbx, .out] s t ∧ regsKept [pgSbx + 0x050] s t) ∧
  (∀ (i : Nat) (input : Bytes) (s : State), s.sbx.extend = some (i, input) →
    ∃ t, exec .measExtendDone s = .next t ∧ t.sbx.extend = none ∧ tblFind t.sbx.meas i = some (Config.sha384 (measAt s i ++ input)) ∧
      regBit t (pgSbx + 0x050) 9 = false ∧ keeps [.regs, .sbx] s t ∧ regsKept [pgSbx + 0x050] s t)

/-- A sample that passes the continuous tests with no injection armed is kept: it joins the start-up set in STARTUP and the set that a reseed gathers. One
that fails empties the DRBG, counts in ENT_STAT and starts a new set, or ends in FAILED at the fourth failure (06 R158, 08 R225). A passed start-up set of
1,024 samples leads to instantiation, which leads to READY with a state drawn, BN drawn where there was none and kept where there was one (06 R158, 08
R203). A read of ENT_DRBG_DATA returns four drawn bytes in READY, and zero with NOT_READY otherwise. A reseed gathers 512 samples and then draws a
new state (08 R225); the oldest queued command that waited too long ends with NOT_READY (06 R159). (functional, derived; 06_boot_and_firmware.md,
08_entropy_and_keys.md) -/
def Obligations.EntropyCommands : Prop :=
  (∀ (raw : Nat) (s : State), s.ent.st = .startup ∨ s.ent.st = .instantiating ∨ s.ent.st = .ready →
    ∃ t, exec (.entSample raw) s = .next t ∧
      if Config.contTestFails s.ent.window raw = true ∨ injArmed s pgEnt 1 = true then
        t.ent.drbg = none ∧ t.ent.samples = 0 ∧ t.ent.reseeding = false ∧
          getFld t (pgEnt + 0x044) 15 8 = satAdd 255 (getFld s (pgEnt + 0x044) 15 8) 1 ∧
          getFld t (pgEnt + 0x044) 7 0 = satAdd 255 (getFld s (pgEnt + 0x044) 7 0) 1 ∧
          t.ent.st = (if 4 ≤ satAdd 255 (getFld s (pgEnt + 0x044) 7 0) 1 then .failed else .startup) ∧ keeps [.regs, .epochs, .ent, .inc, .evr] s t
      else t.ent.st = s.ent.st ∧ t.ent.drbg = s.ent.drbg ∧
        t.ent.samples = (if s.ent.st = .startup then min 1024 (s.ent.samples + 1) else s.ent.samples) ∧
        t.ent.reseedSamples = (if s.ent.reseeding = true then min 512 (s.ent.reseedSamples + 1) else s.ent.reseedSamples) ∧ keeps [.ent] s t) ∧
  (∀ s : State, s.ent.st = .startup → s.ent.samples = 1024 → injArmed s pgEnt 0 = false →
    exec (.entStartupSetDone true) s = .next { s with ent := { s.ent with st := .instantiating } }) ∧
  (∀ (pass : Bool) (s : State), s.ent.st = .startup → s.ent.samples = 1024 → pass = false ∨ injArmed s pgEnt 0 = true →
    ∃ t, exec (.entStartupSetDone pass) s = .next t ∧ t.ent.samples = 0 ∧
      getFld t (pgEnt + 0x044) 7 0 = satAdd 255 (getFld s (pgEnt + 0x044) 7 0) 1 ∧
      t.ent.st = (if 4 ≤ satAdd 255 (getFld s (pgEnt + 0x044) 7 0) 1 then .failed else .startup) ∧ keeps [.regs, .epochs, .ent, .inc, .evr] s t) ∧
  (∀ s : State, s.ent.st = .instantiating → s.kvt.queue = [] → s.kvt.loads = [] → idleUnits s →
    ∃ t, exec .drbgInstantiated s = .next t ∧ t.ent.st = .ready ∧ t.ent.drbg = some (Config.freeNat s.free) ∧
      t.kvt.bn = some (s.kvt.bn.getD (Config.drawn (s.free + 1) 32)) ∧ t.kvt.scramble.isSome = true ∧ t.out = s.out ∧
      keeps (touches .drbgInstantiated) s t) ∧
  (∀ (c : KCmd) (q : List KCmd) (s : State), s.kvt.queue = c :: q →
    ∃ t, exec .keygenQueueTimeout s = .next t ∧ t.kvt = { s.kvt with queue := q } ∧ getFld t (pgKvt + 0x04C) 7 0 = c.seq % 0x100 ∧
      getFld t (pgKvt + 0x04C) 15 8 = Status.notReady.code ∧ keeps [.regs, .kvt, .inc, .evr] s t) ∧
  (∀ (r : Role) (s : State), passes s r (pgEnt + 0x040) false false = true →
    ∃ t, exec (.entDrbgRead r) s = .next t ∧ keeps [.ent, .free, .out] s t ∧
      t.out = s.out ++ [if s.ent.st = .ready then ⟨.reg, r.key, 0, Status.ok.code, pgEnt + 0x040, leBytes 4 (BitVec.ofNat 32 (leNat ((Config.drawn s.free 4).take 4))).toNat⟩
        else ⟨.reg, r.key, 0, Status.notReady.code, pgEnt + 0x040, leBytes 4 0⟩]) ∧
  (∀ s : State, s.ent.st = .ready → s.ent.reseeding = false →
    exec .drbgReseedDue s = .next { s with ent := { s.ent with reseeding := true, reseedSamples := 0 } }) ∧
  (∀ s : State, s.ent.st = .ready → s.ent.reseeding = true → s.ent.reseedSamples = 512 →
    ∃ t, exec .drbgReseedDone s = .next t ∧ t.ent = { s.ent with drbg := some (Config.freeNat s.free), calls := 0, reseeding := false, reseedSamples := 0 } ∧
      getFld t (pgEnt + 0x044) 31 16 = (getFld s (pgEnt + 0x044) 31 16 + 1) % 0x10000 ∧ keeps [.regs, .ent, .free] s t ∧ regsKept [pgEnt + 0x044] s t)

/-- With a KTAB that JCT lets KVT read and write, GENERATE that meets no refusal, with entropy ready, draws a data key, writes a KEYED entry with its DEVICE
blob to KTAB and ends with the status of that write; with OK the map bit is set, the origin record stands in XBUF and the key's load begins (08 R222,
R561, Table 08.7). EXPORT of a KEYED entry whose blob opens and whose policy allows it places the DOMAIN blob under the named epoch key in XBUF; a policy
that forbids it ends with DENIED, a blob that does not open with AUTH_FAIL. IMPORT of a DOMAIN blob under a loaded epoch key, with a newer KeyID
epoch, writes the entry KEYED under the device key, and a blob that does not open ends with AUTH_FAIL. A table read that JCT refuses ends GENERATE with
that status and sets KTAB_AUTH (08 R208, 09 R254). (functional, derived; 08_entropy_and_keys.md, 09_memory_protection_layout.md) -/
def Obligations.KeyBlobCommands : Prop :=
  (∀ (seq : BitVec 8) (k : BitVec 16) (wst : Status) (dkek : Masked) (s : State), kvtTakes s .f = true → isTenant k.toNat = true →
    allZero (((xbuf s 40).drop 8).take 32) = false → blobField (xbuf s 40) 0 4 < 4 → blobField (xbuf s 40) 4 4 = 0 → ktabValid s = true →
    s.kvt.dkek = some dkek → s.ent.st = .ready → s.kvt.queue = [] → resetRoom s k.toNat = true → ktabOpen s k.toNat = true →
    ∃ t, exec (.generate .f seq k .unwritten wst) s = .next t ∧ kvtEnded t seq.toNat wst.code ∧
      t.kvt.serial = s.kvt.serial + (if wst.code = 0 then 1 else 0) ∧ (wst.code = 0 → mapBit t k.toNat = true ∧
        xbufHolds t (originRecord { s with kvt := { s.kvt with serial := s.kvt.serial + 1 } } k.toNat (rawReg s (pgKvt + 0x044)).toNat
          (blobField (xbuf s 40) 0 4) (((xbuf s 40).drop 8).take 32) (Config.drawn s.free 32))) ∧
      (∃ l, t.out = s.out ++ [regOk .f (pgKvt + 0x040), ktabOut s k.toNat ⟨true, (rawReg s (pgKvt + 0x044)).toNat, 0,
        makeBlob dkek.val 1 k.toNat (rawReg s (pgKvt + 0x044)).toNat 0 (blobField (xbuf s 40) 0 4) (((xbuf s 40).drop 8).take 32) (Config.drawn s.free 32)⟩] ++ l ∧
        (wst.code ≠ 0 → l = [])) ∧
      keeps [.regs, .epochs, .ent, .kvt, .anchor, .ctc, .engs, .inc, .evr, .free, .out] s t) ∧
  (∀ (seq : BitVec 8) (k : BitVec 16) (kt : KtabRead) (wst st : Status) (s : State), kvtTakes s .f = true → isTenant k.toNat = true →
    allZero (((xbuf s 40).drop 8).take 32) = false → blobField (xbuf s 40) 0 4 < 4 → blobField (xbuf s 40) 4 4 = 0 → ktabValid s = true →
    s.kvt.dkek.isSome = true → serviceRefusal s (ktabAddr s k.toNat / 4096) 0xFF03 false = some st →
    ∃ t, exec (.generate .f seq k kt wst) s = .next t ∧ kvtEnded t seq.toNat st.code ∧ regBit t (pgKvt + 0x018) 3 = true ∧
      t.kvt.slots = s.kvt.slots ∧ keeps [.regs, .epochs, .kvt, .inc, .evr, .out] s t) ∧
  (∀ (seq : BitVec 8) (k : BitVec 16) (kt : KtabRead) (dkek : Masked) (x : Kent) (p : Nat) (e : EpochKey) (s : State), kvtTakes s .f = true →
    isTenant k.toNat = true → ktabValid s = true → s.kvt.dkek = some dkek → (kentRead s k.toNat kt).2 = .inr (some x) → x.keyed = true →
    gatewayOpen s = false → blobOuterOk x.blob 1 = true → loadedEpoch s (rawReg s (pgKvt + 0x044)).toNat = some (p, e) →
    ∃ t, exec (.keyExport .f seq k kt) s = .next t ∧ t.out = s.out ++ [regOk .f (pgKvt + 0x040)] ∧ keeps [.regs, .epochs, .kvt, .inc, .evr, .out] s t ∧
      match openBlob dkek.val x.blob with
      | .inl _ => kvtEnded t seq.toNat Status.authFail.code
      | .inr (policy, owners, dk) => if policy % 2 = 0 then kvtEnded t seq.toNat Status.denied.code
        else kvtEnded t seq.toNat 0 ∧ xbufHolds t (makeBlob (kDomkek e.key.val e.num) 2 k.toNat x.kidEpoch e.num policy owners dk)) ∧
  (∀ (seq : BitVec 8) (kt : KtabRead) (wst : Status) (b : Bytes) (dkek : Masked) (x : Option Kent) (p : Nat) (e : EpochKey) (s : State),
    kvtTakes s .f = true → b = xbuf s 112 → blobOuterOk b 2 = true → isTenant (blobField b 4 2) = true → gatewayOpen s = false → ktabValid s = true →
    s.kvt.dkek = some dkek → (kentRead s (blobField b 4 2) kt).2 = .inr x → (∀ y, x = some y → y.kidEpoch < blobField b 8 4) →
    loadedEpoch s (blobField b 12 4) = some (p, e) → resetRoom s (blobField b 4 2) = true → ktabOpen s (blobField b 4 2) = true →
    ∃ t, exec (.keyImport .f seq kt wst) s = .next t ∧ keeps [.regs, .epochs, .kvt, .anchor, .ctc, .engs, .inc, .evr, .out] s t ∧
      match openBlob (kDomkek e.key.val e.num) b with
      | .inl _ => kvtEnded t seq.toNat Status.authFail.code ∧ t.out = s.out ++ [regOk .f (pgKvt + 0x040)]
      | .inr (policy, owners, dk) => kvtEnded t seq.toNat wst.code ∧ ∃ l, t.out = s.out ++ [regOk .f (pgKvt + 0x040),
          ktabOut s (blobField b 4 2) ⟨true, blobField b 8 4, 0, makeBlob dkek.val 1 (blobField b 4 2) (blobField b 8 4) 0 policy owners dk⟩] ++ l)

/-- LOAD of a KeyID whose slot is LIVE pins it where asked and ends with OK; of one without a slot it starts or joins a load that answers the command, and
ends with RETRY where every slot of the share is pinned (08 R216, R217, R222). UNPIN of a LIVE slot clears its pin and ends with OK. A load whose
entry opens makes the slot LIVE with the entry's epochs, one whose entry does not open frees the slot (08 R215, R217). A load that waits for entropy too
long ends (08 R203). The remask timer puts the next slot's keys under another mask (08 R212). (functional, derived; 08_entropy_and_keys.md) -/
def Obligations.KeyLoads : Prop :=
  (∀ (seq : BitVec 8) (k : BitVec 16) (n : Nat) (x : Slot) (s : State), kvtTakes s .f = true → isTenant k.toNat = true →
    isRetiring s k.toNat = false → slotOf s k.toNat = some (n, x) → x.st = .live →
    ∃ t, exec (.load .f seq k) s = .next t ∧ kvtEnded t seq.toNat 0 ∧
      tblFind t.kvt.slots n = some { x with pinned := x.pinned || regBit s (pgKvt + 0x048) 0, used := s.kvt.useClock + 1 } ∧
      t.out = s.out ++ [regOk .f (pgKvt + 0x040)] ∧ keeps [.regs, .epochs, .kvt, .inc, .evr, .out] s t) ∧
  (∀ (seq : BitVec 8) (k : BitVec 16) (s : State), kvtTakes s .f = true → isTenant k.toNat = true → isRetiring s k.toNat = false →
    slotOf s k.toNat = none → loadRefused s k.toNat = none →
    ((loadOf s k.toNat).isSome = true ∨ allPinned s (loadCharge s k.toNat none) = false) →
    ∃ t, exec (.load .f seq k) s = .next t ∧ t.kvt.cmd = some (kvtTaken s 0x04 seq.toNat k.toNat 0) ∧ regBit t (pgKvt + 0x04C) 16 = true ∧
      (∃ l, loadOf t k.toNat = some l ∧ l.cmd = true) ∧ keeps [.regs, .epochs, .kvt, .anchor, .ctc, .engs, .inc, .evr, .free, .out] s t) ∧
  (∀ (seq : BitVec 8) (k : BitVec 16) (s : State), kvtTakes s .f = true → isTenant k.toNat = true → isRetiring s k.toNat = false →
    slotOf s k.toNat = none → loadRefused s k.toNat = none → loadOf s k.toNat = none → allPinned s (loadCharge s k.toNat none) = true →
    ∃ t, exec (.load .f seq k) s = .next t ∧ kvtEnded t seq.toNat Status.retry.code ∧ t.kvt.loads = s.kvt.loads ∧
      keeps [.regs, .epochs, .kvt, .inc, .evr, .out] s t) ∧
  (∀ (seq : BitVec 8) (k : BitVec 16) (n : Nat) (x : Slot) (s : State), kvtTakes s .f = true → slotOf s k.toNat = some (n, x) → x.st = .live →
    ∃ t, exec (.unpin .f seq k) s = .next t ∧ keeps (touches (.unpin .f seq k)) s t ∧ kvtEnded t seq.toNat 0 ∧
      (s.kvt.loads = [] → tblFind t.kvt.slots n = some { x with pinned := false } ∧ t.out = s.out ++ [regOk .f (pgKvt + 0x040)])) ∧
  (∀ (k : BitVec 16) (kt : KtabRead) (l : Load) (n : Nat) (x : Kent) (s : State), s.kvt.loads = [l] → l.keyId = k.toNat → l.slot = some n →
    idleUnits s → hasDirty s k.toNat = false →
    (kentRead s k.toNat kt).2 = .inr (some x) → x.keyed = true → gatewayOpen s = false → injArmed s pgKvt 1 = false →
    ∃ t, exec (.keyLoadDone k kt) s = .next t ∧ t.kvt.loads = [] ∧ keeps (touches (.keyLoadDone k kt)) s t ∧
      match openBlob (s.kvt.dkek.getD Masked.zero).val x.blob with
      | .inl _ => tblFind t.kvt.slots n = none
      | .inr (policy, _, _) => if blobOuterOk x.blob 1 = true ∧ blobField x.blob 4 2 = k.toNat ∧ blobField x.blob 8 4 = x.kidEpoch then
          ∃ y, tblFind t.kvt.slots n = some y ∧ y.st = .live ∧ y.keyId = k.toNat ∧ y.kidEpoch = x.kidEpoch ∧ y.stepEpoch = x.stepEpoch ∧
            y.policy = policy ∧ y.pinned = l.pin ∧ y.banks.isSome = true
        else tblFind t.kvt.slots n = none) ∧
  (∀ (k : BitVec 16) (l : Load) (s : State), s.kvt.loads = [l] → l.keyId = k.toNat → l.slot = none → loadBlocked s = true → idleUnits s →
    ∃ t, exec (.keyLoadWaitTimeout k) s = .next t ∧ t.kvt.loads = [] ∧ t.kvt.slots = s.kvt.slots ∧
      (∀ c, s.kvt.cmd = some c → l.cmd = true → c.op = 4 → c.keyId = k.toNat → kvtEnded t c.seq Status.notReady.code) ∧
      keeps [.regs, .kvt, .ctc, .spans, .inc, .evr] s t) ∧
  (∀ s : State, domUp s 1 = true → s.kvt.maskGen.isSome = true →
    ∃ t, exec .slotRemask s = .next t ∧ t.kvt.remask = (s.kvt.remask + 1) % 8224 ∧ t.free = s.free + 1 ∧ keeps [.regs, .kvt, .free] s t ∧
      (∀ x, s.kvt.remask < 8192 → tblFind s.kvt.slots s.kvt.remask = some x → tblFind t.kvt.slots s.kvt.remask =
        some { x with banks := x.banks.map (fun b => (b.1.remask (Config.drawn s.free 32), b.2.remask (Config.drawn s.free 32))) }))

/-- With a KTAB that JCT lets KVT read and write: STEP of a KEYED entry writes it with STEP_EPOCH + 1 and stays busy; where the KeyID has a slot and its
blob does not open it ends with AUTH_FAIL. The end of that write with OK flips the slot's active bank and its step epoch, and STEP ends with the write's
status (08 R218). RETIRE starts the drain and stays busy; the drain's end starts the write-back, its end writes the entry RETIRED with its KeyID
epoch kept, the slot's or the entry's own, and a read that fails leaves the KeyID retiring; the end of that write with OK clears the map bit and the
binding (08 R208, R219). (functional, derived; 08_entropy_and_keys.md, 01_block_architecture.md) -/
def Obligations.StepAndRetire : Prop :=
  (∀ (seq : BitVec 8) (k : BitVec 16) (kt : KtabRead) (dkek : Masked) (x : Kent) (s : State), kvtTakes s .f = true → isTenant k.toNat = true →
    mapBit s k.toNat = true → isRetiring s k.toNat = false → ktabValid s = true → s.kvt.dkek = some dkek →
    (kentRead s k.toNat kt).2 = .inr (some x) → x.keyed = true → x.stepEpoch ≠ 0xFFFFFFFF → gatewayOpen s = false → blobOuterOk x.blob 1 = true →
    ∃ t, exec (.kvtStep .f seq k kt) s = .next t ∧ keeps [.regs, .epochs, .kvt, .inc, .evr, .free, .out] s t ∧
      match keyedSlot s k.toNat, openBlob dkek.val x.blob with
      | some _, .inl _ => kvtEnded t seq.toNat Status.authFail.code
      | _, _ => t.kvt.cmd = some { kvtTaken s 0x06 seq.toNat k.toNat 0 with arg0 := x.stepEpoch + 1 } ∧ regBit t (pgKvt + 0x04C) 16 = true ∧
        t.out = s.out ++ [regOk .f (pgKvt + 0x040), ktabOut s k.toNat { x with stepEpoch := x.stepEpoch + 1 }]) ∧
  (∀ (st : Status) (c : KCmd) (n : Nat) (x : Slot) (s : State), s.kvt.cmd = some c → c.op = 0x06 → c.arg1 = 0 → keyedSlot s c.keyId = some (n, x) →
    ktabOpen s c.keyId = true →
    ∃ t, exec (.stepKtabWriteDone st) s = .next t ∧ kvtEnded t c.seq st.code ∧ keeps [.regs, .kvt, .inc, .evr] s t ∧
      tblFind t.kvt.slots n = some (if st.code = 0 then { x with active := !x.active, stepEpoch := c.arg0, banks := x.banks.map (eraseInactive (!x.active)) }
        else { x with banks := x.banks.map (eraseInactive x.active) })) ∧
  (∀ (seq : BitVec 8) (k : BitVec 16) (s : State), kvtTakes s .f = true → isTenant k.toNat = true → mapBit s k.toNat = true →
    isRetiring s k.toNat = false →
    ∃ t, exec (.retire .f seq k) s = .next t ∧ t.kvt.cmd = some (kvtTaken s 0x07 seq.toNat k.toNat 0) ∧
      tblFind t.kvt.retiring k.toNat = some .drain ∧ loadOf t k.toNat = none ∧ keeps (touches (.retire .f seq k)) s t) ∧
  (∀ (k : BitVec 16) (s : State), tblFind s.kvt.retiring k.toNat = some .drain → admittedUnder s k.toNat = false →
    ∃ t, exec (.retireDrainDone k) s = .next t ∧ tblFind t.kvt.retiring k.toNat = some .writeback ∧ keeps (touches (.retireDrainDone k)) s t) ∧
  (∀ (k : BitVec 16) (kt : KtabRead) (ep : Nat) (s : State), tblFind s.kvt.retiring k.toNat = some .writeback →
    (match slotOf s k.toNat with
      | some (_, x) => ep = x.kidEpoch
      | none => ∃ x, (kentRead s k.toNat kt).2 = .inr (some x) ∧ ep = x.kidEpoch) →
    ∃ t, exec (.retireWritebackDone k kt) s = .next t ∧ tblFind t.kvt.retiring k.toNat = some .ktab ∧
      t.out.getLast? = some (ktabOut t k.toNat ⟨false, ep, 0, []⟩) ∧ keeps (touches (.retireWritebackDone k kt)) s t) ∧
  (∀ (k : BitVec 16) (kt : KtabRead) (st : Nat) (s : State), tblFind s.kvt.retiring k.toNat = some .writeback → slotOf s k.toNat = none →
    (kentRead s k.toNat kt).2 = .inl st → s.imu.inst.all (fun x => x.2.seq.all (fun q => q.retiring != some k.toNat)) = true →
    ∃ t, exec (.retireWritebackDone k kt) s = .next t ∧ tblFind t.kvt.retiring k.toNat = some .ktabFailed ∧ regBit t (pgKvt + 0x018) 3 = true ∧
      keeps (touches (.retireWritebackDone k kt)) s t) ∧
  (∀ (k : BitVec 16) (st : Status) (s : State), tblFind s.kvt.retiring k.toNat = some .ktab → ktabOpen s k.toNat = true →
    s.imu.inst.all (fun x => x.2.seq.all (fun q => q.retiring != some k.toNat)) = true →
    ∃ t, exec (.retireKtabWriteDone k st) s = .next t ∧ keeps (touches (.retireKtabWriteDone k st)) s t ∧
      (if st.code = 0 then tblFind t.kvt.retiring k.toNat = none ∧ tblFind t.imu.binds k.toNat = none ∧ tblGet false t.anchor.kmap k.toNat = false
       else tblFind t.kvt.retiring k.toNat = some .ktabFailed))

/-- With entropy ready and no command queued JOIN_KEYGEN draws the two ephemeral keys into the join slot and places their public keys in XBUF; before entropy
is ready it waits in the queue with BUSY 0, the 65th command that would wait ends with RETRY, and with entropy failed it ends with NOT_READY (06 R159, 08
Table 08.9). JOIN_RESPOND holds both shared secrets and places its ECDH key and the ciphertext in XBUF, and ends with DENIED where a key is refused.
JOIN_DECAP holds the shared secrets, or ends with DENIED. JOIN_FINISH derives JTK, held masked, and erases the rest of the join slot (08 R212, R222).
(functional, derived; 08_entropy_and_keys.md, 06_boot_and_firmware.md) -/
def Obligations.JoinSlotCommands : Prop :=
  (∀ (seq : BitVec 8) (s : State), kvtTakes s .f = true → s.ent.st = .ready → s.kvt.queue = [] →
    ∃ t, exec (.joinKeygen .f seq) s = .next t ∧ kvtEnded t seq.toNat 0 ∧
      t.kvt.join = ⟨some (Config.drawn s.free 48), some (Config.drawn (s.free + 1) 64), none, none, none⟩ ∧
      xbufHolds t (Config.ecdhPublic (Config.drawn s.free 48) ++ Config.kemPublic (Config.drawn (s.free + 1) 64)) ∧
      t.out = s.out ++ [regOk .f (pgKvt + 0x040)] ∧ keeps [.regs, .epochs, .ent, .kvt, .inc, .evr, .free, .out] s t) ∧
  (∀ (seq : BitVec 8) (s : State), kvtTakes s .f = true → s.ent.st ≠ .ready → s.ent.st ≠ .failed → s.kvt.queue.length < 64 →
    ∃ t, exec (.joinKeygen .f seq) s = .next t ∧ t.kvt = { s.kvt with queue := s.kvt.queue ++ [kvtTaken s 0x10 seq.toNat 0 0] } ∧
      regBit t (pgKvt + 0x04C) 16 = false ∧ t.out = s.out ++ [regOk .f (pgKvt + 0x040)] ∧ keeps [.regs, .epochs, .kvt, .out] s t) ∧
  (∀ (seq : BitVec 8) (s : State), kvtTakes s .f = true → s.ent.st ≠ .failed → 64 ≤ s.kvt.queue.length →
    ∃ t, exec (.joinKeygen .f seq) s = .next t ∧ kvtEnded t seq.toNat Status.retry.code ∧ t.kvt = s.kvt ∧
      keeps [.regs, .epochs, .inc, .evr, .out] s t) ∧
  (∀ (seq : BitVec 8) (s : State), kvtTakes s .f = true → s.ent.st = .failed →
    ∃ t, exec (.joinKeygen .f seq) s = .next t ∧ kvtEnded t seq.toNat Status.notReady.code ∧ t.kvt = s.kvt ∧
      keeps [.regs, .epochs, .inc, .evr, .out] s t) ∧
  (∀ (seq : BitVec 8) (s : State), kvtTakes s .f = true → s.ent.st = .ready → s.kvt.queue = [] →
    ∃ t, exec (.joinRespond .f seq) s = .next t ∧ keeps [.regs, .epochs, .ent, .kvt, .inc, .evr, .free, .out] s t ∧
      match Config.ecdhShared (Config.drawn s.free 48) ((xbuf s 1664).take 96), Config.kemEncaps ((xbuf s 1664).drop 96) (Config.freeNat (s.free + 1)) with
      | some ss, some (ct, kss) => kvtEnded t seq.toNat 0 ∧ t.kvt.join = ⟨some (Config.drawn s.free 48), none, some ss, some kss, none⟩ ∧
          xbufHolds t (Config.ecdhPublic (Config.drawn s.free 48) ++ ct)
      | _, _ => kvtEnded t seq.toNat Status.denied.code ∧ t.kvt.join = s.kvt.join) ∧
  (∀ (seq : BitVec 8) (a b : Bytes) (s : State), kvtTakes s .f = true → s.kvt.join.ecdh = some a → s.kvt.join.kem = some b →
    ∃ t, exec (.joinDecap .f seq) s = .next t ∧ keeps [.regs, .epochs, .kvt, .inc, .evr, .out] s t ∧
      match Config.ecdhShared a ((xbuf s 1664).take 96) with
      | some ss => kvtEnded t seq.toNat 0 ∧
          t.kvt.join = { s.kvt.join with ssEcdh := some ss, ssKem := some ((Config.kemDecaps b (((xbuf s 1664).drop 96).take 1568)).getD []) }
      | none => kvtEnded t seq.toNat Status.denied.code ∧ t.kvt.join = s.kvt.join) ∧
  (∀ (seq : BitVec 8) (a b : Bytes) (s : State), kvtTakes s .f = true → s.kvt.join.ssEcdh = some a → s.kvt.join.ssKem = some b →
    ∃ t, exec (.joinFinish .f seq) s = .next t ∧ kvtEnded t seq.toNat 0 ∧
      t.kvt.join = ⟨none, none, none, none, some (Masked.make (Config.drawn s.free 32) (kJtk b a ((xbuf s 48).take 48)))⟩ ∧
      keeps [.regs, .epochs, .kvt, .inc, .evr, .free, .out] s t)

/-- EPOCH_GENERATE of a number above the current one draws a pending key, held masked, and one not above it ends with EPOCH_STALE (08 R222, 02 R38). EPOCH_WRAP
places the EPOCH blob in XBUF and uses JTK up. EPOCH_LOAD puts the pending key, or the key of a blob that opens under JTK, into the free position (02 R40,
R41). EPOCH_SEND of a loaded epoch newer than the current one designates its key and lets the planned configuration, ID, pod and members take effect; one
that is not newer ends with EPOCH_STALE and changes none of them (02 R4, R38, R40). The erase drops the older position, with its pair keys, once phase 2 has
committed, and nothing before it. ENROL in MAKER with blank helper words starts enrolment, whose end ends the command (08 R202). (functional, derived;
08_entropy_and_keys.md, 02_trust_domain_model.md, 06_boot_and_firmware.md) -/
def Obligations.EpochKeyCommands : Prop :=
  (∀ (seq : BitVec 8) (s : State), kvtTakes s .f = true → s.ent.st = .ready → s.kvt.queue = [] → s.dom.epoch < (rawReg s (pgKvt + 0x044)).toNat →
    ∃ t, exec (.epochGenerate .f seq) s = .next t ∧ kvtEnded t seq.toNat 0 ∧
      t.kvt.pendingKey = some ⟨(rawReg s (pgKvt + 0x044)).toNat, Masked.make (Config.drawn (s.free + 1) 32) (Config.drawn s.free 32)⟩ ∧
      keeps [.regs, .epochs, .ent, .kvt, .inc, .evr, .free, .out] s t) ∧
  (∀ (seq : BitVec 8) (s : State), kvtTakes s .f = true → (rawReg s (pgKvt + 0x044)).toNat ≤ s.dom.epoch →
    ∃ t, exec (.epochGenerate .f seq) s = .next t ∧ kvtEnded t seq.toNat Status.epochStale.code ∧ t.kvt = s.kvt ∧
      keeps [.regs, .epochs, .inc, .evr, .out] s t) ∧
  (∀ (seq : BitVec 8) (jtk : Masked) (e : EpochKey) (s : State), kvtTakes s .f = true → s.kvt.join.jtk = some jtk →
    heldEpoch s (rawReg s (pgKvt + 0x044)).toNat = some e →
    ∃ t, exec (.epochWrap .f seq) s = .next t ∧ kvtEnded t seq.toNat 0 ∧ t.kvt.join = { s.kvt.join with jtk := none } ∧
      xbufHolds t (makeBlob jtk.val 3 0 e.num 0 0 (zeros 32) e.key.val) ∧ keeps [.regs, .epochs, .kvt, .inc, .evr, .out] s t) ∧
  (∀ (seq : BitVec 8) (e : EpochKey) (s : State), kvtTakes s .f = true → (s.kvt.pos0 = none ∨ s.kvt.pos1 = none) → regBit s (pgKvt + 0x048) 1 = true →
    s.kvt.pendingKey = some e → s.dom.epoch < e.num → loadedEpoch s e.num = none →
    ∃ t, exec (.epochLoad .f seq) s = .next t ∧ kvtEnded t seq.toNat 0 ∧ t.kvt.pendingKey = none ∧
      (if s.kvt.pos0 = none then t.kvt.pos0 = some e ∧ t.kvt.pos1 = s.kvt.pos1 else t.kvt.pos0 = s.kvt.pos0 ∧ t.kvt.pos1 = some e) ∧
      keeps [.regs, .epochs, .kvt, .inc, .evr, .out] s t) ∧
  (∀ (seq : BitVec 8) (jtk : Masked) (s : State), kvtTakes s .f = true → (s.kvt.pos0 = none ∨ s.kvt.pos1 = none) → regBit s (pgKvt + 0x048) 1 = false →
    s.dom.epoch < blobField (xbuf s 112) 8 4 → loadedEpoch s (blobField (xbuf s 112) 8 4) = none → s.kvt.join.jtk = some jtk →
    blobOuterOk (xbuf s 112) 3 = true →
    ∃ t, exec (.epochLoad .f seq) s = .next t ∧ t.kvt.join.jtk = none ∧ keeps [.regs, .epochs, .kvt, .inc, .evr, .free, .out] s t ∧
      match openBlob jtk.val (xbuf s 112) with
      | .inl _ => kvtEnded t seq.toNat Status.authFail.code ∧ t.kvt.pos0 = s.kvt.pos0 ∧ t.kvt.pos1 = s.kvt.pos1
      | .inr (_, _, k) => kvtEnded t seq.toNat 0 ∧
          (let e : EpochKey := ⟨blobField (xbuf s 112) 8 4, Masked.make (Config.drawn s.free 32) k⟩
           if s.kvt.pos0 = none then t.kvt.pos0 = some e ∧ t.kvt.pos1 = s.kvt.pos1 else t.kvt.pos0 = s.kvt.pos0 ∧ t.kvt.pos1 = some e)) ∧
  (∀ (seq : BitVec 8) (p : Nat) (e : EpochKey) (s : State), kvtTakes s .f = true → loadedEpoch s (rawReg s (pgKvt + 0x044)).toNat = some (p, e) →
    s.dom.epoch < e.num → (s.dom.nextOwnId = s.dom.ownId ∨ s.anchor.kmap.any (fun x => x.2) = false) →
    ∃ t, exec (.epochSend .f seq) s = .next t ∧ kvtEnded t seq.toNat 0 ∧ t.kvt.sendPos = p ∧
      t.dom = { s.dom with epoch := e.num, ownId := s.dom.nextOwnId, pod := s.dom.nextPod, config := s.dom.nextConfig, members := s.dom.nextMembers } ∧
      keeps (touches (.epochSend .f seq)) s t) ∧
  (∀ (seq : BitVec 8) (p : Nat) (e : EpochKey) (s : State), kvtTakes s .f = true → loadedEpoch s (rawReg s (pgKvt + 0x044)).toNat = some (p, e) →
    e.num ≤ s.dom.epoch →
    ∃ t, exec (.epochSend .f seq) s = .next t ∧ kvtEnded t seq.toNat Status.epochStale.code ∧ t.kvt = s.kvt ∧
      keeps [.regs, .epochs, .inc, .evr, .out] s t) ∧
  (∀ (x y z : EpochKey) (s : State), s.kvt.pos0 = some x → s.kvt.pos1 = some y → sendKey s = some z → x.num < s.dom.epoch ∨ y.num < s.dom.epoch →
    ∃ t, exec .epochKeyErase s = .next t ∧
      (if x.num < s.dom.epoch then t.kvt.pos0 = none ∧ t.kvt.pos1 = some y ∧ t.kvt.pkc = s.kvt.pkc.filter (fun k => k.pos != 0)
       else t.kvt.pos0 = some x ∧ t.kvt.pos1 = none ∧ t.kvt.pkc = s.kvt.pkc.filter (fun k => k.pos != 1)) ∧
      keeps [.regs, .kvt, .spans, .maps] s t) ∧
  (∀ s : State, sendKey s = none → exec .epochKeyErase s = .next s) ∧
  (∀ (seq : BitVec 8) (s : State), kvtTakes s .m = true → s.lco.lc = .maker → (∀ w, w < 2053 → otpWord s (0x100 + w) = 0) → s.ent.st = .ready →
    s.kvt.queue = [] → s.lco.op = none →
    ∃ t, exec (.enrol .m seq) s = .next t ∧ t.lco.op = some (.enrol 0 0 (enrolHelper s).1) ∧
      t.kvt.cmd = some (kvtTaken s 0x08 seq.toNat 0 0) ∧ regBit t (pgKvt + 0x04C) 16 = true ∧ regBit t (pgLco + 0x040) 12 = true ∧
      keeps [.regs, .epochs, .ent, .lco, .kvt, .free, .out] s t) ∧
  (∀ (ok : Bool) (c : KCmd) (s : State), s.lco.op = some (.enrolEnd ok) → s.kvt.cmd = some c → c.op = 0x08 → s.kvt.queue = [] →
    ∃ t, exec .enrolComplete s = .next t ∧ t.lco.op = s.lco.nextOps.head? ∧ kvtEnded t c.seq (if ok then 0 else Status.aborted.code) ∧
      keeps [.regs, .lco, .kvt, .inc, .evr] s t)

/-- A GO that meets no refusal of R179 starts the token comparison; one that meets one answers its status, reports it in LAST_STAT and leaves EPOCH. DBG_UNLOCK
does the same under R192; its RETRY while an OTP operation is in progress is the model's (log entry 103). DBG_CLOSE closes the memory gateway (07 R193).
At the end of the comparison the token registers are clear; a token that does not match counts and ends with DENIED; a match unlocks, where the boot state is
still one of R192's, or starts to program the next byte of the target, or zeroises for RETURNED and SCRAPPED (07 R179 to R181). (functional, derived;
07_lifecycle_and_debug.md) -/
def Obligations.LifeCycleCommands : Prop :=
  (∀ (r : Role) (v : Word) (b : Lc) (s : State), passes s r (pgLco + 0x044) true true = true → getBit v 10 = false →
    goRefusal s r (getBits v 7 0) = none → lcOfCode (getBits v 7 0) = some b →
    ∃ t, exec (.lcGo r v) s = .next t ∧ t.lco = { s.lco with op := some (.compareGo b) } ∧ regBit t (pgLco + 0x040) 12 = true ∧
      t.out = s.out ++ [regOk r (pgLco + 0x044)] ∧ epochOf t pgLco = (epochOf s pgLco + 1) % 0x1000000 ∧ keeps [.regs, .epochs, .lco, .out] s t ∧
      regsKept [pgLco + 0x040] s t) ∧
  (∀ (r : Role) (v : Word) (st : Status) (s : State), passes s r (pgLco + 0x044) true true = true → getBit v 10 = false →
    goRefusal s r (getBits v 7 0) = some st →
    ∃ t, exec (.lcGo r v) s = .next t ∧ getFld t (pgLco + 0x040) 31 24 = st.code ∧ t.out = s.out ++ [regSt r (pgLco + 0x044) st] ∧
      keeps [.regs, .inc, .evr, .out] s t) ∧
  (∀ (r : Role) (v : Word) (s : State), passes s r (pgLco + 0x044) true true = true → getBit v 10 = false → unlockRefusal s = none →
    ∃ t, exec (.dbgUnlock r v) s = .next t ∧ t.lco = { s.lco with op := some .compareUnlock } ∧ regBit t (pgLco + 0x040) 12 = true ∧
      t.out = s.out ++ [regOk r (pgLco + 0x044)] ∧ keeps [.regs, .epochs, .lco, .out] s t ∧ regsKept [pgLco + 0x040] s t) ∧
  (∀ (r : Role) (v : Word) (st : Status) (s : State), passes s r (pgLco + 0x044) true true = true → getBit v 10 = false → unlockRefusal s = some st →
    ∃ t, exec (.dbgUnlock r v) s = .next t ∧ getFld t (pgLco + 0x040) 31 24 = st.code ∧ t.out = s.out ++ [regSt r (pgLco + 0x044) st] ∧
      keeps [.regs, .inc, .evr, .out] s t) ∧
  (∀ (r : Role) (v : Word) (s : State), passes s r (pgLco + 0x044) true false = true → getBits v 7 0 = 0 → (r.kind = .m ∨ r.kind = .f) →
    ∃ t, exec (.dbgClose r v) s = .next t ∧ t.lco = { s.lco with gateClosed := true } ∧ gatewayOpen t = false ∧ regBit t (pgLco + 0x040) 13 = false ∧
      t.out = s.out ++ [regOk r (pgLco + 0x044)] ∧ keeps [.regs, .lco, .out] s t ∧ regsKept [pgLco + 0x040] s t) ∧
  (∀ s : State, s.lco.op = some .compareUnlock →
    ∃ t, exec .tokenCompareDone s = .next t ∧ t.lco.op = s.lco.nextOps.head? ∧ (∀ k, k < 8 → rawReg t (pgLco + 0x048 + 4 * k) = 0) ∧
      keeps [.regs, .lco, .inc, .evr] s t ∧
      (if unlockBoot s = true ∧ Config.sha384 (tokenBytes s) = otpBytes s 0x050 12 then
        t.lco.unlocked = true ∧ getFld t (pgLco + 0x040) 31 24 = Status.ok.code
       else t.lco.unlocked = s.lco.unlocked ∧ getFld t (pgLco + 0x040) 31 24 = Status.denied.code ∧
         getFld t (pgLco + 0x040) 19 16 = satAdd 15 (getFld s (pgLco + 0x040) 19 16) (b2n (unlockBoot s)))) ∧
  (∀ (b : Lc) (s : State), s.lco.op = some (.compareGo b) →
    ∃ t, exec .tokenCompareDone s = .next t ∧ keeps (touches .tokenCompareDone) s t ∧
      (if Config.sha384 (tokenBytes s) = otpBytes s (tokenWords b) 12 then
        (b = .returned ∨ b = .scrapped → t.kvt.refuseAll = true) ∧
        (b = .integrator ∨ b = .fielded → ∀ c y, nextByte s b = some (c, y) → t.lco.op = some (.transition b c y 0))
       else t.lco.op = s.lco.nextOps.head? ∧ getFld t (pgLco + 0x040) 31 24 = Status.denied.code ∧
         getFld t (pgLco + 0x040) 19 16 = satAdd 15 (getFld s (pgLco + 0x040) 19 16) 1))

/-- A verified pulse leaves its bits set in OTP and goes on or ends the operation with OK; a pulse that fails its verify is repeated, and the eighth
failure ends the operation with ABORTED (07 R180, R189, 06 R169, 19 R502, R504, 08 R202). PROG that Table 07.4 allows starts programming. READ loads the
word that Table 07.4 serves and answers OK, and otherwise loads zero and answers DENIED (07 R188). A target above the anti-rollback value and within the
image's SVN starts the increment, whose write completes with OK when the target is reached and with ABORTED when a cell fails; one at or below the value
ends with OK, one above the SVN with DENIED and no advance of EPOCH (06 R169, 05 R144). (functional, derived; 07_lifecycle_and_debug.md,
06_boot_and_firmware.md, 19_faults_and_recovery.md) -/
def Obligations.OtpProgramming : Prop :=
  (∀ (w : Nat) (v : Word) (p : Nat) (s : State), s.lco.op = some (.prog w v p) →
    (∃ t, exec (.otpPulseDone true) s = .next t ∧ otpWord t w = otpWord s w ||| v ∧ t.lco.op = s.lco.nextOps.head? ∧
      getFld t (pgLco + 0x040) 31 24 = Status.ok.code ∧ keeps [.regs, .lco, .otp, .inc] s t) ∧
    (p < 7 → exec (.otpPulseDone false) s = .next { s with lco := { s.lco with op := some (.prog w v (p + 1)) } }) ∧
    (7 ≤ p → ∃ t, exec (.otpPulseDone false) s = .next t ∧ t.lco.op = s.lco.nextOps.head? ∧ getFld t (pgLco + 0x040) 31 24 = Status.aborted.code ∧
      keeps [.regs, .lco, .inc, .evr] s t)) ∧
  (∀ (b : Lc) (c y p : Nat) (s : State), s.lco.op = some (.transition b c y p) →
    (∃ t, exec (.otpPulseDone true) s = .next t ∧ otpWord t c = otpWord s c ||| (b.word &&& fieldMask (8 * y + 7) (8 * y)) ∧
      keeps (touches (.otpPulseDone true)) s t) ∧
    (p < 7 → exec (.otpPulseDone false) s = .next { s with lco := { s.lco with op := some (.transition b c y (p + 1)) } }) ∧
    (7 ≤ p → ∃ t, exec (.otpPulseDone false) s = .next t ∧ t.lco.op = s.lco.nextOps.head? ∧ getFld t (pgLco + 0x040) 31 24 = Status.aborted.code ∧
      keeps [.regs, .lco, .inc, .evr] s t)) ∧
  (∀ (r : Role) (tgt cell p : Nat) (s : State), s.lco.op = some (.arb r tgt cell p) →
    (∃ t, exec (.otpPulseDone true) s = .next t ∧
      otpWord t (0x008 + cell / 32) = otpWord s (0x008 + cell / 32) ||| BitVec.ofNat 32 (2 ^ (cell % 32)) ∧
      getFld t (pgLco + 0x0C0) 8 0 = (cell + 1) % 512 ∧
      (if cell + 1 = tgt then t.lco.op = s.lco.nextOps.head? ∧ t.out = s.out ++ [regOk r (pgLco + 0x0C4)] ∧
        getFld t (pgLco + 0x040) 31 24 = Status.ok.code
       else t.lco.op = some (.arb r tgt (cell + 1) 0) ∧ t.out = s.out) ∧ keeps [.regs, .lco, .otp, .inc, .out] s t) ∧
    (p < 7 → exec (.otpPulseDone false) s = .next { s with lco := { s.lco with op := some (.arb r tgt cell (p + 1)) } }) ∧
    (7 ≤ p → ∃ t, exec (.otpPulseDone false) s = .next t ∧ t.lco.op = s.lco.nextOps.head? ∧ regBit t (pgLco + 0x0C0) 17 = true ∧
      t.out = s.out ++ [regSt r (pgLco + 0x0C4) .aborted] ∧ getFld t (pgLco + 0x040) 31 24 = Status.aborted.code ∧
      keeps [.regs, .lco, .inc, .evr, .out] s t)) ∧
  (∀ (cell p : Nat) (s : State), s.lco.op = some (.wdrSet cell p) →
    ∃ t, exec (.otpPulseDone true) s = .next t ∧ t.lco.op = s.lco.nextOps.head? ∧
      otpWord t (0x010 + cell / 32) = otpWord s (0x010 + cell / 32) ||| BitVec.ofNat 32 (2 ^ (cell % 32)) ∧ keeps [.regs, .lco, .otp] s t) ∧
  (∀ (cell p : Nat) (s : State), s.lco.op = some (.wdrClr cell p) →
    ∃ t, exec (.otpPulseDone true) s = .next t ∧ t.lco.op = s.lco.nextOps.head? ∧ t.withdrawn = false ∧
      otpWord t (0x012 + cell / 32) = otpWord s (0x012 + cell / 32) ||| BitVec.ofNat 32 (2 ^ (cell % 32)) ∧ keeps (touches (.otpPulseDone true)) s t) ∧
  (∀ (w p n : Nat) (s : State), s.lco.op = some (.wipe w p n) →
    ∃ t, exec (.otpPulseDone true) s = .next t ∧ otpWord t w = 0xFFFFFFFF ∧ keeps [.regs, .lco, .otp, .inc, .evr] s t) ∧
  (∀ (w p : Nat) (x : Word) (h : List Word) (s : State), s.lco.op = some (.enrol w p (x :: h)) →
    ∃ t, exec (.otpPulseDone true) s = .next t ∧ otpWord t (0x100 + w) = otpWord s (0x100 + w) ||| x ∧
      t.lco.op = some (if h.isEmpty then .enrolEnd true else .enrol (w + 1) 0 h) ∧ keeps [.lco, .otp] s t) ∧
  (∀ (r : Role) (w : Nat) (s : State), passes s r (pgLco + 0x074) true true = true → w = getFld s (pgLco + 0x068) 11 0 → s.lco.op = none →
    mayProg s r (otpField w) (rawReg s (pgLco + 0x06C)) = true → (otpWord s w = 0 ∨ otpField w = .revoke) → s.lco.pendingLc = false →
    ∃ t, exec (.otpProg r) s = .next t ∧ t.lco = { s.lco with op := some (.prog w (rawReg s (pgLco + 0x06C) ||| otpWord s w) 0) } ∧
      regBit t (pgLco + 0x040) 12 = true ∧ t.out = s.out ++ [regOk r (pgLco + 0x074)] ∧ keeps [.regs, .epochs, .lco, .out] s t) ∧
  (∀ (r : Role) (w : Nat) (s : State), passes s r (pgLco + 0x074) true false = true → w = getFld s (pgLco + 0x068) 11 0 →
    ∃ t, exec (.otpRead r) s = .next t ∧ regsKept [pgLco + 0x070] s t ∧ keeps [.regs, .out] s t ∧
      (if mayRead s r (otpField w) = true then rawReg t (pgLco + 0x070) = otpWord s w ∧ t.out = s.out ++ [regOk r (pgLco + 0x074)]
       else rawReg t (pgLco + 0x070) = 0 ∧ t.out = s.out ++ [regSt r (pgLco + 0x074) .denied])) ∧
  (∀ (r : Role) (v : Word) (s : State), passes s r (pgLco + 0x0C4) true true = true → s.lco.op = none →
    ∃ t, exec (.arbTargetWrite r v) s = .next t ∧ keeps [.regs, .epochs, .lco, .inc, .out] s t ∧
      (if (rawReg s (pgSbx + 0x044)).toNat < getBits v 8 0 ∨ 256 < getBits v 8 0 then
        getFld t (pgLco + 0x040) 31 24 = Status.denied.code ∧ t.lco = s.lco ∧ t.out = s.out ++ [regSt r (pgLco + 0x0C4) .denied] ∧
        epochOf t pgLco = epochOf s pgLco
       else if getBits v 8 0 ≤ getFld s (pgLco + 0x0C0) 8 0 then
        getFld t (pgLco + 0x040) 31 24 = Status.ok.code ∧ t.lco = s.lco ∧ t.out = s.out ++ [regOk r (pgLco + 0x0C4)]
       else t.lco = { s.lco with op := some (.arb r (getBits v 8 0) (getFld s (pgLco + 0x0C0) 8 0) 0) } ∧ regBit t (pgLco + 0x0C0) 16 = true ∧
        epochOf t pgLco = (epochOf s pgLco + 1) % 0x1000000 ∧ t.out = s.out))

/-- A read of DBG_DATA returns the word of the selected memory where Table 07.6 serves the memory and the memory has the word, is answered DENIED where not,
and advances DBG_ADDR either way (07 R195, Table 07.7). HALT of role D within the reach of the life-cycle state halts SBX and is recorded, beyond it it
is answered DENIED; the resume ends the halt (07 R196). (functional, derived; 07_lifecycle_and_debug.md) -/
def Obligations.DebugAccess : Prop :=
  (∀ (r : Role) (w : Word) (u : State) (s : State), passes s r (pgLco + 0x088) false false = true → gateServes s (getFld s (pgLco + 0x080) 7 0) = true →
    pageUp s (gateMemPage (getFld s (pgLco + 0x080) 7 0)) = true → pageGated s (gateMemPage (getFld s (pgLco + 0x080) 7 0)) = false →
    gateWord s r (getFld s (pgLco + 0x080) 7 0) (rawReg s (pgLco + 0x084)).toNat = some (w, u) →
    ∃ t, exec (.dbgDataRead r) s = .next t ∧ rawReg t (pgLco + 0x084) = rawReg s (pgLco + 0x084) + 1 ∧
      t.out = s.out ++ [⟨.reg, r.key, 0, Status.ok.code, pgLco + 0x088, leBytes 4 w.toNat⟩] ∧ regsKept [pgLco + 0x084] s t ∧ keeps [.regs, .free, .out] s t) ∧
  (∀ (r : Role) (s : State), passes s r (pgLco + 0x088) false false = true →
    gateServes s (getFld s (pgLco + 0x080) 7 0) = false ∨
      (pageUp s (gateMemPage (getFld s (pgLco + 0x080) 7 0)) = true ∧ pageGated s (gateMemPage (getFld s (pgLco + 0x080) 7 0)) = false ∧
        gateWord s r (getFld s (pgLco + 0x080) 7 0) (rawReg s (pgLco + 0x084)).toNat = none) →
    ∃ t, exec (.dbgDataRead r) s = .next t ∧ rawReg t (pgLco + 0x084) = rawReg s (pgLco + 0x084) + 1 ∧
      t.out = s.out ++ [regSt r (pgLco + 0x088) .denied] ∧ regsKept [pgLco + 0x084] s t ∧ keeps [.regs, .out] s t) ∧
  (∀ s : State, passes s .d (pgSbx + 0x0C0) true false = true → s.sbx.halted = false → mayHalt s = true →
    ∃ t, exec (.sbxHalt .d) s = .next t ∧ t.sbx = { s.sbx with halted := true } ∧ regBit t (pgSbx + 0x0C0) 0 = true ∧ regBit t (pgSbx + 0x0C0) 1 = true ∧
      t.out = s.out ++ [regOk .d (pgSbx + 0x0C0)] ∧ keeps [.regs, .sbx, .inc, .evr, .out] s t) ∧
  (∀ s : State, passes s .d (pgSbx + 0x0C0) true false = true → s.sbx.halted = false → mayHalt s = false →
    ∃ t, exec (.sbxHalt .d) s = .next t ∧ t.out = s.out ++ [regSt .d (pgSbx + 0x0C0) .denied] ∧ keeps [.out] s t) ∧
  (∀ s : State, passes s .d (pgSbx + 0x0C0) true false = true → s.sbx.halted = true →
    ∃ t, exec (.sbxResume .d) s = .next t ∧ t.sbx = { s.sbx with halted := false } ∧ regBit t (pgSbx + 0x0C0) 0 = false ∧ regBit t (pgSbx + 0x0C0) 1 = false ∧
      t.out = s.out ++ [regOk .d (pgSbx + 0x0C0)] ∧ keeps [.regs, .sbx, .inc, .evr, .out] s t)

/-- GO with ENABLE set starts the judging of the staged table against the reset list as it then stands, RESTAGE copies the active table into it; during
judging both complete with RETRY, and with ENABLE clear GO completes with UNIT_GONE. A commit whose checks all pass makes the staged table active in JCT and the
anchor, empties the read copies' differences and adds the pages that R245 names to the reset list; one with a failing check changes no table and
reports the check and the entry (R249, R250). The sweep goes on to the next entry and takes a master entry with an ECC error from the anchor; a reload
drops the entry's difference (R251). A range whose reset every engine has finished leaves the list (R246). (functional, derived;
09_memory_protection_layout.md) -/
def Obligations.JunctionCommands : Prop :=
  (∀ (r : Role) (v : Word) (s : State), passes s r (pgJct + 0x060) true true = true → s.jct.judging = false → enabled s pgJct = true →
    ∃ t, exec (.jctGo r v) s = .next t ∧ t.jct = { s.jct with judging := true, goEmpty := s.anchor.resets = [], staged := if getBit v 1 then s.jct.active else s.jct.staged } ∧
      regBit t (pgJct + 0x064) 24 = true ∧ epochOf t pgJct = (epochOf s pgJct + 1) % 0x1000000 ∧ t.out = s.out ++ [regOk r (pgJct + 0x060)] ∧
      regsKept [pgJct + 0x064] s t ∧ keeps [.regs, .epochs, .jct, .out] s t) ∧
  (∀ (r : Role) (v : Word) (s : State), passes s r (pgJct + 0x060) true true = true → s.jct.judging = true →
    ∃ t, exec (.jctGo r v) s = .next t ∧ t.out = s.out ++ [regSt r (pgJct + 0x060) .retry] ∧ keeps [.out] s t) ∧
  (∀ (r : Role) (v : Word) (s : State), passes s r (pgJct + 0x060) true true = true → s.jct.judging = false → enabled s pgJct = false →
    ∃ t, exec (.jctGo r v) s = .next t ∧ t.out = s.out ++ [regSt r (pgJct + 0x060) .unitGone] ∧ keeps [.out] s t) ∧
  (∀ (r : Role) (v : Word) (s : State), passes s r (pgJct + 0x060) true false = true → s.jct.judging = false →
    ∃ t, exec (.jctRestage r v) s = .next t ∧ t.jct = { s.jct with staged := s.jct.active } ∧ t.out = s.out ++ [regOk r (pgJct + 0x060)] ∧
      keeps [.jct, .out] s t) ∧
  (∀ s : State, s.jct.judging = true →
    ∃ t, exec .jctCommitJudged s = .next t ∧ t.jct.judging = false ∧ keeps [.regs, .jct, .anchor, .inc, .evr] s t ∧
      match commitFailure s with
      | none => t.jct.active = s.jct.staged ∧ t.anchor.jct = s.jct.staged ∧ t.jct.copies = [] ∧ rawReg t (pgJct + 0x064) = 0 ∧
          t.anchor.resets = s.anchor.resets ++ mappingRanges s s.jct.active s.jct.staged
      | some (c, n) => t.jct = { s.jct with judging := false } ∧ t.anchor = s.anchor ∧
          rawReg t (pgJct + 0x064) = BitVec.ofNat 32 ((if c = 8 then Status.retry.code else Status.denied.code) + n * 0x100 + c * 0x100000)) ∧
  (∀ (upsets : List CopyUpset) (ecc : Bool) (s : State), domUp s 12 = true →
    ∃ t, exec (.jctCopySweep upsets ecc) s = .next t ∧ t.jct.sweep = (s.jct.sweep + 1) % 1024 ∧ keeps [.regs, .jct, .inc, .evr] s t ∧
      (ecc = true ∨ injArmed s pgJct 2 = true → jEntry t.jct.active s.jct.sweep = jEntry s.anchor.jct s.jct.sweep)) ∧
  (∀ (i : Fin 8) (k : Fin 1024) (s : State),
    ∃ t, exec (.jctEntryReload i k) s = .next t ∧ copyEntry t i.val k.val = ⟨jEntry s.jct.active k.val, true⟩ ∧ t.jct.reloads.contains (i.val, k.val) = false ∧
      keeps [.jct] s t) ∧
  (∀ (r : ResetRange) (rest : List ResetRange) (s : State), s.anchor.resets = r :: rest →
    (∃ t, exec (.resetListRangeDone true) s = .next t ∧ ((resetRange s r).2 = true → t.anchor.resets = rest) ∧ keeps (touches (.resetListRangeDone true)) s t) ∧
    (∃ t, exec (.resetListRangeDone false) s = .next t ∧ keeps [.regs, .inc, .evr] s t))

/-- A request to a held block is answered NOT_READY (01 R23). One whose tag is in use waits and is counted (03 R74). A malformed one is answered DENIED, and so is
one at its own home for a page that lies in another engine's range (03 R72, 12 R325, R326). An ordering flag goes to the ordering unit where it has room (12
R331, R334). A read at its own home of a class P page that passes TTB's judgement with no unmet condition is admitted at once, or when the ingress
register or the remote queue's head is judged again: it takes the first free slot with its snapshot, and its read leaves on the memory port (10 R257, R258,
R268). A full write of class P so admitted is answered OK and becomes ready to be written (R269). (functional, derived;
10_memory_engine_operation.md, 03_ports_and_integration.md, 12_fabric_semantics.md, 01_block_architecture.md) -/
def Obligations.RequestsOfTheFabric : Prop :=
  (∀ (e : Fin 40) (op aop : BitVec 4) (addr : BitVec 35) (home : BitVec 14) (link : BitVec 5) (gmask : BitVec 2) (keyId : BitVec 16) (pasid : BitVec 20)
      (ctx : BitVec 24) (tag : BitVec 10) (wdata : Bytes) (wbe : BitVec 256) (perr : Bool) (s : State),
    (engAt s e.val).ingress = none → regBit s (engPage e.val + 0x010) 9 = false → windowOpen s = true → s.held = true → s.withdrawn = false →
    ∃ t, exec (.fmRequestSample e op aop addr home link gmask keyId pasid ctx tag wdata wbe false perr) s = .next t ∧
      t.out = s.out ++ [⟨.fm, e.val, tag.toNat, Status.notReady.code, addr.toNat * 128, zeros 256⟩] ∧ keeps [.ttb, .out] s t) ∧
  (∀ (e : Fin 40) (op aop : BitVec 4) (addr : BitVec 35) (home : BitVec 14) (link : BitVec 5) (gmask : BitVec 2) (keyId : BitVec 16) (pasid : BitVec 20)
      (ctx : BitVec 24) (tag : BitVec 10) (wdata : Bytes) (wbe : BitVec 256) (q : Req) (s : State),
    q = fmReq op.toNat aop.toNat addr.toNat home.toNat link.toNat gmask.toNat keyId.toNat pasid.toNat ctx.toNat tag.toNat wdata wbe none 0 → fmOpen s e.val = true → tagBusy s e.val tag.toNat = true →
    ∃ t, exec (.fmRequestSample e op aop addr home link gmask keyId pasid ctx tag wdata wbe false false) s = .next t ∧ (engAt t e.val).ingress = some q ∧
      (engAt t e.val).hold = 2 ∧ getFld t (engPage e.val + 0x044) 31 0 = min 0xFFFFFFFF (getFld s (engPage e.val + 0x044) 31 0 + 1) ∧ t.out = s.out ∧
      keeps [.regs, .engs] s t) ∧
  (∀ (e : Fin 40) (op aop : BitVec 4) (addr : BitVec 35) (home : BitVec 14) (link : BitVec 5) (gmask : BitVec 2) (keyId : BitVec 16) (pasid : BitVec 20)
      (ctx : BitVec 24) (tag : BitVec 10) (wdata : Bytes) (wbe : BitVec 256) (q : Req) (s : State),
    q = fmReq op.toNat aop.toNat addr.toNat home.toNat link.toNat gmask.toNat keyId.toNat pasid.toNat ctx.toNat tag.toNat wdata wbe none 0 →
    fmOpen s e.val = true → tagBusy s e.val tag.toNat = false →
    (q.malformed = true ∨ q.op ≠ 4 ∧ q.home = s.dom.ownId ∧ (∃ x, engineOfPage q.page = some x ∧ x ≠ e.val)) →
    ∃ t, exec (.fmRequestSample e op aop addr home link gmask keyId pasid ctx tag wdata wbe false false) s = .next t ∧ (engAt t e.val).ingress = none ∧
      t.out = s.out ++ [⟨.fm, e.val, tag.toNat, Status.denied.code, addr.toNat * 128, zeros 256⟩] ∧ keeps [.regs, .engs, .ttb, .out] s t) ∧
  (∀ (e : Fin 40) (op aop : BitVec 4) (addr : BitVec 35) (home : BitVec 14) (link : BitVec 5) (gmask : BitVec 2) (keyId : BitVec 16) (pasid : BitVec 20)
      (ctx : BitVec 24) (tag : BitVec 10) (wdata : Bytes) (wbe : BitVec 256) (i : Option Nat) (q : Req) (s : State),
    i = instOfPasid s pasid.toNat → q = fmReq op.toNat aop.toNat addr.toNat home.toNat link.toNat gmask.toNat keyId.toNat pasid.toNat ctx.toNat tag.toNat wdata wbe i (i.elim 0 (instGen s)) →
    fmOpen s e.val = true → tagBusy s e.val tag.toNat = false → q.malformed = false → q.op = 4 → fmServes s e.val = true → admissionStopped s (engPage e.val) = false →
    orderRoom s i = true → s.ttb.stores = [] →
    ∃ t, exec (.fmRequestSample e op aop addr home link gmask keyId pasid ctx tag wdata wbe false false) s = .next t ∧ (engAt t e.val).ingress = none ∧
      t.ttb.flags = s.ttb.flags ++ [⟨q, e.val, s.ttb.clock, [], none⟩] ∧ t.out = s.out ∧
      keeps [.regs, .engs, .ttb] s t) ∧
  (∀ (e : Fin 40) (op aop : BitVec 4) (addr : BitVec 35) (home : BitVec 14) (link : BitVec 5) (gmask : BitVec 2) (keyId : BitVec 16) (pasid : BitVec 20)
      (ctx : BitVec 24) (tag : BitVec 10) (wdata : Bytes) (wbe : BitVec 256) (q : Req) (i : Option Nat) (v : State) (j : Nat) (x : JEntry) (s : State),
    i = instOfPasid s pasid.toNat →
    q = fmReq op.toNat aop.toNat addr.toNat home.toNat link.toNat gmask.toNat keyId.toNat pasid.toNat ctx.toNat tag.toNat wdata wbe i (i.elim 0 (instGen s)) →
    fmOpen s e.val = true → tagBusy s e.val tag.toNat = false → q.malformed = false → q.isRead = true → q.home = s.dom.ownId →
    engineOfPage q.page = some e.val →
    v = holdIngress s e.val { q with inst := none, gen := 0 } 0 → judgeLocal v e.val q = (v, .ok j x i) → unmet v e.val q x i = none → x.cls = .p →
    (engAt s e.val).sets = [] → portTakes s e.val (.slotRead (firstGap (engAt s e.val).slots 0)) false q = true →
    ∃ t, exec (.fmRequestSample e op aop addr home link gmask keyId pasid ctx tag wdata wbe false false) s = .next t ∧
      admittedRead s t e.val q j i ∧ keeps [.regs, .engs, .pmu, .out] s t) ∧
  (∀ (e : Fin 40) (h q : Req) (j : Nat) (x : JEntry) (i : Option Nat) (s : State), (engAt s e.val).service = [] → (engAt s e.val).ingress = some h →
    q = renew s h → quietPort s e.val → s.cru.st = .run → blockStatus s = none → q.src = .fm → tagBusy s e.val q.tag = false → q.malformed = false →
    q.granules ≠ [] → q.isRead = true → q.home = s.dom.ownId → engineOfPage q.page = some e.val →
    judgeLocal s e.val q = (s, .ok j x i) → unmet s e.val q x i = none → x.cls = .p → (engAt s e.val).sets = [] →
    portTakes s e.val (.slotRead (firstGap (engAt s e.val).slots 0)) false q = true →
    ∃ u, exec (.requestAdmit e) s = .next (settleUnits u) ∧ admittedRead s u e.val q j i ∧ keeps [.regs, .engs, .pmu, .out] s u) ∧
  (∀ (e : Fin 40) (q : Req) (r : List Req) (j : Nat) (x : JEntry) (i : Option Nat) (v : State) (s : State), (engAt s e.val).service = [] →
    (engAt s e.val).ingress = none → (engAt s e.val).remoteQ = q :: r → (engAt s e.val).sets = [] → quietPort s e.val → s.cru.st = .run →
    blockStatus s = none → q.src ≠ .fm → q.op = 0 → q.malformed = false → q.granules ≠ [] →
    v = setEng s e.val { engAt s e.val with remoteQ := r, ingress := some q, hold := 0, turn := !(engAt s e.val).turn } →
    judgeLocal v e.val q = (v, .ok j x i) → unmet v e.val q x i = none → x.cls = .p →
    portTakes s e.val (.slotRead (firstGap (engAt s e.val).slots 0)) false q = true →
    ∃ u, exec (.requestAdmit e) s = .next (settleUnits u) ∧ admittedRead s u e.val q j i ∧ (engAt u e.val).remoteQ = r ∧
      keeps [.regs, .engs, .pmu, .out] s u) ∧
  (∀ (e : Fin 40) (h q : Req) (j : Nat) (x : JEntry) (i : Option Nat) (v : State) (s : State), (engAt s e.val).service = [] →
    (engAt s e.val).ingress = some h → q = renew s h → quietPort s e.val → s.cru.st = .run → blockStatus s = none → q.src = .fm →
    tagBusy s e.val q.tag = false → q.malformed = false → q.op = 1 → q.fullWrite = true → q.home = s.dom.ownId →
    engineOfPage q.page = some e.val → v = noteStore s e.val q → judgeLocal v e.val q = (v, .ok j x i) → unmet v e.val q x i = none → x.cls = .p →
    ∃ u, exec (.requestAdmit e) s = .next (settleUnits u) ∧ (engAt u e.val).ingress = none ∧
      (∃ a, tblFind (engAt u e.val).slots (firstGap (engAt s e.val).slots 0) = some a ∧ a.snap.inst = i ∧ a.snap.cls = .p ∧ a.stage = .writeReady ∧
        a.responded = true) ∧
      u.out = s.out ++ [⟨.fm, e.val, q.tag, 0, q.addr, zeros 256⟩] ∧ keeps [.regs, .engs, .ttb, .pmu, .out] s u)

/-- Read data that verifies answers the fabric request with OK and the plaintext and frees the slot (10 R268). A write that is ready and first of its page leaves
sealed on the memory port, its tags in their slots, and frees its slot (R269). An acknowledged write is over (03 R77). A fill's data waits where its parent is
missing, is installed where it verifies, and starts the prefetch override where it fails (10 R262, R279). The units take what came back for
them after each. (functional, derived; 10_memory_engine_operation.md, 03_ports_and_integration.md, 09_memory_protection_layout.md) -/
def Obligations.MemoryPortCommands : Prop :=
  (∀ (e : Fin 40) (id : BitVec 8) (data : Bytes) (n off len : Nat) (wr : Bool) (a : Adm) (parts : List (Nat × Bytes)) (s : State),
    tblFind (engAt s e.val).txs id.toNat = some ⟨.slotRead n, off, wr, len⟩ → (engAt s e.val).txq = [] → tblFind (engAt s e.val).slots n = some a →
    a.req.src = .fm → a.stage = .readWait → a.responded = false → genFresh s a.snap.inst a.snap.gen = true →
    injArmed s (engPage e.val) 0 = false → injArmed s (engPage e.val) 3 = false → injArmed s (engPage e.val) 4 = false →
    (a.snap.cls = .p ∨ a.snap.cls = .e ∨ ∀ c ∈ a.ctrs, c.2.2 ≠ 0) → verifyRead s e.val a data = (parts, none) →
    ∃ u, exec (.memReadData e id data false false) s = .next (settleUnits u) ∧ tblFind (engAt u e.val).slots n = none ∧
      tblFind (engAt u e.val).txs id.toNat = none ∧
      u.out = s.out ++ [⟨.fm, e.val, a.req.tag, 0, a.req.addr, if pairData parts = [] then zeros 256 else pairData parts⟩] ∧
      keeps [.regs, .engs, .ctc, .ttb, .out] s u) ∧
  (∀ (e : Fin 40) (n : Fin 128) (a : Adm) (s : State), tblFind (engAt s e.val).slots n.val = some a → a.stage = .writeReady →
    (∀ b ∈ (engAt s e.val).slots, b.2.stage = .writeReady → lineOf b.2.req = lineOf a.req → a.order ≤ b.2.order) →
    portTakes s e.val .writeback true a.req = true →
    ∃ u, exec (.memWritePresent e n) s = .next (settleUnits u) ∧ tblFind (engAt u e.val).slots n.val = none ∧
      u.out = s.out ++ [granulesOut s e.val .writeback true a.req
        (a.req.granules.flatMap (fun g =>
          (sealGranule a s.dom.ownId g.2 ((a.ctrs.find? (fun c => c.1 = g.2)).getD (g.2, 0, 0)).2.1 ((a.ctrs.find? (fun c => c.1 = g.2)).getD (g.2, 0, 0)).2.2
            (a.req.half g.1)).1))] ∧ keeps [.regs, .engs, .ctc, .out] s u) ∧
  (∀ (e : Fin 40) (id : BitVec 8) (x : Tx) (s : State), tblFind (engAt s e.val).txs id.toNat = some x → x.wr = true → x.purpose ≠ .checkpoint →
    (engAt s e.val).txq = [] → s.kvt.loads = [] →
    exec (.memWriteAck e id) s = .next (settleUnits (setEng s e.val { engAt s e.val with txs := tblDel (engAt s e.val).txs id.toNat }))) ∧
  (∀ (e : Fin 40) (id : BitVec 8) (data : Bytes) (v idx off len : Nat) (wr : Bool) (f : Fill) (p : State) (s : State),
    tblFind (engAt s e.val).txs id.toNat = some ⟨.fill (.node v) idx, off, wr, len⟩ → (engAt s e.val).txq = [] →
    s.ctc.fills = [f] → f.tree = e.val → f.kind = .node v → f.idx = idx → f.merge = false → f.wb = none → s.kvt.loads = [] → s.coh.cts = [] → s.coh.dir = [] →
    (∀ g ∈ s.engs, g.2.reseal = none) →
    injArmed s (engPage e.val) 3 = false → injArmed s (engPage e.val) 4 = false → injArmed s pgCtc 0 = false →
    p = setEng s e.val { engAt s e.val with txs := tblDel (engAt s e.val).txs id.toNat } →
    ∃ u, exec (.metadataFillReturn e id data false false) s = .next (settleUnits u) ∧
      match judgeFill p { f with returned := some data } data with
      | .wait => u = { p with ctc := { p.ctc with fills := [{ f with returned := some data }] } }
      | .good _ => u.ctc.fills = [] ∧ (findLine u e.val (.node v) idx).isSome = true
      | .bad _ => u.ctc.fills = [] ∧ u.ctc.overrideAuth = true)

/-- The oldest flag without open predecessors leaves the ordering unit: a pure one is answered OK, one with a failed predecessor is answered that
status, and one at its own home goes to the head of its engine's remote queue as a write (12 R331 to R333). A checkpoint that reads back as written lets the
re-seal go on (10 R275 step 3). The end of a re-seal, with every read back and its lines pinned, leaves the line with the next MAJOR, dirty, and the page free
(steps 4 to 6). (functional, derived; 12_fabric_semantics.md, 10_memory_engine_operation.md) -/
def Obligations.OrderingAndReseal : Prop :=
  (∀ (f : OrdFlag) (s : State), s.ttb.flags.find? (fun f => f.preds = []) = some f → genFresh s f.req.inst f.req.gen = true → f.failed = none →
    f.req.pure = true → f.req.src = .fm →
    ∃ t, exec .orderFlagProceed s = .next t ∧ t.out = s.out ++ [⟨.fm, f.engine, f.req.tag, 0, f.req.addr, zeros 256⟩] ∧
      t.ttb.flags.length = (s.ttb.flags.filter (· != f)).length ∧ getFld t (pgTtb + 0x0C8) 31 0 = min 0xFFFFFFFF (getFld s (pgTtb + 0x0C8) 31 0 + 1) ∧
      keeps [.regs, .ttb, .out] s t) ∧
  (∀ (f : OrdFlag) (o st : Nat) (s : State), s.ttb.flags.find? (fun f => f.preds = []) = some f → genFresh s f.req.inst f.req.gen = true →
    f.failed = some (o, st) → st ≠ 0 → f.req.src = .fm →
    ∃ t, exec .orderFlagProceed s = .next t ∧ t.out = s.out ++ [⟨.fm, f.engine, f.req.tag, st, f.req.addr, zeros 256⟩] ∧
      t.ttb.flags.length = (s.ttb.flags.filter (· != f)).length ∧ getFld t (pgTtb + 0x0CC) 31 0 = min 0xFFFFFFFF (getFld s (pgTtb + 0x0CC) 31 0 + 1) ∧
      keeps [.regs, .ttb, .out] s t) ∧
  (∀ (f : OrdFlag) (s : State), s.ttb.flags.find? (fun f => f.preds = []) = some f → genFresh s f.req.inst f.req.gen = true → f.failed = none →
    f.req.pure = false → f.req.home = s.dom.ownId → engineOfPage f.req.page = some f.engine →
    ∃ t, exec .orderFlagProceed s = .next t ∧ (engAt t f.engine).remoteQ = { f.req with op := 1 } :: (engAt s f.engine).remoteQ ∧
      t.ttb.flags = s.ttb.flags.filter (· != f) ∧ t.out = s.out ∧ keeps [.regs, .ttb, .engs] s t) ∧
  (∀ (e : Fin 40) (data : Bytes) (r : Reseal) (k : Nat × Tx) (x : Line) (a : Nat) (m : List Nat) (i f : Bool) (s : State), (engAt s e.val).reseal = some r →
    (engAt s e.val).txs.find? (fun t => t.2.purpose = .checkpoint) = some k → (engAt s e.val).txq = [] →
    findLine s e.val .ctr r.page = some x → x.data = .ctr a m i f →
    injArmed s (engPage e.val) 6 = false → data.take 56 ++ [data.getD 63 0] = ctrAad a m i f →
    ∃ t, exec (.resealCheckpointAck e data) s = .next t ∧ (engAt t e.val).reseal = some { r with step := .granules } ∧ tblFind (engAt t e.val).txs k.1 = none ∧
      (∃ b, t.out = s.out ++ [⟨.memRead, e.val, k.1, b, metaOff e.val .ctr r.page / beatOf e.val * beatOf e.val, []⟩]) ∧ keeps [.engs, .out] s t) ∧
  (∀ (e : Fin 40) (r : Reseal) (x : Line) (a : Nat) (m : List Nat) (i f : Bool) (b : Adm) (s : State), (engAt s e.val).reseal = some r →
    findLine s e.val .ctr r.page = some x → x.data = .ctr a m i f → (r.step = .granules ∨ r.step = .resume) → r.left = [] →
    r.pins = (LineKind.ctr, r.page) :: (List.range 4).map (fun k => (LineKind.tag, r.page * 4 + k)) →
    resealAdm s e.val r x = some b → resealReady s e.val r b = true →
    ∃ u, exec (.resealFinish e) s = .next (settleUnits u) ∧
      (r.slot.isSome = true → injArmed s (engPage e.val) 7 = false → (engAt u e.val).reseal = none ∧
        ∃ y m', findLine u e.val .ctr r.page = some y ∧ y.dirty = true ∧ y.data = .ctr (r.major + 1) m' i false))

/-- After 4,096 counted lines DEPTH goes up where three of four were hit, down where fewer than one of four was, and stays within FLOOR and CEIL; the
counts start again. The end of the last safety cause brings DEPTH back within FLOOR and CEIL (10 R279). A legal CTC_PART starts a partition change and an
illegal one is refused; the change is done once no line and no fill stands in a way that changes partition (R263). A legal CTC_PF sets FLOOR and CEIL and
clamps DEPTH, an illegal one is refused (R279). (functional, derived; 10_memory_engine_operation.md) -/
def Obligations.CtcControls : Prop :=
  (∀ s : State, 4096 ≤ s.ctc.counted → regBit s (pgCtc + 0x048) 8 = false →
    ∃ t, exec .prefetchDepthAdjust s = .next t ∧ t.ctc = { s.ctc with counted := 0, hits := 0 } ∧
      getFld t (pgCtc + 0x048) 4 0 = max (getFld s (pgCtc + 0x044) 4 0) (min (getFld s (pgCtc + 0x044) 9 5)
        (if 3 * s.ctc.counted ≤ 4 * s.ctc.hits then getFld s (pgCtc + 0x048) 4 0 + 1
         else if 4 * s.ctc.hits < s.ctc.counted then getFld s (pgCtc + 0x048) 4 0 - 1 else getFld s (pgCtc + 0x048) 4 0)) ∧
      regsKept [pgCtc + 0x048] s t ∧ keeps [.regs, .ctc] s t) ∧
  (∀ s : State, s.ctc.overrideAuth = true →
    ∃ t, exec .prefetchOverrideEnd s = .next t ∧ t.ctc.overrideAuth = false ∧ t.ctc.overrideThermal = s.ctc.overrideThermal ∧ keeps [.regs, .ctc, .inc, .evr] s t ∧
      (s.ctc.overrideThermal = false → s.ctc.savedDepth < 32 → regBit t (pgCtc + 0x048) 8 = false ∧
        getFld t (pgCtc + 0x048) 4 0 = max (getFld s (pgCtc + 0x044) 4 0) (min (getFld s (pgCtc + 0x044) 9 5) s.ctc.savedDepth))) ∧
  (∀ (r : Role) (v : Word) (s : State), passes s r (pgCtc + 0x040) true true = true → 1 ≤ getBits v 6 4 → getBits v 6 4 ≤ 4 → getBits v 3 0 ≤ 8 →
    getBits v 6 4 + getBits v 3 0 ≤ 12 →
    ∃ t, exec (.ctcPartWrite r v) s = .next t ∧ t.ctc = { s.ctc with partChange := some (v &&& 0x7F) } ∧ t.out = s.out ++ [regOk r (pgCtc + 0x040)] ∧
      epochOf t pgCtc = (epochOf s pgCtc + 1) % 0x1000000 ∧ keeps [.regs, .epochs, .ctc, .inc, .evr, .out] s t) ∧
  (∀ (r : Role) (v : Word) (s : State), passes s r (pgCtc + 0x040) true true = true →
    (getBits v 6 4 < 1 ∨ 4 < getBits v 6 4 ∨ 8 < getBits v 3 0 ∨ 12 < getBits v 6 4 + getBits v 3 0) →
    ∃ t, exec (.ctcPartWrite r v) s = .next t ∧ t.out = s.out ++ [regSt r (pgCtc + 0x040) .denied] ∧ keeps [.out] s t) ∧
  (∀ (v : Word) (s : State), s.ctc.partChange = some v → (∀ x ∈ s.ctc.lines, wayPart (rawReg s (pgCtc + 0x040)) x.way = wayPart v x.way) →
    (∀ f ∈ s.ctc.fills, wayPart (rawReg s (pgCtc + 0x040)) f.way = wayPart v f.way) →
    ∃ t, exec .ctcPartChangeDone s = .next t ∧ t.ctc = { s.ctc with partChange := none } ∧ rawReg t (pgCtc + 0x040) = v ∧
      regsKept [pgCtc + 0x040] s t ∧ keeps [.regs, .ctc] s t) ∧
  (∀ (r : Role) (v : Word) (s : State), passes s r (pgCtc + 0x044) true true = true → getBits v 4 0 ≤ getBits v 9 5 → getBits v 9 5 ≤ 16 →
    ∃ t, exec (.ctcPfWrite r v) s = .next t ∧ rawReg t (pgCtc + 0x044) = v &&& 0x3FF ∧ t.out = s.out ++ [regOk r (pgCtc + 0x044)] ∧
      (regBit s (pgCtc + 0x048) 8 = false →
        getFld t (pgCtc + 0x048) 4 0 = max (getBits v 4 0) (min (getBits v 9 5) (getFld s (pgCtc + 0x048) 4 0))) ∧
      regsKept [pgCtc + 0x044, pgCtc + 0x048] s t ∧ keeps [.regs, .epochs, .ctc, .out] s t) ∧
  (∀ (r : Role) (v : Word) (s : State), passes s r (pgCtc + 0x044) true true = true → (16 < getBits v 9 5 ∨ getBits v 9 5 < getBits v 4 0) →
    ∃ t, exec (.ctcPfWrite r v) s = .next t ∧ t.out = s.out ++ [regSt r (pgCtc + 0x044) .denied] ∧ keeps [.out] s t)

/-- With no injection armed, in RUN: GETS of a resident, pinned line that no member owns adds the sharer and sends DATA(S); GETO of an uncached line makes the
sender its owner under the next version and sends DATA(O); either for a line with an owner recalls it first (10 R281, R283). INV_ACK under the line's version
clears the sharer. A WB whose counted WRITE_CTs are in installs the line and answers WB_ACK, and one that misses some is held (R284, R285). A WRITE_CT
whose tag verifies is written and counted, and another is discarded and detected. The repeats send RECALL and INV again (R285, 18 R479). (functional,
derived; 10_memory_engine_operation.md, 18_flow_control.md) -/
def Obligations.CoherenceAtTheHome : Prop :=
  (∀ (m : BitVec 14) (tree : Fin 40) (idx : BitVec 32) (d : DirEntry) (x : Line) (n : Nat) (s : State), s.cru.st = .run → injArmed s pgCtc 2 = false →
    (engAt s tree.val).reseal = none → d.pinned = true → dirOf s tree.val idx.toNat = some d → d.queue = [] → findLine s tree.val .ctr idx.toNat = some x →
    m.toNat ≠ s.dom.ownId → spanFor s m.toNat = some n →
    (d.st = .u → ∃ t, exec (.getsReceive m tree idx) s = .next t ∧
      dirOf t tree.val idx.toNat = some { d with st := .s [m.toNat], queue := [], age := s.ctc.clock } ∧
      spanQueued s t n [.coh m.toNat tree.val idx.toNat (.data false d.v (lineMsg x.data))] ∧ keeps [.regs, .coh, .spans] s t) ∧
    (∀ l, d.st = .s l → d.invs = [] → ∃ t, exec (.getsReceive m tree idx) s = .next t ∧
      dirOf t tree.val idx.toNat = some { d with st := .s (if l.contains m.toNat then l else l ++ [m.toNat]), queue := [], age := s.ctc.clock } ∧
      spanQueued s t n [.coh m.toNat tree.val idx.toNat (.data false d.v (lineMsg x.data))] ∧ keeps [.regs, .coh, .spans] s t) ∧
    (d.st = .u → ∃ t, exec (.getoReceive m tree idx) s = .next t ∧
      dirOf t tree.val idx.toNat = some { d with st := .o m.toNat, v := d.v + 1, queue := [], wct := 0, recalls := 0, age := s.ctc.clock } ∧
      spanQueued s t n [.coh m.toNat tree.val idx.toNat (.data true (d.v + 1) (lineMsg x.data))] ∧ keeps [.regs, .coh, .spans] s t) ∧
    (∀ (w k : Nat) (c : Instr), c = .getsReceive m tree idx ∨ c = .getoReceive m tree idx → d.st = .o w → w ≠ m.toNat → d.recalls = 0 → spanFor s w = some k →
      ∃ t, exec c s = .next t ∧ (∃ d', dirOf t tree.val idx.toNat = some d' ∧ d'.st = .o w ∧ d'.recalls = 1 ∧ d'.queue.length = 1) ∧
      spanQueued s t k [.coh w tree.val idx.toNat (.recall d.v)] ∧ keeps [.regs, .coh, .spans] s t)) ∧
  (∀ (m : BitVec 14) (tree : Fin 40) (idx : BitVec 32) (v : Word) (d : DirEntry) (l : List Nat) (s : State), s.cru.st = .run → injArmed s pgCtc 2 = false → d.pinned = true → s.coh.late = [] →
    dirOf s tree.val idx.toNat = some d → d.st = .s l → d.v = v.toNat → d.queue = [] → d.heldWb = none → d.invs.any (fun i => i.1 = m.toNat) = true →
    ∃ t, exec (.invAckReceive m tree idx v) s = .next t ∧ keeps [.regs, .ctc, .coh] s t ∧
      (l.filter (· != m.toNat) ≠ [] → dirOf t tree.val idx.toNat =
        some { d with st := .s (l.filter (· != m.toNat)), invs := d.invs.filter (fun i => i.1 != m.toNat) }) ∧
      (l.filter (· != m.toNat) = [] → d.invs.filter (fun i => i.1 != m.toNat) = [] → dirOf t tree.val idx.toNat = none)) ∧
  (∀ (m : BitVec 14) (tree : Fin 40) (idx : BitVec 32) (v count : Word) (line : Bytes) (d : DirEntry) (x : Line) (n : Nat) (s : State),
    s.cru.st = .run → injArmed s pgCtc 2 = false → s.coh.late = [] → dirOf s tree.val idx.toNat = some d → d.st = .o m.toNat → d.v = v.toNat → d.queue = [] → d.invs = [] →
    findLine s tree.val .ctr idx.toNat = some x → spanFor s m.toNat = some n →
    (count.toNat ≤ d.wct → ∃ t, exec (.wbReceive m tree idx v count line) s = .next t ∧ dirOf t tree.val idx.toNat = none ∧
      (∃ y, findLine t tree.val .ctr idx.toNat = some y ∧ y.dirty = true ∧ y.data = msgLine line) ∧
      spanQueued s t n [.coh m.toNat tree.val idx.toNat (.wbAck (d.v + 1))] ∧ keeps [.regs, .ctc, .coh, .spans] s t) ∧
    (d.wct < count.toNat → ∃ t, exec (.wbReceive m tree idx v count line) s = .next t ∧
      dirOf t tree.val idx.toNat = some { d with heldWb := some ⟨m.toNat, v.toNat, count.toNat - d.wct, msgLine line⟩ } ∧ keeps [.regs, .coh] s t)) ∧
  (∀ (m : BitVec 14) (g : BitVec 35) (v : Word) (major : BitVec 64) (minor : BitVec 12) (tag data : Bytes) (e j : Nat) (x : JEntry) (d : DirEntry) (ks : KeySet)
      (s : State), s.cru.st = .run → injArmed s pgCtc 2 = false → engineOfPage (g.toNat / 32) = some e →
    winner (copyTable s ((spanFor s m.toNat).elim 0 islandOfSpan)) (g.toNat / 32) = some (j, x) →
    (tagLine s e ((channelPage (g.toNat / 32) * 32 + g.toNat % 32) / 8) x.ksrc).isSome = true →
    mayPresent s e (engAt s e).txq ⟨.writeback, granuleOff (channelPage (g.toNat / 32)) (g.toNat % 32), true, 128⟩ = true →
    dirOf s e (channelPage (g.toNat / 32)) = some d → d.st = .o m.toNat → d.v = v.toNat → d.heldWb = none → keysOf s x.ksrc = some ks →
    ∃ t, exec (.writeCtReceive m g v major minor tag data) s = .next t ∧ keeps [.regs, .ctc, .coh, .engs, .inc, .evr, .out] s t ∧
      (if granuleTag ks.tk data (da7 s.dom.ownId x.ksrc (g.toNat / 32) (g.toNat % 32)) x.ksrc (x.cls = .i) major.toNat minor.toNat = tag then
        dirOf t e (channelPage (g.toNat / 32)) = some { d with wct := d.wct + 1 } ∧
        t.out = s.out ++ [⟨.memWrite, e, firstGap (engAt s e).txs 0, txMask e ⟨.writeback, granuleOff (channelPage (g.toNat / 32)) (g.toNat % 32), true, 128⟩,
          granuleOff (channelPage (g.toNat / 32)) (g.toNat % 32) / beatOf e * beatOf e, data⟩]
       else t.coh = s.coh ∧ t.out = s.out ∧ regBit t (pgCtc + 0x018) 2 = true)) ∧
  (∀ (tree : Fin 40) (idx : BitVec 32) (d : DirEntry) (w : HeldWb) (n : Nat) (s : State), dirOf s tree.val idx.toNat = some d → d.heldWb = some w →
    d.queue = [] → d.invs = [] → s.coh.late = [] → spanFor s w.src = some n →
    ∃ t, exec (.wbHoldTimeout tree idx) s = .next t ∧ dirOf t tree.val idx.toNat = none ∧ spanQueued s t n [.coh w.src tree.val idx.toNat (.wbAck (d.v + 1))] ∧
      keeps (touches (.wbHoldTimeout tree idx)) s t) ∧
  (∀ (tree : Fin 40) (idx : BitVec 32) (d : DirEntry) (w n : Nat) (s : State), dirOf s tree.val idx.toNat = some d → d.st = .o w → 1 ≤ d.recalls →
    d.recalls < 3 → spanFor s w = some n →
    ∃ t, exec (.recallRepeat tree idx) s = .next t ∧ dirOf t tree.val idx.toNat = some { d with recalls := d.recalls + 1 } ∧
      spanQueued s t n [.coh w tree.val idx.toNat (.recall d.v)] ∧ keeps [.regs, .coh, .spans] s t) ∧
  (∀ (tree : Fin 40) (idx : BitVec 32) (m : BitVec 14) (d : DirEntry) (k n : Nat) (s : State), dirOf s tree.val idx.toNat = some d →
    d.invs.find? (fun i => i.1 = m.toNat) = some (m.toNat, k) → k < 3 → spanFor s m.toNat = some n →
    ∃ t, exec (.invRepeat tree idx m) s = .next t ∧ spanQueued s t n [.coh m.toNat tree.val idx.toNat (.inv d.v)] ∧
      dirOf t tree.val idx.toNat = some { d with invs := d.invs.map (fun j => if j.1 = m.toNat then (j.1, j.2 + 1) else j) } ∧ keeps [.regs, .coh, .spans] s t)

/-- With no injection armed, in RUN: DATA for a requested line installs the copy with its version, and without a request it is discarded and detected. INV
drops the copy and sends INV_ACK. RECALL of the owned version marks the copy recalled, and the answer sends WB with the count of writes and retains the
copy. WB_ACK frees the retained copy. NACK marks the request, and the retry sends it again (10 R283 to R285). (functional, derived;
10_memory_engine_operation.md) -/
def Obligations.CoherenceAtTheMember : Prop :=
  (∀ (h : BitVec 14) (tree : Fin 40) (idx : BitVec 32) (owned : Bool) (v : Word) (line : Bytes) (s : State), s.cru.st = .run → injArmed s pgCtc 2 = false →
    (s.coh.reqs.any (fun r => r.home = h.toNat && r.tree = tree.val && r.idx = idx.toNat) = true →
      ∃ t, exec (.cohDataReceive h tree idx owned v line) s = .next t ∧
        copyOf t h.toNat tree.val idx.toNat = some ⟨h.toNat, tree.val, idx.toNat, owned, v.toNat, msgLine line, 0, false, false⟩ ∧ keeps [.coh] s t) ∧
    (s.coh.reqs.any (fun r => r.home = h.toNat && r.tree = tree.val && r.idx = idx.toNat) = false →
      ∃ t, exec (.cohDataReceive h tree idx owned v line) s = .next t ∧ regBit t (pgCtc + 0x018) 2 = true ∧ keeps [.regs, .inc, .evr] s t)) ∧
  (∀ (h : BitVec 14) (tree : Fin 40) (idx : BitVec 32) (v : Word) (n : Nat) (s : State), s.cru.st = .run → injArmed s pgCtc 2 = false → spanFor s h.toNat = some n →
    ∃ t, exec (.invReceive h tree idx v) s = .next t ∧ copyOf t h.toNat tree.val idx.toNat = none ∧
      spanQueued s t n [.coh h.toNat tree.val idx.toNat (.invAck v.toNat)] ∧ keeps [.coh, .spans] s t) ∧
  (∀ (h : BitVec 14) (tree : Fin 40) (idx : BitVec 32) (v : Word) (c : Copy) (s : State), s.cru.st = .run → injArmed s pgCtc 2 = false →
    copyOf s h.toNat tree.val idx.toNat = some c → c.owned = true → c.v = v.toNat →
    ∃ t, exec (.recallReceive h tree idx v) s = .next t ∧ copyOf t h.toNat tree.val idx.toNat = some { c with recalled := true } ∧ keeps [.coh] s t) ∧
  (∀ (h : BitVec 14) (tree : Fin 40) (idx : BitVec 32) (c : Copy) (n : Nat) (s : State), copyOf s h.toNat tree.val idx.toNat = some c → c.owned = true →
    c.recalled = true → writeCtWaits s h.toNat tree.val idx.toNat = false → spanFor s h.toNat = some n →
    ∃ t, exec (.recallAnswer h tree idx) s = .next t ∧
      copyOf t h.toNat tree.val idx.toNat = some { c with owned := false, retained := true, recalled := false } ∧
      spanQueued s t n [.coh h.toNat tree.val idx.toNat (.wb c.v c.sent (lineMsg c.data))] ∧ keeps [.coh, .spans] s t) ∧
  (∀ (h : BitVec 14) (tree : Fin 40) (idx : BitVec 32) (v : Word) (c : Copy) (s : State), s.cru.st = .run → injArmed s pgCtc 2 = false →
    copyOf s h.toNat tree.val idx.toNat = some c → c.retained = true →
    ∃ t, exec (.wbAckReceive h tree idx v) s = .next t ∧ copyOf t h.toNat tree.val idx.toNat = none ∧ keeps [.coh] s t) ∧
  (∀ (h : BitVec 14) (tree : Fin 40) (idx : BitVec 32) (reason : BitVec 8) (s : State), s.cru.st = .run → injArmed s pgCtc 2 = false →
    ∃ t, exec (.nackReceive h tree idx reason) s = .next t ∧ keeps [.coh] s t ∧ t.coh.copies = s.coh.copies ∧ t.coh.dir = s.coh.dir ∧
      ∀ r ∈ t.coh.reqs, r.home = h.toNat → r.tree = tree.val → r.idx = idx.toNat → r.nacked = true) ∧
  (∀ (h : BitVec 14) (tree : Fin 40) (idx : BitVec 32) (s : State),
    ∃ t, exec (.nackRetry h tree idx) s = .next t ∧ keeps [.coh, .spans] s t ∧
      (∀ r ∈ t.coh.reqs, r.home = h.toNat → r.tree = tree.val → r.idx = idx.toNat → r.nacked = false) ∧
      (∀ r n, s.coh.reqs = [r] → r.home = h.toNat → r.tree = tree.val → r.idx = idx.toNat → r.nacked = true → spanFor s h.toNat = some n →
        spanQueued s t n [.coh h.toNat tree.val idx.toNat (if r.own then .geto else .gets)]))

/-- A write of FLOW_CMD that meets no refusal commits. OPEN with legal staged fields makes the selected entry valid with them, keeping its count, and
its window for the same peer; OPEN of a valid entry reports DENIED and changes no flow. CLOSE makes the entry invalid and erases its keys. LOAD puts
the entry's fields into the staged registers. DSP_START whose five checks hold places the staged entry, and of an active entry reports DENIED;
DSP_STOP marks the entry as ending; LOAD stages it. (functional, derived; 11_link_security.md, 14_sparsity_and_shape_hiding.md) -/
def Obligations.FlowAndDispatchTableCommands : Prop :=
  (∀ (r : Role) (n : Fin 18) (i : Nat) (x : Flow) (s : State), passes s r (pgVdt n.val + 0x088) true true = true → i = flowIdx s n.val →
    x = stagedFlow s n.val → (flowAt s n.val i).valid = false → x.kind ≠ 3 → x.dest ≠ 3 → (x.kind = 0 → x.peerId ≠ s.dom.ownId) →
    (x.kind ≠ 0 → isTenant x.keyId = true) → (x.kind = 2 → x.dest = 2) → (∀ f ∈ (spanAt s n.val).rx, f.flow ≠ i) → (spanAt s n.val).memQ = [] →
    ∃ t, exec (.flowCmdOpen r n) s = .next t ∧
      (let y : Flow := { x with valid := true, count := (flowAt s n.val i).count, sent := (flowAt s n.val i).sent, freed := (flowAt s n.val i).sent }
       flowAt t n.val i = if (flowAt s n.val i).peerId = x.peerId then
         { y with
           high := (flowAt s n.val i).high, bitmap := (flowAt s n.val i).bitmap, wepoch := (flowAt s n.val i).wepoch
           rst := (flowAt s n.val i).rst, told := (flowAt s n.val i).told } else y) ∧
      (∀ j, j ≠ i → flowAt t n.val j = flowAt s n.val j) ∧ getFld t (pgVdt n.val + 0x08C) 7 0 = 0 ∧ committed s t r (pgVdt n.val + 0x088) ∧
      otherSpans s t n.val ∧ regsKept [pgVdt n.val + 0x08C] s t ∧ keeps [.regs, .epochs, .spans, .out] s t) ∧
  (∀ (r : Role) (n : Fin 18) (s : State), passes s r (pgVdt n.val + 0x088) true true = true → (flowAt s n.val (flowIdx s n.val)).valid = true →
    ∃ t, exec (.flowCmdOpen r n) s = .next t ∧ getFld t (pgVdt n.val + 0x08C) 7 0 = Status.denied.code ∧ committed s t r (pgVdt n.val + 0x088) ∧
      regsKept [pgVdt n.val + 0x08C] s t ∧ keeps [.regs, .epochs, .out] s t) ∧
  (∀ (r : Role) (n : Fin 18) (i : Nat) (s : State), passes s r (pgVdt n.val + 0x088) true true = true → i = flowIdx s n.val → dspOfFlow s n.val i = none →
    ∃ t, exec (.flowCmdClose r n) s = .next t ∧ flowAt t n.val i = { flowAt s n.val i with valid := false } ∧
      (∀ j, j ≠ i → flowAt t n.val j = flowAt s n.val j) ∧ (∀ k ∈ (spanAt t n.val).keys, k.flow ≠ i) ∧ getFld t (pgVdt n.val + 0x08C) 7 0 = 0 ∧
      committed s t r (pgVdt n.val + 0x088) ∧ otherSpans s t n.val ∧ regsKept [pgVdt n.val + 0x08C] s t ∧ keeps [.regs, .epochs, .spans, .out] s t) ∧
  (∀ (r : Role) (n : Fin 18) (x : Flow) (s : State), passes s r (pgVdt n.val + 0x088) true true = true → x = flowAt s n.val (flowIdx s n.val) →
    ∃ t, exec (.flowCmdLoad r n) s = .next t ∧
      rawReg t (pgVdt n.val + 0x07C) = BitVec.ofNat 32 (x.kind + x.dest * 4 + x.ballast * 16 + x.dscp * 64 + b2n x.saf * 4096 + x.peerId * 65536) ∧
      rawReg t (pgVdt n.val + 0x080) = BitVec.ofNat 32 (x.peerPort + x.inst * 256 + x.keyId * 65536) ∧
      rawReg t (pgVdt n.val + 0x084) = BitVec.ofNat 32 x.group ∧ getFld t (pgVdt n.val + 0x08C) 7 0 = 0 ∧ committed s t r (pgVdt n.val + 0x088) ∧
      regsKept [pgVdt n.val + 0x07C, pgVdt n.val + 0x080, pgVdt n.val + 0x084, pgVdt n.val + 0x08C] s t ∧ keeps [.regs, .epochs, .out] s t) ∧
  (∀ (r : Role) (n : Fin 18) (d : Dsp) (s : State), passes s r (pgVdt n.val + 0x10C) true true = true → d = stagedDsp s n.val →
    tblFind (spanAt s n.val).dsp (dspIdx s n.val) = none → (flowAt s n.val d.flow).valid = true → (flowAt s n.val d.flow).kind = 0 →
    (∀ x ∈ (spanAt s n.val).dsp, x.2.flow ≠ d.flow) → 1 ≤ d.frames → d.frames ≤ 64 → 1 ≤ d.fsize → d.fsize ≤ 9070 → d.period ≠ 0 →
    (d :: (spanAt s n.val).dsp.map Prod.snd).foldl (fun a x => a + x.frames * x.fsize) 0 ≤ 65536 →
    (dspLoad s n.val (d :: (spanAt s n.val).dsp.map Prod.snd)).1 * 100 ≤
      gaugeCap (getFld s (pgVdt n.val + 0x070) 1 0) * 8 * (dspLoad s n.val (d :: (spanAt s n.val).dsp.map Prod.snd)).2 →
    ∃ t, exec (.dspStart r n) s = .next t ∧ tblFind (spanAt t n.val).dsp (dspIdx s n.val) = some d ∧
      (∀ k, k ≠ dspIdx s n.val → tblFind (spanAt t n.val).dsp k = tblFind (spanAt s n.val).dsp k) ∧ getFld t (pgVdt n.val + 0x110) 7 0 = 0 ∧
      committed s t r (pgVdt n.val + 0x10C) ∧ otherSpans s t n.val ∧ regsKept [pgVdt n.val + 0x110] s t ∧ keeps [.regs, .epochs, .spans, .out] s t) ∧
  (∀ (r : Role) (n : Fin 18) (s : State), passes s r (pgVdt n.val + 0x10C) true true = true →
    (tblFind (spanAt s n.val).dsp (dspIdx s n.val)).isSome = true →
    ∃ t, exec (.dspStart r n) s = .next t ∧ getFld t (pgVdt n.val + 0x110) 7 0 = Status.denied.code ∧ committed s t r (pgVdt n.val + 0x10C) ∧
      regsKept [pgVdt n.val + 0x110] s t ∧ keeps [.regs, .epochs, .out] s t) ∧
  (∀ (r : Role) (n : Fin 18) (s : State), passes s r (pgVdt n.val + 0x10C) true true = true →
    ∃ t, exec (.dspStop r n) s = .next t ∧
      tblFind (spanAt t n.val).dsp (dspIdx s n.val) = (tblFind (spanAt s n.val).dsp (dspIdx s n.val)).map (fun d => { d with stopping := true }) ∧
      (∀ k, k ≠ dspIdx s n.val → tblFind (spanAt t n.val).dsp k = tblFind (spanAt s n.val).dsp k) ∧ getFld t (pgVdt n.val + 0x110) 7 0 = 0 ∧
      committed s t r (pgVdt n.val + 0x10C) ∧ otherSpans s t n.val ∧ regsKept [pgVdt n.val + 0x110] s t ∧ keeps [.regs, .epochs, .spans, .out] s t) ∧
  (∀ (r : Role) (n : Fin 18) (d : Dsp) (s : State), passes s r (pgVdt n.val + 0x10C) true true = true →
    tblFind (spanAt s n.val).dsp (dspIdx s n.val) = some d →
    ∃ t, exec (.dspCmdLoad r n) s = .next t ∧ rawReg t (pgVdt n.val + 0x104) = BitVec.ofNat 32 (d.flow + d.frames * 4096) ∧
      rawReg t (pgVdt n.val + 0x108) = BitVec.ofNat 32 (d.fsize + d.period * 65536) ∧ getFld t (pgVdt n.val + 0x110) 7 0 = 0 ∧
      committed s t r (pgVdt n.val + 0x10C) ∧ regsKept [pgVdt n.val + 0x104, pgVdt n.val + 0x108, pgVdt n.val + 0x110] s t ∧
      keeps [.regs, .epochs, .out] s t)

/-- A frame to a held block is counted and dropped, as is one that is too long or ill-formed (03 R68, 11 R301 rows 1 to 3). A frame that passes rows 1 to 8 waits
in the span with the keys that are there. Its end marks it where its key is not in the span; an MREQ whose key is there and whose tag verifies moves the
replay window and joins the memory queue, and one whose tag does not verify raises SEAL_FAIL and joins nothing (11 R301 to R304, R312). KVT delivers the pair
key of the oldest request to its span (08 R207). The oldest MREQ goes to its engine's remote queue with its response space reserved (18 R470, 12
R337). (functional, derived; 11_link_security.md, 18_flow_control.md, 12_fabric_semantics.md, 08_entropy_and_keys.md) -/
def Obligations.ReceivedFrames : Prop :=
  (∀ (n : Fin 18) (frame : Bytes) (perr : Bool) (s : State), (blockStatus s).isSome = true →
    ∃ t, exec (.lrFrameStart n frame perr) s = .next t ∧ (spanAt t n.val).rx = (spanAt s n.val).rx ∧
      getFld t (pgVdt n.val + 0x0C0) 31 0 = satAdd 0xFFFFFFFF (getFld s (pgVdt n.val + 0x0C0) 31 0) 1 ∧ otherSpans s t n.val ∧
      regsKept [pgVdt n.val + 0x0C0] s t ∧ keeps [.regs, .spans] s t) ∧
  (∀ (n : Fin 18) (frame : Bytes) (s : State), blockStatus s = none → inService s (pgVdt n.val) = true → injArmed s (pgVdt n.val) 3 = false →
    (9216 < frame.length ∨ wellFormedFrame s n.val frame = false) →
    ∃ t, exec (.lrFrameStart n frame false) s = .next t ∧ (spanAt t n.val).rx = (spanAt s n.val).rx ∧
      (let o := if 9216 < frame.length then 0x0C4 else 0x0C8
       getFld t (pgVdt n.val + o) 31 0 = satAdd 0xFFFFFFFF (getFld s (pgVdt n.val + o) 31 0) 1 ∧ regsKept [pgVdt n.val + o] s t) ∧
      otherSpans s t n.val ∧ keeps [.regs, .spans] s t) ∧
  (∀ (n : Fin 18) (frame h : Bytes) (p f sq ep : Nat) (r0 : RxFrame) (s : State), h = sealPart frame → f = bfld h 4 2 → sq = bfld h 6 8 → ep = bfld h 14 4 →
    blockStatus s = none → inService s (pgVdt n.val) = true → injArmed s (pgVdt n.val) 3 = false → injArmed s (pgVdt n.val) 4 = false →
    frame.length ≤ 9216 → wellFormedFrame s n.val frame = true →
    (ingressPart s n.val h = 1 → partHeld s n.val 1 + frame.length ≤ 24576) → (ingressPart s n.val h = 2 → partHeld s n.val 2 + frame.length ≤ 8192) →
    (loadedEpoch s ep).map Prod.fst = some p → s.dom.epoch ≠ 0 → inMap s p (bfld h 2 2) = true → flowFits s n.val h = true →
    (windowTake (flowAt s n.val f) sq ep).isSome = true → (∀ r ∈ (spanAt s n.val).rx, r.flow = f → r.seq ≠ sq) →
    r0 = ⟨h, f, sq, ep, frame.length, none, false, none, none, none, none⟩ →
    (bfld h 0 1 % 16 = 5 → ∃ ks, busRead s (bfld h 18 2) = .keys ks) → (∀ k, fwdKey s n.val r0 = some k → ∃ ks, busRead s k = .keys ks) →
    ∃ t r, exec (.lrFrameStart n frame false) s = .next t ∧ (spanAt t n.val).rx = (spanAt s n.val).rx ++ [r] ∧ r = { r0 with key := r.key, ks := r.ks } ∧
      (bfld h 0 1 % 16 ≠ 5 → r.key = heldKey s n.val f true ep) ∧ (bfld h 0 1 % 16 = 5 ∨ (fwdKey s n.val r0).isSome = true → r.ks.isSome = true) ∧
      otherSpans s t n.val ∧ keeps [.spans, .kvt] s t) ∧
  (∀ (n : Fin 18) (r : RxFrame) (err : Bool) (s : State), (spanAt s n.val).rx = [r] → r.ended = none → bfld r.body 0 1 % 16 ≠ 5 → r.key = none →
    fwdKey s n.val r = none → heldKey s n.val r.flow true r.epoch = none →
    ∃ t, exec (.lrFrameEnd n err false) s = .next t ∧ (spanAt t n.val).rx = [{ r with ended := some err, nrReady := false }] ∧
      ((loadedEpoch s r.epoch).isSome = true → t.kvt.pairWait.any (fun w => w.1 = n.val) = true) ∧ otherSpans s t n.val ∧ keeps [.spans, .kvt] s t) ∧
  (∀ (n : Fin 18) (r : RxFrame) (err : Bool) (k h body tag : Bytes) (s : State), (spanAt s n.val).rx = [r] → r.ended = none →
    bfld r.body 0 1 % 16 = 2 → (r.key = some k ∨ r.key = none ∧ heldKey s n.val r.flow true r.epoch = some k) → injArmed s (pgVdt n.val) 0 = false → h = r.body.take 32 →
    body = (r.body.drop 32).take (bfld h 22 2) → tag = (r.body.drop (32 + bfld h 22 2)).take 16 → (peerAt s n.val (bfld h 2 2)).st = 0 →
    (peerAt s n.val (bfld h 2 2)).inc = some (bfld h 20 1) →
    ∃ t, exec (.lrFrameEnd n err false) s = .next t ∧ (spanAt t n.val).rx = [] ∧
      (if err = false ∧ Config.gcmTag k (frameIv h) h body = tag then
        (flowAt t n.val r.flow).high = ((windowTake (flowAt s n.val r.flow) r.seq r.epoch).getD (flowAt s n.val r.flow)).high ∧
        (spanAt t n.val).memQ = (spanAt s n.val).memQ ++
          (match mreqOf s n.val h (Config.gcmCrypt k (frameIv h) body) with
           | some q => [(q, r.size)]
           | none => [])
       else (flowAt t n.val r.flow).high = (flowAt s n.val r.flow).high ∧ (spanAt t n.val).memQ = (spanAt s n.val).memQ ∧
        regBit t (pgVdt n.val + 0x018) 0 = true)) ∧
  (∀ (n : Fin 18) (pos peer d : Nat) (rest : List (Nat × Nat × Nat × Nat)) (ek : EpochKey) (s : State), s.kvt.pairWait = (n.val, pos, peer, d) :: rest →
    epochKeyAt s pos = some ek → (spanAt s n.val).rx = [] →
    ∃ t, exec (.pairKeyDelivered n) s = .next t ∧ t.kvt.pairWait = rest ∧
      (∃ k, heldKey t n.val (d / 2) (d % 2 = 1) ek.num = some k ∧ (pairKey s pos s.dom.ownId peer).1 = some k) ∧ otherSpans s t n.val ∧
      keeps [.regs, .kvt, .spans] s t) ∧
  (∀ (n : Fin 18) (q : Req) (z e : Nat) (rest : List (Req × Nat)) (k : Nat) (s : State), (spanAt s n.val).memQ = (q, z) :: rest →
    engineOfPage q.page = some e → engineOut s e = false → (engAt s e).remoteQ.length < 32 →
    k = (match q.src with
      | .remote _ _ _ _ _ _ (some _) => 578
      | _ => 450) → respHeld s n.val + k ≤ 65536 →
    ∃ t, exec (.homeMreqHandover n) s = .next t ∧ (spanAt t n.val).memQ = rest ∧ (spanAt t n.val).rsv = (spanAt s n.val).rsv + k ∧
      (engAt t e).remoteQ = (engAt s e).remoteQ ++ [{ q with link := tblGet 0 s.incarn (pgVdt n.val) }] ∧ otherSpans s t n.val ∧
      regsKept [pgVdt n.val + 0x040, pgVdt n.val + 0x154] s t ∧ keeps [.regs, .engs, .spans] s t)

/-- An NT frame with an illegal header is refused with DENIED and returns on NR with that status; one that R-1 to R-5 and the conditions admit takes its send
count and is sealed and sent at its end (11 R308, R309, 03 R81). Egress judges a waiting payload the same way. A due credit count leaves in a dummy and a full
window is released at CRED_TMO (18 R472, R473). A stopped dispatch entry ends, its slots send real frames or dummies, a slot that cannot be sent or that comes
behind a late one is late, and a late one leaves once it can (14 R388 to R391). An outstanding request ends with RETRY at RSP_TMO and with UNIT_GONE when its
peer is GONE (11 R317, 18 R477). What NR_HDR names as the source of a returned payload is the model's choice (log 108). (functional, derived;
11_link_security.md, 14_sparsity_and_shape_hiding.md, 18_flow_control.md, 03_ports_and_integration.md) -/
def Obligations.PayloadsAndEgress : Prop :=
  (∀ (n : Fin 18) (hdr : BitVec 128) (x : NiItem) (s : State), x = ntItem s hdr.toNat → (spanAt s n.val).nt = none → blockStatus s = none →
    injArmed s (pgVdt n.val) 3 = false → pageGated s (pgVdt n.val) = false → admissionStopped s (pgVdt n.val) = false →
    (hdr.toNat / 2 ^ 88 ≠ 0 → ∃ t, exec (.ntFrameStart n hdr false false) s = .next t ∧ (spanAt t n.val).nt = some (.refused x Status.denied.code) ∧
      otherSpans s t n.val ∧ keeps [.spans] s t) ∧
    (hdr.toNat / 2 ^ 88 = 0 → dspOfFlow s n.val x.flow = none → niRefusal s n.val x = none → holdsSendKey s n.val x.flow = true →
      replaying s (pgVdt n.val) = false → hasCredit s n.val (flowAt s n.val x.flow) = true →
      ∃ t, exec (.ntFrameStart n hdr false false) s = .next t ∧
        (∃ ep key, (spanAt t n.val).nt = some (.admitted x (flowAt s n.val x.flow).count ep key)) ∧ getFld t (pgVdt n.val + 0x040) 12 8 = 0 ∧
        otherSpans s t n.val ∧ regsKept [pgVdt n.val + 0x040] s t ∧ keeps [.regs, .spans] s t)) ∧
  (∀ (n : Fin 18) (payload : Bytes) (x : NiItem) (s : State), x.trs = none → genFresh s x.inst x.gen = true →
    (∀ st, (spanAt s n.val).nt = some (.refused x st) → blockStatus s = none →
      ∃ t, exec (.ntFrameEnd n payload false) s = .next t ∧ (spanAt t n.val).nt = none ∧
        t.out = s.out ++ [⟨.nr, n.val, x.flow, st, nrHeader { x with peer := s.dom.ownId }, zeros payload.length⟩] ∧ keeps [.spans, .out] s t) ∧
    (∀ q ep key, (spanAt s n.val).nt = some (.admitted x q ep key) → payload.length ≤ ntLimit s n.val →
      ∃ t, exec (.ntFrameEnd n payload false) s = .next t ∧ (spanAt t n.val).nt = none ∧
        (∃ b, t.out = s.out ++ [⟨.lt, n.val, x.flow, 0, q, b⟩]) ∧
        flowAt t n.val x.flow = { flowAt s n.val x.flow with told := freedThrough s n.val x.flow } ∧ otherSpans s t n.val ∧
        keeps [.regs, .spans, .pmu, .out] s t) ∧
    (∀ e d, (spanAt s n.val).nt = some (.dispatch x e) → tblFind (spanAt s n.val).dsp e = some d → payload.length ≤ d.fsize → payload.length ≤ ntLimit s n.val →
      ∃ t, exec (.ntFrameEnd n payload false) s = .next t ∧ (spanAt t n.val).nt = none ∧
        tblFind (spanAt t n.val).dsp e = some { d with queue := d.queue ++ [{ x with data := payload }] } ∧ otherSpans s t n.val ∧ keeps [.spans] s t)) ∧
  (∀ (n : Fin 18) (x : NiItem) (s : State), (spanAt s n.val).outQ = [.ni x] → admissionStopped s (pgVdt n.val) = false → genFresh s x.inst x.gen = true → x.trs = none →
    (∀ st, niRefusal s n.val x = some st → ∃ u, exec (.spanEgressAdmit n) s = .next (trsSettle u) ∧ (spanAt u n.val).outQ = [] ∧
      u.out = s.out ++ [⟨.nr, n.val, x.flow, st, nrHeader { x with peer := s.dom.ownId }, zeros x.data.length⟩] ∧ keeps [.regs, .spans, .out] s u) ∧
    (niRefusal s n.val x = none → holdsSendKey s n.val x.flow = true → replaying s (pgVdt n.val) = false →
      (hasCredit s n.val (flowAt s n.val x.flow) = true → ∃ u, exec (.spanEgressAdmit n) s = .next (trsSettle u) ∧ (spanAt u n.val).outQ = [] ∧
        frameSent s u n.val x.flow 1 ∧ keeps [.regs, .spans, .pmu, .out] s u) ∧
      (hasCredit s n.val (flowAt s n.val x.flow) = false → ∃ u, exec (.spanEgressAdmit n) s = .next (trsSettle u) ∧ (spanAt u n.val).outQ = [.ni x] ∧
        getFld u (pgVdt n.val + 0x040) 12 8 = 18 ∧ keeps [.regs, .spans] s u))) ∧
  (∀ (n : Fin 18) (f : BitVec 12) (x : Flow) (s : State), x = flowAt s n.val f.toNat → x.valid = true → x.kind = 0 →
    (freedThrough s n.val f.toNat ≠ x.told → (spanAt s n.val).outQ.contains (.credit f.toNat) = false → exhausted x = false → spanServes s n.val = true →
      blockStatus s = none → holdsSendKey s n.val f.toNat = true → ∃ t, exec (.creditReturnDue n f) s = .next t ∧ frameSent s t n.val f.toNat 0 ∧
        (flowAt t n.val f.toNat).told = freedThrough s n.val f.toNat ∧
        getFld t (pgVdt n.val + 0x160) 31 0 = satAdd 0xFFFFFFFF (getFld s (pgVdt n.val + 0x160) 31 0) 1 ∧ otherSpans s t n.val ∧
        keeps [.regs, .spans, .out] s t) ∧
    (windowOf s n.val x ≠ 0 → windowOf s n.val x ≤ x.sent - x.freed → ∃ t, exec (.credTmoExpire n f) s = .next t ∧
      flowAt t n.val f.toNat = { x with freed := x.sent } ∧ getFld t (pgVdt n.val + 0x164) 31 0 = satAdd 0xFFFFFFFF (getFld s (pgVdt n.val + 0x164) 31 0) 1 ∧
      otherSpans s t n.val ∧ regsKept [pgVdt n.val + 0x164] s t ∧ keeps [.regs, .spans] s t)) ∧
  (∀ (n : Fin 18) (e : Fin 16) (d : Dsp) (s : State), tblFind (spanAt s n.val).dsp e.val = some d →
    (d.stopping = true → ∃ t, exec (.dispatchRound n e) s = .next t ∧ tblFind (spanAt t n.val).dsp e.val = none ∧
      spanQueued s t n.val ((d.late.filterMap id ++ d.queue).map TxItem.ni) ∧ otherSpans s t n.val ∧ keeps [.spans] s t) ∧
    (d.stopping = false → dspRuns s n.val = true → ∃ t, exec (.dispatchRound n e) s = .next t ∧
      tblFind (spanAt t n.val).dsp e.val = some { d with running := true, slot := 0 } ∧ otherSpans s t n.val ∧ keeps [.spans] s t) ∧
    (d.running = true → d.slot < d.frames → dspRuns s n.val = true → replaying s (pgVdt n.val) = false → niRefusal s n.val (dspDummy d) = none →
      (d.queue = [] → d.late = [] → holdsSendKey s n.val d.flow = true → hasCredit s n.val (flowAt s n.val d.flow) = true →
        ∃ t, exec (.dispatchSlot n e) s = .next t ∧ tblFind (spanAt t n.val).dsp e.val = some { d with slot := d.slot + 1 } ∧
          frameSent s t n.val d.flow 1 ∧ getFld t (pgVdt n.val + 0x120) 31 0 = satAdd 0xFFFFFFFF (getFld s (pgVdt n.val + 0x120) 31 0) 1 ∧
          keeps [.regs, .spans, .out] s t) ∧
      (∀ x q, d.queue = x :: q → x.flow = d.flow → genFresh s x.inst x.gen = true → niRefusal s n.val x = none → x.trs = none → d.late = [] →
        holdsSendKey s n.val d.flow = true → hasCredit s n.val (flowAt s n.val d.flow) = true →
        ∃ t, exec (.dispatchSlot n e) s = .next t ∧ tblFind (spanAt t n.val).dsp e.val = some { d with slot := d.slot + 1, queue := q } ∧
          frameSent s t n.val d.flow 1 ∧ keeps [.regs, .spans, .out] s t) ∧
      (d.queue = [] → d.late ≠ [] ∨ hasCredit s n.val (flowAt s n.val d.flow) = false →
        ∃ t d', exec (.dispatchSlot n e) s = .next t ∧ tblFind (spanAt t n.val).dsp e.val = some d' ∧ d'.slot = d.slot + 1 ∧
          d'.late = d.late ++ [none] ∧ t.out = s.out ∧ keeps [.regs, .kvt, .spans, .inc, .evr] s t)) ∧
    (∀ rest, d.late = none :: rest → dspRuns s n.val = true → replaying s (pgVdt n.val) = false → niRefusal s n.val (dspDummy d) = none → holdsSendKey s n.val d.flow = true →
      hasCredit s n.val (flowAt s n.val d.flow) = true → ∃ t, exec (.dispatchLateSend n e) s = .next t ∧
        tblFind (spanAt t n.val).dsp e.val = some { d with late := rest } ∧ frameSent s t n.val d.flow 1 ∧ keeps [.regs, .spans, .out] s t)) ∧
  (∀ (n : Fin 18) (i : Fin 1024) (o : OutReq) (s : State), tblFind (spanAt s n.val).outst i.val = some o → o.req.src = .fm →
    genFresh s o.req.inst o.req.gen = true →
    ∃ t, exec (.responseTimeout n i) s = .next t ∧ tblFind (spanAt t n.val).outst i.val = none ∧
      t.out = s.out ++ [⟨.fm, o.engine, o.req.tag, Status.retry.code, o.req.addr, zeros 256⟩] ∧
      (peerAt t n.val o.peer).st = (if (peerAt s n.val o.peer).st = 0 then 1 else (peerAt s n.val o.peer).st) ∧ otherSpans s t n.val ∧
      keeps [.regs, .ttb, .spans, .inc, .evr, .out] s t) ∧
  (∀ (n : Fin 18) (p : BitVec 14) (i : Nat) (o : OutReq) (s : State), (peerAt s n.val p.toNat).st = 1 → s.coh.dir = [] → s.coh.late = [] →
    (spanAt s n.val).outst = [(i, o)] → o.peer = p.toNat → o.req.src = .fm → genFresh s o.req.inst o.req.gen = true →
    ∃ t, exec (.peerGoneTimeout n p) s = .next t ∧ (peerAt t n.val p.toNat).st = 2 ∧ (spanAt t n.val).outst = [] ∧
      t.out = s.out ++ [⟨.fm, o.engine, o.req.tag, Status.unitGone.code, o.req.addr, zeros 256⟩] ∧ (∀ c ∈ t.coh.copies, c.home ≠ p.toNat) ∧
      otherSpans s t n.val ∧ keeps [.regs, .ttb, .coh, .spans, .inc, .evr, .out] s t)

/-- With nothing to take up, a descriptor that check 1 to 7 refuses is completed on CT with its status, one that finds a place opens a chunk, and one
that finds none is held; one with a parity error is completed with POISON (13 R349, R351, R352). A contribution that passes rows 1 to 7 adds its values and its
weight to its chunk's elements (R360 to R362). The end of a chunk's outputs completes it with OK (R371), CHUNK_TMO completes it with UNIT_GONE (R374); a frame
that no chunk matches is dropped and counted (R361); cleared rows leave the lane group (R376). (functional, derived; 13_sealed_reduction.md,
03_ports_and_integration.md) -/
def Obligations.ReductionCommands : Prop :=
  (∀ (w : BitVec 256) (s : State), trsSettle s = s → s.trs.desc = none → s.cru.st = .run → regBit s (pgTrs + 0x010) 9 = false →
    injArmed s pgTrs 3 = false → replaying s pgTrs = false → admissionStopped s pgTrs = false →
    (∀ st, trsRefusal s w = some st → ∃ t, exec (.ctDescriptor w false false) s = .next t ∧ t.trs.desc = none ∧ t.trs.chunks = s.trs.chunks ∧
      t.out = s.out ++ [ctOut (tdesc w).handle st] ∧ keeps [.regs, .trs, .inc, .evr, .out] s t) ∧
    (∀ i g, trsRefusal s w = none → instOfPasid s (tdesc w).pasid = some i → trsPlace s i (((tdesc w).elems + 15) / 16) = some g → (tdesc w).loc = false →
      ∃ t, exec (.ctDescriptor w false false) s = .next t ∧ t.trs.desc = none ∧
        t.trs.chunks = s.trs.chunks ++ [⟨s.trs.nextId, i, instGen s i, tdesc w, g, ((tdesc w).elems + 15) / 16, now s, [], 0, [], [], [], 0, false⟩] ∧
        keeps [.regs, .trs] s t) ∧
    (∀ i, trsRefusal s w = none → instOfPasid s (tdesc w).pasid = some i → trsPlace s i (((tdesc w).elems + 15) / 16) = none →
      ∃ t, exec (.ctDescriptor w false false) s = .next t ∧ t.trs = { s.trs with desc := some w } ∧ regBit t (pgTrs + 0x044) 7 = true ∧
        keeps [.regs, .trs] s t) ∧
    (blockStatus s = none → enabled s pgTrs = true → pageGated s pgTrs = false → pageUp s pgTrs = true →
      ∃ t, exec (.ctDescriptor w false true) s = .next t ∧ t.out = s.out ++ [ctOut (w.toNat % 2 ^ 48) Status.poison.code] ∧
        regBit t (pgTrs + 0x018) 3 = true ∧ t.trs.chunks = s.trs.chunks ∧ keeps [.regs, .trs, .inc, .evr, .out] s t)) ∧
  (∀ (n : Fin 18) (x : NiItem) (q i : Nat) (rest : List (NiItem × Nat)) (c : Chunk) (off w : Nat) (v : List Elem) (s : State), trsSettle s = s →
    inService s pgTrs = true → blockStatus s = none → injArmed s pgTrs 0 = false → (spanAt s n.val).trsQ = (x, q) :: rest → x.inst = some i →
    genFresh s x.inst x.gen = true → trsHeader s i x.keyId x.data = .ok c off w v → fits c off v.length w = true → stagedIn s c.group < 4 →
    c.total + w * v.length ≠ c.desc.expect * c.desc.elems →
    ∃ t, exec (.trsContribution n) s = .next t ∧ (spanAt t n.val).trsQ = rest ∧
      (∃ d ∈ t.trs.chunks, d.id = c.id ∧ d.total = c.total + w * v.length ∧
        ∀ j, j < v.length → (tblGet Elem.zero d.elems (off + j)).acc = (tblGet Elem.zero c.elems (off + j)).acc + (v.getD j Elem.zero).acc ∧
          (tblGet Elem.zero d.elems (off + j)).done = (tblGet Elem.zero c.elems (off + j)).done + w) ∧
      otherSpans s t n.val ∧ keeps [.regs, .spans, .trs, .pmu] s t) ∧
  (∀ (i : Fin 256) (h : BitVec 48) (c : Chunk) (s : State), s.trs.desc = none →
    s.trs.chunks.find? (fun c => c.inst = i.val && c.desc.handle = h.toNat) = some c →
    (trsSettle s = s → c.summed = true → c.todo = [] → c.waits = [] → c.payloads = 0 →
      ∃ t, exec (.chunkEnd i h) s = .next t ∧ t.trs.chunks = s.trs.chunks.filter (fun d => d.id != c.id) ∧ t.out = s.out ++ [ctOut h.toNat 0] ∧
        getFld t (pgTrs + 0x048) 31 0 = satAdd 0xFFFFFFFF (getFld s (pgTrs + 0x048) 31 0) 1 ∧ keeps [.regs, .trs, .out] s t) ∧
    (∃ t, exec (.chunkTimeout i h) s = .next t ∧ t.trs.chunks = s.trs.chunks.filter (fun d => d.id != c.id) ∧
      t.out = s.out ++ [ctOut h.toNat Status.unitGone.code] ∧ keeps [.regs, .trs, .inc, .evr, .out] s t)) ∧
  (∀ (n : Fin 18) (q : NiItem × Nat) (s : State),
    (spanAt s n.val).trsQ.find? (fun q => trsHeader s (q.1.inst.getD 0) q.1.keyId q.1.data = .unmatched) = some q →
    ∃ t, exec (.trsNochunkTimeout n) s = .next t ∧ (spanAt t n.val).trsQ = (spanAt s n.val).trsQ.erase q ∧
      getFld t (pgTrs + 0x050) 31 0 = satAdd 0xFFFFFFFF (getFld s (pgTrs + 0x050) 31 0) 1 ∧ t.trs.chunks = s.trs.chunks ∧ otherSpans s t n.val ∧
      keeps [.regs, .spans, .trs, .inc, .evr] s t) ∧
  (∀ (g : Fin 8) (c : Clearing) (s : State), s.trs.clearing.find? (fun c => c.group = g.val) = some c → s.trs.desc = none →
    exec (.chunkRowsCleared g) s = .next { s with trs := { s.trs with clearing := s.trs.clearing.erase c } })

/-- A host access is refused while the block is withdrawn or held, or, with a record, from function 0x101 on, and otherwise goes to its engine (01 R35, 03 R68,
R86). A doorbell that moves forward within its ring takes effect (15 R401). A fetched record that fails a check gets its ACK, and one that passes advances the
expected SEQ and waits for its accesses; then its D2H record is written, and its acknowledge advances both indices in host memory (R403 to R406). CH_CMD
opens and closes pairs (R400, R407). HI and event-queue acknowledges retire what they answer; MSI_GAP ends with at most one MSI (R408, R415). What HM_ID an
access carries and how much HGT fetches of a bad slot are the model's choices (log 112). (functional, derived; 15_host_gate.md,
01_block_architecture.md, 03_ports_and_integration.md) -/
def Obligations.HostGateCommands : Prop :=
  (∀ (f : BitVec 9) (wr : Bool) (a : BitVec 42) (len : BitVec 8) (data : Bytes) (n : Nat) (inst : Option Nat) (s : State), s.cru.st = .run →
    n = (if len = 0 then 1024 else len.toNat * 4) → inst = (if f = 0 then none else some (f.toNat - 1)) →
    (∀ st, (s.withdrawn = true ∧ st = Status.unitGone ∨ s.withdrawn = false ∧ s.held = true ∧ st = Status.notReady) →
      ∃ t, exec (.hostMemAccess f wr a len data false false) s = .next t ∧ t.hgt = { s.hgt with nextId := s.hgt.nextId + 1 } ∧
        t.out = s.out ++ [⟨.ht, 0, s.hgt.nextId, st.code, a.toNat, if wr then [] else zeros n⟩] ∧ keeps [.hgt, .out] s t) ∧
    (blockStatus s = none → 0x100 < f.toNat →
      ∃ t, exec (.hostMemAccess f wr a len data false false) s = .next t ∧ t.hgt = { s.hgt with nextId := s.hgt.nextId + 1 } ∧
        t.out = s.out ++ [⟨.ht, 0, s.hgt.nextId, Status.denied.code, a.toNat, if wr then [] else zeros n⟩] ∧
        t.evr = (recordInst s pgHgt rcAccessDenied none 0 0 0).evr ∧ keeps [.regs, .inc, .evr, .hgt, .out] s t) ∧
    (∀ q e, blockStatus s = none → f.toNat ≤ 0x100 → inService s pgHgt = true → injArmed s pgHgt 3 = false →
      (∀ h ∈ s.hgt.hosts, h.id ≠ s.hgt.nextId) → hostReq s inst wr a.toNat n data = [q] → engineOfPage q.page = some e → engineOut s e = false →
      (engAt s e).remoteQ.length < 32 →
      ∃ t, exec (.hostMemAccess f wr a len data false false) s = .next t ∧ (engAt t e).remoteQ = (engAt s e).remoteQ ++ [q] ∧
        t.hgt.hosts = s.hgt.hosts ++ [⟨s.hgt.nextId, wr, a.toNat, n, inst, [], [q.addr / 256], [], 0⟩] ∧ keeps [.hgt, .engs] s t)) ∧
  (∀ (r : Role) (p : Fin 64) (v : Word) (x : Pair) (s : State), pairAt s p.val = some x →
    (passes s r (pgHgt + 0x200 + 8 * p.val) true false = true → 0 ≤ (v - BitVec.ofNat 32 x.prodH).toInt →
      (v - BitVec.ofNat 32 x.takenH).toInt ≤ 2 ^ x.h2d.count →
      ∃ t, exec (.h2dDoorbell r p v) s = .next t ∧ pairAt t p.val = some { x with prodH := v.toNat } ∧
        t.out = s.out ++ [regOk r (pgHgt + 0x200 + 8 * p.val)] ∧ keeps [.hgt, .out] s t) ∧
    (passes s r (pgHgt + 0x200 + 8 * p.val + 4) true false = true → 0 ≤ (v - BitVec.ofNat 32 x.consD).toInt →
      (v - BitVec.ofNat 32 x.prodD).toInt ≤ 2 ^ x.d2h.count →
      ∃ t, exec (.d2hDoorbell r p v) s = .next t ∧ pairAt t p.val = some { x with consD := v.toNat } ∧
        t.out = s.out ++ [regOk r (pgHgt + 0x200 + 8 * p.val + 4)] ∧ keeps [.hgt, .out] s t) ∧
    (passes s r (pgHgt + 0x200 + 8 * p.val) true false = true → (v - BitVec.ofNat 32 x.prodH).toInt < 0 →
      ∃ t, exec (.h2dDoorbell r p v) s = .next t ∧ getFld t (pgHgt + 0x024) 15 0 = satAdd 0xFFFF (getFld s (pgHgt + 0x024) 15 0) 1 ∧
        t.out = s.out ++ [regOk r (pgHgt + 0x200 + 8 * p.val)] ∧ keeps [.regs, .out] s t)) ∧
  (∀ (p : Fin 64) (data : Bytes) (x : Pair) (s : State), pairAt s p.val = some x → inService s pgHgt = true → blockStatus s = none → s.cru.st ≠ .sleep →
    x.prodH % 2 ^ 32 ≠ x.takenH % 2 ^ 32 → d2hFull x = false → s.hgt.recs.length < 4 → (∀ r ∈ s.hgt.recs, r.pair ≠ p.val) → injArmed s pgHgt 3 = false →
    injArmed s pgHgt 0 = false →
    ∃ t, exec (.h2dRecord p data false false) s = .next t ∧
      match judgeRec s p.val x data with
      | .inl st => st ≠ Status.authFail.code → pairAt t p.val = some { x with takenH := x.takenH + 1 } ∧
          (∃ b, t.out = (hmWrite (hmRead s p.val (ringAddr x.h2d x.takenH) (fetchLen data)) p.val (ringAddr x.d2h x.prodD) b).out) ∧
          (∃ r ∈ t.hgt.recs, r.pair = p.val ∧ r.acking = true ∧ r.st = st) ∧ keeps [.hgt, .pmu, .inc, .evr, .regs, .out] s t
      | .inr _ => pairAt t p.val = some { x with takenH := x.takenH + 1, expH := x.expH + 1 } ∧
          t.out = (hmRead s p.val (ringAddr x.h2d x.takenH) (fetchLen data)).out ∧ (∃ r ∈ t.hgt.recs, r.pair = p.val ∧ r.acking = false)) ∧
  (∀ (p : Fin 64) (r : HgtRec) (x : Pair) (s : State), hgtSettle s = s → pairAt s p.val = some x → r.st = 0 →
    s.hgt.recs.find? (fun r => r.pair = p.val && !r.acking && r.todo = [] && r.waits = []) = some r →
    ∃ t, exec (.h2dRecordAccessesDone p) s = .next t ∧ (∃ b, t.out = (hmWrite s p.val (ringAddr x.d2h x.prodD) b).out) ∧
      (∃ y ∈ t.hgt.recs, y.pair = p.val ∧ y.acking = true ∧ y.st = if r.rd && !r.met then Status.unwritten.code else 0) ∧ t.hgt.pairs = s.hgt.pairs ∧
      keeps [.hgt, .out] s t) ∧
  (∀ (p : Fin 64) (r : HgtRec) (x : Pair) (s : State), pairAt s p.val = some x → s.hgt.recs.find? (fun r => r.pair = p.val && r.acking) = some r →
    injArmed s pgHgt 4 = false →
    ∃ t, exec (.d2hRecordAcked p false) s = .next t ∧ pairAt t p.val = some { x with prodD := x.prodD + 1 } ∧
      t.hgt.recs = s.hgt.recs.filter (fun y => y.pair != p.val) ∧
      t.out = (hmWrite (hmWrite s p.val x.h2d.base (leBytes 8 (x.takenH % 2 ^ 32))) p.val x.d2h.base (leBytes 8 ((x.prodD + 1) % 2 ^ 32))).out ∧ keeps [.regs, .hgt, .inc, .out] s t) ∧
  (∀ (r : Role) (p : Nat) (s : State), passes s r (pgHgt + 0x05C) true true = true → p = chPair s →
    (pairAt s p = none → ringOk (chRing s (2 * p)) = true → ringOk (chRing s (2 * p + 1)) = true →
      ∃ t y, exec (.hgtChOpen r) s = .next t ∧ pairAt t p = some y ∧ y.inst = getBits (chReg s (2 * p) 0x04C) 23 16 ∧
        y.keyId = getBits (chReg s (2 * p) 0x050) 15 0 ∧ y.h2d = chRing s (2 * p) ∧ y.d2h = chRing s (2 * p + 1) ∧ y.keyH = chKey s (2 * p) ∧
        y.keyD = chKey s (2 * p + 1) ∧ y.prodH = 0 ∧ y.expH = 0 ∧ (∀ k, k < 8 → chReg t (2 * p) (0x080 + 4 * k) = 0 ∧ chReg t (2 * p + 1) (0x080 + 4 * k) = 0) ∧
        getFld t (pgHgt + 0x060) 7 0 = 0 ∧ committed s t r (pgHgt + 0x05C) ∧ regsKept [pgHgt + 0x060] s t ∧ keeps [.regs, .epochs, .hgt, .out] s t) ∧
    ((pairAt s p).isSome = true →
      ∃ t, exec (.hgtChOpen r) s = .next t ∧ getFld t (pgHgt + 0x060) 7 0 = Status.denied.code ∧ committed s t r (pgHgt + 0x05C) ∧
        regsKept [pgHgt + 0x060] s t ∧ keeps [.regs, .epochs, .out] s t) ∧
    (∃ t, exec (.hgtChClose r) s = .next t ∧ pairAt t p = none ∧ t.hgt.recs = s.hgt.recs.filter (fun r => r.pair != p) ∧
      getFld t (pgHgt + 0x060) 7 0 = 0 ∧ committed s t r (pgHgt + 0x05C) ∧ keeps [.regs, .epochs, .hgt, .out] s t)) ∧
  (∀ (c : HiCmd) (rest : List HiCmd) (s : State), s.hgt.hi = c :: rest →
    (injArmed s pgHgt 5 = false → ∃ t, exec .hiAck s = .next t ∧ t.hgt.hi = rest ∧
      (c.cmd = 0 → (c.stream, c.sub, c.dir, c.kset) ∈ t.hgt.ide) ∧ (c.cmd = 2 → (c.stream, c.sub, c.dir, c.kset) ∉ t.hgt.ide) ∧
      (c.cmd = 1 → t.hgt.ide = s.hgt.ide) ∧ keeps [.regs, .hgt, .out] s t) ∧
    (∃ t, exec .hiAckTimeout s = .next t ∧ regBit t (pgHgt + 0x018) 5 = true ∧
      t.hgt.hi = ⟨2, c.stream, c.sub, c.dir, c.kset, [], [], false⟩ :: rest ∧ keeps [.regs, .hgt, .inc, .evr, .out] s t)) ∧
  (∀ (r : MbRec) (rest : List MbRec) (s : State), s.hgt.eq = r :: rest → regBit s (pgHgt + 0x0A8) 8 = true → injArmed s pgHgt 6 = false →
    (∃ t, exec (.eqRecordAcked false) s = .next t ∧ t.hgt.eq = rest ∧ getFld t (pgHgt + 0x0B0) 31 0 = (getFld s (pgHgt + 0x0B0) 31 0 + 1) % 2 ^ 32 ∧
      regsKept [pgHgt + 0x0B0] s t ∧ keeps [.regs, .hgt, .out] s t) ∧
    (∃ t, exec (.eqRecordAcked true) s = .next t ∧ regBit t (pgHgt + 0x018) 6 = true ∧
      regBit t (pgHgt + 0x0A8) 8 = false ∧ t.hgt = s.hgt ∧ keeps [.regs, .inc, .evr] s t)) ∧
  (∀ (r : Role) (v : Word) (s : State), passes s r (pgHgt + 0x0AC) true false = true →
    (0 ≤ (v - rawReg s (pgHgt + 0x0AC)).toInt → 0 ≤ (rawReg s (pgHgt + 0x0B0) - v).toInt →
      ∃ t, exec (.eqConsWrite r v) s = .next t ∧ rawReg t (pgHgt + 0x0AC) = v ∧ t.out = s.out ++ [regOk r (pgHgt + 0x0AC)] ∧
        regsKept [pgHgt + 0x0AC] s t ∧ keeps [.regs, .out] s t) ∧
    ((v - rawReg s (pgHgt + 0x0AC)).toInt < 0 ∨ (rawReg s (pgHgt + 0x0B0) - v).toInt < 0 →
      ∃ t, exec (.eqConsWrite r v) s = .next t ∧ t.out = s.out ++ [regSt r (pgHgt + 0x0AC) .denied] ∧ keeps [.out] s t)) ∧
  (∀ s : State, s.hgt.gap = true →
    ∃ t, exec .msiGapEnd s = .next t ∧
      (s.hgt.gapMore = false → t.hgt = { s.hgt with gap := false } ∧ t.out = s.out) ∧
      (s.hgt.gapMore = true → pairWord s (pgHgt + 0x0B4) ≠ 0 →
        t.out = (hmWrite s hmMsi (pairWord s (pgHgt + 0x0B4)) (leBytes 4 (rawReg s (pgHgt + 0x0BC)).toNat)).out ∧ t.hgt.gapMore = false) ∧
      keeps [.hgt, .out] s t)

/-- In RUNNING, firmware answers each object that the DOE mailbox takes: discovery by its table; a request outside the profile with the ERROR of Table
15.2; certificates, measurements and key exchange with their responses, where a chain is stored and entropy is at hand, and with an ERROR otherwise (15 R393 to
R400). An object it does not take sets HD_ERROR. A message that does not decrypt, END_SESSION, and 120 s without a message end a session with its pairs
and its binding (R395). CERT_PUT gathers a chain and judges it with its last part (R396). (functional, derived; 15_host_gate.md, 06_boot_and_firmware.md) -/
def Obligations.SpdmResponder : Prop :=
  (∀ (i : BitVec 8) (s : State), doeOpen s = true → s.sbx.boot = .running →
    ∃ t, exec (.doeDiscovery i) s = .next t ∧ keeps [.out] s t ∧
      ∃ a b : Nat, said s t 0 0 0 (leBytes 2 a ++ [BitVec.ofNat 8 b, BitVec.ofNat 8 (if i.toNat < 4 then i.toNat + 1 else 0)]) ∧
        (i.toNat < 3 → a = 1 ∧ b = i.toNat) ∧ (i = 3 → a = getBits (otpWord s 0x004) 15 0 ∧ b = 0x5A) ∧
        (i = 4 → a = getBits (otpWord s 0x004) 15 0 ∧ b = 0x5B) ∧ (4 < i.toNat → a = 0xFFFF ∧ b = 0)) ∧
  (∀ (req : Bytes) (s : State), doeOpen s = true → (s.sbx.boot ≠ .running ∨ 16384 < req.length + 8) →
    exec (.spdmRequest none true .version req) s = .next { s with sbx := { s.sbx with hdError := true } }) ∧
  (∀ (sid : Option Word) (ask : SpdmAsk) (req : Bytes) (e : Nat) (s : State), spdmHeard s sid true req.length = true →
    (ask, e) ∈ [(SpdmAsk.version, 0x41), (.unsupported, 0x07), (.tooLarge, 0x0E), (.slot, 0x01), (.sessionRequired, 0x0B)] →
    ∃ t, exec (.spdmRequest sid true ask req) s = .next t ∧ said s t (sidNum sid) 0x7F e [] ∧ keeps [.att, .out] s t) ∧
  (∀ (sid : Option Word) (req : Bytes) (s : State), spdmHeard s sid true req.length = true →
    (∃ t, exec (.spdmRequest sid true .algorithms req) s = .next t ∧ said s t (sidNum sid) 0x63 0 [] ∧ keeps [.att, .out] s t) ∧
    (∃ t, exec (.spdmRequest sid true .random req) s = .next t ∧ keeps [.ent, .free, .att, .out] s t ∧
      if entropyUp s then ∃ d, said s t (sidNum sid) 1 0 (Config.spdmAnswer req d) else said s t (sidNum sid) 0x7F 0x03 [])) ∧
  (∀ (sid : Option Word) (off len : BitVec 16) (c b p : Bytes) (s : State), spdmHeard s sid true 8 = true → s.att.ecdsa = some c →
    b = slot0 s c → p = (b.drop off.toNat).take len.toNat →
    ∃ t, exec (.spdmGetCertificate sid true 0 off len) s = .next t ∧
      said s t (sidNum sid) 0x02 0 ([0, 0] ++ leBytes 2 p.length ++ leBytes 2 (b.length - off.toNat - p.length) ++ p) ∧ keeps [.att, .out] s t) ∧
  (∀ (i : BitVec 8) (signed : Bool) (req : Bytes) (s : State), doeTakes s req.length = true →
    (signed = false → i ≠ 0 → measList s none i.toNat ≠ [] → entropyUp s = true →
      ∃ t nonce, exec (.spdmGetMeasurements none true i signed req) s = .next t ∧
        said s t 0 0x60 0 ([BitVec.ofNat 8 (measList s none i.toNat).length] ++ measRecord s none (measList s none i.toNat) ++ nonce) ∧
        keeps [.ent, .free, .out] s t) ∧
    (signed = true → s.att.ecdsa.isSome = true → i ≠ 0 → measList s none i.toNat ≠ [] → entropyUp s = true →
      ∃ t h, exec (.spdmGetMeasurements none true i signed req) s = .next t ∧ t.att = { s.att with m := some h } ∧ keeps [.ent, .free, .att, .out] s t) ∧
    (signed = true → s.att.ecdsa = none →
      ∃ t, exec (.spdmGetMeasurements none true i signed req) s = .next t ∧ said s t 0 0x7F 0x04 [] ∧ keeps [.out] s t)) ∧
  (∀ (sid : Word) (dh req : Bytes) (leaf : Option Bytes) (s : State), doeTakes s req.length = true → s.att.ecdsa.isSome = true → entropyUp s = true →
    s.att.sessions.length < 64 → tblFind s.att.sessions sid.toNat = none →
    ∃ t, exec (.spdmKeyExchange sid dh none leaf req) s = .next t ∧ keeps [.ent, .free, .att, .out] s t ∧
      match Config.ecdhShared (drbg s 48).1 dh with
      | none => said s t 0 0x7F 0x01 [] ∧ t.att = s.att
      | some _ => (∃ b, said s t sid.toNat 0x64 0 b) ∧ ∃ y, tblFind t.att.sessions sid.toNat = some y ∧ y.leaf = leaf.map Config.sha384 ∧ y.kem = false ∧
          y.opens = 0 ∧ y.inst = none ∧ y.last = now s) ∧
  (∀ (sid : Word) (x : Session) (s : State), tblFind s.att.sessions sid.toNat = some x →
    (doeTakes s 8 = true → ∃ t, exec (.spdmEndSession sid true) s = .next t ∧ said s t sid.toNat 0x6C 0 [] ∧ sessionGone t sid.toNat x ∧
      keeps [.regs, .hgt, .att, .out] s t) ∧
    (doeTakes s 8 = true → ∃ t, exec (.spdmEndSession sid false) s = .next t ∧ t.out = s.out ∧ sessionGone t sid.toNat x ∧ keeps [.regs, .hgt, .att] s t) ∧
    (x.last + 120000000000 ≤ now s → ∃ t, exec (.sessionIdleTimeout sid) s = .next t ∧ sessionGone t sid.toNat x ∧ keeps [.regs, .hgt, .att] s t) ∧
    (now s < x.last + 120000000000 → exec (.sessionIdleTimeout sid) s = .next s)) ∧
  (∀ (nonce : Bytes) (off : Word) (len : BitVec 16) (s : State),
    (doeTakes s nonce.length = true → s.att.m = none →
      ∃ t, exec (.pqAttest none true nonce) s = .next t ∧ said s t 0 0x81 Status.denied.code [] ∧ keeps [.out] s t) ∧
    (∀ m, doeTakes s nonce.length = true → s.att.m = some m →
      ∃ t d, exec (.pqAttest none true nonce) s = .next t ∧
        said s t 0 0x81 0 (m ++ Config.mldsaSign (aliasMldsa s) (ascii "SRB-PQATTEST") (m ++ nonce.take 32) d) ∧ keeps [.free, .out] s t) ∧
    (∀ c, doeTakes s 7 = true → s.att.mldsa = some c → len.toNat ≤ 16000 →
      ∃ t, exec (.pqCert none true off len) s = .next t ∧ said s t 0 0x82 0 (((pqChain s c).drop off.toNat).take len.toNat) ∧
        keeps [.out] s t) ∧
    (doeTakes s 7 = true → s.att.mldsa = none →
      ∃ t, exec (.pqCert none true off len) s = .next t ∧ said s t 0 0x82 Status.denied.code [] ∧ keeps [.out] s t)) ∧
  (∀ (c : BitVec 8) (off : Word) (b have_ : Bytes) (s : State), doeTakes s (7 + b.length) = true → c.toNat ≤ 1 →
    have_ = (if off = 0 then [] else (tblFind s.att.put c.toNat).getD []) → off.toNat = have_.length →
    (∃ t, exec (.certPut c off false b) s = .next t ∧ tblFind t.att.put c.toNat = some (have_ ++ b) ∧ said s t 0 0xA0 0 [] ∧ keeps [.att, .out] s t) ∧
    (∃ t, exec (.certPut c off true b) s = .next t ∧ tblFind t.att.put c.toNat = none ∧ keeps [.att, .out] s t ∧
      (let own := if c = 0 then s.sbx.devid.take 96 else s.sbx.devid.drop 96
       if own ≠ [] ∧ Config.chainLeaf c.toNat (have_ ++ b) = some own then
         (if c = 0 then t.att.ecdsa else t.att.mldsa) = some (have_ ++ b) ∧ said s t 0 0xA0 0 []
       else t.att.ecdsa = s.att.ecdsa ∧ t.att.mldsa = s.att.mldsa ∧ said s t 0 0xA0 Status.denied.code [])))

/-- A session binds once, to an instance whose owner credential is its leaf, and is refused otherwise (15 R399). CHANNEL_OPEN that passes its checks opens the
lowest free pair for the session, and CHANNEL_CLOSE closes a pair of the session (R400, R407). FLOW_OPEN opens the flow that the message names; what the message
does not give of the entry is a free value (R413). KEY_SHARE reports the status of the import it runs (R413). In a session that is not bound and holds the IDE
role or finds it free, QUERY is answered and KEY_PROG, K_SET_GO and K_SET_STOP go out on HI; in a bound session they get an ERROR (R408). (functional,
derived; 15_host_gate.md) -/
def Obligations.SessionsChannelsAndIde : Prop :=
  (∀ (sid : Word) (i : Fin 256) (x : Session) (s : State), doeTakes s 2 = true → tblFind s.att.sessions sid.toNat = some x →
    (x.inst = none → x.leaf = some (instRec s i.val).owner → (instRec s i.val).st ≠ .free → (∀ y ∈ s.att.sessions, y.2.inst ≠ some i.val) →
      ∃ t, exec (.sessionBind sid true i) s = .next t ∧ said s t sid.toNat 0x83 0 [] ∧ regBit t (instPage i.val + 0x040) 8 = true ∧
        tblFind t.att.sessions sid.toNat = some { x with last := now s, inst := some i.val } ∧ regsKept [instPage i.val + 0x040] s t ∧
        keeps [.regs, .att, .out] s t) ∧
    (x.inst ≠ none → ∃ t, exec (.sessionBind sid true i) s = .next t ∧ said s t sid.toNat 0x83 Status.denied.code [] ∧
      t.att = (sessionHeard s sid x).att ∧ keeps [.att, .out] s t)) ∧
  (∀ (sid : Word) (f : Bytes) (x : Session) (i p : Nat) (s : State), doeTakes s f.length = true → tblFind s.att.sessions sid.toNat = some x → i < 256 →
    judgeChannel s sid.toNat x f = .inr i → pageUp s pgHgt = true → inReset12 s pgHgt = false →
    (List.range 64).find? (fun p => (pairAt s p).isNone) = some p →
    ∃ t, exec (.channelOpen sid true f) s = .next t ∧ said s t sid.toNat 0x84 0 [BitVec.ofNat 8 p] ∧
      (∃ y, pairAt t p = some y ∧ y.session = some sid.toNat ∧ y.inst = i ∧ y.kem = x.kem ∧ y.prodH = 0 ∧ y.expH = 0) ∧
      tblFind t.att.sessions sid.toNat = some { x with last := now s, opens := x.opens + 1 } ∧ keeps [.regs, .epochs, .hgt, .att, .out] s t) ∧
  (∀ (sid : Word) (f : Bytes) (x : Session) (st : Status) (s : State), doeTakes s f.length = true → tblFind s.att.sessions sid.toNat = some x →
    judgeChannel s sid.toNat x f = .inl st →
    ∃ t, exec (.channelOpen sid true f) s = .next t ∧ said s t sid.toNat 0x84 st.code [] ∧ keeps [.att, .out] s t) ∧
  (∀ (sid : Word) (p : BitVec 8) (x : Session) (s : State), doeTakes s 2 = true → tblFind s.att.sessions sid.toNat = some x →
    ((sessionPairs s sid.toNat).contains p.toNat = true →
      ∃ t, exec (.channelClose sid true p) s = .next t ∧ said s t sid.toNat 0x85 0 [] ∧ pairAt t p.toNat = none ∧ keeps [.regs, .epochs, .hgt, .att, .out] s t) ∧
    ((sessionPairs s sid.toNat).contains p.toNat = false →
      ∃ t, exec (.channelClose sid true p) s = .next t ∧ said s t sid.toNat 0x85 Status.denied.code [] ∧ t.hgt = s.hgt ∧ keeps [.att, .out] s t)) ∧
  (∀ (sid : Word) (peer : BitVec 14) (flow : BitVec 16) (kind sport rport inst : BitVec 8) (keyId : BitVec 16) (group : Word) (n : Nat) (x : Session) (s : State),
    doeTakes s 13 = true → tblFind s.att.sessions sid.toNat = some x → n = rport.toNat → n < 18 → sport.toNat < 32 → flow.toNat < 4096 → kind.toNat < 3 →
    pageUp s (pgVdt n) = true → pageGated s (pgVdt n) = false → inReset12 s (pgVdt n) = false → (flowAt s n flow.toNat).valid = false →
    (kind = 0 → peer.toNat ≠ s.dom.ownId) → (kind ≠ 0 → isTenant keyId.toNat = true) → (spanAt s n).rx = [] → (spanAt s n).memQ = [] →
    ∃ t y, exec (.flowOpen sid true peer flow kind sport rport inst keyId group) s = .next t ∧ said s t sid.toNat 0xA0 0 [] ∧
      y = flowAt t n flow.toNat ∧ y.valid = true ∧ y.kind = kind.toNat ∧ y.peerId = peer.toNat ∧ y.peerPort = sport.toNat ∧ y.inst = inst.toNat ∧
      y.keyId = keyId.toNat ∧ y.group = group.toNat ∧ y.count = (flowAt s n flow.toNat).count ∧ otherSpans s t n ∧
      keeps [.regs, .epochs, .spans, .att, .free, .out] s t) ∧
  (∀ (sid : Word) (blob : Bytes) (kt : KtabRead) (wst : Status) (x : Session) (s : State), doeTakes s blob.length = true →
    tblFind s.att.sessions sid.toNat = some x →
    ∃ t, exec (.keyShare sid true blob kt wst) s = .next t ∧
      saidLast t sid.toNat 0xA1 (fwKvt (sessionHeard s sid x) 0x03 0 0 false blob (doImport kt wst)).2 [] ∧
      (regBit s (pgKvt + 0x04C) 16 = true → said s t sid.toNat 0xA1 Status.retry.code [] ∧ keeps [.att, .out] s t) ∧
      keeps (touches (.keyShare sid true blob kt wst)) s t) ∧
  (∀ (sid : Word) (port stream : BitVec 8) (sub : BitVec 2) (dir kset : Bool) (key iv : Bytes) (n : Nat) (c : HiCmd) (x : Session) (s : State),
    tblFind s.att.sessions sid.toNat = some x → doeTakes s n = true →
    (x.inst = none → (s.att.ide = none ∨ s.att.ide = some sid.toNat) →
      (n = 4 → ∃ t, exec (.ideKmQuery sid true) s = .next t ∧ said s t sid.toNat 0x01 0 [0, 8] ∧ keeps [.att, .out] s t) ∧
      (n = 8 + key.length + iv.length → port = 0 → key.length = 32 → ((ideStreams s).contains stream.toNat = true ∨ (ideStreams s).length < 8) →
        c = ⟨0, stream.toNat, sub.toNat, b2n dir, b2n kset, key, iv, true⟩ →
        ∃ t, exec (.ideKmKeyProg sid true port stream sub dir kset key iv) s = .next t ∧ t.hgt.hi = s.hgt.hi ++ [c] ∧ t.att.ide = some sid.toNat ∧
          (s.hgt.hi = [] → t.out = s.out ++ [⟨.hi, 0, 0, c.stream, c.sub + 4 * c.dir + 8 * c.kset, key ++ iv⟩]) ∧ keeps [.hgt, .att, .out] s t) ∧
      (n = 8 + key.length + iv.length → port ≠ 0 →
        ∃ t, exec (.ideKmKeyProg sid true port stream sub dir kset key iv) s = .next t ∧ said s t sid.toNat 0x03 1 [] ∧ t.att.ide = some sid.toNat ∧
          keeps [.att, .out] s t) ∧
      (n = 8 → (∃ t, exec (.ideKmKSetGo sid true stream sub dir kset) s = .next t ∧
          t.hgt.hi = s.hgt.hi ++ [⟨1, stream.toNat, sub.toNat, b2n dir, b2n kset, [], [], true⟩] ∧ keeps [.hgt, .att, .out] s t) ∧
        (∃ t, exec (.ideKmKSetStop sid true stream sub dir kset) s = .next t ∧
          t.hgt.hi = s.hgt.hi ++ [⟨2, stream.toNat, sub.toNat, b2n dir, b2n kset, [], [], true⟩] ∧ keeps [.hgt, .att, .out] s t))) ∧
    (x.inst ≠ none → n = 8 →
      ∃ t, exec (.ideKmKSetGo sid true stream sub dir kset) s = .next t ∧ said s t sid.toNat 0x7F 0x04 [] ∧ t.hgt = s.hgt ∧ keeps [.att, .out] s t))

/-- DOMAIN_PLAN sets the plan, DOMAIN_ADD adds a joiner or refuses a taken ID, DOMAIN_GO without entropy answers NOT_READY and otherwise runs until its
answer. POLL hands out the oldest message and DELIVER marks the answer (15 R410). While SBX runs, the leader takes an answer of a joiner at its stage: JOIN_ACCEPT
runs JOIN_DECAP and JOIN_FINISH, JOIN_CONFIRMED verifies and wraps, JOIN_LOADED and JOIN_SENT go on; a failure or 10 s without an answer ends the join
(R411, R412). The joiner's four messages run their KVT commands and are answered. (functional, derived; 15_host_gate.md, 02_trust_domain_model.md) -/
def Obligations.DomainJoin : Prop :=
  (∀ (epoch : Word) (plan : BitVec 8) (own pod : BitVec 16) (policy : Bytes) (s : State), doeTakes s (10 + policy.length) = true →
    (s.att.going = false → plan.toNat ≤ 1 → own.toNat < 0x4000 → pod.toNat < 0x800 → policyOk policy = true →
      ∃ t, exec (.domainPlan epoch plan own pod policy) s = .next t ∧ said s t 0 0xB0 0 [] ∧
        t.att = { s.att with plan := some ⟨epoch.toNat, plan = 0, own.toNat, pod.toNat, Config.sha384 policy⟩, joiners := [], outbox := [] } ∧
        keeps [.att, .out] s t) ∧
    (s.att.going = true → ∃ t, exec (.domainPlan epoch plan own pod policy) s = .next t ∧ said s t 0 0xB0 Status.retry.code [] ∧ keeps [.out] s t) ∧
    (s.att.going = false → policyOk policy = false →
      ∃ t, exec (.domainPlan epoch plan own pod policy) s = .next t ∧ said s t 0 0xB0 Status.denied.code [] ∧ keeps [.out] s t)) ∧
  (∀ (peer pod : BitVec 16) (p : Plan) (s : State), doeTakes s 5 = true → s.att.plan = some p → p.leader = true → s.att.going = false →
    peer.toNat < 0x4000 → pod.toNat < 0x800 →
    (p.ownId ≠ peer.toNat → (∀ j ∈ s.att.joiners, j.id ≠ peer.toNat) →
      (s.att.joiners.filter (fun j => j.pod = pod.toNat)).length + b2n (p.pod = pod.toNat) < 8 →
      ∃ t, exec (.domainAdd peer pod) s = .next t ∧ said s t 0 0xB1 0 [] ∧
        t.att = { s.att with joiners := s.att.joiners ++ [⟨peer.toNat, pod.toNat, .idle, [], [], [], [], none, false⟩] } ∧ keeps [.att, .out] s t) ∧
    (p.ownId = peer.toNat →
      ∃ t, exec (.domainAdd peer pod) s = .next t ∧ said s t 0 0xB1 Status.denied.code [] ∧ keeps [.inc, .evr, .regs, .out] s t)) ∧
  (∀ (p : Plan) (s : State), doeTakes s 1 = true → s.att.plan = some p → p.leader = true → s.att.going = false →
    (entropyUp s = false → ∃ t, exec .domainGo s = .next t ∧ said s t 0 0xB2 Status.notReady.code [] ∧ keeps [.out] s t) ∧
    (∃ t, exec .domainGo s = .next t ∧ t.att.plan = s.att.plan ∧ (t.att.going = true ∨ ∃ st, saidLast t 0 0xB2 st []) ∧ keeps (touches .domainGo) s t)) ∧
  (∀ s : State, doeTakes s 1 = true →
    (s.att.outbox = [] → ∃ t, exec .poll s = .next t ∧ said s t 0 0x90 0 (zeros 6) ∧ keeps [.out] s t) ∧
    (∀ id b rest, s.att.outbox = (id, b) :: rest → s.att.going = false →
      ∃ t, exec .poll s = .next t ∧ said s t 0 0x90 0 (leBytes 2 id ++ leBytes 4 b.length ++ b) ∧ keeps [.att, .out] s t ∧
        t.att = { s.att with outbox := rest, joiners := s.att.joiners.map (fun j => if j.id = id then { j with polled := some (now s) } else j) })) ∧
  (∀ (peer : BitVec 16) (b : Bytes) (s : State), doeTakes s (3 + b.length) = true →
    ∃ t, exec (.deliver peer b) s = .next t ∧ said s t 0 0x91 0 [] ∧ keeps [.att, .out] s t ∧
      t.att = { s.att with joiners := s.att.joiners.map (fun j =>
        if j.id = peer.toNat && j.polled.isSome then { j with polled := none, answered := true } else j) }) ∧
  (∀ (peer : BitVec 14) (p : Plan) (j : Joiner) (v : State) (f key : Bytes) (st : BitVec 8) (s : State), s.att.plan = some p → sbxRuns s = true → s.att.outbox.length < 64 →
    s.att.joiners = [j] → j.id = peer.toNat → j.answered = true → v = putJoiner s { j with answered := false } →
    (j.stage = .offered → ∃ t, exec (.joinAccept peer f key 0) s = .next t ∧
      (let a := fwKvt v 0x12 0 0 false f doJoinDecap
       let b := fwKvt a.1 0x13 0 0 false (Config.sha384 (j.th2 ++ j.offer ++ f)) doJoinFinish
       if a.2 ≠ 0 ∨ b.2 ≠ 0 then t.att.joiners = []
       else (∃ y, t.att.joiners = [y] ∧ y.id = peer.toNat ∧ y.stage = .confirmed ∧ y.key = key) ∧
         ∃ m, t.att.outbox = s.att.outbox ++ [(peer.toNat, [0x11] ++ m)])) ∧
    (j.stage = .offered → ∀ bad : Fin 4, bad ≠ 0 → ∃ t, exec (.joinAccept peer f key bad) s = .next t ∧ t.att.joiners = [] ∧ t.att.going = false ∧
      (s.att.going = true → said s t 0 0xB2 Status.denied.code []) ∧ keeps [.regs, .inc, .evr, .att, .out] s t) ∧
    (j.stage = .confirmed → ∃ t, exec (.joinConfirmed peer f) s = .next t ∧
      (let a := fwKvt v 0x15 0 p.epoch false [] doEpochWrap
       if Config.mldsaVerify j.key [] j.tj f = false ∨ a.2 ≠ 0 then t.att.joiners = []
       else (∃ y, t.att.joiners = [y] ∧ y.id = peer.toNat ∧ y.stage = .epochSent) ∧
         ∃ m, t.att.outbox = s.att.outbox ++ [(peer.toNat, [0x12] ++ m)])) ∧
    (j.stage = .epochSent → s.att.going = true → st = 0 → s.att.outbox.length < 63 →
      ∃ t, exec (.joinLoaded peer st) s = .next t ∧ (∃ y, t.att.joiners = [y] ∧ y.id = peer.toNat ∧ y.stage = .sendSent) ∧
        t.att.outbox = s.att.outbox ++ [(peer.toNat, [0x13] ++ leBytes 4 p.epoch)] ∧ keeps [.att] s t) ∧
    (j.stage = .epochSent → st ≠ 0 → ∃ t, exec (.joinLoaded peer st) s = .next t ∧ t.att.joiners = [] ∧ t.att.going = false ∧
      (s.att.going = true → said s t 0 0xB2 st.toNat []) ∧ keeps [.att, .out] s t) ∧
    (j.stage = .sendSent → s.att.going = true → st = 0 → ∃ t r, exec (.joinSent peer st) s = .next t ∧ t.att.joiners = [] ∧ t.att.going = false ∧
      saidLast t 0 0xB2 r [])) ∧
  (∀ (peer : BitVec 14) (j : Joiner) (z : Nat) (s : State), s.att.joiners.find? (fun j => j.id = peer.toNat) = some j → j.polled = some z →
    (z + 10000000000 ≤ now s → ∃ t, exec (.joinPeerTimeout peer) s = .next t ∧ (∀ y ∈ t.att.joiners, y.id ≠ peer.toNat) ∧ t.att.going = false ∧
      (s.att.going = true → said s t 0 0xB2 Status.retry.code []) ∧ keeps [.att, .out] s t) ∧
    (now s < z + 10000000000 → exec (.joinPeerTimeout peer) s = .next s)) ∧
  (∀ (sid : Word) (x : Session) (p : Plan) (f key : Bytes) (v : State) (s : State), tblFind s.att.sessions sid.toNat = some x → s.att.plan = some p →
    v = sessionHeard s sid x → doeTakes s f.length = true →
    (p.leader = true → ∃ t, exec (.joinOffer sid true f key 0) s = .next t ∧ said s t sid.toNat 0x90 Status.denied.code [] ∧ keeps [.att, .out] s t) ∧
    (p.leader = false → x.leaf ≠ none → f.length = 1716 → ∀ bad : Fin 4, bad ≠ 0 →
      ∃ t, exec (.joinOffer sid true f key bad) s = .next t ∧ said s t sid.toNat 0x90 Status.denied.code [] ∧ sessionGone t sid.toNat x ∧
        keeps [.regs, .hgt, .inc, .evr, .att, .out] s t) ∧
    (p.leader = false → x.leaf ≠ none → f.length = 1716 → (f.drop 4).take 48 = p.digest → entropyUp s = true →
      ∃ t, exec (.joinOffer sid true f key 0) s = .next t ∧
        (let a := fwKvt v 0x11 0 0 false (f.drop 52) (fun c s => keygen s c)
         if a.2 ≠ 0 then saidLast t sid.toNat 0x90 a.2 []
         else saidLast t sid.toNat 0x90 0 (xbuf a.1 1664) ∧
           ∃ y, tblFind t.att.sessions sid.toNat = some y ∧ y.join.map JoinIn.key = some key ∧ y.join.map JoinIn.confirmed = some false)) ∧
    (∀ j, x.join = some j → ∃ t, exec (.joinConfirm sid true f) s = .next t ∧
      (if Config.mldsaVerify j.key [] j.tj f = false then saidLast t sid.toNat 0x91 Status.denied.code [] ∧ sessionGone t sid.toNat x
       else
         let a := fwKvt v 0x13 0 0 false j.tj doJoinFinish
         if a.2 ≠ 0 then saidLast t sid.toNat 0x91 a.2 []
         else (∃ b, saidLast t sid.toNat 0x91 0 b) ∧ ∃ y, tblFind t.att.sessions sid.toNat = some y ∧ y.join = some { j with confirmed := true })) ∧
    (x.join.any JoinIn.confirmed = true → f.length = 2180 → ∃ t, exec (.joinEpoch sid true f) s = .next t ∧
      (let a := fwKvt (putMap v (f.drop 132)) 0x16 0 0 false (f.take 112) doEpochLoad
       saidLast t sid.toNat 0x92 a.2 [] ∧ (a.2 = 0 → t.dom.nextOwnId = leNat ((f.drop 112).take 2) ∧ t.dom.nextPod = leNat ((f.drop 114).take 2)))) ∧
    (x.join.any JoinIn.confirmed = false → ∃ t, exec (.joinEpoch sid true f) s = .next t ∧ said s t sid.toNat 0x92 Status.denied.code [] ∧
      keeps [.att, .out] s t)) ∧
  (∀ (sid epoch : Word) (x : Session) (s : State), tblFind s.att.sessions sid.toNat = some x → doeTakes s 5 = true →
    (x.join.any JoinIn.confirmed = true → ∃ t, exec (.joinSend sid true epoch) s = .next t ∧
      (let a := fwKvt (sessionHeard s sid x) 0x17 0 epoch.toNat false [] doEpochSend
       saidLast t sid.toNat 0x93 a.2 [] ∧ (a.2 = 0 → t.att.digest = s.att.plan.elim [] Plan.digest))) ∧
    (x.join.any JoinIn.confirmed = false → ∃ t, exec (.joinSend sid true epoch) s = .next t ∧ said s t sid.toNat 0x93 Status.denied.code [] ∧
      keeps [.att, .out] s t))

/-- A command that its instance's state does not serve ends with the status of R437; with IMU's ENABLE 0 it ends with UNIT_GONE (05 R141), and while
SBX does not run it stays BUSY and waits (R441). Taken up in ACTIVE (CREATE: FREE), each command that meets its
conditions has its effect and ends with OK: CREATE, PASID_ADD, PASID_DEL, SLICE, SCRATCH, BIND as R448 judges, UNBIND (the last one waits for the
KeyID's retirement), CTX_LOSE, OBJ_PAGE, OBJ_DESTROY. OBJ_CREATE sends the first value to memory. RESET, SWITCH and DESTROY advance the generation,
unmap the PASIDs and begin their sequence. STEP of a KeyID that is not bound is DENIED, and otherwise runs. (functional, derived;
17_instances_and_objects.md) -/
def Obligations.InstanceMailboxCommands : Prop :=
  (∀ (i : Fin 256) (seq gen : BitVec 8) (d : BitVec 384) (b256 : BitVec 256) (w1 w2 : Word) (v64 : BitVec 64) (kt : KtabRead) (c : Instr) (tenant : Bool)
      (cmd st : Nat) (s : State),
    (c, tenant, cmd) ∈ [(.create i seq gen d, false, 0x01), (.pasidAdd i seq gen w1, false, 0x02), (.pasidDel i seq gen w1, false, 0x03),
      (.slice i seq gen w1 w2, false, 0x04), (.scratch i seq gen b256, false, 0x05), (.bind i seq gen w1 kt, false, 0x06),
      (.unbind i seq gen w1, false, 0x07), (.instanceReset i seq gen, false, 0x08), (.switch i seq gen d, false, 0x09), (.destroy i seq gen, false, 0x0A),
      (.mbStep i seq gen w1 kt, true, 0x10), (.ctxLose i seq gen w1, true, 0x11), (.objPage i seq gen w1, true, 0x12),
      (.objCreate i seq gen w1 v64, true, 0x13), (.objDestroy i seq gen v64, true, 0x14)] →
    (mbTakes s i tenant gen = true → mbRefused s i.val tenant cmd = some st →
      ∃ t, exec c s = .next t ∧ mbEnded t i tenant seq st ∧ t.out = s.out ++ [regOk (mbRole i tenant) (mbCtrl i.val tenant)] ∧
        keeps [.regs, .imu, .inc, .out] s t) ∧
    (passes s (mbRole i tenant) (mbCtrl i.val tenant) true false = true → regBit s (mbCtrl i.val tenant + 4) 16 = false →
      (enabled s pgImu = false → ∃ t, exec c s = .next t ∧ mbEnded t i tenant seq Status.unitGone.code ∧
        t.out = s.out ++ [regOk (mbRole i tenant) (mbCtrl i.val tenant)] ∧ keeps [.regs, .imu, .inc, .out] s t) ∧
      (enabled s pgImu = true → sbxRuns s = false → ∃ t w, exec c s = .next t ∧ regBit t (mbCtrl i.val tenant + 4) 16 = true ∧
        (if tenant then (instRec t i.val).tWait else (instRec t i.val).mWait) = some w ∧ w.cmd = 0x100 ∧ w.seq = seq.toNat ∧
        t.out = s.out ++ [regOk (mbRole i tenant) (mbCtrl i.val tenant)] ∧ keeps [.regs, .imu, .out] s t))) ∧
  (∀ (i : Fin 256) (seq gen : BitVec 8) (d : BitVec 384) (s : State), mbTakes s i false gen = true → (instRec s i.val).st = .free →
    ∃ t, exec (.create i seq gen d) s = .next t ∧ mbEnded t i false seq 0 ∧
      instRec t i.val = { instRec s i.val with st := .active, owner := leBytes 48 d.toNat, mWait := none } ∧
      epochOf t (instPage i.val) = (epochOf s (instPage i.val) + 1) % 0x1000000 ∧ keeps [.regs, .epochs, .imu, .inc, .out] s t) ∧
  (∀ (i : Fin 256) (seq gen : BitVec 8) (p : Word) (s : State), mbTakes s i false gen = true → (instRec s i.val).st = .active →
    (p.toNat < 2 ^ 20 → tblFind s.imu.pasids p.toNat = none → (s.imu.pasids.filter (fun x => x.2 = i.val)).length < 64 → s.imu.pasids.length < 4096 →
      ∃ t, exec (.pasidAdd i seq gen p) s = .next t ∧ mbEnded t i false seq 0 ∧ tblFind t.imu.pasids p.toNat = some i.val ∧
        keeps [.regs, .imu, .inc, .out] s t) ∧
    ((tblFind s.imu.pasids p.toNat).isSome = true →
      ∃ t, exec (.pasidAdd i seq gen p) s = .next t ∧ mbEnded t i false seq Status.denied.code ∧ t.imu.pasids = s.imu.pasids ∧
        keeps [.regs, .imu, .inc, .out] s t) ∧
    (tblFind s.imu.pasids p.toNat = some i.val →
      ∃ t, exec (.pasidDel i seq gen p) s = .next t ∧ mbEnded t i false seq 0 ∧ tblFind t.imu.pasids p.toNat = none ∧ keeps [.regs, .imu, .inc, .out] s t)) ∧
  (∀ (i : Fin 256) (seq gen : BitVec 8) (a b : Word) (s : State), mbTakes s i false gen = true → (instRec s i.val).st = .active → s.kvt.loads = [] →
    (sliceOk s i.val a b = true →
      ∃ t, exec (.slice i seq gen a b) s = .next t ∧ mbEnded t i false seq 0 ∧ rawReg t (instPage i.val + 0x048) = a ∧
        rawReg t (instPage i.val + 0x04C) = b ∧ keeps [.regs, .imu, .inc, .out] s t) ∧
    (sliceOk s i.val a b = false →
      ∃ t, exec (.slice i seq gen a b) s = .next t ∧ mbEnded t i false seq Status.denied.code ∧
        rawReg t (instPage i.val + 0x048) = rawReg s (instPage i.val + 0x048) ∧ rawReg t (instPage i.val + 0x04C) = rawReg s (instPage i.val + 0x04C) ∧
        keeps [.regs, .imu, .inc, .out] s t)) ∧
  (∀ (i : Fin 256) (seq gen : BitVec 8) (v : BitVec 256) (rs : List ScRange) (s : State), mbTakes s i false gen = true → (instRec s i.val).st = .active →
    rs = (List.range 4).map (fun k => ⟨v.toNat / 2 ^ (64 * k) % 2 ^ 8, v.toNat / 2 ^ (64 * k + 8) % 2 ^ 24, v.toNat / 2 ^ (64 * k + 32) % 2 ^ 32⟩) →
    (∀ r ∈ rs, r.len < 2 ^ 24 ∧ (r.len ≠ 0 → r.tgt < scratchCount s)) → anyOverlap rs = false →
    (∀ x ∈ s.imu.inst, x.1 ≠ i.val → ∀ q ∈ x.2.scratch, ∀ r ∈ rs, scOverlap r q = false) →
    ∃ t, exec (.scratch i seq gen v) s = .next t ∧ mbEnded t i false seq 0 ∧ (instRec t i.val).scratch = rs.filter (fun r => r.len != 0) ∧
      keeps [.regs, .imu, .inc, .out] s t) ∧
  (∀ (i : Fin 256) (seq gen : BitVec 8) (k : Word) (kt : KtabRead) (s : State), mbTakes s i false gen = true → (instRec s i.val).st = .active →
    ∃ t, exec (.bind i seq gen k kt) s = .next t ∧ keeps (touches (.bind i seq gen k kt)) s t ∧
      match (bindJudge (mbPosted s i false 0x06 gen.toNat (leBytes 4 k.toNat)) i.val k.toNat kt).2 with
      | .inl st => mbEnded t i false seq st ∧ t.imu.binds = s.imu.binds
      | .inr _ => mbEnded t i false seq 0 ∧ tblFind t.imu.binds k.toNat = some (addSorted i.val ((tblFind s.imu.binds k.toNat).getD []))) ∧
  (∀ (i : Fin 256) (seq gen : BitVec 8) (k : Word) (l : List Nat) (s : State), mbTakes s i false gen = true → (instRec s i.val).st = .active →
    l = (tblFind s.imu.binds k.toNat).getD [] →
    (l.contains i.val = false → ∃ t, exec (.unbind i seq gen k) s = .next t ∧ mbEnded t i false seq Status.denied.code ∧ t.imu.binds = s.imu.binds ∧
      keeps [.regs, .imu, .inc, .out] s t) ∧
    (l.contains i.val = true → l.filter (· != i.val) ≠ [] → ∃ t, exec (.unbind i seq gen k) s = .next t ∧ mbEnded t i false seq 0 ∧
      tblFind t.imu.binds k.toNat = some (l.filter (· != i.val)) ∧ keeps [.regs, .imu, .inc, .out] s t) ∧
    (l.contains i.val = true → l.filter (· != i.val) = [] → loadOf s k.toNat = none → slotOf s k.toNat = none → s.trs.chunks = [] → s.hgt.pairs = [] →
      s.cce.queues = [] → isRetiring s k.toNat = false → ∃ t, exec (.unbind i seq gen k) s = .next t ∧ tblFind t.imu.binds k.toNat = none ∧
        (instRec t i.val).mWait = some ⟨0x07, seq.toNat, k.toNat, .unwritten⟩ ∧ isRetiring t k.toNat = true ∧ keeps [.regs, .imu, .kvt, .cce, .trs, .hgt, .out] s t)) ∧
  (∀ (i : Fin 256) (seq gen : BitVec 8) (d : BitVec 384) (s : State), mbTakes s i false gen = true → (instRec s i.val).st = .active →
    (∃ t, exec (.instanceReset i seq gen) s = .next t ∧ seqBegun s t i 0x08 seq .resetting ∧ keeps (touches (.instanceReset i seq gen)) s t) ∧
    (∃ t, exec (.switch i seq gen d) s = .next t ∧ seqBegun s t i 0x09 seq .switching ∧ keeps (touches (.switch i seq gen d)) s t) ∧
    (∃ t, exec (.destroy i seq gen) s = .next t ∧ seqBegun s t i 0x0A seq .destroying ∧ keeps (touches (.destroy i seq gen)) s t)) ∧
  (∀ (i : Fin 256) (seq gen : BitVec 8) (k : Word) (kt : KtabRead) (s : State), mbTakes s i true gen = true → (instRec s i.val).st = .active →
    (boundTo s k.toNat i.val = false → ((tblFind s.imu.leaving k.toNat).getD []).contains i.val = false →
      ∃ t, exec (.mbStep i seq gen k kt) s = .next t ∧ mbEnded t i true seq Status.denied.code ∧ keeps [.regs, .imu, .inc, .out] s t) ∧
    (boundTo s k.toNat i.val = true → isRetiring s k.toNat = false → regBit s (pgKvt + 0x04C) 16 = false → s.kvt.cmd = none → s.kvt.refuseAll = false →
      s.kvt.zeroised = false →
      ∃ t, exec (.mbStep i seq gen k kt) s = .next t ∧ keeps (touches (.mbStep i seq gen k kt)) s t ∧
        (if t.kvt.cmd.isSome then (instRec t i.val).tWait = some ⟨0x10, seq.toNat, k.toNat, .unwritten⟩
         else mbEnded t i true seq (getFld t (pgKvt + 0x04C) 15 8)))) ∧
  (∀ (i : Fin 256) (seq gen : BitVec 8) (c : Word) (s : State), mbTakes s i true gen = true → (instRec s i.val).st = .active →
    (2 ^ 24 ≤ c.toNat → ∃ t, exec (.ctxLose i seq gen c) s = .next t ∧ mbEnded t i true seq Status.denied.code ∧ keeps [.regs, .imu, .inc, .out] s t) ∧
    (c.toNat < 2 ^ 24 → regBit s (instPage i.val + 0x040) 9 = false → (instRec s i.val).lost.contains c.toNat = false → (instRec s i.val).lost.length < 64 →
      s.imu.inst.foldl (fun n y => n + y.2.lost.length) 0 < 4096 → s.trs.chunks = [] → s.cce.queues = [] →
      ∃ t, exec (.ctxLose i seq gen c) s = .next t ∧ mbEnded t i true seq 0 ∧ (instRec t i.val).lost = (instRec s i.val).lost ++ [c.toNat] ∧
        getFld t (instPage i.val + 0x040) 16 10 = (instRec s i.val).lost.length + 1 ∧ keeps [.regs, .imu, .inc, .out] s t)) ∧
  (∀ (i : Fin 256) (seq gen : BitVec 8) (pg : Word) (j : Nat) (x : JEntry) (s : State), mbTakes s i true gen = true → (instRec s i.val).st = .active →
    pg.toNat < 2 ^ 30 → (engineOfPage pg.toNat).isSome = true → winner s.jct.active pg.toNat = some (j, x) → x.cls = .s → x.ro = false →
    boundTo s x.ksrc i.val = true → (instRec s i.val).objPage = none → objPageOwner s pg.toNat = none →
    ∃ t, exec (.objPage i seq gen pg) s = .next t ∧ mbEnded t i true seq 0 ∧ (instRec t i.val).objPage = some pg.toNat ∧ keeps [.regs, .imu, .inc, .out] s t) ∧
  (∀ (i : Fin 256) (seq gen : BitVec 8) (w : Word) (v : BitVec 64) (pg e : Nat) (s : State), mbTakes s i true gen = true → (instRec s i.val).st = .active →
    (instRec s i.val).objPage = some pg → w.toNat < 512 → (objAt s i.val (w.toNat % 256)).valid = false → imuRoom s pg e = true →
    ∃ t, exec (.objCreate i seq gen w v) s = .next t ∧ (instRec t i.val).tWait = some ⟨0x13, seq.toNat, w.toNat, .unwritten⟩ ∧
      imuSent s t e (imuReq s i.val 0 1 0 (pg * 4096 + 8 * (w.toNat % 256)) (objKey s pg) v.toNat) ∧ keeps [.regs, .imu, .engs, .out] s t) ∧
  (∀ (i : Fin 256) (seq gen : BitVec 8) (h : BitVec 64) (n : Nat) (s : State), mbTakes s i true gen = true → (instRec s i.val).st = .active →
    n = h.toNat / 2 ^ 16 % 2 ^ 16 →
    (n / 256 = i.val → (objAt s i.val (n % 256)).valid = true → h.toNat = objHandle s i.val (n % 256) →
      ∃ t, exec (.objDestroy i seq gen h) s = .next t ∧ mbEnded t i true seq 0 ∧ (objAt t i.val (n % 256)).valid = false ∧
        (∀ w ∈ t.imu.watches, w.obj ≠ n) ∧ keeps [.regs, .imu, .inc, .out] s t) ∧
    (n / 256 ≠ i.val → ∃ t, exec (.objDestroy i seq gen h) s = .next t ∧ mbEnded t i true seq Status.denied.code ∧ keeps [.regs, .imu, .inc, .out] s t))

/-- The end of the drain of a RESET brings the instance back to ACTIVE and ends the command; that of a SWITCH or DESTROY leaves every binding and gives
the scrub-bus commands. SC_DVALID ends a command, a failed or late one marks the sequence; the block scrub clears the lost contexts and the object
page; the last of these steps ends the sequence: ACTIVE with the new owner, FREE, or SCRUB_PENDING. SIG_GO sends the atomic of a handle, WAIT_ARM
watches its word and reads it, WAIT_CANCEL ends the wait with ABORTED. (functional, derived; 17_instances_and_objects.md,
03_ports_and_integration.md) -/
def Obligations.InstanceSequencesAndObjects : Prop :=
  (∀ (i : Fin 256) (q : InstSeq) (s : State), domUp s 12 = true → drained s i.val = true → (instRec s i.val).seq = some q → q.drained = false →
    (q.cmd = 0x08 → q.seq < 256 → ∃ t, exec (.instanceDrainDone i) s = .next t ∧ (instRec t i.val).st = .active ∧ (instRec t i.val).seq = none ∧
      (instRec t i.val).lost = [] ∧ mbEnded t i false (BitVec.ofNat 8 q.seq) 0 ∧ keeps [.regs, .epochs, .imu, .inc, .evr] s t) ∧
    (∀ r, q.cmd ≠ 0x08 → q.scrubbed = false → (∀ b ∈ s.imu.binds, b.2.contains i.val = false) → (instRec s i.val).scratch = [r] → scTags s = [] → q.out = [] →
      ∃ t, exec (.instanceDrainDone i) s = .next t ∧
        (instRec t i.val).seq = some { q with drained := true, keys := [], retiring := none, ranges := [], out := [(0, r, now s)] } ∧
        t.out = s.out ++ [⟨.sc, 0, 0, 0, r.base, leBytes 1 r.tgt ++ leBytes 3 r.len⟩] ∧ keeps [.imu, .out] s t)) ∧
  (∀ (g : BitVec 4) (i : Fin 256) (q : InstSeq) (r : ScRange) (z : Nat) (s : State), scHolder s g.toNat = some i.val → (instRec s i.val).seq = some q →
    q.out = [(g.toNat, r, z)] → (∀ x ∈ s.imu.inst, x.2.seq.elim [] InstSeq.ranges = []) → injArmed s pgImu 3 = false →
    (q.scrubbed = false → ∃ t, exec (.scrubDone g false) s = .next t ∧ (instRec t i.val).seq = some { q with out := [] } ∧ keeps [.imu] s t) ∧
    (q.scrubbed = false → ∃ t, exec (.scrubDone g true) s = .next t ∧ (instRec t i.val).seq = some { q with out := [], aborted := true } ∧
      keeps [.regs, .imu, .inc, .evr] s t) ∧
    (q.scrubbed = false → z + scBound s r ≤ now s → ∃ t, exec (.scrubTimeout g) s = .next t ∧
      (instRec t i.val).seq = some { q with out := [], aborted := true } ∧ keeps [.regs, .imu, .inc, .evr] s t) ∧
    (now s < z + scBound s r → exec (.scrubTimeout g) s = .next s) ∧
    (q.scrubbed = true → q.drained = true → q.keys = [] → q.retiring = none → q.seq < 256 → q.aborted = false → q.cmd = 0x09 →
      ∃ t, exec (.scrubDone g false) s = .next t ∧ (instRec t i.val).st = .active ∧ (instRec t i.val).owner = q.owner ∧ (instRec t i.val).seq = none ∧
        mbEnded t i false (BitVec.ofNat 8 q.seq) 0 ∧ keeps [.regs, .epochs, .imu, .inc, .evr] s t) ∧
    (q.scrubbed = true → q.drained = true → q.keys = [] → q.retiring = none → q.seq < 256 → q.cmd ≠ 0x08 →
      ∃ t, exec (.scrubDone g true) s = .next t ∧ (instRec t i.val).st = .scrubPending ∧ (instRec t i.val).seq = none ∧
        mbEnded t i false (BitVec.ofNat 8 q.seq) Status.aborted.code ∧ keeps [.regs, .epochs, .imu, .inc, .evr] s t)) ∧
  (∀ (i : Fin 256) (q : InstSeq) (s : State), (instRec s i.val).seq = some q → q.cmd ≠ 0x08 → q.drained = true → q.keys = [] → q.retiring = none →
    q.scrubbed = false →
    ((q.ranges ≠ [] ∨ q.out ≠ []) → ∃ t, exec (.switchBlockScrubDone i) s = .next t ∧ (instRec t i.val).seq = some { q with scrubbed := true } ∧
      (instRec t i.val).lost = [] ∧ (instRec t i.val).objPage = none ∧ keeps (touches (.switchBlockScrubDone i)) s t) ∧
    (q.ranges = [] → q.out = [] → q.aborted = false → q.cmd = 0x0A → q.seq < 256 →
      ∃ t, exec (.switchBlockScrubDone i) s = .next t ∧ (instRec t i.val).st = .free ∧ (instRec t i.val).seq = none ∧ (instRec t i.val).owner = [] ∧
        (instRec t i.val).scratch = [] ∧ mbEnded t i false (BitVec.ofNat 8 q.seq) 0 ∧ keeps (touches (.switchBlockScrubDone i)) s t)) ∧
  (∀ (r : Role) (i : Fin 256) (h : Nat) (s : State), passes s r (instPage i.val + 0x230) true false = true → enabled s pgImu = true →
    h = pairWord s (instPage i.val + 0x220) →
    (∀ n a k e, regBit s (instPage i.val + 0x234) 8 = false → objOf s i.val h = some (n, a, k) → imuRoom s (a / 4096) e = true →
      ∃ t, exec (.sigGo r i) s = .next t ∧ (instRec t i.val).sig = some h ∧ regBit t (instPage i.val + 0x234) 8 = true ∧
        imuSent s t e (imuReq s i.val 1 3 (if h / 2 ^ 14 % 2 = 1 then 2 else 8) a k (pairWord s (instPage i.val + 0x228))) ∧
        t.out = s.out ++ [regOk r (instPage i.val + 0x230)] ∧ keeps [.regs, .imu, .engs, .out] s t) ∧
    (regBit s (instPage i.val + 0x234) 8 = false → objOf s i.val h = none →
      ∃ t, exec (.sigGo r i) s = .next t ∧ getFld t (instPage i.val + 0x234) 7 0 = Status.denied.code ∧
        t.out = s.out ++ [regOk r (instPage i.val + 0x230)] ∧ regsKept [instPage i.val + 0x234] s t ∧ keeps [.regs, .out] s t) ∧
    (regBit s (instPage i.val + 0x234) 8 = true →
      ∃ t, exec (.sigGo r i) s = .next t ∧ t.out = s.out ++ [regSt r (instPage i.val + 0x230) .retry] ∧ keeps [.out] s t)) ∧
  (∀ (r : Role) (i : Fin 256) (s : State), enabled s pgImu = false →
    (passes s r (instPage i.val + 0x230) true false = true → regBit s (instPage i.val + 0x234) 8 = false →
      ∃ t, exec (.sigGo r i) s = .next t ∧ getFld t (instPage i.val + 0x234) 7 0 = Status.unitGone.code ∧
        t.out = s.out ++ [regOk r (instPage i.val + 0x230)] ∧ regsKept [instPage i.val + 0x234] s t ∧ keeps [.regs, .out] s t) ∧
    (passes s r (instPage i.val + 0x214) true false = true →
      ∃ t, exec (.waitArm r i) s = .next t ∧ t.out = s.out ++ [regSt r (instPage i.val + 0x214) .unitGone] ∧ keeps [.out] s t)) ∧
  (∀ (r : Role) (i : Fin 256) (m : Nat) (s : State), passes s r (instPage i.val + 0x214) true false = true →
    m = getFld s (instPage i.val + 0x200) 3 0 →
    (∀ n a k e, enabled s pgImu = true → objOf s i.val (pairWord s (instPage i.val + 0x204)) = some (n, a, k) → regBit s (instPage i.val + 0x218) (16 + m) = false →
      imuRoom s (a / 4096) e = true → (s.imu.watches.filter (fun w => w.engine = e)).length < 32 →
      ∃ t, exec (.waitArm r i) s = .next t ∧ regBit t (instPage i.val + 0x218) (16 + m) = true ∧
        t.imu.watches = s.imu.watches ++ [⟨e, i.val, m, n, a, pairWord s (instPage i.val + 0x20C)⟩] ∧
        imuSent s t e (imuReq s i.val (2 + m) 0 0 a k 0) ∧ t.out = s.out ++ [regOk r (instPage i.val + 0x214)] ∧ keeps [.regs, .imu, .engs, .out] s t) ∧
    (enabled s pgImu = true → objOf s i.val (pairWord s (instPage i.val + 0x204)) = none →
      ∃ t, exec (.waitArm r i) s = .next t ∧ t.out = s.out ++ [regSt r (instPage i.val + 0x214) .denied] ∧ keeps [.out] s t) ∧
    (regBit s (instPage i.val + 0x218) (16 + m) = true →
      ∃ t, exec (.waitCancel r i) s = .next t ∧ regBit t (instPage i.val + 0x218) (16 + m) = false ∧ regBit t (instPage i.val + 0x218) m = true ∧
        (∀ w ∈ t.imu.watches, ¬ (w.inst = i.val ∧ w.slot = m)) ∧
        getFld t (instPage i.val + 0x240 + m / 4 * 4) (8 * (m % 4) + 7) (8 * (m % 4)) = Status.aborted.code ∧
        t.out = s.out ++ [regOk r (instPage i.val + 0x214)] ∧ keeps [.regs, .imu, .inc, .out] s t) ∧
    (regBit s (instPage i.val + 0x218) (16 + m) = false →
      ∃ t, exec (.waitCancel r i) s = .next t ∧ t.out = s.out ++ [regOk r (instPage i.val + 0x214)] ∧ keeps [.out] s t))

/-- CCE_Q_OPEN with legal queue registers opens the selected queue with them, and is DENIED otherwise; CCE_Q_CLOSE closes a queue without a descriptor,
and marks one with a running descriptor as closing. A doorbell above PROD within the ring becomes PROD, another is counted. A fetched descriptor
that R426 refuses ends with that status, one it passes waits for a pair, and one whose read failed stops its queue. Once the completion record is
written DONE advances and the descriptor is counted. (functional, derived; 16_command_cipher_engine.md) -/
def Obligations.CipherEngineCommands : Prop :=
  (∀ (r : Role) (q i : Nat) (w : Word) (s : State), passes s r (pgCce + 0x054) true true = true → q = cceSel s → w = cceReg s q 0x044 → i = getBits w 15 8 →
    (cceOpenOk s q = true → ((cceQ s q).opened = false ∨ (cceQ s q).stopped = true) → (cceQ s q).job = none →
      ∃ t, exec (.cceQOpen r) s = .next t ∧ cceReg t q 0x058 = 0 ∧ committed s t r (pgCce + 0x054) ∧
        cceQ t q = { CceQ.zero with
          opened := true, fw := getBit w 0, inst := i, gen := if getBit w 0 then 0 else instGen s i, log2 := getBits w 19 16
          sq := getBits (cceReg s q 0x048) 29 0, cq := getBits (cceReg s q 0x04C) 29 0, ringKey := getBits (cceReg s q 0x050) 15 0 } ∧
        (∀ p, p ≠ q → cceQ t p = cceQ s p) ∧ keeps [.epochs, .cce, .out] s t) ∧
    ((cceOpenOk s q = false ∨ (cceQ s q).opened = true ∧ (cceQ s q).stopped = false) →
      ∃ t, exec (.cceQOpen r) s = .next t ∧ cceReg t q 0x058 = BitVec.ofNat 32 Status.denied.code ∧ committed s t r (pgCce + 0x054) ∧
        (∀ p, cceQ t p = cceQ s p) ∧ keeps [.epochs, .cce, .out] s t) ∧
    (∃ t, exec (.cceQClose r) s = .next t ∧ committed s t r (pgCce + 0x054) ∧ (∀ p, p ≠ q → cceQ t p = cceQ s p) ∧ keeps [.epochs, .cce, .out] s t ∧
      ((cceQ s q).opened = true → (cceQ s q).job = none → (cceQ t q).opened = false ∧ (cceQ t q).closing = false ∧ cceReg t q 0x058 = 0) ∧
      (∀ j, (cceQ s q).opened = true → (cceQ s q).job = some j → j.running = true → cceQ t q = { cceQ s q with closing := true }))) ∧
  (∀ (i : Fin 256) (q : Fin 16) (v : Word) (x : CceQ) (off : Nat) (s : State), off = instPage i.val + 0x400 + 4 * q.val →
    passes s (.t i) off true false = true → s.cru.st = .run → x = cceQ s q.val → x.opened = true → x.fw = false → x.inst = i.val →
    (x.prod < v.toNat → v.toNat ≤ x.done + 2 ^ x.log2 → inService s pgCce = true →
      ∃ u, exec (.cceDoorbell (.t i) q v) s = .next (regDone (cceSettle u) (.t i) off .ok 0) ∧ cceQ u q.val = { x with prod := v.toNat } ∧ keeps [.cce] s u) ∧
    ((v.toNat ≤ x.prod ∨ x.done + 2 ^ x.log2 < v.toNat) →
      ∃ t, exec (.cceDoorbell (.t i) q v) s = .next t ∧ getFld t (pgCce + 0x024) 15 0 = satAdd 0xFFFF (getFld s (pgCce + 0x024) 15 0) 1 ∧
        t.out = s.out ++ [regOk (.t i) off] ∧ keeps [.regs, .out] s t)) ∧
  (∀ (q : Fin 16) (x : CceQ) (j : CceJob) (s : State), cceSettle s = s → pageUp s pgCce = true → x = cceQ s q.val → x.job = some j → injArmed s pgCce 2 = false →
    (j.stage = .fetched → j.st = 0 → ∀ st, cceJudge s q.val x j = some st →
      ∃ u, exec (.cceDescFetched q) s = .next (cceSettle u) ∧ (cceQ u q.val).job = some (j.ended st) ∧ keeps [.regs, .cce] s u) ∧
    (j.stage = .fetched → j.st = 0 → cceJudge s q.val x j = none →
      ∃ u, exec (.cceDescFetched q) s = .next (cceSettle u) ∧ (cceQ u q.val).job = some { j with stage := .pair } ∧ keeps [.cce] s u) ∧
    (j.stage = .fetched → j.st ≠ 0 → x.closing = false →
      ∃ t, exec (.cceDescFetched q) s = .next t ∧ (cceQ t q.val).stopped = true ∧ (cceQ t q.val).job = none ∧ regBit t (pgCce + 0x018) 2 = true ∧
        keeps [.regs, .inc, .evr, .cce] s t) ∧
    (j.stage = .done → j.ringSt = 0 → x.opened = true → x.closing = false →
      ∃ u, exec (.cceDescEnd q false false) s = .next (cceSettle u) ∧ cceQ u q.val = { x with done := j.n + 1, job := none } ∧
        (let o := if j.st = 0 then 0x070 else 0x074
         getFld u (pgCce + o) 31 0 = satAdd 0xFFFFFFFF (getFld s (pgCce + o) 31 0) 1) ∧ keeps [.regs, .inc, .cce] s u))

/-- INTERRUPT_DELIVER delivers the pending state of its target that comes first: it becomes delivered, DELIVERED counts it, and it reaches target 0, the
event queue, the manager mailbox or INST_ACT; in SLEEP it wakes the block with cause 6. It has no effect while HOLD is 1, the sink takes none, or
none is pending. A completion ends a delivered state of its role (a level source whose level is 1 stays), and any other is counted. Routing changes
by a guarded write, while the source is inactive. MGRMB_POP removes the oldest record. (functional, derived; 20_interrupts_recorder_time.md) -/
def Obligations.InterruptController : Prop :=
  (∀ (x : Fin 4) (s : State), domUp s 12 = false ∨ regBit s (pgInc + 0x040) 0 = true ∨ sinkTakes s x.val = false ∨
      (∀ a ∈ s.inc.acts, a.delivered = false → actTarget s a ≠ x.val) → exec (.interruptDeliver x) s = .next s) ∧
  (∀ (x : Fin 4) (a : Act) (s : State), nextAct s x.val a → domUp s 12 = true → regBit s (pgInc + 0x040) 0 = false → sinkTakes s x.val = true →
    (s.cru.st = .run →
      ∃ t, exec (.interruptDeliver x) s = .next t ∧ actDelivered s t a ∧
        (x.val = 0 → keeps [.regs, .inc] s t) ∧
        (x.val = 1 → t.hgt.eq = s.hgt.eq ++ [⟨a, s.hgt.eqSeq⟩] ∧ t.hgt.eqSeq = s.hgt.eqSeq + 1 ∧ keeps [.regs, .inc, .hgt, .out] s t) ∧
        (x.val = 2 → t.inc.mailbox = s.inc.mailbox ++ [⟨a, s.inc.mbSeq⟩] ∧ getFld t (pgInc + 0x04C) 5 0 = s.inc.mailbox.length + 1 ∧
          keeps [.regs, .inc, .hgt, .out] s t) ∧
        (x.val = 3 → isInstSource a.src = true →
          regBit t (instPage (a.inst.getD 0) + 0x300) (a.src - 0xE0) = true ∧ keeps [.regs, .inc, .out] s t)) ∧
    (s.cru.st = .sleep →
      ∃ t, exec (.interruptDeliver x) s = .next t ∧ t.cru.st = .wake ∧ getFld t (pgCru + 0x068) 3 0 = 6 ∧ keeps (touches (.interruptDeliver x)) s t)) ∧
  (∀ (r : Role) (c : Instr) (off : Nat) (v : Word) (src : Nat) (inst : Option Nat) (s : State),
    ((c = .incDone r v ∧ off = pgInc + 0x044 ∧ inst = (if isInstSource src && getBit v 16 then some (getBits v 15 8) else none)) ∨
      (∃ i : Fin 256, c = .instDone r i v ∧ off = instPage i.val + 0x304 ∧ inst = some i.val ∧ isInstSource src = true)) →
    src = getBits v 7 0 → passes s r off true false = true →
    (∀ a, completes s r src inst a → srcLevel s src = false →
      ∃ t, exec c s = .next t ∧ t.inc.acts = s.inc.acts.filter (fun b => !(b.src = src ∧ b.inst = inst)) ∧
        (∀ i, inst = some i → regBit t (instPage i + 0x300) (src - 0xE0) = false) ∧ t.out = s.out ++ [regOk r off] ∧ keeps [.regs, .inc, .out] s t) ∧
    (∀ a, completes s r src inst a → srcLevel s src = true →
      ∃ t, exec c s = .next t ∧ t.inc.acts = s.inc.acts.map (fun b => if b.src = src ∧ b.inst = inst then { b with done := true } else b) ∧
        t.out = s.out ++ [regOk r off] ∧ keeps [.regs, .inc, .out] s t) ∧
    ((∀ a, ¬ completes s r src inst a) →
      ∃ t, exec c s = .next t ∧ getFld t (pgInc + 0x080) 31 0 = min 0xFFFFFFFF (getFld s (pgInc + 0x080) 31 0 + 1) ∧
        t.out = s.out ++ [regOk r off] ∧ regsKept [pgInc + 0x080] s t ∧ keeps [.regs, .out] s t)) ∧
  (∀ (r : Role) (v : Word) (a : Act) (s : State), passes s r (pgInc + 0x044) true false = true → isInstSource (getBits v 7 0) = false →
    completes s r (getBits v 7 0) none a → srcLevel s (getBits v 7 0) = false →
    ∃ t, exec (.incDone r v) s = .next t ∧ t.inc.acts = s.inc.acts.filter (fun b => !(b.src = getBits v 7 0 ∧ b.inst = none)) ∧
      t.out = s.out ++ [regOk r (pgInc + 0x044)] ∧ keeps [.regs, .inc, .out] s t) ∧
  (∀ (r : Role) (i : Fin 256) (v : Word) (s : State), passes s r (instPage i.val + 0x304) true false = true → isInstSource (getBits v 7 0) = false →
    ∃ t, exec (.instDone r i v) s = .next t ∧ getFld t (pgInc + 0x080) 31 0 = min 0xFFFFFFFF (getFld s (pgInc + 0x080) 31 0 + 1) ∧
      t.out = s.out ++ [regOk r (instPage i.val + 0x304)] ∧ regsKept [pgInc + 0x080] s t ∧ keeps [.regs, .out] s t) ∧
  (∀ (r : Role) (v : Word) (s : State), passes s r (pgInc + 0x040) true false = true →
    ∃ t, exec (.incHoldWrite r v) s = .next t ∧ regBit t (pgInc + 0x040) 0 = getBit v 0 ∧ t.out = s.out ++ [regOk r (pgInc + 0x040)] ∧
      regsKept [pgInc + 0x040] s t ∧ keeps [.regs, .out] s t) ∧
  (∀ (r : Role) (src : Fin 256) (v : Word) (s : State), passes s r (srcReg src.val) true (srcChanges s r src.val v) = true →
    (isSource src.val = true → srcChanges s r src.val v = true → (∀ a ∈ s.inc.acts, a.src ≠ src.val) → (getBits v 1 0 = 3 → isInstSource src.val = true) →
      ∃ t, exec (.incSourceWrite r src v) s = .next t ∧ getFld t (srcReg src.val) 2 0 = getBits v 2 0 ∧
        regBit t (srcReg src.val) 10 = (regBit s (srcReg src.val) 10 && !getBit v 10) ∧ committed s t r (srcReg src.val) ∧
        regsKept [srcReg src.val] s t ∧ keeps [.regs, .epochs, .out] s t) ∧
    (isSource src.val = true → srcChanges s r src.val v = true → ((∃ a ∈ s.inc.acts, a.src = src.val) ∨ (getBits v 1 0 = 3 ∧ isInstSource src.val = false)) →
      ∃ t, exec (.incSourceWrite r src v) s = .next t ∧ t.out = s.out ++ [regSt r (srcReg src.val) .denied] ∧ keeps [.out] s t) ∧
    (isSource src.val = true → srcChanges s r src.val v = false →
      ∃ t, exec (.incSourceWrite r src v) s = .next t ∧ getFld t (srcReg src.val) 9 0 = getFld s (srcReg src.val) 9 0 ∧
        regBit t (srcReg src.val) 10 = (regBit s (srcReg src.val) 10 && !getBit v 10) ∧ t.out = s.out ++ [regOk r (srcReg src.val)] ∧
        regsKept [srcReg src.val] s t ∧ keeps [.regs, .out] s t) ∧
    (isSource src.val = false →
      ∃ t, exec (.incSourceWrite r src v) s = .next t ∧ t.out = s.out ++ [regOk r (srcReg src.val)] ∧ keeps [.out] s t)) ∧
  (∀ (r : Role) (s : State), passes s r (pgInc + 0x050) true false = true → s.inc.mailbox.length ≤ 32 →
    ∃ t, exec (.mgrmbPop r) s = .next t ∧ t.inc.mailbox = s.inc.mailbox.drop 1 ∧ getFld t (pgInc + 0x04C) 5 0 = s.inc.mailbox.length - 1 ∧
      t.out = s.out ++ [regOk r (pgInc + 0x050)] ∧ regsKept [pgInc + 0x04C] s t ∧ keeps [.regs, .inc, .out] s t)

/-- EVR_RECORD_WRITE writes POWER_ON first, then the waiting record that comes first, with its number, chain and place in the ring, and takes it from
its buffer; nothing while frozen, clearing or without clocks. A spill write that ends OK joins the spilled blocks; one with another
status, or that JCT refuses (09 R254), stops spilling. A record load whose page JCT admits answers by the age of the number. FREEZE, UNFREEZE and the 10 ms bound set and end the freeze; CLEAR is judged in the order of R524; CLR_DIGEST
words take their first write. (functional, derived; 20_interrupts_recorder_time.md) -/
def Obligations.RecorderCommands : Prop :=
  (∀ s : State, (clocksRun s = false ∨ s.evr.frozen.isSome = true ∨ s.evr.clearing = true) → exec .evrRecordWrite s = .next s) ∧
  (∀ s : State, clocksRun s = true → s.evr.frozen = none → s.evr.clearing = false → injArmed s pgEvr 1 = false →
    (s.evr.nextSeq = 0 → s.lco.decoded = true →
      ∃ t, exec .evrRecordWrite s = .next t ∧ recWritten s t (powerOnRec s) ∧ t.evr.bufs = s.evr.bufs ∧ t.evr.handed = s.evr.handed ∧
        keeps [.regs, .evr, .inc, .out] s t) ∧
    (s.evr.nextSeq = 0 → s.lco.decoded = false → exec .evrRecordWrite s = .next s) ∧
    (s.evr.nextSeq ≠ 0 → waitingRecs s = [] → exec .evrRecordWrite s = .next s) ∧
    (∀ k b x rest, s.evr.nextSeq ≠ 0 → tblFind s.evr.bufs k = some b → b.recs = x :: rest → b.lost = 0 →
      (∀ y ∈ waitingRecs s, y = (some k, x) ∨ recBefore x y.2 = true) →
      ∃ t, exec .evrRecordWrite s = .next t ∧ recWritten s t x ∧ tblFind t.evr.bufs k = (if rest = [] then none else some ⟨rest, 0, false⟩) ∧
        (∀ j, j ≠ k → tblFind t.evr.bufs j = tblFind s.evr.bufs j) ∧ t.evr.handed = s.evr.handed ∧ keeps [.regs, .evr, .inc, .out] s t) ∧
    (∀ k b x rest, s.evr.nextSeq ≠ 0 → tblFind s.evr.bufs k = some b → b.recs = x :: rest → b.lost ≠ 0 →
      (∀ y ∈ waitingRecs s, y = (some k, x) ∨ recBefore x y.2 = true) →
      ∃ t z, exec .evrRecordWrite s = .next t ∧ recWritten s t x ∧ tblFind t.evr.bufs k = some ⟨rest ++ [z], 0, false⟩ ∧ z.code = rcLost.code ∧
        z.p1 = BitVec.ofNat 32 b.lost ∧ keeps [.regs, .evr, .inc, .out] s t) ∧
    (∀ x, s.evr.nextSeq ≠ 0 → x ∈ s.evr.handed → (∀ y ∈ waitingRecs s, y = (none, x) ∨ recBefore x y.2 = true) →
      ∃ t, exec .evrRecordWrite s = .next t ∧ recWritten s t x ∧ t.evr.handed = s.evr.handed.erase x ∧ t.evr.bufs = s.evr.bufs ∧
        keeps [.regs, .evr, .inc, .out] s t)) ∧
  (∀ (st : Status) (k : Nat) (rest : List Nat) (s : State),
    (s.evr.spilling = [] → exec (.evrSpillWriteDone st) s = .next s) ∧
    (s.evr.spilling = k :: rest → (st ≠ .ok ∨ (serviceRefusal s (spillAddr s k / 4096) 0xFF01 true).isSome = true) →
      ∃ t, exec (.evrSpillWriteDone st) s = .next t ∧ t.evr.spilling = [] ∧ regBit t (pgEvr + 0x100) 31 = false ∧ regBit t (pgEvr + 0x018) 0 = true ∧
        t.evr.ring = s.evr.ring ∧ keeps [.regs, .evr, .inc] s t) ∧
    (s.evr.spilling = k :: rest → st = .ok → serviceRefusal s (spillAddr s k / 4096) 0xFF01 true = none → injArmed s pgEvr 0 = false →
      ∃ t, exec (.evrSpillWriteDone st) s = .next t ∧ t.evr.spilling = rest ∧ t.evr.ring = s.evr.ring ∧
        (s.evr.spill = none → t.evr.spill = some (k, k)) ∧
        (∀ lo hi, s.evr.spill = some (lo, hi) → t.evr.spill = some (if k = hi + 1 then max lo (k + 1 - max 1 (getFld s (pgEvr + 0x104) 16 0)) else k, k)) ∧
        keeps [.inc, .evr] s t)) ∧
  (∀ (r : Role) (sq : Word) (rd : KtabRead) (s : State), passes s r (rdSeqOff r) true false = true →
    (65536 < (2 ^ 32 + s.evr.nextSeq - sq.toNat) % 2 ^ 32 → serviceRefusal s (spillAddr s ((s.evr.nextSeq - (2 ^ 32 + s.evr.nextSeq - sq.toNat) % 2 ^ 32) / 128) / 4096) 0xFF01 false = none) →
    exec (.evrRecordLoad r sq rd) s = .next { s with
      evr := { s.evr with rd := tblPut s.evr.rd r.key ⟨sq.toNat, (recLoaded s sq.toNat rd).1, (recLoaded s sq.toNat rd).2⟩ }
      out := s.out ++ [regOk r (rdSeqOff r)] }) ∧
  (∀ (r : Role) (s : State), passes s r (pgEvr + 0x04C) true true = true →
    (s.evr.frozen = none → s.evr.clearing = false → (∀ e, s.evr.lastFreezeEnd = some e → e + 10000000 ≤ now s) →
      ∃ t f, exec (.evrFreeze r) s = .next t ∧ t.evr.frozen = some f ∧ f.start = now s ∧ (waitingRecs s = [] → f.count = 0) ∧
        regBit t (pgEvr + 0x040) 0 = true ∧ t.evr.ring = s.evr.ring ∧ t.evr.nextSeq = s.evr.nextSeq ∧ committed s t r (pgEvr + 0x04C) ∧
        keeps [.regs, .epochs, .inc, .evr, .out] s t) ∧
    ((s.evr.frozen.isSome = true ∨ s.evr.clearing = true ∨ ∃ e, s.evr.lastFreezeEnd = some e ∧ now s < e + 10000000) →
      ∃ t, exec (.evrFreeze r) s = .next t ∧ t.out = s.out ++ [regSt r (pgEvr + 0x04C) .retry] ∧ keeps [.out] s t) ∧
    (∃ t, exec (.evrUnfreeze r) s = .next t ∧ t.evr.frozen = none ∧ committed s t r (pgEvr + 0x04C) ∧ keeps [.regs, .epochs, .inc, .evr, .out] s t ∧
      (s.evr.frozen.isSome = true → t.evr.lastFreezeEnd = some (now s) ∧ regBit t (pgEvr + 0x040) 0 = false) ∧ (s.evr.frozen = none → t.evr = s.evr))) ∧
  (∀ (f : Freeze) (s : State), s.evr.frozen = some f →
    (f.start + 10000000 ≤ now s → ∃ t, exec .evrFreezeTimeout s = .next t ∧ t.evr.frozen = none ∧ t.evr.lastFreezeEnd = some (now s) ∧
      regBit t (pgEvr + 0x040) 0 = false ∧ keeps [.regs, .inc, .evr] s t) ∧
    (now s < f.start + 10000000 → exec .evrFreezeTimeout s = .next s)) ∧
  (∀ (r : Role) (s : State), passes s r (pgEvr + 0x04C) true true = true →
    (r ≠ .m → ∃ t, exec (.evrClear r) s = .next t ∧ t.out = s.out ++ [regSt r (pgEvr + 0x04C) .denied] ∧ keeps [.out] s t) ∧
    (r = .m → s.evr.frozen.isSome = true ∨ s.evr.clearing = true →
      ∃ t, exec (.evrClear r) s = .next t ∧ t.out = s.out ++ [regSt r (pgEvr + 0x04C) .retry] ∧ keeps [.out] s t) ∧
    (r = .m → s.evr.frozen = none → s.evr.clearing = false → s.dom.config = .fullDomain →
      ∃ t, exec (.evrClear r) s = .next t ∧ evrCleared s t ∧ t.out.getLast? = some (regOk r (pgEvr + 0x04C)) ∧ keeps [.regs, .epochs, .evr, .inc, .out] s t) ∧
    (r = .m → s.evr.frozen = none → s.evr.clearing = false → s.dom.config ≠ .fullDomain →
      (s.evr.digestWritten.length < 12 ∨ allZero (evrDigest s) = true ∨ 8 ≤ s.evr.tokenFails →
        ∃ t, exec (.evrClear r) s = .next t ∧ t.out = s.out ++ [regSt r (pgEvr + 0x04C) .denied] ∧ keeps [.out] s t) ∧
      (12 ≤ s.evr.digestWritten.length → allZero (evrDigest s) = false → s.evr.tokenFails < 8 →
        ∃ t, exec (.evrClear r) s = .next t ∧ (∀ k < 8, rawReg t (pgEvr + 0x080 + 4 * k) = 0) ∧ keeps [.regs, .epochs, .evr, .inc, .out] s t ∧
          if Config.sha384 (evrToken s) = evrDigest s then evrCleared s t ∧ t.out.getLast? = some (regOk r (pgEvr + 0x04C))
          else t.evr.tokenFails = s.evr.tokenFails + 1 ∧ getFld t (pgEvr + 0x040) 7 4 = s.evr.tokenFails + 1 ∧ t.evr.ring = s.evr.ring ∧
            t.out = s.out ++ [regSt r (pgEvr + 0x04C) .denied]))) ∧
  (∀ s : State, s.evr.clearing = true → ∃ t, exec .evrClearDone s = .next t ∧ t.evr = { s.evr with clearing := false } ∧
    regBit t (pgEvr + 0x040) 1 = false ∧ regsKept [pgEvr + 0x040] s t ∧ keeps [.regs, .inc, .evr] s t) ∧
  (∀ (r : Role) (k : Fin 12) (v : Word) (s : State), passes s r (pgEvr + 0x0A0 + 4 * k.val) true false = true →
    ∃ t, exec (.evrClrDigestWrite r k v) s = .next t ∧ t.out = s.out ++ [regOk r (pgEvr + 0x0A0 + 4 * k.val)] ∧
      regsKept [pgEvr + 0x0A0 + 4 * k.val] s t ∧ keeps [.regs, .inc, .evr, .out] s t ∧
      rawReg t (pgEvr + 0x0A0 + 4 * k.val) = (if s.evr.digestWritten.contains k.val then rawReg s (pgEvr + 0x0A0 + 4 * k.val) else v) ∧
      t.evr.digestWritten.contains k.val = true)

/-- SET_GO with a legal date sets C to its instant, VALID and not ENDED, and commits; with another date it is DENIED, sets BAD_DATE and leaves the
clock. The change-over and the rediscipline take the crystal as the time base from the current C; the loss of its edges returns to CK_REF. At the
last count C ends. A read of NOW_DATE of an instant answers its date and latches its time and nanoseconds for the role, which the 1 us bound
releases. (functional, derived; 20_interrupts_recorder_time.md) -/
def Obligations.StationClock : Prop :=
  (∀ (r : Role) (d t0 n : Word) (s : State), passes s r (pgTtu + 0x06C) true true = true → d = rawReg s (pgTtu + 0x060) → t0 = rawReg s (pgTtu + 0x064) →
    n = rawReg s (pgTtu + 0x068) →
    (dateOk d t0 n = true → injArmed s pgTtu 0 = false →
      ∃ t, exec (.setGo r) s = .next t ∧
        t.ttu.c = countOf (getBits d 20 9) (getBits d 8 5) (getBits d 4 0) (getBits t0 16 12 * 3600 + getBits t0 11 6 * 60 + getBits t0 5 0) n.toNat ∧
        t.ttu.valid = true ∧ t.ttu.ended = false ∧ t.ttu.disciplined = s.ttu.disciplined ∧ regBit t (pgTtu + 0x040) 0 = true ∧
        regBit t (pgTtu + 0x040) 2 = false ∧ committed s t r (pgTtu + 0x06C) ∧ keeps [.regs, .epochs, .ttu, .inc, .evr, .out] s t) ∧
    ((dateOk d t0 n = false ∨ injArmed s pgTtu 0 = true) →
      ∃ t, exec (.setGo r) s = .next t ∧ regBit t (pgTtu + 0x018) 0 = true ∧
        getFld t (pgTtu + 0x024) 15 0 = min 0xFFFF (getFld s (pgTtu + 0x024) 15 0 + 1) ∧ t.out = s.out ++ [regSt r (pgTtu + 0x06C) .denied] ∧
        keeps [.regs, .evr, .inc, .out] s t)) ∧
  (∀ s : State, regBit s (pgCru + 0x044) 2 = true → s.ttu.disciplined = false → s.ttu.lost = false →
    ∃ t, exec .aonChangeover s = .next t ∧ t.ttu = { s.ttu with disciplined := true, base := 64 * s.ttu.c, n := 0 } ∧
      regBit t (pgTtu + 0x040) 1 = true ∧ keeps [.regs, .inc, .evr, .ttu] s t) ∧
  (∀ s : State, s.ttu.disciplined = true →
    ∃ t, exec .aonEdgeLoss s = .next t ∧ t.ttu = { s.ttu with disciplined := false, lost := true, edges := 0, n := 0 } ∧
      regBit t (pgTtu + 0x040) 1 = false ∧ regBit t (pgTtu + 0x018) 1 = true ∧ keeps [.regs, .evr, .inc, .ttu] s t) ∧
  (∀ s : State, s.ttu.lost = true → 16384 ≤ s.ttu.edges →
    ∃ t, exec .aonRediscipline s = .next t ∧ t.ttu = { s.ttu with disciplined := true, lost := false, base := 64 * s.ttu.c, n := 0 } ∧
      regBit t (pgTtu + 0x040) 1 = true ∧ keeps [.regs, .inc, .evr, .ttu] s t) ∧
  (∀ s : State, s.ttu.c = 12622780799999999999 → s.ttu.ended = false →
    ∃ t, exec .timeEndOfRange s = .next t ∧ t.ttu = { s.ttu with ended := true } ∧ regBit t (pgTtu + 0x040) 2 = true ∧
      regBit t (pgTtu + 0x018) 2 = true ∧ keeps [.regs, .evr, .inc, .ttu] s t) ∧
  (∀ (r : Role) (y m d h mi sec ns : Nat) (s : State), passes s r (pgTtu + 0x044) false false = true → 2000 ≤ y → y ≤ 2399 → 1 ≤ m → m ≤ 12 → 1 ≤ d →
    d ≤ monthDays y m → h < 24 → mi < 60 → sec < 60 → ns < 1000000000 → s.ttu.c = countOf y m d (h * 3600 + mi * 60 + sec) ns →
    exec (.nowDateRead r) s = .next { s with
      ttu := { s.ttu with now := tblPut s.ttu.now r.key (BitVec.ofNat 32 (sec + mi * 0x40 + h * 0x1000), BitVec.ofNat 32 ns) }
      out := s.out ++ [⟨.reg, r.key, 0, Status.ok.code, pgTtu + 0x044, leBytes 4 (d + m * 0x20 + y * 0x200)⟩] }) ∧
  (∀ (r : Role) (s : State), exec (.nowLatchExpire r) s = .next { s with ttu := { s.ttu with now := tblDel s.ttu.now r.key } })

/-- Setting EN starts sampling with set 0 where the ring is legal, and is DENIED otherwise; clearing EN stops it. At the end of an interval the set is
presented slot by slot and the next interval begins; an interval that finds the buffer taken, or an ECC event, loses its set. A slot write that ends
OK presents the next slot, the last one completes the set, and one that failed or that JCT refuses (09 R254) clears EN. A record load whose page JCT
admits answers from the ring for a set that was written, and with a status otherwise. (functional, derived; 21_observation.md) -/
def Obligations.PerformanceMonitor : Prop :=
  (∀ (r : Role) (v : Word) (s : State), passes s r (pgPmu + 0x040) true true = true →
    (getBit v 0 = false → ∃ t, exec (.pmuEnWrite r v) s = .next t ∧ regBit t (pgPmu + 0x040) 0 = false ∧ committed s t r (pgPmu + 0x040) ∧
      regsKept [pgPmu + 0x040] s t ∧ keeps [.regs, .epochs, .out] s t) ∧
    (getBit v 0 = true → regBit s (pgPmu + 0x040) 0 = true → ∃ t, exec (.pmuEnWrite r v) s = .next t ∧ committed s t r (pgPmu + 0x040) ∧
      keeps [.epochs, .out] s t) ∧
    (getBit v 0 = true → regBit s (pgPmu + 0x040) 0 = false → ringLegal s = true →
      ∃ t, exec (.pmuEnWrite r v) s = .next t ∧ regBit t (pgPmu + 0x040) 0 = true ∧ t.pmu.next = 0 ∧ t.pmu.gap = false ∧ t.pmu.lost = [] ∧ t.pmu.last = none ∧
        t.pmu.start = now s ∧ t.pmu.admitted = [] ∧ committed s t r (pgPmu + 0x040) ∧ regsKept [pgPmu + 0x040] s t ∧
        keeps [.regs, .epochs, .pmu, .out] s t) ∧
    (getBit v 0 = true → regBit s (pgPmu + 0x040) 0 = false → ringLegal s = false →
      ∃ t, exec (.pmuEnWrite r v) s = .next t ∧ t.out = s.out ++ [regSt r (pgPmu + 0x040) .denied] ∧ keeps [.out] s t)) ∧
  (∀ (ecc : Bool) (s : State),
    (pmuSamples s = false ∨ now s < s.pmu.start + getFld s (pgPmu + 0x044) 19 0 * 1000 → exec (.pmuIntervalClose ecc) s = .next s) ∧
    (pmuSamples s = true → s.pmu.start + getFld s (pgPmu + 0x044) 19 0 * 1000 ≤ now s →
      (ecc = false → injArmed s pgPmu 1 = false → s.pmu.buf = none →
        ∃ t b, exec (.pmuIntervalClose ecc) s = .next t ∧ t.pmu.buf = some (s.pmu.next, 0, b) ∧ b.length = 2304 ∧ b.take 28 = (headerRec s).take 28 ∧
          (b.drop 28).take 4 = leBytes 4 (rawReg t (pgPmu + 0x084)).toNat ∧ (rawReg s (pgPmu + 0x084)).toNat ≤ (rawReg t (pgPmu + 0x084)).toNat ∧
          t.pmu.next = s.pmu.next + 1 ∧ t.pmu.gap = false ∧ t.pmu.start = now s ∧ t.pmu.admitted = [] ∧ t.pmu.lost = s.pmu.lost ∧
          t.out = s.out ++ [⟨.memWrite, 40, slotOfSet s s.pmu.next 0, 0, slotAddr s (slotOfSet s s.pmu.next 0), b.take 256⟩] ∧
          regsKept [pgPmu + 0x084] s t ∧ keeps [.regs, .pmu, .free, .out] s t) ∧
      (ecc = true ∨ s.pmu.buf.isSome = true →
        ∃ t, exec (.pmuIntervalClose ecc) s = .next t ∧ t.pmu.lost = s.pmu.next :: s.pmu.lost ∧ t.pmu.next = s.pmu.next + 1 ∧ t.pmu.gap = true ∧
          t.pmu.buf = s.pmu.buf ∧ t.pmu.start = now s ∧ getFld t (pgPmu + 0x080) 31 0 = min 0xFFFFFFFF (getFld s (pgPmu + 0x080) 31 0 + 1) ∧
          (ecc = true → regBit t (pgPmu + 0x018) 1 = true) ∧ keeps [.regs, .pmu, .inc, .evr] s t))) ∧
  (∀ (st : Status) (n i : Nat) (b : Bytes) (jd : Option Status) (s : State), jd = serviceRefusal s (slotAddr s (slotOfSet s n i) / 4096) 0xFF02 true →
    (s.pmu.buf = none → exec (.pmuSlotWriteDone st) s = .next s) ∧
    (s.pmu.buf = some (n, i, b) → (st ≠ .ok ∨ jd.isSome = true) →
      ∃ t, exec (.pmuSlotWriteDone st) s = .next t ∧ t.pmu = { s.pmu with buf := none } ∧ regBit t (pgPmu + 0x040) 0 = false ∧
        regBit t (pgPmu + 0x018) 0 = true ∧ keeps [.regs, .pmu, .inc, .evr] s t) ∧
    (s.pmu.buf = some (n, i, b) → st = .ok → jd = none → injArmed s pgPmu 0 = false → i ≠ 8 →
      exec (.pmuSlotWriteDone st) s = .next { s with
        pmu := { s.pmu with buf := some (n, i + 1, b) }
        out := s.out ++ [⟨.memWrite, 40, slotOfSet s n (i + 1), 0, slotAddr s (slotOfSet s n (i + 1)), (b.drop (256 * (i + 1))).take 256⟩] }) ∧
    (s.pmu.buf = some (n, 8, b) → i = 8 → st = .ok → jd = none → injArmed s pgPmu 0 = false →
      ∃ t, exec (.pmuSlotWriteDone st) s = .next t ∧ t.pmu = { s.pmu with buf := none, last := some n } ∧ rawReg t (pgPmu + 0x050) = BitVec.ofNat 32 n ∧
        rawReg t (pgPmu + 0x054) = BitVec.ofNat 32 (n + 1 - 512 * ringL s / 9) ∧
        getFld t (pgPmu + 0x088) 31 0 = min 0xFFFFFFFF (getFld s (pgPmu + 0x088) 31 0 + 1) ∧ keeps [.regs, .pmu, .inc] s t)) ∧
  (∀ (r : Role) (v : Word) (rd : KtabRead) (k n : Nat) (x : Bytes × Nat) (s : State), passes s r (pgPmu + 0x05C) true false = true → enabled s pgPmu = true → k = getBits v 6 0 →
    n = (rawReg s (pgPmu + 0x058)).toNat →
    x = (if s.pmu.lost.contains n ∨ (s.pmu.last.isSome = true ∧ n < (rawReg s (pgPmu + 0x054)).toNat) then (zeros 32, Status.denied.code)
      else match s.pmu.last with
        | none => (zeros 32, Status.notReady.code)
        | some m => if m < n then (zeros 32, Status.notReady.code) else match rd with
          | .entry b => (b, 0)
          | .unwritten => (zeros 32, Status.unwritten.code)
          | .fail st => (zeros 32, st.code)) →
    (∀ m, s.pmu.last = some m → n ≤ m → serviceRefusal s (slotAddr s (slotOfSet s n (k / 8)) / 4096) 0xFF02 false = none) →
    (k ≤ 71 → exec (.pmuRecordLoad r v rd) s = .next { s with
      pmu := { s.pmu with rd := tblPut s.pmu.rd r.key ⟨k, x.1, x.2⟩ }
      out := s.out ++ [regOk r (pgPmu + 0x05C)] }) ∧
    (71 < k → ∃ t, exec (.pmuRecordLoad r v rd) s = .next t ∧ t.out = s.out ++ [regSt r (pgPmu + 0x05C) .denied] ∧ keeps [.out] s t))

/-- ENGINE_WATCHDOG of an engine in service starts an L1 with replay, of IMU an L2; during a dry run the suspect is guilty and the L1 of the verdict
begins; while no level may start, the trigger is counted as discarded. SBX_WATCHDOG_EXPIRE of an armed SBX that is not halted (07 R196) starts an L2 that keeps the boot
state;
SBX_KICK arms it. MEMORY_PORT_SILENCE starts an L1 without replay. HEARTBEAT_MISS and LOCKSTEP_MISMATCH start an L4 (or the withdrawal in its
place). (functional, derived; 19_faults_and_recovery.md) -/
def Obligations.HangsAndWatchdogs : Prop :=
  (∀ (x : Watched) (s : State), inService s x.page = false → exec (.engineWatchdog x) s = .next s) ∧
  (∀ (x : Watched) (s : State), inService s x.page = true → dryRun s x.page = none →
    (x ≠ .imu → mayStart s 1 x.page →
      ∃ t, exec (.engineWatchdog x) s = .next t ∧ recovers t 1 x.page true ∧ (∃ q ∈ t.wrc.replays, q.page = x.page ∧ q.running = false ∧ q.guilty = none) ∧
        keeps (touches (.engineWatchdog x)) s t) ∧
    (x = .imu → mayStart s 2 pgImu →
      ∃ t, exec (.engineWatchdog x) s = .next t ∧ recovers t 2 pgImu false ∧ keeps (touches (.engineWatchdog x)) s t) ∧
    (s.withdrawn = true ∨ s.wrc.l4.isSome = true →
      ∃ t, exec (.engineWatchdog x) s = .next t ∧ triggerDropped s t ∧ regBit t (x.page + 0x018) ((watchdogBit (unitOf x.page)).getD 0) = true ∧
        keeps [.regs, .evr, .inc, .trs] s t)) ∧
  (∀ (x : Watched) (r : Replay) (y : Suspect) (rest : List Suspect) (s : State), inService s x.page = true → dryRun s x.page = some r → r.suspects = y :: rest →
    ∃ t, exec (.engineWatchdog x) s = .next t ∧ recovers t 1 x.page false ∧
      t.wrc.replays = s.wrc.replays.map (fun q => if q.page = x.page then { q with guilty := some y, ran := q.ran + 1 } else q) ∧
      keeps (touches (.engineWatchdog x)) s t) ∧
  (∀ s : State,
    (s.wrc.sbxWdArmed = false ∨ s.sbx.boot ≠ .running ∨ s.sbx.halted = true → exec .sbxWatchdogExpire s = .next s) ∧
    (s.wrc.sbxWdArmed = true → s.sbx.boot = .running → s.sbx.halted = false → mayStart s 2 pgSbx →
      ∃ t, exec .sbxWatchdogExpire s = .next t ∧ recovers t 2 pgSbx false ∧ t.sbx.boot = .running ∧ keeps (touches .sbxWatchdogExpire) s t)) ∧
  (∀ (r : Role) (v : Word) (s : State), passes s r (pgWrc + 0x058) true false = true →
    exec (.sbxKick r v) s = .next { s with
      wrc := { s.wrc with sbxWdArmed := s.wrc.sbxWdArmed || (getBit v 0 && s.sbx.boot = .running) }
      out := s.out ++ [regOk r (pgWrc + 0x058)] }) ∧
  (∀ (e : Fin 40) (s : State),
    ((engAt s e.val).txs = [] → exec (.memoryPortSilence e) s = .next s) ∧
    ((engAt s e.val).txs ≠ [] → mayStart s 1 (engPage e.val) →
      ∃ t, exec (.memoryPortSilence e) s = .next t ∧ recovers t 1 (engPage e.val) false ∧ keeps (touches (.memoryPortSilence e)) s t) ∧
    ((engAt s e.val).txs ≠ [] → s.withdrawn = true ∨ s.wrc.l4.isSome = true →
      ∃ t, exec (.memoryPortSilence e) s = .next t ∧ triggerDropped s t ∧ regsKept [pgWrc + 0x074] s t ∧ keeps [.regs] s t)) ∧
  (∀ s : State,
    (s.cru.porst = true → exec .heartbeatMiss s = .next s) ∧
    (s.cru.porst = false → s.withdrawn = false → s.wrc.l4 = none →
      ∃ t, exec .heartbeatMiss s = .next t ∧ l4Begun s t s.wrc.failedL4 true ∧ keeps (touches .heartbeatMiss) s t) ∧
    (s.cru.porst = false → s.wrc.l4.isSome = true →
      ∃ t, exec .heartbeatMiss s = .next t ∧ triggerDropped s t ∧ regBit t (pgWrc + 0x018) 4 = true ∧ keeps [.regs, .evr, .inc] s t)) ∧
  (∀ s : State,
    (s.sbx.boot = .reset → exec .lockstepMismatch s = .next s) ∧
    (s.sbx.boot ≠ .reset → s.withdrawn = false →
      ∃ t, exec .lockstepMismatch s = .next t ∧
        l4Begun s t (if s.wrc.l4.isSome then min 3 (s.wrc.failedL4 + 1) else s.wrc.failedL4) true ∧ keeps (touches .lockstepMismatch) s t) ∧
    (s.sbx.boot ≠ .reset → s.withdrawn = true →
      ∃ t, exec .lockstepMismatch s = .next t ∧ triggerDropped s t ∧ regBit t (pgSbx + 0x018) 0 = true ∧ keeps [.regs, .evr, .inc] s t))

/-- L1_END, L2_END and L3_END take the recovery from those in progress, clear RECOVERY, note the time, and settle what waited; the L1 of a watchdog hang
starts the replay, that of a guilty suspect ends it with the verdict, and an L3 starts the next island that waits. A level that exceeds its bound
starts the next one, as an L1 or L2 does whose time-out check fails because an injection is armed (05 R151); an L4 counts as failed and starts again. REPLAY_DRY_RUN_END takes the next suspect, and ends the replay after the last one.
(functional, derived; 19_faults_and_recovery.md) -/
def Obligations.EndsOfRecoveries : Prop :=
  (∀ (u : Fin 22) (n : Fin 32) (s : State), runningAt s 1 u.val n.val = none → exec (.l1End u n) s = .next s) ∧
  (∀ (u : Fin 22) (n : Fin 32) (r : Recov) (s : State), runningAt s 1 u.val n.val = some r → injArmed s pgWrc 0 = false →
    ∃ t, exec (.l1End u n) s = .next (settleUnits t) ∧ keeps (touches (.l1End u n)) s t ∧
      t.wrc.running = s.wrc.running.filter (· != r) ∧ (isEnginePage (recPage u n) = true → (s.wrc.replays.find? (fun x => x.page = recPage u n)) = none →
        regBit t (recPage u n + 0x010) 9 = false ∧ tblFind t.wrc.lastL1 (recPage u n) = some (now s) ∧ t.wrc.replays = s.wrc.replays) ∧
      (∀ x y rest, (s.wrc.replays.find? (fun x => x.page = recPage u n)) = some x → x.guilty = none → x.suspects = y :: rest → instGen s y.inst = y.gen →
        isEnginePage (recPage u n) = true →
        t.wrc.replays = s.wrc.replays.map (fun q => if q.page = recPage u n then { x with running := true } else q) ∧ regBit t (pgWrc + 0x040) 8 = true ∧
        getFld t (pgWrc + 0x090) 31 0 = min 0xFFFFFFFF (getFld s (pgWrc + 0x090) 31 0 + 1)) ∧
      (∀ x y, (s.wrc.replays.find? (fun x => x.page = recPage u n)) = some x → x.guilty = some y → isEnginePage (recPage u n) = true →
        t.wrc.replays = s.wrc.replays.filter (fun q => q.page != recPage u n) ∧ t.wrc.lastL1 = s.wrc.lastL1)) ∧
  (∀ (u : Fin 22) (n : Fin 32) (s : State), runningAt s 2 u.val n.val = none → exec (.l2End u n) s = .next s) ∧
  (∀ (u : Fin 22) (n : Fin 32) (r : Recov) (s : State), runningAt s 2 u.val n.val = some r → injArmed s pgWrc 1 = false →
    ∃ t, exec (.l2End u n) s = .next (settleUnits t) ∧ keeps (touches (.l2End u n)) s t ∧ t.wrc.running = s.wrc.running.filter (· != r) ∧
      tblFind t.wrc.lastL2 ((l2Pages (recPage u n)).headD 0) = some (now s) ∧
      (u.val ≠ uKvt → u.val ≠ uEnt → u.val ≠ uImu → ∀ p ∈ l2Pages (recPage u n), regBit t (p + 0x010) 9 = false)) ∧
  (∀ (u : Fin 22) (n : Fin 32) (s : State),
    (injArmed s pgWrc 0 = true → exec (.l1End u n) s = exec (.levelTimeout 1 u n) s) ∧
    (injArmed s pgWrc 1 = true → exec (.l2End u n) s = exec (.levelTimeout 2 u n) s)) ∧
  (∀ (d : Fin 13) (s : State), (∀ q ∈ s.wrc.running, ¬ (q.level = 3 ∧ q.inst = d.val)) ∨ domSt s d.val ≠ .on → exec (.l3End d) s = .next s) ∧
  (∀ (d : Fin 13) (r : Recov) (s : State), r ∈ s.wrc.running → r.level = 3 → r.inst = d.val → (∀ q ∈ s.wrc.running, q.level = 3 → q = r) → domSt s d.val = .on →
    injArmed s pgWrc 2 = false →
    ∃ t, exec (.l3End d) s = .next (settleUnits t) ∧ keeps (touches (.l3End d)) s t ∧ tblFind t.wrc.lastL3 d.val = some (now s) ∧
      (s.wrc.l3wait = [] → t.wrc.running = s.wrc.running.filter (· != r) ∧ ∀ p ∈ domainPages d.val, regBit t (p + 0x010) 9 = false) ∧
      (∀ x rest, s.wrc.l3wait = x :: rest → t.wrc.l3wait = rest ∧ domSt t x.inst = .draining ∧
        t.wrc.running = s.wrc.running.filter (· != r) ++ [⟨3, x.unit, x.inst, x.cause, now s, false⟩])) ∧
  (∀ (l : Fin 5) (u : Fin 22) (n : Fin 32) (s : State), l.val ≠ 4 → runningAt s l.val u.val n.val = none → exec (.levelTimeout l u n) s = .next s) ∧
  (∀ (u : Fin 22) (n : Fin 32) (r : Recov) (s : State),
    (runningAt s 1 u.val n.val = some r → ∃ t, exec (.levelTimeout 1 u n) s = .next t ∧ (runningAt t 2 u.val n.val).isSome = true ∧
      keeps (touches (.levelTimeout 1 u n)) s t) ∧
    (runningAt s 2 u.val n.val = some r → s.withdrawn = false → ∃ t, exec (.levelTimeout 2 u n) s = .next t ∧ keeps (touches (.levelTimeout 2 u n)) s t ∧
      match islandOf (recPage u n) n.val with
      | some d => ∃ q ∈ t.wrc.running ++ t.wrc.l3wait, q.level = 3 ∧ q.inst = d ∧ q.unit = u.val
      | none => l4Begun s t s.wrc.failedL4 true) ∧
    (runningAt s 3 u.val n.val = some r → s.withdrawn = false → ∃ t, exec (.levelTimeout 3 u n) s = .next t ∧ l4Begun s t s.wrc.failedL4 true ∧
      keeps (touches (.levelTimeout 3 u n)) s t)) ∧
  (∀ (u : Fin 22) (n : Fin 32) (s : State),
    (s.wrc.l4 = none → exec (.levelTimeout 4 u n) s = .next s) ∧
    (s.wrc.l4.isSome = true → s.withdrawn = false → ∃ t, exec (.levelTimeout 4 u n) s = .next t ∧ l4Begun s t (min 3 (s.wrc.failedL4 + 1)) true ∧
      keeps (touches (.levelTimeout 4 u n)) s t)) ∧
  (∀ (u : Fin 22) (n : Fin 32) (r : Replay) (y : Suspect) (s : State),
    (dryRun s (recPage u n) = none → exec (.replayDryRunEnd u n) s = .next s) ∧
    (∀ z rest, dryRun s (recPage u n) = some r → r.suspects = y :: z :: rest → instGen s z.inst = z.gen →
      ∃ t, exec (.replayDryRunEnd u n) s = .next t ∧
        t.wrc.replays = s.wrc.replays.map (fun q => if q.page = recPage u n then { r with suspects := z :: rest, ran := r.ran + 1 } else q) ∧
        keeps [.wrc, .engs, .out] s t) ∧
    (dryRun s (recPage u n) = some r → r.suspects = [y] →
      ∃ t, exec (.replayDryRunEnd u n) s = .next t ∧ t.wrc.replays = s.wrc.replays.filter (fun q => q.page != recPage u n) ∧
        keeps [.regs, .wrc, .inc, .evr, .engs, .ctc] s t))

/-- L4_DRAIN_DONE in step 2 empties CTC, switches every domain off and powers the first one (step 4). L4_RETRAIN_DONE in step 5 takes every port
still in training down (03 R79) and goes on to SBX's boot (step 6). WRC_RESUME of a block that was withdrawn at decode programs the next WDR_CLR cell, and is DENIED otherwise. MESH_CHECK alarms at the
second mismatch of a net in a row; TAMPER_ALARM alarms for conditions not yet present: KVT zeroises, the cause is latched, a freeze and an L4 end.
ZEROISE_RELEASE releases the line and starts an L4. (functional, derived; 19_faults_and_recovery.md) -/
def Obligations.BlockRecoveryAndTamper : Prop :=
  (∀ s : State, s.wrc.l4.map L4.step ≠ some 2 → exec .l4DrainDone s = .next s) ∧
  (∀ (l : L4) (s : State), s.wrc.l4 = some l → l.step = 2 → s.cru.dead.contains 1 = false →
    ∃ t, exec .l4DrainDone s = .next t ∧ t.wrc.l4 = some { l with step := 4 } ∧ t.ctc = Ctc.reset ∧ t.coh = Coh.reset ∧ domSt t 1 = .waitAck ∧
      (∀ d, d < 13 → d ≠ 1 → domSt t d = .off) ∧ t.cru.pswEn = BitVec.ofNat 13 2 ∧ keeps (touches .l4DrainDone) s t) ∧
  (∀ s : State, s.wrc.l4.map L4.step ≠ some 5 → exec .l4RetrainDone s = .next s) ∧
  (∀ (l : L4) (s : State), s.wrc.l4 = some l → l.step = 5 → ∃ t, exec .l4RetrainDone s = .next t ∧ keeps (touches .l4RetrainDone) s t ∧
    ∀ p, p < 58 → (portAt s p).training = true → (portAt t p).up = false ∧ (portAt t p).training = false ∧ (portAt t p).trainFailed = true) ∧
  (∀ (l : L4) (s : State), s.wrc.l4 = some l → l.step = 5 → (∀ p, p < 58 → (portAt s p).training = false) →
    (s.sbx.boot ≠ .rootWait → ∃ t, exec .l4RetrainDone s = .next t ∧ t.wrc = { s.wrc with l4 := some { l with step := 6 } } ∧
      getFld t (pgWrc + 0x040) 5 3 = 6 ∧ regsKept [pgWrc + 0x040] s t ∧ keeps [.wrc, .regs] s t) ∧
    (s.sbx.boot = .rootWait → s.lco.decoded = true → s.lco.lc ≠ .locked → s.lco.lc ≠ .scrapped → s.lco.lc ≠ .returned → s.kvt.rootSt = .ready →
      getFld s (pgSbx + 0x040) 3 0 ≠ 8 → s.sbx.afterPorst = false → reloadAddr s ≠ 0 →
      ∃ t, exec .l4RetrainDone s = .next t ∧ t.sbx.boot = .reload ∧ t.wrc.l4 = some { l with step := 6 } ∧
        t.out = s.out ++ [⟨.hmRead, 0, 0x83, 20, reloadAddr s, []⟩] ∧ keeps [.wrc, .regs, .sbx, .epochs, .out] s t)) ∧
  (∀ (r : Role) (v : Word) (clr : Nat) (s : State), passes s r (pgWrc + 0x05C) true true = true → clr = getFld s (pgWrc + 0x060) 22 16 →
    (getBit v 0 = false → ∃ t, exec (.wrcResume r v) s = .next t ∧ committed s t r (pgWrc + 0x05C) ∧ keeps [.epochs, .out] s t) ∧
    (getBit v 0 = true → regBit s (pgWrc + 0x040) 7 = true → s.wrc.withdrawnAgain = false → clr < 63 →
      ∃ t, exec (.wrcResume r v) s = .next t ∧ committed s t r (pgWrc + 0x05C) ∧ keeps [.regs, .epochs, .lco, .out] s t ∧
        (s.lco.op = none → t.lco = { s.lco with op := some (.wdrClr clr 0) } ∧ regBit t (pgLco + 0x040) 12 = true) ∧
        (s.lco.op.isSome = true → t.lco = { s.lco with nextOps := s.lco.nextOps ++ [.wdrClr clr 0] })) ∧
    (getBit v 0 = true → regBit s (pgWrc + 0x040) 7 = false ∨ s.wrc.withdrawnAgain = true ∨ 63 ≤ clr →
      ∃ t, exec (.wrcResume r v) s = .next t ∧ t.out = s.out ++ [regSt r (pgWrc + 0x05C) .denied] ∧ keeps [.out] s t)) ∧
  (∀ (bad : BitVec 16) (s : State),
    (s.cru.porst = true → exec (.meshCheck bad) s = .next s) ∧
    (s.cru.porst = false → s.tmp.mismatches &&& bad.toNat = 0 ∨ s.tmp.present.getLsbD 0 = true →
      exec (.meshCheck bad) s = .next { s with tmp := { s.tmp with mesh := Config.meshNext s.tmp.mesh % 0x10000, mismatches := bad.toNat } }) ∧
    (s.cru.porst = false → s.tmp.mismatches &&& bad.toNat ≠ 0 → s.tmp.present.getLsbD 0 = false →
      ∃ t, exec (.meshCheck bad) s = .next t ∧ alarmed s t 1 ∧ t.tmp.mismatches = bad.toNat ∧ keeps (touches (.meshCheck bad)) s t)) ∧
  (∀ (bits : BitVec 6) (s : State),
    (s.cru.porst = true ∨ bits &&& ~~~ s.tmp.present = 0 → exec (.tamperAlarm bits) s = .next s) ∧
    (s.cru.porst = false → bits &&& ~~~ s.tmp.present ≠ 0 →
      ∃ t, exec (.tamperAlarm bits) s = .next t ∧ alarmed s t (bits &&& ~~~ s.tmp.present) ∧ keeps (touches (.tamperAlarm bits)) s t)) ∧
  (∀ s : State,
    (regBit s (pgTmp + 0x040) 0 = false ∨ clocksRun s = false → exec .zeroiseRelease s = .next s) ∧
    (regBit s (pgTmp + 0x040) 0 = true → clocksRun s = true →
      (s.withdrawn = true → ∃ t, exec .zeroiseRelease s = .next t ∧ t.tmp = { s.tmp with present := 0, mismatches := 0 } ∧
        regBit t (pgTmp + 0x040) 0 = false ∧ regsKept [pgTmp + 0x040] s t ∧ keeps [.regs, .tmp] s t) ∧
      (s.withdrawn = false → ∃ t, exec .zeroiseRelease s = .next t ∧ t.tmp = { s.tmp with present := 0, mismatches := 0 } ∧
        l4Begun s t s.wrc.failedL4 s.wrc.everRunning ∧ keeps (touches .zeroiseRelease) s t)))

/-- A read of PAGE_ID of an instance page that meets no refusal completes with OK and the word whose bits [15:0] are 0x0100 and whose bits [23:16] are
the instance number; it changes no register. (functional, stated; R130) -/
def Obligations.InstancePagesReportTheirNumber : Prop :=
  ∀ (r : Role) (i : Fin 256) (s : State), passes s r (instPage i.val) false false = true →
    ∃ t, exec (.registerRead r (BitVec.ofNat 23 (instPage i.val)) 4 false) s = .next t ∧
      t.out = s.out ++ [⟨.reg, r.key, 0, Status.ok.code, instPage i.val, leBytes 4 (0x0100 + i.val * 0x10000)⟩] ∧ regsKept [] s t ∧ keeps [.regs, .out] s t

/-- Every record that EVR writes, by EVR_RECORD_WRITE as by any other command, is kept in the ring. One whose severity is at or above IRQ_SEV makes
source 0x84 pending with its code, severity, number and unit, where the source is enabled and INC is in power with ENABLE 1 (05 R141); while the
source is active the event is lost, with OVERRUN set and OVERRUNS counted. One below it raises none. (functional, stated; R526) -/
def Obligations.RecordsRaiseSource84 : Prop :=
  (∀ (s : State) (x : Rec), raises84 s (evrWrite s x) x) ∧
  (∀ (k : Option Nat) (x : Rec) (s : State), clocksRun s = true → s.evr.frozen = none → s.evr.clearing = false → injArmed s pgEvr 1 = false →
    ((s.evr.nextSeq = 0 ∧ s.lco.decoded = true ∧ x = powerOnRec s) ∨ (s.evr.nextSeq ≠ 0 ∧ firstRec (waitingRecs s) = some (k, x))) →
    ∃ t, exec .evrRecordWrite s = .next t ∧ raises84 s t x ∧ keeps [.regs, .evr, .inc, .out] s t)

/-- While HOLD is 1, INTERRUPT_DELIVER changes nothing for any target; an event of a present, enabled source, with INC in power and its
ENABLE 1 (05 R141), makes its inactive state pending, and one for an active state is lost, with OVERRUN set and OVERRUNS counted. A write of HOLD 0 keeps every state, and from there the pending
state that comes first for a target with a free sink is delivered. The manager and firmware set HOLD wherever the INC page answers. (functional,
stated; R510) -/
def Obligations.HoldKeepsThePendingStates : Prop :=
  (∀ (x : Fin 4) (s : State), regBit s (pgInc + 0x040) 0 = true → exec (.interruptDeliver x) s = .next s) ∧
  (∀ (s : State) (src : Nat) (i k : Option Nat) (st p1 p2 p3 : Nat), regBit s (pgInc + 0x040) 0 = true → isSource src = true → srcAbsent s src = false →
    domUp s 12 = true → enabled s pgInc = true → regBit s (srcReg src) 2 = true → k = (if isInstSource src then i else none) →
    ((∀ a ∈ s.inc.acts, ¬ (a.src = src ∧ a.inst = k)) →
      (irqEvent s src i st p1 p2 p3).inc.acts =
        s.inc.acts ++ [⟨src, k, false, false, st, BitVec.ofNat 32 p1, BitVec.ofNat 32 p2, BitVec.ofNat 32 p3, now s⟩] ∧ keeps [.regs, .inc] s (irqEvent s src i st p1 p2 p3)) ∧
    ((∃ a ∈ s.inc.acts, a.src = src ∧ a.inst = k) →
      regBit (irqEvent s src i st p1 p2 p3) (srcReg src) 10 = true ∧
      getFld (irqEvent s src i st p1 p2 p3) (pgInc + 0x084) 31 0 = min 0xFFFFFFFF (getFld s (pgInc + 0x084) 31 0 + 1) ∧
      keeps [.regs] s (irqEvent s src i st p1 p2 p3))) ∧
  (∀ (r : Role) (v : Word) (s : State), passes s r (pgInc + 0x040) true false = true → getBit v 0 = false →
    ∃ t, exec (.incHoldWrite r v) s = .next t ∧ regBit t (pgInc + 0x040) 0 = false ∧ t.inc = s.inc ∧
      ∀ (x : Fin 4) (a : Act), nextAct t x.val a → domUp t 12 = true → sinkTakes t x.val = true →
        ∃ u, exec (.interruptDeliver x) t = .next u ∧ ∃ b ∈ u.inc.acts, b.src = a.src ∧ b.inst = a.inst ∧ b.delivered = true) ∧
  (∀ (r : Role) (v : Word) (s : State), r = .m ∨ r = .f → windowOpen s = true → pageUp s pgInc = true → pageGated s pgInc = false → inReset12 s pgInc = false →
    getBit v 0 = true → ∃ t, exec (.incHoldWrite r v) s = .next t ∧ regBit t (pgInc + 0x040) 0 = true ∧ regsKept [pgInc + 0x040] s t ∧ keeps [.regs, .out] s t)
end

