-- ==== Sys2Proof/Laws/Bits.lean ====
section
/-!
SUPPORT. The laws of register fields: what a field reads after a write of itself, and after a write of another one.
-/
namespace Sys2Proof.Machine

theorem testBit_getBits (w : Word) (hi lo i : Nat) : (getBits w hi lo).testBit i = (decide (i < hi + 1 - lo) && w.getLsbD (lo + i)) := by
  simp [getBits, Nat.testBit_mod_two_pow, Nat.testBit_shiftRight, BitVec.getLsbD]

theorem getLsbD_fieldMask (hi lo j : Nat) :
    (fieldMask hi lo).getLsbD j = (decide (j < 32) && decide (lo ≤ j) && decide (j < hi + 1 - lo + lo)) := by
  simp only [fieldMask, BitVec.getLsbD_ofNat, Nat.testBit_shiftLeft, Nat.testBit_two_pow_sub_one]
  by_cases h1 : j < 32 <;> by_cases h2 : lo ≤ j <;> simp [h1, h2]
  omega

theorem getLsbD_putBits (w : Word) (hi lo v j : Nat) :
    (putBits w hi lo v).getLsbD j =
      (decide (j < 32) && (if lo ≤ j ∧ j < hi + 1 - lo + lo then v.testBit (j - lo) else w.getLsbD j)) := by
  simp only [putBits, BitVec.getLsbD_or, BitVec.getLsbD_and, BitVec.getLsbD_not, getLsbD_fieldMask, BitVec.getLsbD_ofNat,
    Nat.testBit_shiftLeft]
  by_cases h1 : j < 32 <;> by_cases h2 : lo ≤ j <;> by_cases h3 : j < hi + 1 - lo + lo <;> simp [h1, h2, h3]

/-- A field reads what was written to it, cut to its width. -/
theorem getBits_putBits_same (w : Word) {hi lo : Nat} (v : Nat) (h : hi < 32) : getBits (putBits w hi lo v) hi lo = v % 2 ^ (hi + 1 - lo) := by
  apply Nat.eq_of_testBit_eq
  intro i
  rw [testBit_getBits, getLsbD_putBits, Nat.testBit_mod_two_pow]
  by_cases h1 : i < hi + 1 - lo
  · have h2 : lo + i < 32 := by omega
    have h3 : lo + i < hi + 1 - lo + lo := by omega
    simp [h1, h2, h3]
  · simp [h1]

/-- A field reads as before after a write of a field that shares no bit with it. -/
theorem getBits_putBits_other (w : Word) {hi lo hi' lo' : Nat} (v : Nat) (h : hi < lo' ∨ hi' < lo) :
    getBits (putBits w hi' lo' v) hi lo = getBits w hi lo := by
  apply Nat.eq_of_testBit_eq
  intro i
  rw [testBit_getBits, testBit_getBits, getLsbD_putBits]
  by_cases h1 : i < hi + 1 - lo
  · have h3 : ¬ (lo' ≤ lo + i ∧ lo + i < hi' + 1 - lo' + lo') := by omega
    simp only [h1, h3, if_false, decide_true, Bool.true_and]
    by_cases h4 : lo + i < 32
    · simp [h4]
    · simp only [h4, decide_false, Bool.false_and]
      cases h5 : w.getLsbD (lo + i)
      · rfl
      · exact absurd (BitVec.lt_of_getLsbD h5) h4
  · simp [h1]

theorem getBits_lt (w : Word) (hi lo : Nat) : getBits w hi lo < 2 ^ (hi + 1 - lo) := Nat.mod_lt _ (Nat.two_pow_pos _)

end Sys2Proof.Machine
end

