-- ==== Sys2Proof/Laws/Access.lean ====
section
/-!
SUPPORT. Register accesses: the rows of `accessOf` are judged by `judge`, and each answer of `judge` in the order of 05 R139.
-/
namespace Sys2Proof.Machine

/-- Setting bit 0 of a word shows in bit 0. -/
theorem getBit_or_one (v : Word) : getBit (v ||| 1) 0 = true := by
  have h : (getBits (v ||| 1) 0 0).testBit 0 = true := by rw [testBit_getBits]; simp
  have h2 : getBits (v ||| 1) 0 0 < 2 := getBits_lt _ 0 0
  have h3 : getBits (v ||| 1) 0 0 = 1 := by
    rcases Nat.lt_succ_iff_lt_or_eq.1 h2 with h4 | h4
    · have : getBits (v ||| 1) 0 0 = 0 := by omega
      rw [this] at h; exact absurd h (by decide)
    · exact h4
  unfold getBit; rw [h3]; rfl

/-- A write of KVT_CMD is a guarded write. -/
theorem kvtCmd_judge (r : Role) (op seq keyId n : Nat) (f : KCmd → State → State) (s : State) :
    ∃ k, kvtCmd r op seq keyId n f s = judge s r (pgKvt + 0x040) 4 true (some (expEpoch s r (pageOf (pgKvt + 0x040)))) k := by
  unfold kvtCmd judgeGuarded
  exact ⟨_, rfl⟩

/-- Every row of `accessOf` is judged before it does anything else (05 R139). -/
theorem access_judge (i : Instr) (s : State) (a : RegAcc) (h : accessOf i = some a) :
    ∃ k, exec i s = .next (judge s a.role a.off 4 a.wr (if a.guarded then some (expEpoch s a.role (pageOf a.off)) else none) k) := by
  cases i
  case jctGo r v =>
    cases h
    refine ⟨doJctCtrl r (v ||| 1), ?_⟩
    show Host.Outcome.next (jctCtrlWrite r (v ||| 1) s) = _
    unfold jctCtrlWrite judgeGuarded
    rw [if_pos (getBit_or_one v)]
    rfl
  case otpRead r =>
    cases h
    refine ⟨fun t => if getBit 1 0 then doOtpRead r t else regDone t r (pgLco + 0x074) .ok 0, ?_⟩
    show Host.Outcome.next (otpCmdWrite r 1 s) = _
    unfold otpCmdWrite judgeWrite
    rw [if_neg (by decide)]
    rfl
  case generate role seq keyId kt wst => cases h; obtain ⟨k, hk⟩ := kvtCmd_judge role 0x01 seq.toNat keyId.toNat 40 ((doGenerate kt wst)) s; exact ⟨k, congrArg Host.Outcome.next hk⟩
  case keyExport role seq keyId kt => cases h; obtain ⟨k, hk⟩ := kvtCmd_judge role 0x02 seq.toNat keyId.toNat 0 ((doExport kt)) s; exact ⟨k, congrArg Host.Outcome.next hk⟩
  case keyImport role seq kt wst => cases h; obtain ⟨k, hk⟩ := kvtCmd_judge role 0x03 seq.toNat 0 112 ((doImport kt wst)) s; exact ⟨k, congrArg Host.Outcome.next hk⟩
  case load role seq keyId => cases h; obtain ⟨k, hk⟩ := kvtCmd_judge role 0x04 seq.toNat keyId.toNat 0 (doLoad) s; exact ⟨k, congrArg Host.Outcome.next hk⟩
  case unpin role seq keyId => cases h; obtain ⟨k, hk⟩ := kvtCmd_judge role 0x05 seq.toNat keyId.toNat 0 (doUnpin) s; exact ⟨k, congrArg Host.Outcome.next hk⟩
  case kvtStep role seq keyId kt => cases h; obtain ⟨k, hk⟩ := kvtCmd_judge role 0x06 seq.toNat keyId.toNat 0 ((doStep kt)) s; exact ⟨k, congrArg Host.Outcome.next hk⟩
  case retire role seq keyId => cases h; obtain ⟨k, hk⟩ := kvtCmd_judge role 0x07 seq.toNat keyId.toNat 0 (doRetire) s; exact ⟨k, congrArg Host.Outcome.next hk⟩
  case enrol role seq => cases h; obtain ⟨k, hk⟩ := kvtCmd_judge role 0x08 seq.toNat 0 0 (doEnrol) s; exact ⟨k, congrArg Host.Outcome.next hk⟩
  case joinKeygen role seq => cases h; obtain ⟨k, hk⟩ := kvtCmd_judge role 0x10 seq.toNat 0 0 ((fun c s => keygen s c)) s; exact ⟨k, congrArg Host.Outcome.next hk⟩
  case joinRespond role seq => cases h; obtain ⟨k, hk⟩ := kvtCmd_judge role 0x11 seq.toNat 0 1664 ((fun c s => keygen s c)) s; exact ⟨k, congrArg Host.Outcome.next hk⟩
  case joinDecap role seq => cases h; obtain ⟨k, hk⟩ := kvtCmd_judge role 0x12 seq.toNat 0 1664 (doJoinDecap) s; exact ⟨k, congrArg Host.Outcome.next hk⟩
  case joinFinish role seq => cases h; obtain ⟨k, hk⟩ := kvtCmd_judge role 0x13 seq.toNat 0 48 (doJoinFinish) s; exact ⟨k, congrArg Host.Outcome.next hk⟩
  case epochGenerate role seq => cases h; obtain ⟨k, hk⟩ := kvtCmd_judge role 0x14 seq.toNat 0 0 (doEpochGenerate) s; exact ⟨k, congrArg Host.Outcome.next hk⟩
  case epochWrap role seq => cases h; obtain ⟨k, hk⟩ := kvtCmd_judge role 0x15 seq.toNat 0 0 (doEpochWrap) s; exact ⟨k, congrArg Host.Outcome.next hk⟩
  case epochLoad role seq => cases h; obtain ⟨k, hk⟩ := kvtCmd_judge role 0x16 seq.toNat 0 112 (doEpochLoad) s; exact ⟨k, congrArg Host.Outcome.next hk⟩
  case epochSend role seq => cases h; obtain ⟨k, hk⟩ := kvtCmd_judge role 0x17 seq.toNat 0 0 (doEpochSend) s; exact ⟨k, congrArg Host.Outcome.next hk⟩
  all_goals first | (cases h; done) | (cases h; exact ⟨_, rfl⟩)

variable (s : State) (r : Role) (off len : Nat) (wr : Bool) (g : Option Nat) (k : State → State)

theorem judge_closed (h : windowOpen s = false) : judge s r off len wr g k = s := by simp [judge, h]

/-- A function that names no role reaches no offset (03 R86). -/
theorem kind_of_reaches (h : reaches s r off wr = true) : r.kind ≠ .x := by
  cases r <;> simp [Role.kind, reaches] at h ⊢

theorem judge_noRole (h : windowOpen s = true) (h0 : r.kind = .x) : judge s r off len wr g k = regDone s r off .denied 0 := by simp [judge, h, h0]

theorem judge_unreached (h : windowOpen s = true) (h0 : r.kind ≠ .x) (h1 : reaches s r off wr = false) :
    judge s r off len wr g k = regDone (recordDenied s r off) r off .denied 0 := by simp [judge, h, h0, h1]

theorem judge_shape (h : windowOpen s = true) (h1 : reaches s r off wr = true) (h2 : len ≠ 4 ∨ off % 4 ≠ 0) :
    judge s r off len wr g k = regDone s r off .denied 0 := by
  have h0 := kind_of_reaches s r off wr h1
  rcases h2 with h2 | h2 <;> simp [judge, h, h0, h1, h2]

/-- An access that meets no refusal goes on. -/
theorem judge_passes (guarded : Bool) (h : passes s r off wr guarded = true)
    (hg : g = if guarded then some (expEpoch s r (pageOf off)) else none) : judge s r off 4 wr g k = k s := by
  simp only [passes, Bool.and_eq_true, Bool.or_eq_true, Bool.not_eq_true', decide_eq_true_eq] at h
  obtain ⟨⟨⟨⟨⟨⟨⟨h1, h2⟩, h3⟩, h4⟩, h5⟩, h6⟩, h7⟩, h8⟩ := h
  subst hg
  have h0 := kind_of_reaches s r off wr h2
  have h6' : ¬ (inReset12 s (pageOf off) = true ∧ (wr = true ∨ 64 ≤ off % 4096)) := by
    rintro ⟨ha, hb⟩
    simp [ha] at h6
    rcases hb with hb | hb
    · simp [hb] at h6
    · omega
  cases guarded with
  | true => simp [judge, h0, h1, h2, h3, h4, h5, h6', h7] ; simp at h8; simp [h8]
  | false => simp [judge, h0, h1, h2, h3, h4, h5, h6', h7]

/-- An unguarded write that meets no refusal does what it does. -/
theorem judgeWrite_passes (h : passes s r off true false = true) : judgeWrite s r off k = k s :=
  judge_passes s r off true none k false h rfl

/-- A guarded write that meets no refusal does what it does. -/
theorem judgeGuarded_passes (h : passes s r off true true = true) : judgeGuarded s r off k = k s :=
  judge_passes s r off true _ k true h rfl

end Sys2Proof.Machine
end

