-- ==== Sys2Proof/Laws/FrameOps.lean ====
section
/-!
SUPPORT. Frames of the shared operations of the register file, detectors, records, resets, recoveries and register accesses: each leaves every part of the state outside its list as it was (`view`).
-/
set_option linter.all false
set_option Elab.async false
namespace Sys2Proof.Machine

/-- The type of a part of the state. -/
def PartVal : Part → Type
  | .regs => Tbl Word
  | .latch => Tbl Word
  | .hold => Tbl Word
  | .exps => Tbl Nat
  | .epochs => Nat × Tbl Nat
  | .held => Bool
  | .withdrawn => Bool
  | .denied => Tbl (Nat × Nat)
  | .cru => Cru
  | .ports => Tbl Port
  | .tmp => Tmp
  | .wrc => Wrc
  | .sbx => Sbx
  | .ent => Ent
  | .lco => Lco
  | .otp => Tbl Word
  | .kvt => Kvt
  | .dom => Domain
  | .jct => Jct
  | .anchor => Anchor
  | .ctc => Ctc
  | .coh => Coh
  | .engs => Tbl Eng
  | .incarn => Tbl Nat
  | .ttb => Ttb
  | .spans => Tbl Span
  | .maps => Tbl Word
  | .trs => Trs
  | .hgt => Hgt
  | .cce => Cce
  | .imu => Imu
  | .inc => Inc
  | .evr => Evr
  | .ttu => Ttu
  | .pmu => Pmu
  | .att => Att
  | .free => Nat
  | .out => List Out
  | .pending => List Instr

/-- A part of a state. -/
def view : (p : Part) → State → PartVal p
  | .regs, s => s.regs
  | .latch, s => s.latch
  | .hold, s => s.hold
  | .exps, s => s.exps
  | .epochs, s => (s.epochAll, s.epochs)
  | .held, s => s.held
  | .withdrawn, s => s.withdrawn
  | .denied, s => s.denied
  | .cru, s => s.cru
  | .ports, s => s.ports
  | .tmp, s => s.tmp
  | .wrc, s => s.wrc
  | .sbx, s => s.sbx
  | .ent, s => s.ent
  | .lco, s => ({ s.lco with otp := [] } : Lco)
  | .otp, s => s.lco.otp
  | .kvt, s => s.kvt
  | .dom, s => s.dom
  | .jct, s => s.jct
  | .anchor, s => s.anchor
  | .ctc, s => s.ctc
  | .coh, s => s.coh
  | .engs, s => s.engs
  | .incarn, s => s.incarn
  | .ttb, s => s.ttb
  | .spans, s => s.spans
  | .maps, s => s.maps
  | .trs, s => s.trs
  | .hgt, s => s.hgt
  | .cce, s => s.cce
  | .imu, s => s.imu
  | .inc, s => s.inc
  | .evr, s => s.evr
  | .ttu, s => s.ttu
  | .pmu, s => s.pmu
  | .att, s => s.att
  | .free, s => s.free
  | .out, s => s.out
  | .pending, s => s.pending

variable {prt : Part}

@[simp] theorem view_ite (c : Prop) [Decidable c] (a b : State) : view prt (if c then a else b) = if c then view prt a else view prt b := apply_ite (view prt) c a b
@[simp] theorem view_onlyIf (c : Bool) (s t : State) : view prt (onlyIf c s t) = if c then view prt t else view prt s := by
  unfold onlyIf; split <;> simp_all
@[simp] theorem view_foldl {β : Type} (f : State → β → State) (l : List β) (s : State) (h : ∀ s x, view prt (f s x) = view prt s) : view prt (l.foldl f s) = view prt s := by
  induction l generalizing s with
  | nil => rfl
  | cons a l ih => rw [List.foldl_cons, ih, h]
@[simp] theorem view_foldl_fst {β γ : Type} (f : State × γ → β → State × γ) (l : List β) (q : State × γ) (h : ∀ q x, view prt (f q x).1 = view prt q.1) : view prt (l.foldl f q).1 = view prt q.1 := by
  induction l generalizing q with
  | nil => rfl
  | cons a l ih => rw [List.foldl_cons, ih, h]
@[simp] theorem view_foldl_snd {β γ : Type} (f : γ × State → β → γ × State) (l : List β) (q : γ × State) (h : ∀ q x, view prt (f q x).2 = view prt q.2) : view prt (l.foldl f q).2 = view prt q.2 := by
  induction l generalizing q with
  | nil => rfl
  | cons a l ih => rw [List.foldl_cons, ih, h]

@[simp] theorem view_set_regs (s : State) (x : Tbl Word) (h : prt ≠ .regs) : view prt { s with regs := x } = view prt s := by
  cases prt <;> first | rfl | exact absurd rfl h
@[simp] theorem view_set_latch (s : State) (x : Tbl Word) (h : prt ≠ .latch) : view prt { s with latch := x } = view prt s := by
  cases prt <;> first | rfl | exact absurd rfl h
@[simp] theorem view_set_hold (s : State) (x : Tbl Word) (h : prt ≠ .hold) : view prt { s with hold := x } = view prt s := by
  cases prt <;> first | rfl | exact absurd rfl h
@[simp] theorem view_set_exps (s : State) (x : Tbl Nat) (h : prt ≠ .exps) : view prt { s with exps := x } = view prt s := by
  cases prt <;> first | rfl | exact absurd rfl h
@[simp] theorem view_set_epochAll (s : State) (x : Nat) (h : prt ≠ .epochs) : view prt { s with epochAll := x } = view prt s := by
  cases prt <;> first | rfl | exact absurd rfl h
@[simp] theorem view_set_epochs (s : State) (x : Tbl Nat) (h : prt ≠ .epochs) : view prt { s with epochs := x } = view prt s := by
  cases prt <;> first | rfl | exact absurd rfl h
@[simp] theorem view_set_held (s : State) (x : Bool) (h : prt ≠ .held) : view prt { s with held := x } = view prt s := by
  cases prt <;> first | rfl | exact absurd rfl h
@[simp] theorem view_set_withdrawn (s : State) (x : Bool) (h : prt ≠ .withdrawn) : view prt { s with withdrawn := x } = view prt s := by
  cases prt <;> first | rfl | exact absurd rfl h
@[simp] theorem view_set_denied (s : State) (x : Tbl (Nat × Nat)) (h : prt ≠ .denied) : view prt { s with denied := x } = view prt s := by
  cases prt <;> first | rfl | exact absurd rfl h
@[simp] theorem view_set_cru (s : State) (x : Cru) (h : prt ≠ .cru) : view prt { s with cru := x } = view prt s := by
  cases prt <;> first | rfl | exact absurd rfl h
@[simp] theorem view_set_ports (s : State) (x : Tbl Port) (h : prt ≠ .ports) : view prt { s with ports := x } = view prt s := by
  cases prt <;> first | rfl | exact absurd rfl h
@[simp] theorem view_set_tmp (s : State) (x : Tmp) (h : prt ≠ .tmp) : view prt { s with tmp := x } = view prt s := by
  cases prt <;> first | rfl | exact absurd rfl h
@[simp] theorem view_set_wrc (s : State) (x : Wrc) (h : prt ≠ .wrc) : view prt { s with wrc := x } = view prt s := by
  cases prt <;> first | rfl | exact absurd rfl h
@[simp] theorem view_set_sbx (s : State) (x : Sbx) (h : prt ≠ .sbx) : view prt { s with sbx := x } = view prt s := by
  cases prt <;> first | rfl | exact absurd rfl h
@[simp] theorem view_set_ent (s : State) (x : Ent) (h : prt ≠ .ent) : view prt { s with ent := x } = view prt s := by
  cases prt <;> first | rfl | exact absurd rfl h
@[simp] theorem view_set_lco (s : State) (x : Lco) (h : prt ≠ .lco) (h2 : prt = .otp → x.otp = s.lco.otp) : view prt { s with lco := x } = view prt s := by
  cases prt <;> first | rfl | exact h2 rfl | exact absurd rfl h
@[simp] theorem view_set_kvt (s : State) (x : Kvt) (h : prt ≠ .kvt) : view prt { s with kvt := x } = view prt s := by
  cases prt <;> first | rfl | exact absurd rfl h
@[simp] theorem view_set_dom (s : State) (x : Domain) (h : prt ≠ .dom) : view prt { s with dom := x } = view prt s := by
  cases prt <;> first | rfl | exact absurd rfl h
@[simp] theorem view_set_jct (s : State) (x : Jct) (h : prt ≠ .jct) : view prt { s with jct := x } = view prt s := by
  cases prt <;> first | rfl | exact absurd rfl h
@[simp] theorem view_set_anchor (s : State) (x : Anchor) (h : prt ≠ .anchor) : view prt { s with anchor := x } = view prt s := by
  cases prt <;> first | rfl | exact absurd rfl h
@[simp] theorem view_set_ctc (s : State) (x : Ctc) (h : prt ≠ .ctc) : view prt { s with ctc := x } = view prt s := by
  cases prt <;> first | rfl | exact absurd rfl h
@[simp] theorem view_set_coh (s : State) (x : Coh) (h : prt ≠ .coh) : view prt { s with coh := x } = view prt s := by
  cases prt <;> first | rfl | exact absurd rfl h
@[simp] theorem view_set_engs (s : State) (x : Tbl Eng) (h : prt ≠ .engs) : view prt { s with engs := x } = view prt s := by
  cases prt <;> first | rfl | exact absurd rfl h
@[simp] theorem view_set_incarn (s : State) (x : Tbl Nat) (h : prt ≠ .incarn) : view prt { s with incarn := x } = view prt s := by
  cases prt <;> first | rfl | exact absurd rfl h
@[simp] theorem view_set_ttb (s : State) (x : Ttb) (h : prt ≠ .ttb) : view prt { s with ttb := x } = view prt s := by
  cases prt <;> first | rfl | exact absurd rfl h
@[simp] theorem view_set_spans (s : State) (x : Tbl Span) (h : prt ≠ .spans) : view prt { s with spans := x } = view prt s := by
  cases prt <;> first | rfl | exact absurd rfl h
@[simp] theorem view_set_maps (s : State) (x : Tbl Word) (h : prt ≠ .maps) : view prt { s with maps := x } = view prt s := by
  cases prt <;> first | rfl | exact absurd rfl h
@[simp] theorem view_set_trs (s : State) (x : Trs) (h : prt ≠ .trs) : view prt { s with trs := x } = view prt s := by
  cases prt <;> first | rfl | exact absurd rfl h
@[simp] theorem view_set_hgt (s : State) (x : Hgt) (h : prt ≠ .hgt) : view prt { s with hgt := x } = view prt s := by
  cases prt <;> first | rfl | exact absurd rfl h
@[simp] theorem view_set_cce (s : State) (x : Cce) (h : prt ≠ .cce) : view prt { s with cce := x } = view prt s := by
  cases prt <;> first | rfl | exact absurd rfl h
@[simp] theorem view_set_imu (s : State) (x : Imu) (h : prt ≠ .imu) : view prt { s with imu := x } = view prt s := by
  cases prt <;> first | rfl | exact absurd rfl h
@[simp] theorem view_set_inc (s : State) (x : Inc) (h : prt ≠ .inc) : view prt { s with inc := x } = view prt s := by
  cases prt <;> first | rfl | exact absurd rfl h
@[simp] theorem view_set_evr (s : State) (x : Evr) (h : prt ≠ .evr) : view prt { s with evr := x } = view prt s := by
  cases prt <;> first | rfl | exact absurd rfl h
@[simp] theorem view_set_ttu (s : State) (x : Ttu) (h : prt ≠ .ttu) : view prt { s with ttu := x } = view prt s := by
  cases prt <;> first | rfl | exact absurd rfl h
@[simp] theorem view_set_pmu (s : State) (x : Pmu) (h : prt ≠ .pmu) : view prt { s with pmu := x } = view prt s := by
  cases prt <;> first | rfl | exact absurd rfl h
@[simp] theorem view_set_att (s : State) (x : Att) (h : prt ≠ .att) : view prt { s with att := x } = view prt s := by
  cases prt <;> first | rfl | exact absurd rfl h
@[simp] theorem view_set_free (s : State) (x : Nat) (h : prt ≠ .free) : view prt { s with free := x } = view prt s := by
  cases prt <;> first | rfl | exact absurd rfl h
@[simp] theorem view_set_out (s : State) (x : List Out) (h : prt ≠ .out) : view prt { s with out := x } = view prt s := by
  cases prt <;> first | rfl | exact absurd rfl h
@[simp] theorem view_set_pending (s : State) (x : List Instr) (h : prt ≠ .pending) : view prt { s with pending := x } = view prt s := by
  cases prt <;> first | rfl | exact absurd rfl h
@[simp] theorem view_set_lco_otp (s : State) (x : Tbl Word) (h : prt ≠ .otp) : view prt { s with lco := { s.lco with otp := x } } = view prt s := by
  cases prt <;> first | rfl | exact absurd rfl h
@[simp] theorem view_set_ctc_coh (s : State) (x_ctc : Ctc) (x_coh : Coh) (h_ctc : prt ≠ .ctc) (h_coh : prt ≠ .coh) : view prt { s with ctc := x_ctc, coh := x_coh } = view prt s := by
  cases prt <;> first | rfl | exact absurd rfl h_ctc | exact absurd rfl h_coh
@[simp] theorem view_set_ctc_pmu (s : State) (x_ctc : Ctc) (x_pmu : Pmu) (h_ctc : prt ≠ .ctc) (h_pmu : prt ≠ .pmu) : view prt { s with ctc := x_ctc, pmu := x_pmu } = view prt s := by
  cases prt <;> first | rfl | exact absurd rfl h_ctc | exact absurd rfl h_pmu
@[simp] theorem view_set_jct_anchor (s : State) (x_jct : Jct) (x_anchor : Anchor) (h_jct : prt ≠ .jct) (h_anchor : prt ≠ .anchor) : view prt { s with jct := x_jct, anchor := x_anchor } = view prt s := by
  cases prt <;> first | rfl | exact absurd rfl h_jct | exact absurd rfl h_anchor
@[simp] theorem view_set_kvt_dom (s : State) (x_kvt : Kvt) (x_dom : Domain) (h_kvt : prt ≠ .kvt) (h_dom : prt ≠ .dom) : view prt { s with kvt := x_kvt, dom := x_dom } = view prt s := by
  cases prt <;> first | rfl | exact absurd rfl h_kvt | exact absurd rfl h_dom
@[simp] theorem view_set_kvt_maps (s : State) (x_kvt : Kvt) (x_maps : Tbl Word) (h_kvt : prt ≠ .kvt) (h_maps : prt ≠ .maps) : view prt { s with kvt := x_kvt, maps := x_maps } = view prt s := by
  cases prt <;> first | rfl | exact absurd rfl h_kvt | exact absurd rfl h_maps
@[simp] theorem view_set_ports_lco_ttu_free_out_pending (s : State) (x_ports : Tbl Port) (x_lco : Lco) (x_ttu : Ttu) (x_free : Nat) (x_out : List Out) (x_pending : List Instr) (h_ports : prt ≠ .ports) (h_lco : prt ≠ .lco) (h_ttu : prt ≠ .ttu) (h_free : prt ≠ .free) (h_out : prt ≠ .out) (h_pending : prt ≠ .pending) (h2 : prt = .otp → x_lco.otp = s.lco.otp) : view prt { s with ports := x_ports, lco := x_lco, ttu := x_ttu, free := x_free, out := x_out, pending := x_pending } = view prt s := by
  cases prt <;> first | rfl | exact h2 rfl | exact absurd rfl h_ports | exact absurd rfl h_lco | exact absurd rfl h_ttu | exact absurd rfl h_free | exact absurd rfl h_out | exact absurd rfl h_pending
@[simp] theorem view_set_regs_exps (s : State) (x_regs : Tbl Word) (x_exps : Tbl Nat) (h_regs : prt ≠ .regs) (h_exps : prt ≠ .exps) : view prt { s with regs := x_regs, exps := x_exps } = view prt s := by
  cases prt <;> first | rfl | exact absurd rfl h_regs | exact absurd rfl h_exps
@[simp] theorem view_set_regs_lco (s : State) (x_regs : Tbl Word) (x_lco : Lco) (h_regs : prt ≠ .regs) (h_lco : prt ≠ .lco) (h2 : prt = .otp → x_lco.otp = s.lco.otp) : view prt { s with regs := x_regs, lco := x_lco } = view prt s := by
  cases prt <;> first | rfl | exact h2 rfl | exact absurd rfl h_regs | exact absurd rfl h_lco
@[simp] theorem view_set_sbx_kvt (s : State) (x_sbx : Sbx) (x_kvt : Kvt) (h_sbx : prt ≠ .sbx) (h_kvt : prt ≠ .kvt) : view prt { s with sbx := x_sbx, kvt := x_kvt } = view prt s := by
  cases prt <;> first | rfl | exact absurd rfl h_sbx | exact absurd rfl h_kvt
@[simp] theorem view_set_sbx_kvt_att (s : State) (x_sbx : Sbx) (x_kvt : Kvt) (x_att : Att) (h_sbx : prt ≠ .sbx) (h_kvt : prt ≠ .kvt) (h_att : prt ≠ .att) : view prt { s with sbx := x_sbx, kvt := x_kvt, att := x_att } = view prt s := by
  cases prt <;> first | rfl | exact absurd rfl h_sbx | exact absurd rfl h_kvt | exact absurd rfl h_att
@[simp] theorem view_set_wrc_sbx (s : State) (x_wrc : Wrc) (x_sbx : Sbx) (h_wrc : prt ≠ .wrc) (h_sbx : prt ≠ .sbx) : view prt { s with wrc := x_wrc, sbx := x_sbx } = view prt s := by
  cases prt <;> first | rfl | exact absurd rfl h_wrc | exact absurd rfl h_sbx

/-- Sharing a part is having the same view of it. -/
theorem same_iff_view (s t : State) : prt.same s t ↔ view prt t = view prt s := by
  cases prt <;> first | exact Iff.rfl | exact Prod.mk.injEq _ _ _ _ ▸ Iff.rfl

/-- A frame from the views: every part that is not listed has the same view. -/
theorem keeps_of_view {touched : List Part} {s t : State} (h : ∀ prt, prt ∉ touched → view prt t = view prt s) : keeps touched s t :=
  fun q hq => (same_iff_view s t).2 (h q hq)

@[simp] theorem view_setReg (s : State) (a : Nat) (v : Word) (hprt : prt ∉ [.regs] := by simp [*]) : view prt (setReg s a v) = view prt s := by simp at hprt; simp [setReg, *]
@[simp] theorem view_setFld (s : State) (a : Nat) (hi : Nat) (lo : Nat) (v : Nat) (hprt : prt ∉ [.regs] := by simp [*]) : view prt (setFld s a hi lo v) = view prt s := by simp at hprt; simp [setFld, *]
@[simp] theorem view_setRegBit (s : State) (a : Nat) (n : Nat) (b : Bool) (hprt : prt ∉ [.regs] := by simp [*]) : view prt (setRegBit s a n b) = view prt s := by simp at hprt; simp [setRegBit, *]
@[simp] theorem view_incSat (s : State) (a : Nat) (hi : Nat) (lo : Nat) (n : Nat) (hprt : prt ∉ [.regs] := by simp [*]) : view prt (incSat s a hi lo n) = view prt s := by simp at hprt; simp [incSat, *]
@[simp] theorem view_incWrap (s : State) (a : Nat) (hi : Nat) (lo : Nat) (n : Nat) (hprt : prt ∉ [.regs] := by simp [*]) : view prt (incWrap s a hi lo n) = view prt s := by simp at hprt; simp [incWrap, *]
@[simp] theorem view_resetRegs (s : State) (pg : Nat) (lo : Nat) (hi : Nat) (hprt : prt ∉ [.regs] := by simp [*]) : view prt (resetRegs s pg lo hi) = view prt s := by simp at hprt; simp [resetRegs, *]
@[simp] theorem view_drawNat (s : State) (hprt : prt ∉ [.free] := by simp [*]) : view prt (drawNat s).2 = view prt s := by simp at hprt; simp [drawNat, *]
theorem view_drawNat_eq {s : State} {t} (h : drawNat s = t) (hprt : prt ∉ [.free] := by simp [*]) : view prt t.2 = view prt s := by subst h; exact view_drawNat s hprt
@[simp] theorem view_drawFree (s : State) (hprt : prt ∉ [.free] := by simp [*]) : view prt (drawFree s).2 = view prt s := by simp at hprt; simp [drawFree, *]
theorem view_drawFree_eq {s : State} {t} (h : drawFree s = t) (hprt : prt ∉ [.free] := by simp [*]) : view prt t.2 = view prt s := by subst h; exact view_drawFree s hprt
@[simp] theorem view_drawBytes (s : State) (n : Nat) (hprt : prt ∉ [.free] := by simp [*]) : view prt (drawBytes s n).2 = view prt s := by simp at hprt; simp [drawBytes, *]
theorem view_drawBytes_eq {s : State} {n : Nat} {t} (h : drawBytes s n = t) (hprt : prt ∉ [.free] := by simp [*]) : view prt t.2 = view prt s := by subst h; exact view_drawBytes s n hprt
@[simp] theorem view_emit (s : State) (o : Out) (hprt : prt ∉ [.out] := by simp [*]) : view prt (emit s o) = view prt s := by simp at hprt; simp [emit, *]
@[simp] theorem view_hmRead (s : State) (id : Nat) (addr : Nat) (n : Nat) (hprt : prt ∉ [.out] := by simp [*]) : view prt (hmRead s id addr n) = view prt s := by simp at hprt; simp [hmRead, *]
@[simp] theorem view_hmWrite (s : State) (id : Nat) (addr : Nat) (b : Bytes) (hprt : prt ∉ [.out] := by simp [*]) : view prt (hmWrite s id addr b) = view prt s := by simp at hprt; simp [hmWrite, *]
@[simp] theorem view_setDom (s : State) (d : Nat) (x : DomSt) (hprt : prt ∉ [.cru] := by simp [*]) : view prt (setDom s d x) = view prt s := by simp at hprt; simp [setDom, *]
@[simp] theorem view_bumpEpoch (s : State) (pg : Nat) (hprt : prt ∉ [.epochs] := by simp [*]) : view prt (bumpEpoch s pg) = view prt s := by simp at hprt; simp [bumpEpoch, *]
@[simp] theorem view_bumpAll (s : State) (hprt : prt ∉ [.epochs] := by simp [*]) : view prt (bumpAll s) = view prt s := by simp at hprt; simp [bumpAll, *]
@[simp] theorem view_setExpEpoch (s : State) (r : Role) (pg : Nat) (v : Nat) (hprt : prt ∉ [.exps] := by simp [*]) : view prt (setExpEpoch s r pg v) = view prt s := by simp at hprt; simp [setExpEpoch, *]
@[simp] theorem view_setHeld (s : State) (b : Bool) (hprt : prt ∉ [.epochs, .held] := by simp [*]) : view prt (setHeld s b) = view prt s := by simp at hprt; simp [setHeld, *]
@[simp] theorem view_setWithdrawn (s : State) (b : Bool) (hprt : prt ∉ [.epochs, .withdrawn] := by simp [*]) : view prt (setWithdrawn s b) = view prt s := by simp at hprt; simp [setWithdrawn, *]
@[simp] theorem view_setRecovery (s : State) (pg : Nat) (b : Bool) (hprt : prt ∉ [.regs, .epochs] := by simp [*]) : view prt (setRecovery s pg b) = view prt s := by simp at hprt; simp [setRecovery, *]
@[simp] theorem view_setCru (s : State) (x : CruSt) (hprt : prt ∉ [.epochs, .cru] := by simp [*]) : view prt (setCru s x) = view prt s := by simp at hprt; simp [setCru, *]
@[simp] theorem view_setBoot (s : State) (x : BootSt) (hprt : prt ∉ [.epochs, .sbx] := by simp [*]) : view prt (setBoot s x) = view prt s := by simp at hprt; simp [setBoot, *]
@[simp] theorem view_setEnt (s : State) (x : EntSt) (hprt : prt ∉ [.epochs, .ent] := by simp [*]) : view prt (setEnt s x) = view prt s := by simp at hprt; simp [setEnt, *]
@[simp] theorem view_setLc (s : State) (x : Lc) (hprt : prt ∉ [.regs, .epochs, .lco] := by simp [*]) : view prt (setLc s x) = view prt s := by simp at hprt; simp [setLc, *]
@[simp] theorem view_refreshSrc (s : State) (src : Nat) (hprt : prt ∉ [.regs] := by simp [*]) : view prt (refreshSrc s src) = view prt s := by simp at hprt; simp [refreshSrc, *]
@[simp] theorem view_irqEvent (s : State) (src : Nat) (inst : Option Nat) (st : Nat) (p1 : Nat) (p2 : Nat) (p3 : Nat) (hprt : prt ∉ [.regs, .inc] := by simp [*]) : view prt (irqEvent s src inst st p1 p2 p3) = view prt s := by simp at hprt; simp [irqEvent, *]
@[simp] theorem view_errEvent (s : State) (pg : Nat) (hprt : prt ∉ [.regs, .inc] := by simp [*]) : view prt (errEvent s pg) = view prt s := by simp at hprt; (unfold errEvent; (try simp only []); repeat' (first | (simp [*]; done) | split | (refine (view_foldl _ _ _ ?_).trans ?_) | (refine (view_foldl_fst _ _ _ ?_).trans ?_) | (refine (view_foldl_snd _ _ _ ?_).trans ?_) | (intro _ _) | (intro _) | (simp [*])))
@[simp] theorem view_levelFall (s : State) (pg : Nat) (hprt : prt ∉ [.regs, .inc] := by simp [*]) : view prt (levelFall s pg) = view prt s := by simp at hprt; (unfold levelFall; (try simp only []); repeat' (first | (simp [*]; done) | split | (refine (view_foldl _ _ _ ?_).trans ?_) | (refine (view_foldl_fst _ _ _ ?_).trans ?_) | (refine (view_foldl_snd _ _ _ ?_).trans ?_) | (intro _ _) | (intro _) | (simp [*])))
@[simp] theorem view_fireBit (s : State) (pg : Nat) (bit : Nat) (hprt : prt ∉ [.regs, .inc] := by simp [*]) : view prt (fireBit s pg bit) = view prt s := by simp at hprt; simp [fireBit, *]
@[simp] theorem view_pushRec (s : State) (key : Nat) (r : Rec) (hprt : prt ∉ [.regs, .inc, .evr] := by simp [*]) : view prt (pushRec s key r) = view prt s := by simp at hprt; (unfold pushRec; (try simp only []); repeat' (first | (simp [*]; done) | split | (refine (view_foldl _ _ _ ?_).trans ?_) | (refine (view_foldl_fst _ _ _ ?_).trans ?_) | (refine (view_foldl_snd _ _ _ ?_).trans ?_) | (intro _ _) | (intro _) | (simp [*])))
@[simp] theorem view_handRec (s : State) (r : Rec) (hprt : prt ∉ [.evr] := by simp [*]) : view prt (handRec s r) = view prt s := by simp at hprt; (unfold handRec; (try simp only []); repeat' (first | (simp [*]; done) | split | (refine (view_foldl _ _ _ ?_).trans ?_) | (refine (view_foldl_fst _ _ _ ?_).trans ?_) | (refine (view_foldl_snd _ _ _ ?_).trans ?_) | (intro _ _) | (intro _) | (simp [*])))
@[simp] theorem view_record (s : State) (pg : Nat) (c : RecCode) (p1 : Nat) (p2 : Nat) (p3 : Nat) (hprt : prt ∉ [.regs, .inc, .evr] := by simp [*]) : view prt (record s pg c p1 p2 p3) = view prt s := by simp at hprt; simp [record, *]
@[simp] theorem view_recordInst (s : State) (pg : Nat) (c : RecCode) (inst : Option Nat) (p1 : Nat) (p2 : Nat) (p3 : Nat) (hprt : prt ∉ [.regs, .inc, .evr] := by simp [*]) : view prt (recordInst s pg c inst p1 p2 p3) = view prt s := by simp at hprt; simp [recordInst, *]
@[simp] theorem view_fireAs (s : State) (pg : Nat) (bit : Nat) (c : RecCode) (inst : Option Nat) (p1 : Nat) (p2 : Nat) (p3 : Nat) (hprt : prt ∉ [.regs, .inc, .evr] := by simp [*]) : view prt (fireAs s pg bit c inst p1 p2 p3) = view prt s := by simp at hprt; simp [fireAs, *]
@[simp] theorem view_fire (s : State) (pg : Nat) (bit : Nat) (hprt : prt ∉ [.regs, .inc, .evr] := by simp [*]) : view prt (fire s pg bit) = view prt s := by simp at hprt; simp [fire, *]
@[simp] theorem view_cruEventAs (s : State) (kind : Nat) (arg : Nat) (p3 : Nat) (hprt : prt ∉ [.regs, .cru, .inc, .evr] := by simp [*]) : view prt (cruEventAs s kind arg p3) = view prt s := by simp at hprt; simp [cruEventAs, *]
@[simp] theorem view_cruEvent (s : State) (kind : Nat) (arg : Nat) (hprt : prt ∉ [.regs, .cru, .inc, .evr] := by simp [*]) : view prt (cruEvent s kind arg) = view prt s := by simp at hprt; simp [cruEvent, *]
@[simp] theorem view_fireCru (s : State) (bit : Nat) (kind : Nat) (arg : Nat) (hprt : prt ∉ [.regs, .cru, .inc, .evr] := by simp [*]) : view prt (fireCru s bit kind arg) = view prt s := by simp at hprt; simp [fireCru, *]
@[simp] theorem view_flushCruEvents (s : State) (hprt : prt ∉ [.cru, .evr] := by simp [*]) : view prt (flushCruEvents s) = view prt s := by simp at hprt; simp [flushCruEvents, *]
@[simp] theorem view_pmuItem (s : State) (n : Nat) (hprt : prt ∉ [.pmu] := by simp [*]) : view prt (pmuItem s n) = view prt s := by simp at hprt; simp [pmuItem, *]
@[simp] theorem view_regDone (s : State) (r : Role) (off : Nat) (st : Status) (data : Word) (hprt : prt ∉ [.out] := by simp [*]) : view prt (regDone s r off st data) = view prt s := by simp at hprt; simp [regDone, *]

@[simp] theorem view_ctcWays (s : State) (hprt : prt ∉ [.regs] := by simp [*]) : view prt (ctcWays s) = view prt s := by simp at hprt; simp [ctcWays, *]
@[simp] theorem view_resetPage (s : State) (pg : Nat) (level : Nat) (hprt : prt ∉ [.regs, .exps, .inc] := by simp [*]) : view prt (resetPage s pg level) = view prt s := by simp at hprt; (unfold resetPage; (try simp only []); repeat' (first | (simp [*]; done) | split | (refine (view_foldl _ _ _ ?_).trans ?_) | (refine (view_foldl_fst _ _ _ ?_).trans ?_) | (refine (view_foldl_snd _ _ _ ?_).trans ?_) | (intro _ _) | (intro _) | (simp [*])))
@[simp] theorem view_bumpIncarn (s : State) (pg : Nat) (hprt : prt ∉ [.incarn] := by simp [*]) : view prt (bumpIncarn s pg) = view prt s := by simp at hprt; simp [bumpIncarn, *]
@[simp] theorem view_setEng (s : State) (e : Nat) (x : Eng) (hprt : prt ∉ [.engs] := by simp [*]) : view prt (setEng s e x) = view prt s := by simp at hprt; simp [setEng, *]
@[simp] theorem view_setPort (s : State) (p : Nat) (x : Port) (hprt : prt ∉ [.ports] := by simp [*]) : view prt (setPort s p x) = view prt s := by simp at hprt; simp [setPort, *]

@[simp] theorem view_setMapBit (s : State) (k : Nat) (b : Bool) (hprt : prt ∉ [.anchor] := by simp [*]) : view prt (setMapBit s k b) = view prt s := by simp at hprt; simp [setMapBit, *]
@[simp] theorem view_setResets (s : State) (l : List ResetRange) (hprt : prt ∉ [.regs, .anchor] := by simp [*]) : view prt (setResets s l) = view prt s := by simp at hprt; simp [setResets, *]
@[simp] theorem view_keyedWritten (s : State) (k : Nat) (hprt : prt ∉ [.regs, .anchor] := by simp [*]) : view prt (keyedWritten s k) = view prt s := by simp at hprt; simp [keyedWritten, *]
@[simp] theorem view_retiredWritten (s : State) (k : Nat) (hprt : prt ∉ [.regs, .anchor] := by simp [*]) : view prt (retiredWritten s k) = view prt s := by simp at hprt; simp [retiredWritten, *]
@[simp] theorem view_copyFault (s : State) (isl : Nat) (i : Nat) (hprt : prt ∉ [.regs, .jct, .inc, .evr] := by simp [*]) : view prt (copyFault s isl i) = view prt s := by simp at hprt; simp [copyFault, *]
@[simp] theorem view_jctDeny (s : State) (hprt : prt ∉ [.regs] := by simp [*]) : view prt (jctDeny s) = view prt s := by simp at hprt; simp [jctDeny, *]
@[simp] theorem view_serviceEnd (s : State) (pg : Nat) (keyId : Nat) (wr : Bool) (st : Nat) (hprt : prt ∉ [.regs] := by simp [*]) : view prt (serviceEnd s pg keyId wr st).1 = view prt s := by simp at hprt; (unfold serviceEnd; (try simp only []); repeat' (first | (simp [*]; done) | split | (refine (view_foldl _ _ _ ?_).trans ?_) | (refine (view_foldl_fst _ _ _ ?_).trans ?_) | (refine (view_foldl_snd _ _ _ ?_).trans ?_) | (intro _ _) | (intro _) | (simp [*])))
theorem view_serviceEnd_eq {s : State} {pg : Nat} {keyId : Nat} {wr : Bool} {st : Nat} {t} (h : serviceEnd s pg keyId wr st = t) (hprt : prt ∉ [.regs] := by simp [*]) : view prt t.1 = view prt s := by subst h; exact view_serviceEnd s pg keyId wr st hprt
@[simp] theorem view_serviceRead (s : State) (pg : Nat) (keyId : Nat) (r : KtabRead) (hprt : prt ∉ [.regs] := by simp [*]) : view prt (serviceRead s pg keyId r).1 = view prt s := by simp at hprt; (unfold serviceRead; (try simp only []); repeat' (first | (simp [*]; done) | split | (refine (view_foldl _ _ _ ?_).trans ?_) | (refine (view_foldl_fst _ _ _ ?_).trans ?_) | (refine (view_foldl_snd _ _ _ ?_).trans ?_) | (intro _ _) | (intro _) | (simp [*])))
theorem view_serviceRead_eq {s : State} {pg : Nat} {keyId : Nat} {r : KtabRead} {t} (h : serviceRead s pg keyId r = t) (hprt : prt ∉ [.regs] := by simp [*]) : view prt t.1 = view prt s := by subst h; exact view_serviceRead s pg keyId r hprt
@[simp] theorem view_flushJct (s : State) (hprt : prt ∉ [.jct] := by simp [*]) : view prt (flushJct s) = view prt s := by simp at hprt; simp [flushJct, *]
@[simp] theorem view_jctRelease (s : State) (hprt : prt ∉ [.regs, .jct, .anchor] := by simp [*]) : view prt (jctRelease s) = view prt s := by simp at hprt; simp [jctRelease, *]

@[simp] theorem view_setSpan (s : State) (n : Nat) (x : Span) (hprt : prt ∉ [.spans] := by simp [*]) : view prt (setSpan s n x) = view prt s := by simp at hprt; simp [setSpan, *]
@[simp] theorem view_mapSpan (s : State) (n : Nat) (f : Span → Span) (hprt : prt ∉ [.spans] := by simp [*]) : view prt (mapSpan s n f) = view prt s := by simp at hprt; simp [mapSpan, *]
@[simp] theorem view_staleRsp (s : State) (hprt : prt ∉ [.regs] := by simp [*]) : view prt (staleRsp s) = view prt s := by simp at hprt; simp [staleRsp, *]
@[simp] theorem view_countGone (s : State) (n : Nat) (hprt : prt ∉ [.regs] := by simp [*]) : view prt (countGone s n) = view prt s := by simp at hprt; simp [countGone, *]
@[simp] theorem view_genDiscard (s : State) (i : Option Nat) (hprt : prt ∉ [.regs] := by simp [*]) : view prt (genDiscard s i) = view prt s := by simp at hprt; (unfold genDiscard; (try simp only []); repeat' (first | (simp [*]; done) | split | (refine (view_foldl _ _ _ ?_).trans ?_) | (refine (view_foldl_fst _ _ _ ?_).trans ?_) | (refine (view_foldl_snd _ _ _ ?_).trans ?_) | (intro _ _) | (intro _) | (simp [*])))
@[simp] theorem view_instCount (s : State) (i : Option Nat) (o : Nat) (n : Nat) (hprt : prt ∉ [.regs] := by simp [*]) : view prt (instCount s i o n) = view prt s := by simp at hprt; (unfold instCount; (try simp only []); repeat' (first | (simp [*]; done) | split | (refine (view_foldl _ _ _ ?_).trans ?_) | (refine (view_foldl_fst _ _ _ ?_).trans ?_) | (refine (view_foldl_snd _ _ _ ?_).trans ?_) | (intro _ _) | (intro _) | (simp [*])))
@[simp] theorem view_storeDone (s : State) (e : Nat) (tag : Nat) (st : Nat) (hprt : prt ∉ [.ttb] := by simp [*]) : view prt (storeDone s e tag st) = view prt s := by simp at hprt; (unfold storeDone; (try simp only []); repeat' (first | (simp [*]; done) | split | (refine (view_foldl _ _ _ ?_).trans ?_) | (refine (view_foldl_fst _ _ _ ?_).trans ?_) | (refine (view_foldl_snd _ _ _ ?_).trans ?_) | (intro _ _) | (intro _) | (simp [*])))
@[simp] theorem view_hostEnd (s : State) (h : HostAcc) (hprt : prt ∉ [.regs, .hgt, .inc, .evr, .out] := by simp [*]) : view prt (hostEnd s h) = view prt s := by simp at hprt; simp [hostEnd, *]
@[simp] theorem view_hostReply (s : State) (id : Nat) (addr : Nat) (st : Nat) (data : Bytes) (hprt : prt ∉ [.regs, .hgt, .inc, .evr, .out] := by simp [*]) : view prt (hostReply s id addr st data) = view prt s := by simp at hprt; (unfold hostReply; (try simp only []); repeat' (first | (simp [*]; done) | split | (refine (view_foldl _ _ _ ?_).trans ?_) | (refine (view_foldl_fst _ _ _ ?_).trans ?_) | (refine (view_foldl_snd _ _ _ ?_).trans ?_) | (intro _ _) | (intro _) | (simp [*])))
@[simp] theorem view_respondAs (s : State) (e : Nat) (q : Req) (st : Nat) (cls : Nat) (ballast : Nat) (desc : List (Nat × Nat × Bytes)) (data : Bytes) (hprt : prt ∉ [.regs, .ttb, .spans, .hgt, .inc, .evr, .out] := by simp [*]) : view prt (respondAs s e q st cls ballast desc data) = view prt s := by simp at hprt; (unfold respondAs; (try simp only []); repeat' (first | (simp [*]; done) | split | (refine (view_foldl _ _ _ ?_).trans ?_) | (refine (view_foldl_fst _ _ _ ?_).trans ?_) | (refine (view_foldl_snd _ _ _ ?_).trans ?_) | (intro _ _) | (intro _) | (simp [*])))
@[simp] theorem view_respond (s : State) (e : Nat) (q : Req) (st : Nat) (data : Bytes) (hprt : prt ∉ [.regs, .ttb, .spans, .hgt, .inc, .evr, .out] := by simp [*]) : view prt (respond s e q st data) = view prt s := by simp at hprt; simp [respond, *]

@[simp] theorem view_setHgt (s : State) (x : Hgt) (hprt : prt ∉ [.hgt] := by simp [*]) : view prt (setHgt s x) = view prt s := by simp at hprt; simp [setHgt, *]
@[simp] theorem view_hiDrive (s : State) (c : HiCmd) (hprt : prt ∉ [.out] := by simp [*]) : view prt (hiDrive s c) = view prt s := by simp at hprt; simp [hiDrive, *]
@[simp] theorem view_hiPush (s : State) (c : HiCmd) (hprt : prt ∉ [.hgt, .out] := by simp [*]) : view prt (hiPush s c) = view prt s := by simp at hprt; simp [hiPush, *]
@[simp] theorem view_hiPop (s : State) (hprt : prt ∉ [.hgt, .out] := by simp [*]) : view prt (hiPop s) = view prt s := by simp at hprt; (unfold hiPop; (try simp only []); repeat' (first | (simp [*]; done) | split | (refine (view_foldl _ _ _ ?_).trans ?_) | (refine (view_foldl_fst _ _ _ ?_).trans ?_) | (refine (view_foldl_snd _ _ _ ?_).trans ?_) | (intro _ _) | (intro _) | (simp [*])))
@[simp] theorem view_ideRefresh (s : State) (hprt : prt ∉ [.regs] := by simp [*]) : view prt (ideRefresh s) = view prt s := by simp at hprt; simp [ideRefresh, *]
@[simp] theorem view_ideErase (s : State) (hprt : prt ∉ [.hgt, .out] := by simp [*]) : view prt (ideErase s) = view prt s := by simp at hprt; simp [ideErase, *]
@[simp] theorem view_pairClose (s : State) (p : Nat) (hprt : prt ∉ [.regs, .hgt] := by simp [*]) : view prt (pairClose s p) = view prt s := by simp at hprt; simp [pairClose, *]
@[simp] theorem view_pairCloseWhere (s : State) (f : Pair → Bool) (hprt : prt ∉ [.regs, .hgt] := by simp [*]) : view prt (pairCloseWhere s f) = view prt s := by simp at hprt; simp [pairCloseWhere, *]
@[simp] theorem view_hgtReset (s : State) (level : Nat) (hprt : prt ∉ [.regs, .hgt, .out] := by simp [*]) : view prt (hgtReset s level) = view prt s := by simp at hprt; simp [hgtReset, *]
@[simp] theorem view_hgtZeroise (s : State) (hprt : prt ∉ [.regs, .hgt, .out] := by simp [*]) : view prt (hgtZeroise s) = view prt s := by simp at hprt; simp [hgtZeroise, *]

@[simp] theorem view_mapLine (s : State) (e : Nat) (k : LineKind) (idx : Nat) (f : Line → Line) (hprt : prt ∉ [.ctc] := by simp [*]) : view prt (mapLine s e k idx f) = view prt s := by simp at hprt; simp [mapLine, *]
@[simp] theorem view_dropLine (s : State) (x : Line) (hprt : prt ∉ [.ctc] := by simp [*]) : view prt (dropLine s x) = view prt s := by simp at hprt; simp [dropLine, *]
@[simp] theorem view_mapNode (s : State) (e : Nat) (level : Nat) (idx : Nat) (f : Node → Node) (hprt : prt ∉ [.anchor, .ctc] := by simp [*]) : view prt (mapNode s e level idx f) = view prt s := by simp at hprt; simp [mapNode, *]
@[simp] theorem view_pushDown (s : State) (e : Nat) (l : Nat) (hprt : prt ∉ [.anchor, .ctc] := by simp [*]) : view prt (pushDown s e l) = view prt s := by simp at hprt; (unfold pushDown; (try simp only []); repeat' (first | (simp [*]; done) | split | (refine (view_foldl _ _ _ ?_).trans ?_) | (refine (view_foldl_fst _ _ _ ?_).trans ?_) | (refine (view_foldl_snd _ _ _ ?_).trans ?_) | (intro _ _) | (intro _) | (simp [*])))
@[simp] theorem view_presentTx (s : State) (e : Nat) (t : Tx) (data : Bytes) (hprt : prt ∉ [.engs, .out] := by simp [*]) : view prt (presentTx s e t data) = view prt s := by simp at hprt; simp [presentTx, *]
@[simp] theorem view_presentOr (e : Nat) (s : State) (x : Tx × Bytes) (hprt : prt ∉ [.engs, .out] := by simp [*]) : view prt (presentOr e s x) = view prt s := by simp at hprt; simp [presentOr, *]
@[simp] theorem view_present (s : State) (e : Nat) (p : TxFor) (wr : Bool) (off : Nat) (len : Nat) (data : Bytes) (hprt : prt ∉ [.engs, .out] := by simp [*]) : view prt (present s e p wr off len data) = view prt s := by simp at hprt; simp [present, *]
@[simp] theorem view_drainTx (s : State) (e : Nat) (hprt : prt ∉ [.engs, .out] := by simp [*]) : view prt (drainTx s e) = view prt s := by simp at hprt; simp [drainTx, *]
@[simp] theorem view_lineLost (s : State) (tree : Nat) (n : Nat) (cause : Nat) (hprt : prt ∉ [.regs, .inc, .evr] := by simp [*]) : view prt (lineLost s tree n cause) = view prt s := by simp at hprt; simp [lineLost, *]
@[simp] theorem view_bumpChild (s : State) (e : Nat) (k : LineKind) (idx : Nat) (hprt : prt ∉ [.regs, .anchor, .ctc, .inc, .evr] := by simp [*]) : view prt (bumpChild s e k idx) = view prt s := by simp at hprt; (unfold bumpChild; (try simp only []); repeat' (first | (simp [*]; done) | split | (refine (view_foldl _ _ _ ?_).trans ?_) | (refine (view_foldl_fst _ _ _ ?_).trans ?_) | (refine (view_foldl_snd _ _ _ ?_).trans ?_) | (intro _ _) | (intro _) | (simp [*])))
theorem view_writeBack (s : State) (x : Line) (hprt : prt ∉ [.regs, .anchor, .ctc, .engs, .inc, .evr, .out] := by simp [*]) : ∀ t, writeBack s x = some t → view prt t = view prt s := by simp at hprt; intro t h; unfold writeBack at h; (try simp only [] at h); repeat' (first | (simp at h; done) | (simp at h; subst h; first | (simp [*]; done)) | split at h)
theorem view_writeBack_eq {s : State} {x : Line} {t : State} (h : writeBack s x = some t) (hprt : prt ∉ [.regs, .anchor, .ctc, .engs, .inc, .evr, .out] := by simp [*]) : view prt t = view prt s := view_writeBack s x hprt t h
@[simp] theorem view_writeBack_getD (s : State) (x : Line) (u_ : State) (hu_ : view prt u_ = view prt s) (hprt : prt ∉ [.regs, .anchor, .ctc, .engs, .inc, .evr, .out] := by simp [*]) : view prt ((writeBack s x).getD u_) = view prt s := by
  cases h : writeBack s x with
  | none => exact hu_
  | some t => exact view_writeBack_eq h hprt
theorem view_evict (s : State) (x : Line) (hprt : prt ∉ [.regs, .anchor, .ctc, .engs, .inc, .evr, .out] := by simp [*]) : ∀ t, evict s x = some t → view prt t = view prt s := by
  simp at hprt
  intro t h
  simp only [evict] at h
  split at h
  · cases hw : writeBack s x with
    | none => simp [hw, *] at h
    | some u => simp [hw, *] at h; subst h; simp [view_writeBack_eq (prt := prt) hw, *]
  · simp at h; subst h; simp [*]
theorem view_evict_eq {s : State} {x : Line} {t : State} (h : evict s x = some t) (hprt : prt ∉ [.regs, .anchor, .ctc, .engs, .inc, .evr, .out] := by simp [*]) : view prt t = view prt s := view_evict s x hprt t h
@[simp] theorem view_evict_getD (s : State) (x : Line) (u_ : State) (hu_ : view prt u_ = view prt s) (hprt : prt ∉ [.regs, .anchor, .ctc, .engs, .inc, .evr, .out] := by simp [*]) : view prt ((evict s x).getD u_) = view prt s := by
  cases h : evict s x with
  | none => exact hu_
  | some t => exact view_evict_eq h hprt
@[simp] theorem view_wantKey (s : State) (x : Line) (hprt : prt ∉ [.kvt] := by simp [*]) : view prt (wantKey s x) = view prt s := by simp at hprt; simp [wantKey, *]
@[simp] theorem view_startWanted (way : State → Nat → LineKind → Nat → State × Option Nat) (s : State) (x : Line) (h_way : ∀ x0 x1 x2 x3, view prt (way x0 x1 x2 x3).1 = view prt x0) (hprt : prt ∉ [.kvt, .ctc, .engs, .out] := by simp [*]) : view prt (startWanted way s x) = view prt s := by
  simp at hprt
  have hw : ∀ (u : State) (a : Nat) (b : LineKind) (c : Nat) (q : State × Option Nat), way u a b c = q → view prt q.1 = view prt u := by
    intro u a b c q h; subst h; exact h_way _ _ _ _
  unfold startWanted
  simp only []
  repeat' (first | (simp [*]; done) | (have h_ := hw _ _ _ _ _ ‹way _ _ _ _ = _›; simp [*] at h_ ⊢; done) | (have h_ := hw _ _ _ _ _ ‹way _ _ _ _ = _›; simp at h_; simp [*]; done) | split)
@[simp] theorem view_takeWayN (a0 : Nat) (a1 : State) (a2 : Nat) (a3 : LineKind) (a4 : Nat) (a5 : Option Nat) (hprt : prt ∉ [.regs, .kvt, .anchor, .ctc, .engs, .inc, .evr, .out] := by simp [*]) : view prt (takeWayN a0 a1 a2 a3 a4 a5).1 = view prt a1 := by
  simp at hprt
  induction a0 generalizing a1 a2 a3 a4 a5 with
  | zero =>
    unfold takeWayN; simp only []
    repeat' (first | rfl | (simp [*]; done) | (exact view_evict_eq (prt := prt) ‹evict _ _ = some _› (by simp [*])) | ((try have h_ := view_writeBack_eq (prt := prt) ‹writeBack _ _ = some _› (by simp [*])); simp [*]; done) | (refine (view_foldl _ _ _ ?_).trans ?_) | (intro _ _) | split)
  | succ n ih =>
    unfold takeWayN; simp only []
    have hw : ∀ (t : State) (y : Line), view prt (startWanted (fun t e k idx => takeWayN n t e k idx none) t y) = view prt t :=
      fun t y => view_startWanted _ t y (fun _ _ _ _ => ih _ _ _ _ _) (by simp [*])
    repeat' (first | rfl | (simp [*]; done) | (exact view_evict_eq (prt := prt) ‹evict _ _ = some _› (by simp [*])) | ((try have h_ := view_writeBack_eq (prt := prt) ‹writeBack _ _ = some _› (by simp [*])); simp [*]; done) | (refine (view_foldl _ _ _ ?_).trans ?_) | (intro _ _) | split)
theorem view_takeWayN_eq {a0 : Nat} {a1 : State} {a2 : Nat} {a3 : LineKind} {a4 : Nat} {a5 : Option Nat} {t} (h : takeWayN a0 a1 a2 a3 a4 a5 = t) (hprt : prt ∉ [.regs, .kvt, .anchor, .ctc, .engs, .inc, .evr, .out] := by simp [*]) : view prt t.1 = view prt a1 := by subst h; exact view_takeWayN a0 a1 a2 a3 a4 a5 hprt
@[simp] theorem view_takeWay (s : State) (e : Nat) (k : LineKind) (idx : Nat) (ch : Option Nat) (hprt : prt ∉ [.regs, .kvt, .anchor, .ctc, .engs, .inc, .evr, .out] := by simp [*]) : view prt (takeWay s e k idx ch).1 = view prt s := by simp at hprt; (unfold takeWay; (try simp only []); repeat' (first | (simp [*]; done) | ((try have h_takeWayN := view_takeWayN_eq (prt := prt) ‹takeWayN _ _ _ _ _ _ = _›); simp [*]; done) | ((try have h_takeWayN := view_takeWayN_eq (prt := prt) ‹takeWayN _ _ _ _ _ _ = _›); simp [*]; done) | split | (refine (view_foldl _ _ _ ?_).trans ?_) | (refine (view_foldl_fst _ _ _ ?_).trans ?_) | (refine (view_foldl_snd _ _ _ ?_).trans ?_) | (intro _ _) | (intro _) | (have h_ := view_takeWayN_eq (prt := prt) ‹takeWayN _ _ _ _ _ _ = _›; refine Eq.trans h_ ?_; clear h_) | (simp [*])))
theorem view_takeWay_eq {s : State} {e : Nat} {k : LineKind} {idx : Nat} {ch : Option Nat} {t} (h : takeWay s e k idx ch = t) (hprt : prt ∉ [.regs, .kvt, .anchor, .ctc, .engs, .inc, .evr, .out] := by simp [*]) : view prt t.1 = view prt s := by subst h; exact view_takeWay s e k idx ch hprt
@[simp] theorem view_pathFill (s : State) (x : Line) (hprt : prt ∉ [.regs, .kvt, .anchor, .ctc, .engs, .inc, .evr, .out] := by simp [*]) : view prt (pathFill s x) = view prt s := by simp at hprt; (unfold pathFill; (try simp only []); repeat' (first | (simp [*]; done) | (refine view_startWanted _ _ _ ?_ (by simp [*])) | ((try have h_takeWay := view_takeWay_eq (prt := prt) ‹takeWay _ _ _ _ _ = _›); simp [*]; done) | ((try have h_takeWay := view_takeWay_eq (prt := prt) ‹takeWay _ _ _ _ _ = _›); simp [*]; done) | split | (refine (view_foldl _ _ _ ?_).trans ?_) | (refine (view_foldl_fst _ _ _ ?_).trans ?_) | (refine (view_foldl_snd _ _ _ ?_).trans ?_) | (intro _ _) | (intro _) | (have h_ := view_takeWay_eq (prt := prt) ‹takeWay _ _ _ _ _ = _›; refine Eq.trans h_ ?_; clear h_) | (simp [*])))
@[simp] theorem view_install (s : State) (e : Nat) (k : LineKind) (idx : Nat) (way : Nat) (keyId : Nat) (ep : Nat) (slot : Nat) (ch : Option Nat) (pre : Bool) (d : LineData) (hprt : prt ∉ [.ctc] := by simp [*]) : view prt (install s e k idx way keyId ep slot ch pre d) = view prt s := by simp at hprt; simp [install, *]
@[simp] theorem view_startFill (s : State) (e : Nat) (k : LineKind) (idx : Nat) (keyId : Nat) (clsI : Bool) (ch : Option Nat) (pre : Bool) (hprt : prt ∉ [.regs, .kvt, .anchor, .ctc, .engs, .inc, .evr, .out] := by simp [*]) : view prt (startFill s e k idx keyId clsI ch pre) = view prt s := by simp at hprt; (unfold startFill; (try simp only []); repeat' (first | (simp [*]; done) | ((try have h_takeWay := view_takeWay_eq (prt := prt) ‹takeWay _ _ _ _ _ = _›); simp [*]; done) | ((try have h_takeWay := view_takeWay_eq (prt := prt) ‹takeWay _ _ _ _ _ = _›); simp [*]; done) | split | (refine (view_foldl _ _ _ ?_).trans ?_) | (refine (view_foldl_fst _ _ _ ?_).trans ?_) | (refine (view_foldl_snd _ _ _ ?_).trans ?_) | (intro _ _) | (intro _) | (have h_ := view_takeWay_eq (prt := prt) ‹takeWay _ _ _ _ _ = _›; refine Eq.trans h_ ?_; clear h_) | (simp [*])))
@[simp] theorem view_clearOther (s : State) (e : Nat) (k : LineKind) (idx : Nat) (keyId : Nat) (hprt : prt ∉ [.regs, .kvt, .anchor, .ctc, .engs, .inc, .evr, .out] := by simp [*]) : view prt (clearOther s e k idx keyId) = view prt s := by simp at hprt; (unfold clearOther; (try simp only []); repeat' (first | (simp [*]; done) | ( simp [*]; done) | ((try have h_evict := view_evict_eq (prt := prt) ‹evict _ _ = some _›); simp [*]; done) | split | (refine (view_foldl _ _ _ ?_).trans ?_) | (refine (view_foldl_fst _ _ _ ?_).trans ?_) | (refine (view_foldl_snd _ _ _ ?_).trans ?_) | (intro _ _) | (intro _) | (have h_ := view_evict_eq (prt := prt) ‹evict _ _ = some _›; refine Eq.trans h_ ?_; clear h_) | (simp [*])))
@[simp] theorem view_startCtr (s : State) (e : Nat) (l : Nat) (keyId : Nat) (clsI : Bool) (ch : Option Nat) (pre : Bool) (hprt : prt ∉ [.regs, .kvt, .anchor, .ctc, .engs, .inc, .evr, .out] := by simp [*]) : view prt (startCtr s e l keyId clsI ch pre) = view prt s := by simp at hprt; (unfold startCtr; (try simp only []); repeat' (first | (simp [*]; done) | split | (refine (view_foldl _ _ _ ?_).trans ?_) | (refine (view_foldl_fst _ _ _ ?_).trans ?_) | (refine (view_foldl_snd _ _ _ ?_).trans ?_) | (intro _ _) | (intro _) | (simp [*])))
@[simp] theorem view_startTag (s : State) (e : Nat) (t : Nat) (keyId : Nat) (ch : Option Nat) (hprt : prt ∉ [.regs, .kvt, .anchor, .ctc, .engs, .inc, .evr, .out] := by simp [*]) : view prt (startTag s e t keyId ch) = view prt s := by simp at hprt; (unfold startTag; (try simp only []); repeat' (first | (simp [*]; done) | split | (refine (view_foldl _ _ _ ?_).trans ?_) | (refine (view_foldl_fst _ _ _ ?_).trans ?_) | (refine (view_foldl_snd _ _ _ ?_).trans ?_) | (intro _ _) | (intro _) | (simp [*])))
@[simp] theorem view_dropFill (s : State) (f : Fill) (hprt : prt ∉ [.ctc] := by simp [*]) : view prt (dropFill s f) = view prt s := by simp at hprt; simp [dropFill, *]
@[simp] theorem view_mergeTags (s : State) (f : Fill) (b : Bytes) (hprt : prt ∉ [.ctc] := by simp [*]) : view prt (mergeTags s f b) = view prt s := by simp at hprt; simp [mergeTags, *]
@[simp] theorem view_overrideStart (s : State) (cause : Nat) (hprt : prt ∉ [.regs, .ctc, .inc, .evr] := by simp [*]) : view prt (overrideStart s cause) = view prt s := by simp at hprt; simp [overrideStart, *]
@[simp] theorem view_overrideEnd (s : State) (cause : Nat) (hprt : prt ∉ [.regs, .ctc, .inc, .evr] := by simp [*]) : view prt (overrideEnd s cause) = view prt s := by simp at hprt; simp [overrideEnd, *]
@[simp] theorem view_fillFailed (s : State) (f : Fill) (level : Nat) (hprt : prt ∉ [.regs, .ctc, .inc, .evr] := by simp [*]) : view prt (fillFailed s f level) = view prt s := by simp at hprt; simp [fillFailed, *]
@[simp] theorem view_settleOnce (s : State) (hprt : prt ∉ [.regs, .ctc, .inc, .evr] := by simp [*]) : view prt (settleOnce s).1 = view prt s := by simp at hprt; (unfold settleOnce; (try simp only []); repeat' (first | (simp [*]; done) | split | (refine (view_foldl _ _ _ ?_).trans ?_) | (refine (view_foldl_fst _ _ _ ?_).trans ?_) | (refine (view_foldl_snd _ _ _ ?_).trans ?_) | (intro _ _) | (intro _) | (simp [*])))
theorem view_settleOnce_eq {s : State} {t} (h : settleOnce s = t) (hprt : prt ∉ [.regs, .ctc, .inc, .evr] := by simp [*]) : view prt t.1 = view prt s := by subst h; exact view_settleOnce s hprt
@[simp] theorem view_settle (s : State) (hprt : prt ∉ [.regs, .ctc, .inc, .evr] := by simp [*]) : view prt (settle s).1 = view prt s := by simp at hprt; simp [settle, *]
theorem view_settle_eq {s : State} {t} (h : settle s = t) (hprt : prt ∉ [.regs, .ctc, .inc, .evr] := by simp [*]) : view prt t.1 = view prt s := by subst h; exact view_settle s hprt
@[simp] theorem view_writeBackOr (s : State) (x : Line) (hprt : prt ∉ [.regs, .kvt, .anchor, .ctc, .engs, .inc, .evr, .out] := by simp [*]) : view prt (writeBackOr s x) = view prt s := by simp at hprt; (unfold writeBackOr; (try simp only []); repeat' (first | (simp [*]; done) | ( simp [*]; done) | ((try have h_writeBack := view_writeBack_eq (prt := prt) ‹writeBack _ _ = some _›); simp [*]; done) | split | (refine (view_foldl _ _ _ ?_).trans ?_) | (refine (view_foldl_fst _ _ _ ?_).trans ?_) | (refine (view_foldl_snd _ _ _ ?_).trans ?_) | (intro _ _) | (intro _) | (have h_ := view_writeBack_eq (prt := prt) ‹writeBack _ _ = some _›; refine Eq.trans h_ ?_; clear h_) | (simp [*])))
@[simp] theorem view_writeBackKey (s : State) (k : Nat) (hprt : prt ∉ [.regs, .kvt, .anchor, .ctc, .engs, .inc, .evr, .out] := by simp [*]) : view prt (writeBackKey s k) = view prt s := by simp at hprt; (unfold writeBackKey; (try simp only []); repeat' (first | (simp [*]; done) | split | (refine (view_foldl _ _ _ ?_).trans ?_) | (refine (view_foldl_fst _ _ _ ?_).trans ?_) | (refine (view_foldl_snd _ _ _ ?_).trans ?_) | (intro _ _) | (intro _) | (simp [*])))
@[simp] theorem view_invalidateKey (s : State) (k : Nat) (hprt : prt ∉ [.ctc] := by simp [*]) : view prt (invalidateKey s k) = view prt s := by simp at hprt; simp [invalidateKey, *]
@[simp] theorem view_writeBackWhere (s : State) (sel : Line → Bool) (hprt : prt ∉ [.regs, .kvt, .anchor, .ctc, .engs, .inc, .evr, .out] := by simp [*]) : view prt (writeBackWhere s sel) = view prt s := by simp at hprt; (unfold writeBackWhere; (try simp only []); repeat' (first | (simp [*]; done) | split | (refine (view_foldl _ _ _ ?_).trans ?_) | (refine (view_foldl_fst _ _ _ ?_).trans ?_) | (refine (view_foldl_snd _ _ _ ?_).trans ?_) | (intro _ _) | (intro _) | (simp [*])))
@[simp] theorem view_loseGroup (s : State) (g : Nat) (hprt : prt ∉ [.regs, .ctc, .inc, .evr] := by simp [*]) : view prt (loseGroup s g) = view prt s := by simp at hprt; simp [loseGroup, *]
@[simp] theorem view_zeroiseCtc (s : State) (hprt : prt ∉ [.regs, .ctc, .inc, .evr] := by simp [*]) : view prt (zeroiseCtc s) = view prt s := by simp at hprt; simp [zeroiseCtc, *]

@[simp] theorem view_setCceQ (s : State) (q : Nat) (x : CceQ) (hprt : prt ∉ [.cce] := by simp [*]) : view prt (setCceQ s q x) = view prt s := by simp at hprt; simp [setCceQ, *]
@[simp] theorem view_setJob (s : State) (q : Nat) (j : CceJob) (hprt : prt ∉ [.cce] := by simp [*]) : view prt (setJob s q j) = view prt s := by simp at hprt; simp [setJob, *]
@[simp] theorem view_cceRefresh (s : State) (hprt : prt ∉ [.regs] := by simp [*]) : view prt (cceRefresh s) = view prt s := by simp at hprt; simp [cceRefresh, *]
@[simp] theorem view_cceEnd (s : State) (q : Nat) (j : CceJob) (st : Nat) (hprt : prt ∉ [.regs, .cce] := by simp [*]) : view prt (cceEnd s q j st) = view prt s := by simp at hprt; simp [cceEnd, *]
@[simp] theorem view_cceEndWhere (s : State) (st : Nat) (p : CceQ → CceJob → Bool) (hprt : prt ∉ [.regs, .cce] := by simp [*]) : view prt (cceEndWhere s st p) = view prt s := by simp at hprt; simp [cceEndWhere, *]
@[simp] theorem view_cceKeyFail (s : State) (k : Nat) (st : Nat) (hprt : prt ∉ [.regs, .cce] := by simp [*]) : view prt (cceKeyFail s k st) = view prt s := by simp at hprt; simp [cceKeyFail, *]
@[simp] theorem view_cceRetired (s : State) (k : Nat) (hprt : prt ∉ [.regs, .cce] := by simp [*]) : view prt (cceRetired s k) = view prt s := by simp at hprt; simp [cceRetired, *]
@[simp] theorem view_cceCtxLost (s : State) (i : Nat) (c : Nat) (hprt : prt ∉ [.regs, .cce] := by simp [*]) : view prt (cceCtxLost s i c) = view prt s := by simp at hprt; simp [cceCtxLost, *]
@[simp] theorem view_cceGone (s : State) (i : Nat) (hprt : prt ∉ [.regs, .cce] := by simp [*]) : view prt (cceGone s i) = view prt s := by simp at hprt; simp [cceGone, *]
@[simp] theorem view_cceReset (s : State) (level : Nat) (hprt : prt ∉ [.regs, .cce, .inc, .evr] := by simp [*]) : view prt (cceReset s level) = view prt s := by simp at hprt; simp [cceReset, *]
@[simp] theorem view_cceZeroise (s : State) (hprt : prt ∉ [.regs, .cce, .inc, .evr] := by simp [*]) : view prt (cceZeroise s) = view prt s := by simp at hprt; simp [cceZeroise, *]
@[simp] theorem view_cceResume (s : State) (hprt : prt ∉ [.cce] := by simp [*]) : view prt (cceResume s) = view prt s := by simp at hprt; simp [cceResume, *]

@[simp] theorem view_putWords (s : State) (a : Nat) (a2 : Bytes) (hprt : prt ∉ [.regs] := by simp [*]) : view prt (putWords s a a2) = view prt s := by simp at hprt; fun_induction putWords s a a2 <;> simp_all
@[simp] theorem view_clearXbuf (s : State) (n : Nat) (hprt : prt ∉ [.regs] := by simp [*]) : view prt (clearXbuf s n) = view prt s := by simp at hprt; simp [clearXbuf, *]
@[simp] theorem view_mbDone (s : State) (i : Nat) (tenant : Bool) (cmd : Nat) (seq : Nat) (st : Nat) (hprt : prt ∉ [.regs, .imu, .inc] := by simp [*]) : view prt (mbDone s i tenant cmd seq st) = view prt s := by simp at hprt; simp [mbDone, *]
@[simp] theorem view_kvtReport (s : State) (c : KCmd) (st : Nat) (hprt : prt ∉ [.regs, .inc, .evr] := by simp [*]) : view prt (kvtReport s c st) = view prt s := by simp at hprt; simp [kvtReport, *]
@[simp] theorem view_kvtDone (s : State) (c : KCmd) (st : Nat) (hprt : prt ∉ [.regs, .kvt, .inc, .evr] := by simp [*]) : view prt (kvtDone s c st) = view prt s := by simp at hprt; simp [kvtDone, *]
@[simp] theorem view_kvtHold (s : State) (c : KCmd) (hprt : prt ∉ [.regs, .kvt] := by simp [*]) : view prt (kvtHold s c) = view prt s := by simp at hprt; simp [kvtHold, *]
@[simp] theorem view_unwrapFail (s : State) (keyId : Nat) (type : Nat) (step : Nat) (hprt : prt ∉ [.regs, .inc, .evr] := by simp [*]) : view prt (unwrapFail s keyId type step) = view prt s := by simp at hprt; simp [unwrapFail, *]
@[simp] theorem view_ktabEnd (s : State) (k : Nat) (st : Nat) (hprt : prt ∉ [.regs] := by simp [*]) : view prt (ktabEnd s k st).1 = view prt s := by simp at hprt; simp [ktabEnd, *]
theorem view_ktabEnd_eq {s : State} {k : Nat} {st : Nat} {t} (h : ktabEnd s k st = t) (hprt : prt ∉ [.regs] := by simp [*]) : view prt t.1 = view prt s := by subst h; exact view_ktabEnd s k st hprt
@[simp] theorem view_kentRead (s : State) (k : Nat) (r : KtabRead) (hprt : prt ∉ [.regs, .inc, .evr] := by simp [*]) : view prt (kentRead s k r).1 = view prt s := by
  simp at hprt
  have hk : ∀ q : State × KtabRead, view prt (kentOf k q).1 = view prt q.1 := by
    intro q
    obtain ⟨u, x⟩ := q
    cases x with
    | unwritten => rfl
    | fail st => exact view_fire _ _ _ (by simp [*])
    | entry b =>
      dsimp only [kentOf]
      split
      · rfl
      · exact view_fire _ _ _ (by simp [*])
  exact (hk _).trans (view_serviceRead _ _ _ _ (by simp [*]))
theorem view_kentRead_eq {s : State} {k : Nat} {r : KtabRead} {t} (h : kentRead s k r = t) (hprt : prt ∉ [.regs, .inc, .evr] := by simp [*]) : view prt t.1 = view prt s := by subst h; exact view_kentRead s k r hprt
@[simp] theorem view_ktabWrite (s : State) (k : Nat) (x : Kent) (hprt : prt ∉ [.out] := by simp [*]) : view prt (ktabWrite s k x) = view prt s := by simp at hprt; simp [ktabWrite, *]
@[simp] theorem view_refreshSlots (s : State) (hprt : prt ∉ [.regs] := by simp [*]) : view prt (refreshSlots s) = view prt s := by simp at hprt; simp [refreshSlots, *]
@[simp] theorem view_dropSlot (s : State) (n : Nat) (hprt : prt ∉ [.regs, .kvt] := by simp [*]) : view prt (dropSlot s n) = view prt s := by simp at hprt; simp [dropSlot, *]
@[simp] theorem view_putSlot (s : State) (n : Nat) (x : Slot) (hprt : prt ∉ [.regs, .kvt] := by simp [*]) : view prt (putSlot s n x) = view prt s := by simp at hprt; simp [putSlot, *]
@[simp] theorem view_maskKey (s : State) (k : Bytes) (hprt : prt ∉ [.free] := by simp [*]) : view prt (maskKey s k).2 = view prt s := by simp at hprt; simp [maskKey, *]
theorem view_maskKey_eq {s : State} {k : Bytes} {t} (h : maskKey s k = t) (hprt : prt ∉ [.free] := by simp [*]) : view prt t.2 = view prt s := by subst h; exact view_maskKey s k hprt
@[simp] theorem view_makeBank (s : State) (dk : Bytes) (k : Nat) (ep : Nat) (step : Nat) (hprt : prt ∉ [.free] := by simp [*]) : view prt (makeBank s dk k ep step).2 = view prt s := by simp at hprt; simp [makeBank, *]
theorem view_makeBank_eq {s : State} {dk : Bytes} {k : Nat} {ep : Nat} {step : Nat} {t} (h : makeBank s dk k ep step = t) (hprt : prt ∉ [.free] := by simp [*]) : view prt t.2 = view prt s := by subst h; exact view_makeBank s dk k ep step hprt
@[simp] theorem view_dropFmItem (s : State) (e : Nat) (hprt : prt ∉ [.spans] := by simp [*]) : view prt (dropFmItem s e) = view prt s := by simp at hprt; simp [dropFmItem, *]
@[simp] theorem view_completeHeld (s : State) (k : Nat) (st : Nat) (hprt : prt ∉ [.regs, .engs, .ttb, .spans, .hgt, .inc, .evr, .out] := by simp [*]) : view prt (completeHeld s k st) = view prt s := by simp at hprt; (unfold completeHeld; (try simp only []); repeat' (first | (simp [*]; done) | split | (refine (view_foldl _ _ _ ?_).trans ?_) | (refine (view_foldl_fst _ _ _ ?_).trans ?_) | (refine (view_foldl_snd _ _ _ ?_).trans ?_) | (intro _ _) | (intro _) | (simp [*])))
@[simp] theorem view_discardFills (s : State) (k : Nat) (hprt : prt ∉ [.ctc] := by simp [*]) : view prt (discardFills s k) = view prt s := by simp at hprt; simp [discardFills, *]
@[simp] theorem view_loadInto (s : State) (l : Load) (n : Nat) (hprt : prt ∉ [.regs, .kvt] := by simp [*]) : view prt (loadInto s l n) = view prt s := by simp at hprt; simp [loadInto, *]
@[simp] theorem view_tryLoad (s : State) (l : Load) (hprt : prt ∉ [.regs, .kvt, .anchor, .ctc, .engs, .inc, .evr, .out] := by simp [*]) : view prt (tryLoad s l) = view prt s := by simp at hprt; (unfold tryLoad; (try simp only []); repeat' (first | (simp [*]; done) | split | (refine (view_foldl _ _ _ ?_).trans ?_) | (refine (view_foldl_fst _ _ _ ?_).trans ?_) | (refine (view_foldl_snd _ _ _ ?_).trans ?_) | (intro _ _) | (intro _) | (simp [*])))
@[simp] theorem view_serveLoads (s : State) (hprt : prt ∉ [.regs, .kvt, .anchor, .ctc, .engs, .inc, .evr, .out] := by simp [*]) : view prt (serveLoads s) = view prt s := by simp at hprt; simp [serveLoads, *]
@[simp] theorem view_startLoad (s : State) (l : Load) (hprt : prt ∉ [.regs, .kvt, .anchor, .ctc, .engs, .inc, .evr, .out] := by simp [*]) : view prt (startLoad s l) = view prt s := by simp at hprt; (unfold startLoad; (try simp only []); repeat' (first | (simp [*]; done) | split | (refine (view_foldl _ _ _ ?_).trans ?_) | (refine (view_foldl_fst _ _ _ ?_).trans ?_) | (refine (view_foldl_snd _ _ _ ?_).trans ?_) | (intro _ _) | (intro _) | (simp [*])))
@[simp] theorem view_spanKeyFail (s : State) (k : Nat) (st : Nat) (hprt : prt ∉ [.spans] := by simp [*]) : view prt (spanKeyFail s k st) = view prt s := by simp at hprt; simp [spanKeyFail, *]
@[simp] theorem view_endHeld (s : State) (k : Nat) (st : Nat) (hprt : prt ∉ [.regs, .ctc, .engs, .ttb, .spans, .hgt, .cce, .inc, .evr, .out] := by simp [*]) : view prt (endHeld s k st) = view prt s := by simp at hprt; simp [endHeld, *]
@[simp] theorem view_keyMiss (s : State) (k : Nat) (inst : Option Nat) (hprt : prt ∉ [.regs, .kvt, .anchor, .ctc, .engs, .ttb, .spans, .hgt, .cce, .inc, .evr, .out] := by simp [*]) : view prt (keyMiss s k inst) = view prt s := by simp at hprt; (unfold keyMiss; (try simp only []); repeat' (first | (simp [*]; done) | split | (refine (view_foldl _ _ _ ?_).trans ?_) | (refine (view_foldl_fst _ _ _ ?_).trans ?_) | (refine (view_foldl_snd _ _ _ ?_).trans ?_) | (intro _ _) | (intro _) | (simp [*])))
@[simp] theorem view_loadEnds (s : State) (k : Nat) (st : Nat) (hprt : prt ∉ [.regs, .kvt, .anchor, .ctc, .engs, .ttb, .spans, .hgt, .cce, .inc, .evr, .out] := by simp [*]) : view prt (loadEnds s k st) = view prt s := by simp at hprt; (unfold loadEnds; (try simp only []); repeat' (first | (simp [*]; done) | split | (refine (view_foldl _ _ _ ?_).trans ?_) | (refine (view_foldl_fst _ _ _ ?_).trans ?_) | (refine (view_foldl_snd _ _ _ ?_).trans ?_) | (intro _ _) | (intro _) | (simp [*])))
@[simp] theorem view_keyParity (s : State) (k : Nat) (hprt : prt ∉ [.regs, .kvt, .anchor, .ctc, .engs, .inc, .evr, .out] := by simp [*]) : view prt (keyParity s k) = view prt s := by simp at hprt; (unfold keyParity; (try simp only []); repeat' (first | (simp [*]; done) | split | (refine (view_foldl _ _ _ ?_).trans ?_) | (refine (view_foldl_fst _ _ _ ?_).trans ?_) | (refine (view_foldl_snd _ _ _ ?_).trans ?_) | (intro _ _) | (intro _) | (simp [*])))
@[simp] theorem view_setPkc (s : State) (l : List PairKey) (hprt : prt ∉ [.regs, .kvt] := by simp [*]) : view prt (setPkc s l) = view prt s := by simp at hprt; simp [setPkc, *]
@[simp] theorem view_refreshEpochs (s : State) (hprt : prt ∉ [.regs] := by simp [*]) : view prt (refreshEpochs s) = view prt s := by simp at hprt; simp [refreshEpochs, *]
@[simp] theorem view_setEpochKey (s : State) (p : Nat) (x : Option EpochKey) (hprt : prt ∉ [.regs, .kvt] := by simp [*]) : view prt (setEpochKey s p x) = view prt s := by simp at hprt; simp [setEpochKey, *]
@[simp] theorem view_eraseEpoch (s : State) (p : Nat) (hprt : prt ∉ [.regs, .kvt] := by simp [*]) : view prt (eraseEpoch s p) = view prt s := by simp at hprt; simp [eraseEpoch, *]
@[simp] theorem view_pairKey (s : State) (p : Nat) (a : Nat) (b : Nat) (hprt : prt ∉ [.regs, .kvt] := by simp [*]) : view prt (pairKey s p a b).2 = view prt s := by simp at hprt; (unfold pairKey; (try simp only []); repeat' (first | (simp [*]; done) | split | (refine (view_foldl _ _ _ ?_).trans ?_) | (refine (view_foldl_fst _ _ _ ?_).trans ?_) | (refine (view_foldl_snd _ _ _ ?_).trans ?_) | (intro _ _) | (intro _) | (simp [*])))
theorem view_pairKey_eq {s : State} {p : Nat} {a : Nat} {b : Nat} {t} (h : pairKey s p a b = t) (hprt : prt ∉ [.regs, .kvt] := by simp [*]) : view prt t.2 = view prt s := by subst h; exact view_pairKey s p a b hprt
@[simp] theorem view_deriveDkek (s : State) (hprt : prt ∉ [.kvt, .free] := by simp [*]) : view prt (deriveDkek s) = view prt s := by simp at hprt; (unfold deriveDkek; (try simp only []); repeat' (first | (simp [*]; done) | ((try have h_maskKey := view_maskKey_eq (prt := prt) ‹maskKey _ _ = _›); simp [*]; done) | ((try have h_maskKey := view_maskKey_eq (prt := prt) ‹maskKey _ _ = _›); simp [*]; done) | split | (refine (view_foldl _ _ _ ?_).trans ?_) | (refine (view_foldl_fst _ _ _ ?_).trans ?_) | (refine (view_foldl_snd _ _ _ ?_).trans ?_) | (intro _ _) | (intro _) | (have h_ := view_maskKey_eq (prt := prt) ‹maskKey _ _ = _›; refine Eq.trans h_ ?_; clear h_) | (simp [*])))
@[simp] theorem view_fillInternal (s : State) (hprt : prt ∉ [.kvt, .free] := by simp [*]) : view prt (fillInternal s) = view prt s := by simp at hprt; (unfold fillInternal; (try simp only []); repeat' (first | (simp [*]; done) | ((try have h_maskKey := view_maskKey_eq (prt := prt) ‹maskKey _ _ = _›); simp [*]; done) | ((try have h_maskKey := view_maskKey_eq (prt := prt) ‹maskKey _ _ = _›); simp [*]; done) | split | (refine (view_foldl _ _ _ ?_).trans ?_) | (refine (view_foldl_fst _ _ _ ?_).trans ?_) | (refine (view_foldl_snd _ _ _ ?_).trans ?_) | (intro _ _) | (intro _) | (have h_ := view_maskKey_eq (prt := prt) ‹maskKey _ _ = _›; refine Eq.trans h_ ?_; clear h_) | (simp [*])))
@[simp] theorem view_touchSlot (s : State) (k : Nat) (hprt : prt ∉ [.kvt, .free] := by simp [*]) : view prt (touchSlot s k) = view prt s := by simp at hprt; (unfold touchSlot; (try simp only []); repeat' (first | (simp [*]; done) | split | (refine (view_foldl _ _ _ ?_).trans ?_) | (refine (view_foldl_fst _ _ _ ?_).trans ?_) | (refine (view_foldl_snd _ _ _ ?_).trans ?_) | (intro _ _) | (intro _) | (simp [*])))
@[simp] theorem view_kvtView (s : State) (hprt : prt ∉ [.regs, .kvt] := by simp [*]) : view prt (kvtView s) = view prt s := by simp at hprt; simp [kvtView, *]
@[simp] theorem view_endRetirements (s : State) (st : Nat) (hprt : prt ∉ [.regs, .kvt, .inc, .evr] := by simp [*]) : view prt (endRetirements s st) = view prt s := by simp at hprt; (unfold endRetirements; (try simp only []); repeat' (first | (simp [*]; done) | split | (refine (view_foldl _ _ _ ?_).trans ?_) | (refine (view_foldl_fst _ _ _ ?_).trans ?_) | (refine (view_foldl_snd _ _ _ ?_).trans ?_) | (intro _ _) | (intro _) | (simp [*])))
@[simp] theorem view_endKvtWork (s : State) (st : Nat) (hprt : prt ∉ [.regs, .kvt, .anchor, .ctc, .engs, .ttb, .spans, .hgt, .cce, .inc, .evr, .out] := by simp [*]) : view prt (endKvtWork s st) = view prt s := by simp at hprt; (unfold endKvtWork; (try simp only []); repeat' (first | (simp [*]; done) | split | (refine (view_foldl _ _ _ ?_).trans ?_) | (refine (view_foldl_fst _ _ _ ?_).trans ?_) | (refine (view_foldl_snd _ _ _ ?_).trans ?_) | (intro _ _) | (intro _) | (simp [*])))
@[simp] theorem view_eraseVolatile (s : State) (hprt : prt ∉ [.regs, .kvt] := by simp [*]) : view prt (eraseVolatile s) = view prt s := by simp at hprt; simp [eraseVolatile, *]
@[simp] theorem view_eraseRoot (s : State) (hprt : prt ∉ [.regs, .kvt] := by simp [*]) : view prt (eraseRoot s) = view prt s := by simp at hprt; simp [eraseRoot, *]
@[simp] theorem view_kvtZeroise (s : State) (hprt : prt ∉ [.regs, .kvt, .anchor, .ctc, .engs, .ttb, .spans, .hgt, .cce, .inc, .evr, .out] := by simp [*]) : view prt (kvtZeroise s) = view prt s := by simp at hprt; simp [kvtZeroise, *]
@[simp] theorem view_kvtL2 (s : State) (hprt : prt ∉ [.regs, .kvt, .anchor, .ctc, .engs, .ttb, .spans, .hgt, .cce, .inc, .evr, .out] := by simp [*]) : view prt (kvtL2 s) = view prt s := by simp at hprt; simp [kvtL2, *]
@[simp] theorem view_kvtPowerLoss (s : State) (hprt : prt ∉ [.regs, .kvt, .anchor, .ctc, .engs, .ttb, .spans, .hgt, .cce, .inc, .evr, .out] := by simp [*]) : view prt (kvtPowerLoss s) = view prt s := by simp at hprt; simp [kvtPowerLoss, *]

@[simp] theorem view_setTrs (s : State) (x : Trs) (hprt : prt ∉ [.trs] := by simp [*]) : view prt (setTrs s x) = view prt s := by simp at hprt; simp [setTrs, *]
@[simp] theorem view_trsRefresh (s : State) (hprt : prt ∉ [.regs] := by simp [*]) : view prt (trsRefresh s) = view prt s := by simp at hprt; simp [trsRefresh, *]
@[simp] theorem view_ctComplete (s : State) (handle : Nat) (st : Nat) (hprt : prt ∉ [.out] := by simp [*]) : view prt (ctComplete s handle st) = view prt s := by simp at hprt; simp [ctComplete, *]
@[simp] theorem view_ctAnswer (s : State) (hold : Bool) (handle : Nat) (st : Nat) (hprt : prt ∉ [.trs, .out] := by simp [*]) : view prt (ctAnswer s hold handle st) = view prt s := by simp at hprt; simp [ctAnswer, *]
@[simp] theorem view_ctPresent (s : State) (hprt : prt ∉ [.trs, .out] := by simp [*]) : view prt (ctPresent s) = view prt s := by simp at hprt; simp [ctPresent, *]
@[simp] theorem view_trsDrop (s : State) (c : Chunk) (hprt : prt ∉ [.regs, .trs] := by simp [*]) : view prt (trsDrop s c) = view prt s := by simp at hprt; simp [trsDrop, *]
@[simp] theorem view_trsEnd (s : State) (hold : Bool) (c : Chunk) (st : Nat) (hprt : prt ∉ [.regs, .trs, .out] := by simp [*]) : view prt (trsEnd s hold c st) = view prt s := by simp at hprt; simp [trsEnd, *]
@[simp] theorem view_trsEndWhere (s : State) (hold : Bool) (st : Nat) (p : Chunk → Bool) (hprt : prt ∉ [.regs, .trs, .out] := by simp [*]) : view prt (trsEndWhere s hold st p) = view prt s := by simp at hprt; simp [trsEndWhere, *]
@[simp] theorem view_trsGone (s : State) (i : Nat) (hprt : prt ∉ [.regs, .trs] := by simp [*]) : view prt (trsGone s i) = view prt s := by simp at hprt; simp [trsGone, *]
@[simp] theorem view_trsDescEnd (s : State) (hold : Bool) (st : Nat) (hprt : prt ∉ [.regs, .trs, .out] := by simp [*]) : view prt (trsDescEnd s hold st) = view prt s := by simp at hprt; (unfold trsDescEnd; (try simp only []); repeat' (first | (simp [*]; done) | split | (refine (view_foldl _ _ _ ?_).trans ?_) | (refine (view_foldl_fst _ _ _ ?_).trans ?_) | (refine (view_foldl_snd _ _ _ ?_).trans ?_) | (intro _ _) | (intro _) | (simp [*])))
@[simp] theorem view_trsReset (s : State) (level : Nat) (hprt : prt ∉ [.regs, .trs, .out] := by simp [*]) : view prt (trsReset s level) = view prt s := by simp at hprt; simp [trsReset, *]
@[simp] theorem view_trsZeroise (s : State) (hprt : prt ∉ [.regs, .trs, .out] := by simp [*]) : view prt (trsZeroise s) = view prt s := by simp at hprt; simp [trsZeroise, *]

@[simp] theorem view_setImu (s : State) (x : Imu) (hprt : prt ∉ [.imu] := by simp [*]) : view prt (setImu s x) = view prt s := by simp at hprt; simp [setImu, *]
@[simp] theorem view_setInst (s : State) (i : Nat) (x : InstRec) (hprt : prt ∉ [.imu] := by simp [*]) : view prt (setInst s i x) = view prt s := by simp at hprt; simp [setInst, *]
@[simp] theorem view_imuRefresh (s : State) (hprt : prt ∉ [.regs] := by simp [*]) : view prt (imuRefresh s) = view prt s := by simp at hprt; simp [imuRefresh, *]
@[simp] theorem view_setInstSt (s : State) (i : Nat) (st : InstSt) (hprt : prt ∉ [.regs, .epochs, .imu] := by simp [*]) : view prt (setInstSt s i st) = view prt s := by simp at hprt; simp [setInstSt, *]
@[simp] theorem view_waitEnd (s : State) (i : Nat) (slot : Nat) (st : Nat) (hprt : prt ∉ [.regs, .imu, .inc] := by simp [*]) : view prt (waitEnd s i slot st) = view prt s := by simp at hprt; simp [waitEnd, *]
@[simp] theorem view_waitClear (s : State) (i : Nat) (hprt : prt ∉ [.regs, .imu] := by simp [*]) : view prt (waitClear s i) = view prt s := by simp at hprt; simp [waitClear, *]
@[simp] theorem view_watchCommit (s : State) (a : Nat) (b : Bytes) (hprt : prt ∉ [.regs, .imu, .inc] := by simp [*]) : view prt (watchCommit s a b) = view prt s := by simp at hprt; simp [watchCommit, *]
@[simp] theorem view_waitsAbort (s : State) (obj : Nat) (hprt : prt ∉ [.regs, .imu, .inc] := by simp [*]) : view prt (waitsAbort s obj) = view prt s := by simp at hprt; simp [waitsAbort, *]
@[simp] theorem view_setObj (s : State) (i : Nat) (slot : Nat) (o : Obj) (hprt : prt ∉ [.imu] := by simp [*]) : view prt (setObj s i slot o) = view prt s := by simp at hprt; simp [setObj, *]
@[simp] theorem view_loseContext (s : State) (i : Nat) (c : Nat) (hprt : prt ∉ [.regs, .trs, .cce, .imu, .inc, .evr, .out] := by simp [*]) : view prt (loseContext s i c) = view prt s := by simp at hprt; simp [loseContext, *]
@[simp] theorem view_clearLost (s : State) (i : Nat) (hprt : prt ∉ [.regs, .imu] := by simp [*]) : view prt (clearLost s i) = view prt s := by simp at hprt; simp [clearLost, *]
@[simp] theorem view_retireUnits (s : State) (k : Nat) (hprt : prt ∉ [.regs, .trs, .hgt, .cce, .out] := by simp [*]) : view prt (retireUnits s k) = view prt s := by simp at hprt; simp [retireUnits, *]
@[simp] theorem view_retireCommit (s : State) (k : Nat) (hprt : prt ∉ [.regs, .kvt, .anchor, .ctc, .engs, .ttb, .spans, .trs, .hgt, .cce, .inc, .evr, .out] := by simp [*]) : view prt (retireCommit s k) = view prt s := by simp at hprt; (unfold retireCommit; (try simp only []); repeat' (first | (simp [*]; done) | split | (refine (view_foldl _ _ _ ?_).trans ?_) | (refine (view_foldl_fst _ _ _ ?_).trans ?_) | (refine (view_foldl_snd _ _ _ ?_).trans ?_) | (intro _ _) | (intro _) | (simp [*])))
@[simp] theorem view_freeRemote (s : State) (i : Nat) (hprt : prt ∉ [.regs, .ttb, .spans] := by simp [*]) : view prt (freeRemote s i) = view prt s := by simp at hprt; (unfold freeRemote; (try simp only []); repeat' (first | (simp [*]; done) | split | (refine (view_foldl _ _ _ ?_).trans ?_) | (refine (view_foldl_fst _ _ _ ?_).trans ?_) | (refine (view_foldl_snd _ _ _ ?_).trans ?_) | (intro _ _) | (intro _) | (simp [*])))
@[simp] theorem view_freeFlags (s : State) (i : Nat) (hprt : prt ∉ [.regs, .ttb] := by simp [*]) : view prt (freeFlags s i) = view prt s := by simp at hprt; simp [freeFlags, *]
@[simp] theorem view_genCommit (s : State) (i : Nat) (hprt : prt ∉ [.regs, .ttb, .spans, .trs, .hgt, .cce, .imu] := by simp [*]) : view prt (genCommit s i) = view prt s := by simp at hprt; simp [genCommit, *]
@[simp] theorem view_mapSeq (s : State) (i : Nat) (f : InstSeq → InstSeq) (hprt : prt ∉ [.imu] := by simp [*]) : view prt (mapSeq s i f) = view prt s := by simp at hprt; simp [mapSeq, *]
@[simp] theorem view_nextKey (s : State) (i : Nat) (a2 : List Nat) (hprt : prt ∉ [.regs, .kvt, .anchor, .ctc, .engs, .ttb, .spans, .trs, .hgt, .cce, .imu, .inc, .evr, .out] := by simp [*]) : view prt (nextKey s i a2) = view prt s := by simp at hprt; fun_induction nextKey s i a2 <;> simp_all
@[simp] theorem view_unbindAll (s : State) (i : Nat) (hprt : prt ∉ [.imu] := by simp [*]) : view prt (unbindAll s i).1 = view prt s := by simp at hprt; (unfold unbindAll; (try simp only []); repeat' (first | (simp [*]; done) | split | (refine (view_foldl _ _ _ ?_).trans ?_) | (refine (view_foldl_fst _ _ _ ?_).trans ?_) | (refine (view_foldl_snd _ _ _ ?_).trans ?_) | (intro _ _) | (intro _) | (simp [*])))
theorem view_unbindAll_eq {s : State} {i : Nat} {t} (h : unbindAll s i = t) (hprt : prt ∉ [.imu] := by simp [*]) : view prt t.1 = view prt s := by subst h; exact view_unbindAll s i hprt
@[simp] theorem view_scDrive (s : State) (tag : Nat) (r : ScRange) (hprt : prt ∉ [.out] := by simp [*]) : view prt (scDrive s tag r) = view prt s := by simp at hprt; simp [scDrive, *]
@[simp] theorem view_scIssue (s : State) (i : Nat) (hprt : prt ∉ [.imu, .out] := by simp [*]) : view prt (scIssue s i) = view prt s := by simp at hprt; (unfold scIssue; (try simp only []); repeat' (first | (simp [*]; done) | split | (refine (view_foldl _ _ _ ?_).trans ?_) | (refine (view_foldl_fst _ _ _ ?_).trans ?_) | (refine (view_foldl_snd _ _ _ ?_).trans ?_) | (intro _ _) | (intro _) | (simp [*])))
@[simp] theorem view_recordInstance (s : State) (i : Nat) (cmd : Nat) (st : Nat) (hprt : prt ∉ [.regs, .inc, .evr] := by simp [*]) : view prt (recordInstance s i cmd st) = view prt s := by simp at hprt; simp [recordInstance, *]
@[simp] theorem view_switchFinish (s : State) (i : Nat) (hprt : prt ∉ [.regs, .epochs, .imu, .inc, .evr] := by simp [*]) : view prt (switchFinish s i) = view prt s := by simp at hprt; (unfold switchFinish; (try simp only []); repeat' (first | (simp [*]; done) | split | (refine (view_foldl _ _ _ ?_).trans ?_) | (refine (view_foldl_fst _ _ _ ?_).trans ?_) | (refine (view_foldl_snd _ _ _ ?_).trans ?_) | (intro _ _) | (intro _) | (simp [*])))
@[simp] theorem view_drainDone (s : State) (i : Nat) (hprt : prt ∉ [.regs, .epochs, .kvt, .anchor, .ctc, .engs, .ttb, .spans, .trs, .hgt, .cce, .imu, .inc, .evr, .out] := by simp [*]) : view prt (drainDone s i) = view prt s := by simp at hprt; (unfold drainDone; (try simp only []); repeat' (first | (simp [*]; done) | ((try have h_unbindAll := view_unbindAll_eq (prt := prt) ‹unbindAll _ _ = _›); simp [*]; done) | ((try have h_unbindAll := view_unbindAll_eq (prt := prt) ‹unbindAll _ _ = _›); simp [*]; done) | split | (refine (view_foldl _ _ _ ?_).trans ?_) | (refine (view_foldl_fst _ _ _ ?_).trans ?_) | (refine (view_foldl_snd _ _ _ ?_).trans ?_) | (intro _ _) | (intro _) | (have h_ := view_unbindAll_eq (prt := prt) ‹unbindAll _ _ = _›; refine Eq.trans h_ ?_; clear h_) | (simp [*])))
@[simp] theorem view_imuRetired (s : State) (k : Nat) (st : Nat) (hprt : prt ∉ [.regs, .epochs, .kvt, .anchor, .ctc, .engs, .ttb, .spans, .trs, .hgt, .cce, .imu, .inc, .evr, .out] := by simp [*]) : view prt (imuRetired s k st) = view prt s := by simp at hprt; (unfold imuRetired; (try simp only []); repeat' (first | (simp [*]; done) | split | (refine (view_foldl _ _ _ ?_).trans ?_) | (refine (view_foldl_fst _ _ _ ?_).trans ?_) | (refine (view_foldl_snd _ _ _ ?_).trans ?_) | (intro _ _) | (intro _) | (simp [*])))

@[simp] theorem view_doeSay (s : State) (sid : Nat) (code : Nat) (st : Nat) (b : Bytes) (hprt : prt ∉ [.out] := by simp [*]) : view prt (doeSay s sid code st b) = view prt s := by simp at hprt; simp [doeSay, *]
@[simp] theorem view_setAtt (s : State) (x : Att) (hprt : prt ∉ [.att] := by simp [*]) : view prt (setAtt s x) = view prt s := by simp at hprt; simp [setAtt, *]
@[simp] theorem view_sessionEnd (s : State) (sid : Nat) (hprt : prt ∉ [.regs, .hgt, .att] := by simp [*]) : view prt (sessionEnd s sid) = view prt s := by simp at hprt; (unfold sessionEnd; (try simp only []); repeat' (first | (simp [*]; done) | split | (refine (view_foldl _ _ _ ?_).trans ?_) | (refine (view_foldl_fst _ _ _ ?_).trans ?_) | (refine (view_foldl_snd _ _ _ ?_).trans ?_) | (intro _ _) | (intro _) | (simp [*])))
@[simp] theorem view_sessionsEnd (s : State) (hprt : prt ∉ [.regs, .hgt, .att, .out] := by simp [*]) : view prt (sessionsEnd s) = view prt s := by simp at hprt; simp [sessionsEnd, *]
@[simp] theorem view_attReset (s : State) (hprt : prt ∉ [.regs, .hgt, .att, .out] := by simp [*]) : view prt (attReset s) = view prt s := by simp at hprt; simp [attReset, *]

@[simp] theorem view_pinLines (s : State) (e : Nat) (q : Req) (up : Bool) (hprt : prt ∉ [.ctc] := by simp [*]) : view prt (pinLines s e q up) = view prt s := by simp at hprt; simp [pinLines, *]
@[simp] theorem view_refreshEng (s : State) (e : Nat) (hprt : prt ∉ [.regs] := by simp [*]) : view prt (refreshEng s e) = view prt s := by simp at hprt; simp [refreshEng, *]
@[simp] theorem view_putSlotAdm (s : State) (e : Nat) (n : Nat) (a : Adm) (hprt : prt ∉ [.regs, .engs] := by simp [*]) : view prt (putSlotAdm s e n a) = view prt s := by simp at hprt; simp [putSlotAdm, *]
@[simp] theorem view_freeSlot (s : State) (e : Nat) (n : Nat) (hprt : prt ∉ [.regs, .ctc, .engs] := by simp [*]) : view prt (freeSlot s e n) = view prt s := by simp at hprt; (unfold freeSlot; (try simp only []); repeat' (first | (simp [*]; done) | split | (refine (view_foldl _ _ _ ?_).trans ?_) | (refine (view_foldl_fst _ _ _ ?_).trans ?_) | (refine (view_foldl_snd _ _ _ ?_).trans ?_) | (intro _ _) | (intro _) | (simp [*])))
@[simp] theorem view_answer (s : State) (e : Nat) (a : Adm) (st : Nat) (desc : List (Nat × Nat × Bytes)) (data : Bytes) (hprt : prt ∉ [.regs, .ttb, .spans, .hgt, .inc, .evr, .out] := by simp [*]) : view prt (answer s e a st desc data) = view prt s := by simp at hprt; simp [answer, *]
@[simp] theorem view_finishSlot (s : State) (e : Nat) (n : Nat) (st : Nat) (desc : List (Nat × Nat × Bytes)) (data : Bytes) (hprt : prt ∉ [.regs, .ctc, .engs, .ttb, .spans, .hgt, .inc, .evr, .out] := by simp [*]) : view prt (finishSlot s e n st desc data) = view prt s := by simp at hprt; (unfold finishSlot; (try simp only []); repeat' (first | (simp [*]; done) | split | (refine (view_foldl _ _ _ ?_).trans ?_) | (refine (view_foldl_fst _ _ _ ?_).trans ?_) | (refine (view_foldl_snd _ _ _ ?_).trans ?_) | (intro _ _) | (intro _) | (simp [*])))

@[simp] theorem view_refreshSpan (s : State) (n : Nat) (hprt : prt ∉ [.regs] := by simp [*]) : view prt (refreshSpan s n) = view prt s := by simp at hprt; simp [refreshSpan, *]
@[simp] theorem view_completeOut (s : State) (n : Nat) (idx : Nat) (st : Nat) (data : Bytes) (hprt : prt ∉ [.regs, .ttb, .spans, .hgt, .inc, .evr, .out] := by simp [*]) : view prt (completeOut s n idx st data) = view prt s := by simp at hprt; (unfold completeOut; (try simp only []); repeat' (first | (simp [*]; done) | split | (refine (view_foldl _ _ _ ?_).trans ?_) | (refine (view_foldl_fst _ _ _ ?_).trans ?_) | (refine (view_foldl_snd _ _ _ ?_).trans ?_) | (intro _ _) | (intro _) | (simp [*])))
@[simp] theorem view_completeWhere (s : State) (n : Nat) (st : Nat) (p : OutReq → Bool) (hprt : prt ∉ [.regs, .ttb, .spans, .hgt, .inc, .evr, .out] := by simp [*]) : view prt (completeWhere s n st p) = view prt s := by simp at hprt; simp [completeWhere, *]
@[simp] theorem view_setPeer (s : State) (n : Nat) (id : Nat) (x : Peer) (hprt : prt ∉ [.spans] := by simp [*]) : view prt (setPeer s n id x) = view prt s := by simp at hprt; simp [setPeer, *]
@[simp] theorem view_emitNr (s : State) (n : Nat) (x : NiItem) (st : Nat) (hprt : prt ∉ [.out] := by simp [*]) : view prt (emitNr s n x st) = view prt s := by simp at hprt; simp [emitNr, *]
@[simp] theorem view_niReturn (s : State) (n : Nat) (x : NiItem) (st : Nat) (hprt : prt ∉ [.regs, .ttb, .out] := by simp [*]) : view prt (niReturn s n x st) = view prt s := by simp at hprt; (unfold niReturn; (try simp only []); repeat' (first | (simp [*]; done) | split | (refine (view_foldl _ _ _ ?_).trans ?_) | (refine (view_foldl_fst _ _ _ ?_).trans ?_) | (refine (view_foldl_snd _ _ _ ?_).trans ?_) | (intro _ _) | (intro _) | (simp [*])))
@[simp] theorem view_gaugeDrive (s : State) (n : Nat) (g : Nat) (hprt : prt ∉ [.spans, .out] := by simp [*]) : view prt (gaugeDrive s n g) = view prt s := by simp at hprt; simp [gaugeDrive, *]
@[simp] theorem view_gaugeAsk (s : State) (n : Nat) (g : Nat) (hprt : prt ∉ [.spans, .out] := by simp [*]) : view prt (gaugeAsk s n g) = view prt s := by simp at hprt; simp [gaugeAsk, *]
@[simp] theorem view_gaugeOverride (s : State) (n : Nat) (kind : Nat) (on : Bool) (hprt : prt ∉ [.regs, .inc, .evr] := by simp [*]) : view prt (gaugeOverride s n kind on) = view prt s := by simp at hprt; simp [gaugeOverride, *]
@[simp] theorem view_peerState (s : State) (n : Nat) (id : Nat) (st : Nat) (hprt : prt ∉ [.regs, .spans, .inc, .evr] := by simp [*]) : view prt (peerState s n id st) = view prt s := by simp at hprt; simp [peerState, *]
@[simp] theorem view_putChunk (s : State) (c : Chunk) (hprt : prt ∉ [.trs] := by simp [*]) : view prt (putChunk s c) = view prt s := by simp at hprt; simp [putChunk, *]
@[simp] theorem view_trsWithdraw (s : State) (f : Staged) (hprt : prt ∉ [.trs] := by simp [*]) : view prt (trsWithdraw s f) = view prt s := by simp at hprt; (unfold trsWithdraw; (try simp only []); repeat' (first | (simp [*]; done) | split | (refine (view_foldl _ _ _ ?_).trans ?_) | (refine (view_foldl_fst _ _ _ ?_).trans ?_) | (refine (view_foldl_snd _ _ _ ?_).trans ?_) | (intro _ _) | (intro _) | (simp [*])))

@[simp] theorem view_dropReseal (s : State) (e : Nat) (hprt : prt ∉ [.regs, .ctc, .engs] := by simp [*]) : view prt (dropReseal s e) = view prt s := by simp at hprt; (unfold dropReseal; (try simp only []); repeat' (first | (simp [*]; done) | split | (refine (view_foldl _ _ _ ?_).trans ?_) | (refine (view_foldl_fst _ _ _ ?_).trans ?_) | (refine (view_foldl_snd _ _ _ ?_).trans ?_) | (intro _ _) | (intro _) | (simp [*])))
@[simp] theorem view_endSlots (s : State) (e : Nat) (st : Nat) (p : Adm → Bool) (hprt : prt ∉ [.regs, .ctc, .engs, .ttb, .spans, .hgt, .inc, .evr, .out] := by simp [*]) : view prt (endSlots s e st p) = view prt s := by simp at hprt; simp [endSlots, *]
@[simp] theorem view_dropTxs (s : State) (e : Nat) (acks : Bool) (keep : Bool) (hprt : prt ∉ [.ctc, .engs] := by simp [*]) : view prt (dropTxs s e acks keep) = view prt s := by simp at hprt; simp [dropTxs, *]
@[simp] theorem view_goneReq (e : Nat) (s : State) (q : Req) (hprt : prt ∉ [.regs, .ttb, .spans, .hgt, .inc, .evr, .out] := by simp [*]) : view prt (goneReq e s q) = view prt s := by simp at hprt; simp [goneReq, *]
@[simp] theorem view_endWaiting (s : State) (e : Nat) (hprt : prt ∉ [.regs, .engs, .ttb, .spans, .hgt, .inc, .evr, .out] := by simp [*]) : view prt (endWaiting s e) = view prt s := by simp at hprt; (unfold endWaiting; (try simp only []); repeat' (first | (simp [*]; done) | split | (refine (view_foldl _ _ _ ?_).trans ?_) | (refine (view_foldl_fst _ _ _ ?_).trans ?_) | (refine (view_foldl_snd _ _ _ ?_).trans ?_) | (intro _ _) | (intro _) | (simp [*])))
@[simp] theorem view_engReset (s : State) (e : Nat) (level : Nat) (hprt : prt ∉ [.regs, .ctc, .engs, .ttb, .spans, .hgt, .inc, .evr, .out] := by simp [*]) : view prt (engReset s e level) = view prt s := by simp at hprt; simp [engReset, *]
@[simp] theorem view_bankGroupOff (s : State) (g : Nat) (hprt : prt ∉ [.regs, .ctc, .coh, .inc, .evr] := by simp [*]) : view prt (bankGroupOff s g) = view prt s := by simp at hprt; simp [bankGroupOff, *]
@[simp] theorem view_ctcReset (s : State) (hprt : prt ∉ [.regs, .ctc, .engs, .ttb, .spans, .hgt, .inc, .evr, .out] := by simp [*]) : view prt (ctcReset s) = view prt s := by simp at hprt; (unfold ctcReset; (try simp only []); repeat' (first | (simp [*]; done) | split | (refine (view_foldl _ _ _ ?_).trans ?_) | (refine (view_foldl_fst _ _ _ ?_).trans ?_) | (refine (view_foldl_snd _ _ _ ?_).trans ?_) | (intro _ _) | (intro _) | (simp [*])))
@[simp] theorem view_endItem (n : Nat) (st : Nat) (s : State) (i : TxItem) (hprt : prt ∉ [.regs, .engs, .ttb, .spans, .hgt, .inc, .evr, .out] := by simp [*]) : view prt (endItem n st s i) = view prt s := by simp at hprt; (unfold endItem; (try simp only []); repeat' (first | (simp [*]; done) | split | (refine (view_foldl _ _ _ ?_).trans ?_) | (refine (view_foldl_fst _ _ _ ?_).trans ?_) | (refine (view_foldl_snd _ _ _ ?_).trans ?_) | (intro _ _) | (intro _) | (simp [*])))
@[simp] theorem view_endEgress (s : State) (n : Nat) (st : Nat) (hprt : prt ∉ [.regs, .engs, .ttb, .spans, .hgt, .inc, .evr, .out] := by simp [*]) : view prt (endEgress s n st) = view prt s := by simp at hprt; simp [endEgress, *]
@[simp] theorem view_endDispatch (s : State) (n : Nat) (st : Nat) (hprt : prt ∉ [.regs, .ttb, .spans, .out] := by simp [*]) : view prt (endDispatch s n st) = view prt s := by simp at hprt; simp [endDispatch, *]
@[simp] theorem view_endNi (s : State) (n : Nat) (st : Nat) (hprt : prt ∉ [.regs, .ttb, .spans, .out] := by simp [*]) : view prt (endNi s n st) = view prt s := by simp at hprt; simp [endNi, *]
@[simp] theorem view_endStaged (s : State) (n : Nat) (hprt : prt ∉ [.trs] := by simp [*]) : view prt (endStaged s n) = view prt s := by simp at hprt; simp [endStaged, *]
@[simp] theorem view_spanEnd (s : State) (n : Nat) (st : Nat) (hprt : prt ∉ [.regs, .kvt, .engs, .ttb, .spans, .trs, .hgt, .inc, .evr, .out] := by simp [*]) : view prt (spanEnd s n st) = view prt s := by simp at hprt; simp [spanEnd, *]
@[simp] theorem view_spanReset (s : State) (n : Nat) (level : Nat) (hprt : prt ∉ [.regs, .kvt, .engs, .ttb, .spans, .trs, .hgt, .inc, .evr, .out] := by simp [*]) : view prt (spanReset s n level) = view prt s := by simp at hprt; simp [spanReset, *]
@[simp] theorem view_mbEnd (s : State) (i : Nat) (hprt : prt ∉ [.regs, .imu, .inc] := by simp [*]) : view prt (mbEnd s i) = view prt s := by simp at hprt; (unfold mbEnd; (try simp only []); repeat' (first | (simp [*]; done) | split | (refine (view_foldl _ _ _ ?_).trans ?_) | (refine (view_foldl_fst _ _ _ ?_).trans ?_) | (refine (view_foldl_snd _ _ _ ?_).trans ?_) | (intro _ _) | (intro _) | (simp [*])))
@[simp] theorem view_sbxDrop (s : State) (hprt : prt ∉ [.regs, .sbx, .kvt, .imu, .inc, .att] := by simp [*]) : view prt (sbxDrop s) = view prt s := by simp at hprt; (unfold sbxDrop; (try simp only []); repeat' (first | (simp [*]; done) | split | (refine (view_foldl _ _ _ ?_).trans ?_) | (refine (view_foldl_fst _ _ _ ?_).trans ?_) | (refine (view_foldl_snd _ _ _ ?_).trans ?_) | (intro _ _) | (intro _) | (simp [*])))
@[simp] theorem view_sbxReset (s : State) (hprt : prt ∉ [.regs, .epochs, .held, .wrc, .sbx, .kvt, .hgt, .imu, .inc, .att, .out] := by simp [*]) : view prt (sbxReset s) = view prt s := by simp at hprt; simp [sbxReset, *]
@[simp] theorem view_seqHold (s : State) (hprt : prt ∉ [.regs, .imu, .inc] := by simp [*]) : view prt (seqHold s) = view prt s := by simp at hprt; (unfold seqHold; (try simp only []); repeat' (first | (simp [*]; done) | split | (refine (view_foldl _ _ _ ?_).trans ?_) | (refine (view_foldl_fst _ _ _ ?_).trans ?_) | (refine (view_foldl_snd _ _ _ ?_).trans ?_) | (intro _ _) | (intro _) | (simp [*])))
@[simp] theorem view_seqResume (s : State) (hprt : prt ∉ [.regs, .epochs, .kvt, .anchor, .ctc, .engs, .ttb, .spans, .trs, .hgt, .cce, .imu, .inc, .evr, .out] := by simp [*]) : view prt (seqResume s) = view prt s := by simp at hprt; (unfold seqResume; (try simp only []); repeat' (first | (simp [*]; done) | split | (refine (view_foldl _ _ _ ?_).trans ?_) | (refine (view_foldl_fst _ _ _ ?_).trans ?_) | (refine (view_foldl_snd _ _ _ ?_).trans ?_) | (intro _ _) | (intro _) | (simp [*])))
@[simp] theorem view_genAll (s : State) (hprt : prt ∉ [.regs, .ttb, .spans, .trs, .hgt, .cce, .imu] := by simp [*]) : view prt (genAll s) = view prt s := by simp at hprt; simp [genAll, *]
@[simp] theorem view_imuReset (s : State) (hprt : prt ∉ [.regs, .exps, .imu] := by simp [*]) : view prt (imuReset s) = view prt s := by simp at hprt; (unfold imuReset; (try simp only []); repeat' (first | (simp [*]; done) | split | (refine (view_foldl _ _ _ ?_).trans ?_) | (refine (view_foldl_fst _ _ _ ?_).trans ?_) | (refine (view_foldl_snd _ _ _ ?_).trans ?_) | (intro _ _) | (intro _) | (simp [*])))
@[simp] theorem view_ttbReset (s : State) (hprt : prt ∉ [.regs, .kvt, .engs, .ttb, .spans, .hgt, .imu, .inc, .evr, .out] := by simp [*]) : view prt (ttbReset s) = view prt s := by simp at hprt; (unfold ttbReset; (try simp only []); repeat' (first | (simp [*]; done) | split | (refine (view_foldl _ _ _ ?_).trans ?_) | (refine (view_foldl_fst _ _ _ ?_).trans ?_) | (refine (view_foldl_snd _ _ _ ?_).trans ?_) | (intro _ _) | (intro _) | (simp [*])))
@[simp] theorem view_incStateReset (s : State) (hprt : prt ∉ [.regs, .inc, .evr] := by simp [*]) : view prt (incStateReset s) = view prt s := by simp at hprt; simp [incStateReset, *]
@[simp] theorem view_pmuRestart (s : State) (hprt : prt ∉ [.pmu] := by simp [*]) : view prt (pmuRestart s) = view prt s := by simp at hprt; simp [pmuRestart, *]
@[simp] theorem view_flushUnit (s : State) (pg : Nat) (level : Nat) (hprt : prt ∉ [.regs, .exps, .epochs, .held, .wrc, .sbx, .ent, .kvt, .jct, .anchor, .ctc, .coh, .engs, .ttb, .spans, .maps, .trs, .hgt, .cce, .imu, .inc, .evr, .pmu, .att, .out] := by simp [*]) : view prt (flushUnit s pg level) = view prt s := by simp at hprt; simp [flushUnit, *]
@[simp] theorem view_entStart (s : State) (hprt : prt ∉ [.epochs, .ent] := by simp [*]) : view prt (entStart s) = view prt s := by simp at hprt; simp [entStart, *]
@[simp] theorem view_unitBack (s : State) (pg : Nat) (hprt : prt ∉ [.regs, .epochs, .ent, .kvt, .anchor, .ctc, .engs, .ttb, .spans, .trs, .hgt, .cce, .imu, .inc, .evr, .pmu, .out] := by simp [*]) : view prt (unitBack s pg) = view prt s := by simp at hprt; simp [unitBack, *]
@[simp] theorem view_domainReleased (s : State) (d : Nat) (hprt : prt ∉ [.regs, .epochs, .ent, .kvt, .jct, .anchor, .ctc, .engs, .ttb, .spans, .trs, .hgt, .cce, .imu, .inc, .evr, .pmu, .out] := by simp [*]) : view prt (domainReleased s d) = view prt s := by simp at hprt; simp [domainReleased, *]
@[simp] theorem view_resubmit (s : State) (pg : Nat) (items : List (Nat × Adm)) (hprt : prt ∉ [.regs, .ctc, .engs] := by simp [*]) : view prt (resubmit s pg items) = view prt s := by simp at hprt; simp [resubmit, *]
@[simp] theorem view_dryReads (s : State) (pg : Nat) (items : List (Nat × Adm)) (hprt : prt ∉ [.engs, .out] := by simp [*]) : view prt (dryReads s pg items) = view prt s := by simp at hprt; simp [dryReads, *]
@[simp] theorem view_writebackGroup (s : State) (g : Nat) (hprt : prt ∉ [.regs, .kvt, .anchor, .ctc, .engs, .inc, .evr, .out] := by simp [*]) : view prt (writebackGroup s g) = view prt s := by simp at hprt; simp [writebackGroup, *]
@[simp] theorem view_portFlush (s : State) (p : Nat) (linkFell : Bool) (hprt : prt ∉ [.regs, .ctc, .engs, .ttb, .spans, .hgt, .inc, .evr, .out] := by simp [*]) : view prt (portFlush s p linkFell) = view prt s := by simp at hprt; simp [portFlush, *]
@[simp] theorem view_endReplays (s : State) (st : Nat) (hprt : prt ∉ [.regs, .wrc, .ttb, .spans, .hgt, .inc, .evr, .out] := by simp [*]) : view prt (endReplays s st) = view prt s := by simp at hprt; (unfold endReplays; (try simp only []); repeat' (first | (simp [*]; done) | split | (refine (view_foldl _ _ _ ?_).trans ?_) | (refine (view_foldl_fst _ _ _ ?_).trans ?_) | (refine (view_foldl_snd _ _ _ ?_).trans ?_) | (intro _ _) | (intro _) | (simp [*])))
@[simp] theorem view_abortAll (s : State) (hprt : prt ∉ [.regs, .wrc, .kvt, .ctc, .engs, .ttb, .spans, .trs, .hgt, .cce, .inc, .evr, .att, .out] := by simp [*]) : view prt (abortAll s) = view prt s := by simp at hprt; simp [abortAll, *]
@[simp] theorem view_eraseKeys (s : State) (hprt : prt ∉ [.regs, .kvt, .anchor, .ctc, .engs, .ttb, .spans, .hgt, .cce, .inc, .evr, .out] := by simp [*]) : view prt (eraseKeys s) = view prt s := by simp at hprt; simp [eraseKeys, *]
@[simp] theorem view_zeroiseKvt (s : State) (hprt : prt ∉ [.regs, .kvt, .anchor, .ctc, .engs, .ttb, .spans, .hgt, .cce, .inc, .evr, .out] := by simp [*]) : view prt (zeroiseKvt s) = view prt s := by simp at hprt; simp [zeroiseKvt, *]
@[simp] theorem view_gaugeSleep (s : State) (hprt : prt ∉ [.regs, .spans, .inc, .evr, .out] := by simp [*]) : view prt (gaugeSleep s) = view prt s := by simp at hprt; simp [gaugeSleep, *]
@[simp] theorem view_gaugeWake (s : State) (hprt : prt ∉ [.regs, .spans, .inc, .evr, .out] := by simp [*]) : view prt (gaugeWake s) = view prt s := by simp at hprt; simp [gaugeWake, *]
@[simp] theorem view_gaugeThermal (s : State) (on : Bool) (hprt : prt ∉ [.regs, .spans, .inc, .evr, .out] := by simp [*]) : view prt (gaugeThermal s on) = view prt s := by simp at hprt; simp [gaugeThermal, *]
@[simp] theorem view_prefetchThermal (s : State) (on : Bool) (hprt : prt ∉ [.regs, .ctc, .inc, .evr, .pmu] := by simp [*]) : view prt (prefetchThermal s on) = view prt s := by simp at hprt; simp [prefetchThermal, *]
@[simp] theorem view_epochSent (s : State) (hprt : prt ∉ [.regs, .spans, .inc, .evr] := by simp [*]) : view prt (epochSent s) = view prt s := by simp at hprt; (unfold epochSent; (try simp only []); repeat' (first | (simp [*]; done) | split | (refine (view_foldl _ _ _ ?_).trans ?_) | (refine (view_foldl_fst _ _ _ ?_).trans ?_) | (refine (view_foldl_snd _ _ _ ?_).trans ?_) | (intro _ _) | (intro _) | (simp [*])))
@[simp] theorem view_epochErased (s : State) (p : Nat) (hprt : prt ∉ [.kvt, .spans, .maps] := by simp [*]) : view prt (epochErased s p) = view prt s := by simp at hprt; (unfold epochErased; (try simp only []); repeat' (first | (simp [*]; done) | split | (refine (view_foldl _ _ _ ?_).trans ?_) | (refine (view_foldl_fst _ _ _ ?_).trans ?_) | (refine (view_foldl_snd _ _ _ ?_).trans ?_) | (intro _ _) | (intro _) | (simp [*])))

@[simp] theorem view_wrcRec (s : State) (r : Rec) (hprt : prt ∉ [.regs, .wrc, .evr] := by simp [*]) : view prt (wrcRec s r) = view prt s := by simp at hprt; simp [wrcRec, *]
@[simp] theorem view_wrcRecord (s : State) (c : RecCode) (p1 : Nat) (p2 : Nat) (p3 : Nat) (hprt : prt ∉ [.regs, .wrc, .evr] := by simp [*]) : view prt (wrcRecord s c p1 p2 p3) = view prt s := by simp at hprt; simp [wrcRecord, *]
@[simp] theorem view_wrcEnd (s : State) (c : RecCode) (p1 : Nat) (p2 : Nat) (p3 : Nat) (hprt : prt ∉ [.regs, .wrc, .inc, .evr] := by simp [*]) : view prt (wrcEnd s c p1 p2 p3) = view prt s := by simp at hprt; simp [wrcEnd, *]
@[simp] theorem view_flushCapture (s : State) (hprt : prt ∉ [.wrc, .evr] := by simp [*]) : view prt (flushCapture s) = view prt s := by simp at hprt; simp [flushCapture, *]
@[simp] theorem view_captureStart (s : State) (level : Nat) (u : Nat) (n : Nat) (cause : Nat) (hprt : prt ∉ [.regs, .wrc, .evr] := by simp [*]) : view prt (captureStart s level u n cause) = view prt s := by simp at hprt; simp [captureStart, *]
@[simp] theorem view_recordSuspect (s : State) (items : List (Nat × Adm)) (x : Suspect) (hprt : prt ∉ [.regs, .wrc, .evr] := by simp [*]) : view prt (recordSuspect s items x) = view prt s := by simp at hprt; simp [recordSuspect, *]
@[simp] theorem view_captureSuspects (s : State) (pg : Nat) (hprt : prt ∉ [.regs, .wrc, .evr] := by simp [*]) : view prt (captureSuspects s pg) = view prt s := by simp at hprt; simp [captureSuspects, *]
@[simp] theorem view_captureErrs (s : State) (pgs : List Nat) (hprt : prt ∉ [.regs, .wrc, .evr] := by simp [*]) : view prt (captureErrs s pgs) = view prt s := by simp at hprt; simp [captureErrs, *]
@[simp] theorem view_discardTrigger (s : State) (hprt : prt ∉ [.regs] := by simp [*]) : view prt (discardTrigger s) = view prt s := by simp at hprt; simp [discardTrigger, *]
@[simp] theorem view_refreshLevel (s : State) (hprt : prt ∉ [.regs] := by simp [*]) : view prt (refreshLevel s) = view prt s := by simp at hprt; simp [refreshLevel, *]
@[simp] theorem view_refreshReplay (s : State) (hprt : prt ∉ [.regs] := by simp [*]) : view prt (refreshReplay s) = view prt s := by simp at hprt; simp [refreshReplay, *]
@[simp] theorem view_setL4Step (s : State) (k : Nat) (hprt : prt ∉ [.regs, .wrc] := by simp [*]) : view prt (setL4Step s k) = view prt s := by simp at hprt; (unfold setL4Step; (try simp only []); repeat' (first | (simp [*]; done) | split | (refine (view_foldl _ _ _ ?_).trans ?_) | (refine (view_foldl_fst _ _ _ ?_).trans ?_) | (refine (view_foldl_snd _ _ _ ?_).trans ?_) | (intro _ _) | (intro _) | (simp [*])))
@[simp] theorem view_addRunning (s : State) (r : Recov) (hprt : prt ∉ [.regs, .wrc] := by simp [*]) : view prt (addRunning s r) = view prt s := by simp at hprt; simp [addRunning, *]
@[simp] theorem view_beginReset (s : State) (pg : Nat) (level : Nat) (hprt : prt ∉ [.regs, .exps, .epochs, .held, .wrc, .sbx, .ent, .kvt, .jct, .anchor, .ctc, .coh, .engs, .incarn, .ttb, .spans, .maps, .trs, .hgt, .cce, .imu, .inc, .evr, .pmu, .att, .out] := by simp [*]) : view prt (beginReset s pg level) = view prt s := by simp at hprt; simp [beginReset, *]
@[simp] theorem view_startL1 (s : State) (pg : Nat) (cause : Nat) (replay : Bool) (hprt : prt ∉ [.regs, .exps, .epochs, .held, .wrc, .sbx, .ent, .kvt, .jct, .anchor, .ctc, .coh, .engs, .incarn, .ttb, .spans, .maps, .trs, .hgt, .cce, .imu, .inc, .evr, .pmu, .att, .out] := by simp [*]) : view prt (startL1 s pg cause replay) = view prt s := by simp at hprt; simp [startL1, *]
@[simp] theorem view_startL2 (s : State) (pg : Nat) (cause : Nat) (hprt : prt ∉ [.regs, .exps, .epochs, .held, .wrc, .sbx, .ent, .kvt, .jct, .anchor, .ctc, .coh, .engs, .incarn, .ttb, .spans, .maps, .trs, .hgt, .cce, .imu, .inc, .evr, .pmu, .att, .out] := by simp [*]) : view prt (startL2 s pg cause) = view prt s := by simp at hprt; simp [startL2, *]
@[simp] theorem view_startL3 (s : State) (d : Nat) (u : Nat) (cause : Nat) (hprt : prt ∉ [.regs, .epochs, .cru, .wrc, .evr] := by simp [*]) : view prt (startL3 s d u cause) = view prt s := by simp at hprt; simp [startL3, *]
@[simp] theorem view_endFreeze (s : State) (hprt : prt ∉ [.regs, .inc, .evr] := by simp [*]) : view prt (endFreeze s) = view prt s := by simp at hprt; (unfold endFreeze; (try simp only []); repeat' (first | (simp [*]; done) | split | (refine (view_foldl _ _ _ ?_).trans ?_) | (refine (view_foldl_fst _ _ _ ?_).trans ?_) | (refine (view_foldl_snd _ _ _ ?_).trans ?_) | (intro _ _) | (intro _) | (simp [*])))
@[simp] theorem view_losePower (s : State) (d : Nat) (hprt : prt ∉ [.regs, .exps, .epochs, .held, .cru, .wrc, .sbx, .ent, .kvt, .jct, .anchor, .ctc, .coh, .engs, .incarn, .ttb, .spans, .maps, .trs, .hgt, .cce, .imu, .inc, .evr, .pmu, .att, .out] := by simp [*]) : view prt (losePower s d) = view prt s := by simp at hprt; simp [losePower, *]
@[simp] theorem view_opStart (s : State) (o : LcoOp) (hprt : prt ∉ [.regs, .lco] := by simp [*]) : view prt (opStart s o) = view prt s := by simp at hprt; (unfold opStart; (try simp only []); repeat' (first | (simp [*]; done) | split | (refine (view_foldl _ _ _ ?_).trans ?_) | (refine (view_foldl_fst _ _ _ ?_).trans ?_) | (refine (view_foldl_snd _ _ _ ?_).trans ?_) | (intro _ _) | (intro _) | (simp [*])))
@[simp] theorem view_opOver (s : State) (hprt : prt ∉ [.regs, .lco] := by simp [*]) : view prt (opOver s) = view prt s := by simp at hprt; (unfold opOver; (try simp only []); repeat' (first | (simp [*]; done) | split | (refine (view_foldl _ _ _ ?_).trans ?_) | (refine (view_foldl_fst _ _ _ ?_).trans ?_) | (refine (view_foldl_snd _ _ _ ?_).trans ?_) | (intro _ _) | (intro _) | (simp [*])))
@[simp] theorem view_startWdrCell (s : State) (op : LcoOp) (hprt : prt ∉ [.regs, .lco] := by simp [*]) : view prt (startWdrCell s op) = view prt s := by simp at hprt; (unfold startWdrCell; (try simp only []); repeat' (first | (simp [*]; done) | split | (refine (view_foldl _ _ _ ?_).trans ?_) | (refine (view_foldl_fst _ _ _ ?_).trans ?_) | (refine (view_foldl_snd _ _ _ ?_).trans ?_) | (intro _ _) | (intro _) | (simp [*])))
@[simp] theorem view_captureL4 (s : State) (u : Nat) (n : Nat) (cause : Nat) (hprt : prt ∉ [.regs, .wrc, .evr] := by simp [*]) : view prt (captureL4 s u n cause) = view prt s := by simp at hprt; simp [captureL4, *]
@[simp] theorem view_withdraw (s : State) (u : Nat) (n : Nat) (cause : Nat) (hprt : prt ∉ [.regs, .exps, .epochs, .held, .withdrawn, .cru, .wrc, .sbx, .ent, .lco, .kvt, .jct, .anchor, .ctc, .coh, .engs, .incarn, .ttb, .spans, .maps, .trs, .hgt, .cce, .imu, .inc, .evr, .pmu, .att, .out] := by simp [*]) : view prt (withdraw s u n cause) = view prt s := by simp at hprt; simp [withdraw, *]
@[simp] theorem view_startL4 (s : State) (u : Nat) (n : Nat) (cause : Nat) (counted : Bool) (hprt : prt ∉ [.regs, .exps, .epochs, .held, .withdrawn, .cru, .wrc, .sbx, .ent, .lco, .kvt, .jct, .anchor, .ctc, .coh, .engs, .incarn, .ttb, .spans, .maps, .trs, .hgt, .cce, .imu, .inc, .evr, .pmu, .att, .out] := by simp [*]) : view prt (startL4 s u n cause counted) = view prt s := by simp at hprt; simp [startL4, *]
@[simp] theorem view_failL4 (s : State) (hprt : prt ∉ [.regs, .wrc] := by simp [*]) : view prt (failL4 s) = view prt s := by simp at hprt; simp [failL4, *]
@[simp] theorem view_dropLower (s : State) (pg : Nat) (level : Nat) (hprt : prt ∉ [.regs, .wrc] := by simp [*]) : view prt (dropLower s pg level) = view prt s := by simp at hprt; simp [dropLower, *]
@[simp] theorem view_trigger (s : State) (level : Nat) (pg : Nat) (cause : Nat) (replay : Bool) (hprt : prt ∉ [.regs, .exps, .epochs, .held, .withdrawn, .cru, .wrc, .sbx, .ent, .lco, .kvt, .jct, .anchor, .ctc, .coh, .engs, .incarn, .ttb, .spans, .maps, .trs, .hgt, .cce, .imu, .inc, .evr, .pmu, .att, .out] := by simp [*]) : view prt (trigger s level pg cause replay) = view prt s := by simp at hprt; simp [trigger, *]
@[simp] theorem view_startLevel (s : State) (level : Nat) (pg : Nat) (cause : Nat) (hprt : prt ∉ [.regs, .exps, .epochs, .held, .withdrawn, .cru, .wrc, .sbx, .ent, .lco, .kvt, .jct, .anchor, .ctc, .coh, .engs, .incarn, .ttb, .spans, .maps, .trs, .hgt, .cce, .imu, .inc, .evr, .pmu, .att, .out] := by simp [*]) : view prt (startLevel s level pg cause) = view prt s := by simp at hprt; (unfold startLevel; (try simp only []); repeat' (first | (simp [*]; done) | split | (refine (view_foldl _ _ _ ?_).trans ?_) | (refine (view_foldl_fst _ _ _ ?_).trans ?_) | (refine (view_foldl_snd _ _ _ ?_).trans ?_) | (intro _ _) | (intro _) | (simp [*])))
@[simp] theorem view_lockstepL4 (s : State) (hprt : prt ∉ [.regs, .exps, .epochs, .held, .withdrawn, .cru, .wrc, .sbx, .ent, .lco, .kvt, .jct, .anchor, .ctc, .coh, .engs, .incarn, .ttb, .spans, .maps, .trs, .hgt, .cce, .imu, .inc, .evr, .pmu, .att, .out] := by simp [*]) : view prt (lockstepL4 s) = view prt s := by simp at hprt; simp [lockstepL4, *]
@[simp] theorem view_l4TooLong (s : State) (hprt : prt ∉ [.regs, .exps, .epochs, .held, .withdrawn, .cru, .wrc, .sbx, .ent, .lco, .kvt, .jct, .anchor, .ctc, .coh, .engs, .incarn, .ttb, .spans, .maps, .trs, .hgt, .cce, .imu, .inc, .evr, .pmu, .att, .out] := by simp [*]) : view prt (l4TooLong s) = view prt s := by simp at hprt; (unfold l4TooLong; (try simp only []); repeat' (first | (simp [*]; done) | split | (refine (view_foldl _ _ _ ?_).trans ?_) | (refine (view_foldl_fst _ _ _ ?_).trans ?_) | (refine (view_foldl_snd _ _ _ ?_).trans ?_) | (intro _ _) | (intro _) | (simp [*])))
@[simp] theorem view_zeroise (s : State) (kind : Nat) (hprt : prt ∉ [.regs, .wrc, .kvt, .anchor, .ctc, .engs, .ttb, .spans, .trs, .hgt, .cce, .inc, .evr, .att, .out] := by simp [*]) : view prt (zeroise s kind) = view prt s := by simp at hprt; simp [zeroise, *]
@[simp] theorem view_tamperAlarm (s : State) (bits : Nat) (p3 : Nat) (hprt : prt ∉ [.regs, .wrc, .kvt, .anchor, .ctc, .engs, .ttb, .spans, .trs, .hgt, .cce, .inc, .evr, .att, .out] := by simp [*]) : view prt (tamperAlarm s bits p3) = view prt s := by simp at hprt; simp [tamperAlarm, *]
@[simp] theorem view_contain (s : State) (pg : Nat) (bit : Nat) (hprt : prt ∉ [.regs, .exps, .epochs, .held, .withdrawn, .cru, .wrc, .sbx, .ent, .lco, .kvt, .jct, .anchor, .ctc, .coh, .engs, .incarn, .ttb, .spans, .maps, .trs, .hgt, .cce, .imu, .inc, .evr, .pmu, .att, .out] := by simp [*]) : view prt (contain s pg bit) = view prt s := by simp at hprt; (unfold contain; (try simp only []); repeat' (first | (simp [*]; done) | split | (refine (view_foldl _ _ _ ?_).trans ?_) | (refine (view_foldl_fst _ _ _ ?_).trans ?_) | (refine (view_foldl_snd _ _ _ ?_).trans ?_) | (intro _ _) | (intro _) | (simp [*])))
@[simp] theorem view_detect (s : State) (pg : Nat) (bit : Nat) (hprt : prt ∉ [.regs, .exps, .epochs, .held, .withdrawn, .cru, .wrc, .sbx, .ent, .lco, .kvt, .jct, .anchor, .ctc, .coh, .engs, .incarn, .ttb, .spans, .maps, .trs, .hgt, .cce, .imu, .inc, .evr, .pmu, .att, .out] := by simp [*]) : view prt (detect s pg bit) = view prt s := by simp at hprt; simp [detect, *]
@[simp] theorem view_detectAs (s : State) (pg : Nat) (bit : Nat) (c : RecCode) (inst : Option Nat) (p1 : Nat) (p2 : Nat) (p3 : Nat) (hprt : prt ∉ [.regs, .exps, .epochs, .held, .withdrawn, .cru, .wrc, .sbx, .ent, .lco, .kvt, .jct, .anchor, .ctc, .coh, .engs, .incarn, .ttb, .spans, .maps, .trs, .hgt, .cce, .imu, .inc, .evr, .pmu, .att, .out] := by simp [*]) : view prt (detectAs s pg bit c inst p1 p2 p3) = view prt s := by simp at hprt; simp [detectAs, *]
@[simp] theorem view_recordPort (s : State) (p : Nat) (up : Bool) (cause : Nat) (hprt : prt ∉ [.regs, .inc, .evr] := by simp [*]) : view prt (recordPort s p up cause) = view prt s := by simp at hprt; simp [recordPort, *]
@[simp] theorem view_portDown (s : State) (p : Nat) (cause : Nat) (hprt : prt ∉ [.regs, .ports, .ctc, .engs, .ttb, .spans, .hgt, .inc, .evr, .out] := by simp [*]) : view prt (portDown s p cause) = view prt s := by simp at hprt; simp [portDown, *]
@[simp] theorem view_memPortRises (s : State) (e : Nat) (hprt : prt ∉ [.regs, .kvt, .anchor, .ctc, .engs, .inc, .evr, .out] := by simp [*]) : view prt (memPortRises s e) = view prt s := by simp at hprt; simp [memPortRises, *]
@[simp] theorem view_portMayRise (s : State) (p : Nat) (hprt : prt ∉ [.regs, .ports, .kvt, .anchor, .ctc, .engs, .inc, .evr, .out] := by simp [*]) : view prt (portMayRise s p) = view prt s := by simp at hprt; simp [portMayRise, *]

@[simp] theorem view_recordDenied (s : State) (r : Role) (off : Nat) (hprt : prt ∉ [.regs, .denied, .inc, .evr] := by simp [*]) : view prt (recordDenied s r off) = view prt s := by simp at hprt; (unfold recordDenied; (try simp only []); repeat' (first | (simp [*]; done) | split | (refine (view_foldl _ _ _ ?_).trans ?_) | (refine (view_foldl_fst _ _ _ ?_).trans ?_) | (refine (view_foldl_snd _ _ _ ?_).trans ?_) | (intro _ _) | (intro _) | (simp [*])))
@[simp] theorem view_recordStale (s : State) (r : Role) (off : Nat) (expected : Nat) (hprt : prt ∉ [.regs, .inc, .evr] := by simp [*]) : view prt (recordStale s r off expected) = view prt s := by simp at hprt; simp [recordStale, *]
@[simp] theorem view_judge (s : State) (r : Role) (off : Nat) (len : Nat) (wr : Bool) (guard : Option Nat) (k : State → State) (h_k : ∀ x0, view prt (k x0) = view prt x0) (hprt : prt ∉ [.regs, .denied, .inc, .evr, .out] := by simp [*]) : view prt (judge s r off len wr guard k) = view prt s := by simp at hprt; (unfold judge; (try simp only []); repeat' (first | (simp [*]; done) | split | (refine (view_foldl _ _ _ ?_).trans ?_) | (refine (view_foldl_fst _ _ _ ?_).trans ?_) | (refine (view_foldl_snd _ _ _ ?_).trans ?_) | (intro _ _) | (intro _) | (simp [*])))
@[simp] theorem view_judgeGuarded (s : State) (r : Role) (off : Nat) (k : State → State) (h_k : ∀ x0, view prt (k x0) = view prt x0) (hprt : prt ∉ [.regs, .denied, .inc, .evr, .out] := by simp [*]) : view prt (judgeGuarded s r off k) = view prt s := by simp at hprt; simp [judgeGuarded, *]
@[simp] theorem view_judgeWrite (s : State) (r : Role) (off : Nat) (k : State → State) (h_k : ∀ x0, view prt (k x0) = view prt x0) (hprt : prt ∉ [.regs, .denied, .inc, .evr, .out] := by simp [*]) : view prt (judgeWrite s r off k) = view prt s := by simp at hprt; simp [judgeWrite, *]
@[simp] theorem view_commitDone (s : State) (r : Role) (off : Nat) (hprt : prt ∉ [.epochs, .out] := by simp [*]) : view prt (commitDone s r off) = view prt s := by simp at hprt; simp [commitDone, *]
@[simp] theorem view_storeReg (s : State) (r : Role) (off : Nat) (v : Word) (hprt : prt ∉ [.regs] := by simp [*]) : view prt (storeReg s r off v) = view prt s := by simp at hprt; simp [storeReg, *]

end Sys2Proof.Machine
end

