-- ==== Sys2Proof/Laws/FrameEngines.lean ====
section
/-!
SUPPORT. Frames of the shared operations of power, the memory engines, CTC, coherence, the spans, TRS, HGT, CCE and IMU: each leaves every part of the state outside its list as it was (`view`).
-/
set_option linter.all false
set_option Elab.async false
namespace Sys2Proof.Machine

variable {prt : Part}

@[simp] theorem view_imuStage (s : State) (q : Req) (inst : Option Nat) (ctx : Bool) (own : Bool) (si : Bool) (e : Nat) (hprt : prt ∉ [.regs, .inc, .evr] := by simp [*]) : view prt (imuStage s q inst ctx own si e).1 = view prt s := by simp at hprt; (unfold imuStage; (try simp only []); repeat' (first | (simp [*]; done) | split | (refine (view_foldl _ _ _ ?_).trans ?_) | (refine (view_foldl_fst _ _ _ ?_).trans ?_) | (refine (view_foldl_snd _ _ _ ?_).trans ?_) | (intro _ _) | (intro _) | (simp [*])))
theorem view_imuStage_eq {s : State} {q : Req} {inst : Option Nat} {ctx : Bool} {own : Bool} {si : Bool} {e : Nat} {t} (h : imuStage s q inst ctx own si e = t) (hprt : prt ∉ [.regs, .inc, .evr] := by simp [*]) : view prt t.1 = view prt s := by subst h; exact view_imuStage s q inst ctx own si e hprt
@[simp] theorem view_jctStage (s : State) (e : Nat) (q : Req) (link : Bool) (host : Bool) (hprt : prt ∉ [.regs, .jct, .inc, .evr] := by simp [*]) : view prt (jctStage s e q link host).1 = view prt s := by simp at hprt; (unfold jctStage; (try simp only []); repeat' (first | (simp [*]; done) | split | (refine (view_foldl _ _ _ ?_).trans ?_) | (refine (view_foldl_fst _ _ _ ?_).trans ?_) | (refine (view_foldl_snd _ _ _ ?_).trans ?_) | (intro _ _) | (intro _) | (simp [*])))
theorem view_jctStage_eq {s : State} {e : Nat} {q : Req} {link : Bool} {host : Bool} {t} (h : jctStage s e q link host = t) (hprt : prt ∉ [.regs, .jct, .inc, .evr] := by simp [*]) : view prt t.1 = view prt s := by subst h; exact view_jctStage s e q link host hprt
@[simp] theorem view_offer (s : State) (q : Req) (hprt : prt ∉ [.regs, .engs, .ttb, .spans, .hgt, .inc, .evr, .out] := by simp [*]) : view prt (offer s q) = view prt s := by simp at hprt; (unfold offer; (try simp only []); repeat' (first | (simp [*]; done) | split | (refine (view_foldl _ _ _ ?_).trans ?_) | (refine (view_foldl_fst _ _ _ ?_).trans ?_) | (refine (view_foldl_snd _ _ _ ?_).trans ?_) | (intro _ _) | (intro _) | (simp [*])))
@[simp] theorem view_judgeLocal (s : State) (e : Nat) (q : Req) (hprt : prt ∉ [.regs, .jct, .inc, .evr] := by simp [*]) : view prt (judgeLocal s e q).1 = view prt s := by simp at hprt; (unfold judgeLocal; (try simp only []); repeat' (first | (simp [*]; done) | ((try have h_imuStage := view_imuStage_eq (prt := prt) ‹imuStage _ _ _ _ _ _ _ = _›); (try have h_jctStage := view_jctStage_eq (prt := prt) ‹jctStage _ _ _ _ _ = _›); simp [*]; done) | ((try have h_imuStage := view_imuStage_eq (prt := prt) ‹imuStage _ _ _ _ _ _ _ = _›); (try have h_jctStage := view_jctStage_eq (prt := prt) ‹jctStage _ _ _ _ _ = _›); simp [*]; done) | split | (refine (view_foldl _ _ _ ?_).trans ?_) | (refine (view_foldl_fst _ _ _ ?_).trans ?_) | (refine (view_foldl_snd _ _ _ ?_).trans ?_) | (intro _ _) | (intro _) | (have h_ := view_imuStage_eq (prt := prt) ‹imuStage _ _ _ _ _ _ _ = _›; refine Eq.trans h_ ?_; clear h_) | (have h_ := view_jctStage_eq (prt := prt) ‹jctStage _ _ _ _ _ = _›; refine Eq.trans h_ ?_; clear h_) | (simp [*])))
theorem view_judgeLocal_eq {s : State} {e : Nat} {q : Req} {t} (h : judgeLocal s e q = t) (hprt : prt ∉ [.regs, .jct, .inc, .evr] := by simp [*]) : view prt t.1 = view prt s := by subst h; exact view_judgeLocal s e q hprt
@[simp] theorem view_prefetchFrom (s : State) (e : Nat) (l : Nat) (x : JEntry) (inst : Option Nat) (hprt : prt ∉ [.regs, .kvt, .anchor, .ctc, .engs, .inc, .evr, .pmu, .out] := by simp [*]) : view prt (prefetchFrom s e l x inst) = view prt s := by simp at hprt; simp [prefetchFrom, *]
@[simp] theorem view_allocTag (s : State) (e : Nat) (t : Nat) (k : Nat) (inst : Option Nat) (hprt : prt ∉ [.regs, .kvt, .anchor, .ctc, .engs, .inc, .evr, .out] := by simp [*]) : view prt (allocTag s e t k inst) = view prt s := by simp at hprt; (unfold allocTag; (try simp only []); repeat' (first | (simp [*]; done) | ((try have h_takeWay := view_takeWay_eq (prt := prt) ‹takeWay _ _ _ _ _ = _›); simp [*]; done) | ((try have h_takeWay := view_takeWay_eq (prt := prt) ‹takeWay _ _ _ _ _ = _›); simp [*]; done) | split | (refine (view_foldl _ _ _ ?_).trans ?_) | (refine (view_foldl_fst _ _ _ ?_).trans ?_) | (refine (view_foldl_snd _ _ _ ?_).trans ?_) | (intro _ _) | (intro _) | (have h_ := view_takeWay_eq (prt := prt) ‹takeWay _ _ _ _ _ = _›; refine Eq.trans h_ ?_; clear h_) | (simp [*])))
@[simp] theorem view_startMisses (s : State) (e : Nat) (q : Req) (x : JEntry) (inst : Option Nat) (hprt : prt ∉ [.regs, .kvt, .anchor, .ctc, .engs, .ttb, .spans, .hgt, .cce, .inc, .evr, .pmu, .out] := by simp [*]) : view prt (startMisses s e q x inst) = view prt s := by simp at hprt; simp [startMisses, *]
@[simp] theorem view_useLine (s : State) (e : Nat) (k : LineKind) (idx : Nat) (hprt : prt ∉ [.ctc, .pmu] := by simp [*]) : view prt (useLine s e k idx) = view prt s := by simp at hprt; (unfold useLine; (try simp only []); repeat' (first | (simp [*]; done) | split | (refine (view_foldl _ _ _ ?_).trans ?_) | (refine (view_foldl_fst _ _ _ ?_).trans ?_) | (refine (view_foldl_snd _ _ _ ?_).trans ?_) | (intro _ _) | (intro _) | (simp [*])))
@[simp] theorem view_tagFail (s : State) (e : Nat) (a : Adm) (i : Nat) (hprt : prt ∉ [.regs, .exps, .epochs, .held, .withdrawn, .cru, .wrc, .sbx, .ent, .lco, .kvt, .jct, .anchor, .ctc, .coh, .engs, .incarn, .ttb, .spans, .maps, .trs, .hgt, .cce, .imu, .inc, .evr, .pmu, .att, .out] := by simp [*]) : view prt (tagFail s e a i) = view prt s := by simp at hprt; simp [tagFail, *]

@[simp] theorem view_readGranule (s : State) (e : Nat) (l : Nat) (i : Nat) (p : TxFor) (hprt : prt ∉ [.engs, .out] := by simp [*]) : view prt (readGranule s e l i p) = view prt s := by simp at hprt; simp [readGranule, *]
@[simp] theorem view_writeCheckpoint (s : State) (e : Nat) (x : Line) (hprt : prt ∉ [.regs, .anchor, .ctc, .engs, .inc, .evr, .out] := by simp [*]) : view prt (writeCheckpoint s e x) = view prt s := by simp at hprt; (unfold writeCheckpoint; (try simp only []); repeat' (first | (simp [*]; done) | split | (refine (view_foldl _ _ _ ?_).trans ?_) | (refine (view_foldl_fst _ _ _ ?_).trans ?_) | (refine (view_foldl_snd _ _ _ ?_).trans ?_) | (intro _ _) | (intro _) | (simp [*])))
@[simp] theorem view_resealPins (s : State) (e : Nat) (hprt : prt ∉ [.ctc, .engs] := by simp [*]) : view prt (resealPins s e) = view prt s := by simp at hprt; (unfold resealPins; (try simp only []); repeat' (first | (simp [*]; done) | split | (refine (view_foldl _ _ _ ?_).trans ?_) | (refine (view_foldl_fst _ _ _ ?_).trans ?_) | (refine (view_foldl_snd _ _ _ ?_).trans ?_) | (intro _ _) | (intro _) | (simp [*])))
@[simp] theorem view_tryCheckpoint (s : State) (e : Nat) (hprt : prt ∉ [.regs, .kvt, .anchor, .ctc, .engs, .inc, .evr, .out] := by simp [*]) : view prt (tryCheckpoint s e) = view prt s := by simp at hprt; (unfold tryCheckpoint; (try simp only []); repeat' (first | (simp [*]; done) | split | (refine (view_foldl _ _ _ ?_).trans ?_) | (refine (view_foldl_fst _ _ _ ?_).trans ?_) | (refine (view_foldl_snd _ _ _ ?_).trans ?_) | (intro _ _) | (intro _) | (simp [*])))
@[simp] theorem view_startReseal (s : State) (e : Nat) (n : Nat) (w : Nat) (own : List Nat) (replies : List (Nat × Bytes)) (hprt : prt ∉ [.regs, .kvt, .anchor, .ctc, .engs, .inc, .evr, .out] := by simp [*]) : view prt (startReseal s e n w own replies) = view prt s := by simp at hprt; (unfold startReseal; (try simp only []); repeat' (first | (simp [*]; done) | split | (refine (view_foldl _ _ _ ?_).trans ?_) | (refine (view_foldl_fst _ _ _ ?_).trans ?_) | (refine (view_foldl_snd _ _ _ ?_).trans ?_) | (intro _ _) | (intro _) | (simp [*])))
@[simp] theorem view_startResume (s : State) (e : Nat) (x : Line) (hprt : prt ∉ [.regs, .kvt, .anchor, .ctc, .engs, .inc, .evr, .out] := by simp [*]) : view prt (startResume s e x) = view prt s := by simp at hprt; (unfold startResume; (try simp only []); repeat' (first | (simp [*]; done) | split | (refine (view_foldl _ _ _ ?_).trans ?_) | (refine (view_foldl_fst _ _ _ ?_).trans ?_) | (refine (view_foldl_snd _ _ _ ?_).trans ?_) | (intro _ _) | (intro _) | (simp [*])))
@[simp] theorem view_setTagSlot (s : State) (e : Nat) (l : Nat) (i : Nat) (tag : Bytes) (hprt : prt ∉ [.ctc] := by simp [*]) : view prt (setTagSlot s e l i tag) = view prt s := by simp at hprt; simp [setTagSlot, *]
@[simp] theorem view_granuleLeft (s : State) (e : Nat) (l : Nat) (i : Nat) (hprt : prt ∉ [.regs, .inc, .evr] := by simp [*]) : view prt (granuleLeft s e l i) = view prt s := by simp at hprt; simp [granuleLeft, *]
@[simp] theorem view_commitLine (s : State) (e : Nat) (a : Adm) (clsI : Bool) (gs : List Nat) (hprt : prt ∉ [.ctc] := by simp [*]) : view prt (commitLine s e a clsI gs).1 = view prt s := by simp at hprt; (unfold commitLine; (try simp only []); repeat' (first | (simp [*]; done) | split | (refine (view_foldl _ _ _ ?_).trans ?_) | (refine (view_foldl_fst _ _ _ ?_).trans ?_) | (refine (view_foldl_snd _ _ _ ?_).trans ?_) | (intro _ _) | (intro _) | (simp [*])))
theorem view_commitLine_eq {s : State} {e : Nat} {a : Adm} {clsI : Bool} {gs : List Nat} {t} (h : commitLine s e a clsI gs = t) (hprt : prt ∉ [.ctc] := by simp [*]) : view prt t.1 = view prt s := by subst h; exact view_commitLine s e a clsI gs hprt
@[simp] theorem view_majorFull (s : State) (e : Nat) (n : Nat) (l : Nat) (hprt : prt ∉ [.regs, .ctc, .engs, .ttb, .spans, .hgt, .inc, .evr, .out] := by simp [*]) : view prt (majorFull s e n l) = view prt s := by simp at hprt; simp [majorFull, *]
@[simp] theorem view_commitParts (s : State) (e : Nat) (n : Nat) (parts : List (Nat × Bytes)) (replies : List (Nat × Bytes)) (hprt : prt ∉ [.regs, .kvt, .anchor, .ctc, .engs, .ttb, .spans, .hgt, .inc, .evr, .out] := by simp [*]) : view prt (commitParts s e n parts replies) = view prt s := by simp at hprt; (unfold commitParts; (try simp only []); repeat' (first | (simp [*]; done) | ((try have h_commitLine := view_commitLine_eq (prt := prt) ‹commitLine _ _ _ _ _ = _›); simp [*]; done) | ((try have h_commitLine := view_commitLine_eq (prt := prt) ‹commitLine _ _ _ _ _ = _›); simp [*]; done) | split | (refine (view_foldl _ _ _ ?_).trans ?_) | (refine (view_foldl_fst _ _ _ ?_).trans ?_) | (refine (view_foldl_snd _ _ _ ?_).trans ?_) | (intro _ _) | (intro _) | (have h_ := view_commitLine_eq (prt := prt) ‹commitLine _ _ _ _ _ = _›; refine Eq.trans h_ ?_; clear h_) | (simp [*])))
@[simp] theorem view_atomicCommit (s : State) (e : Nat) (n : Nat) (q : Req) (j : Nat) (new : Bytes) (replies : List (Nat × Bytes)) (hprt : prt ∉ [.regs, .kvt, .anchor, .ctc, .engs, .ttb, .spans, .hgt, .imu, .inc, .evr, .out] := by simp [*]) : view prt (atomicCommit s e n q j new replies) = view prt s := by simp at hprt; simp [atomicCommit, *]
@[simp] theorem view_mergeAndCommit (s : State) (e : Nat) (n : Nat) (pts : List (Nat × Bytes)) (hprt : prt ∉ [.regs, .kvt, .anchor, .ctc, .engs, .ttb, .spans, .hgt, .imu, .inc, .evr, .out] := by simp [*]) : view prt (mergeAndCommit s e n pts) = view prt s := by simp at hprt; (unfold mergeAndCommit; (try simp only []); repeat' (first | (simp [*]; done) | split | (refine (view_foldl _ _ _ ?_).trans ?_) | (refine (view_foldl_fst _ _ _ ?_).trans ?_) | (refine (view_foldl_snd _ _ _ ?_).trans ?_) | (intro _ _) | (intro _) | (simp [*])))
@[simp] theorem view_zeroCounterEnd (s : State) (e : Nat) (n : Nat) (a : Adm) (hprt : prt ∉ [.regs, .ctc, .engs, .ttb, .spans, .hgt, .inc, .evr, .out] := by simp [*]) : view prt (zeroCounterEnd s e n a) = view prt s := by simp at hprt; simp [zeroCounterEnd, *]
@[simp] theorem view_startItem (s : State) (e : Nat) (n : Nat) (hprt : prt ∉ [.regs, .kvt, .anchor, .ctc, .engs, .ttb, .spans, .hgt, .imu, .inc, .evr, .out] := by simp [*]) : view prt (startItem s e n) = view prt s := by simp at hprt; (unfold startItem; (try simp only []); repeat' (first | (simp [*]; done) | split | (refine (view_foldl _ _ _ ?_).trans ?_) | (refine (view_foldl_fst _ _ _ ?_).trans ?_) | (refine (view_foldl_snd _ _ _ ?_).trans ?_) | (intro _ _) | (intro _) | (simp [*])))
@[simp] theorem view_admitReq (s : State) (e : Nat) (q : Req) (j : Nat) (x : JEntry) (inst : Option Nat) (ks : KeySet) (hprt : prt ∉ [.regs, .kvt, .anchor, .ctc, .engs, .ttb, .spans, .hgt, .imu, .inc, .evr, .pmu, .free, .out] := by simp [*]) : view prt (admitReq s e q j x inst ks) = view prt s := by simp at hprt; (unfold admitReq; (try simp only []); repeat' (first | (simp [*]; done) | split | (refine (view_foldl _ _ _ ?_).trans ?_) | (refine (view_foldl_fst _ _ _ ?_).trans ?_) | (refine (view_foldl_snd _ _ _ ?_).trans ?_) | (intro _ _) | (intro _) | (simp [*])))
@[simp] theorem view_refreshOrd (s : State) (hprt : prt ∉ [.regs] := by simp [*]) : view prt (refreshOrd s) = view prt s := by simp at hprt; simp [refreshOrd, *]
@[simp] theorem view_sampleStore (s : State) (e : Nat) (q : Req) (hprt : prt ∉ [.ttb] := by simp [*]) : view prt (sampleStore s e q) = view prt s := by simp at hprt; (unfold sampleStore; (try simp only []); repeat' (first | (simp [*]; done) | split | (refine (view_foldl _ _ _ ?_).trans ?_) | (refine (view_foldl_fst _ _ _ ?_).trans ?_) | (refine (view_foldl_snd _ _ _ ?_).trans ?_) | (intro _ _) | (intro _) | (simp [*])))
@[simp] theorem view_acceptFlag (s : State) (e : Nat) (q : Req) (hprt : prt ∉ [.regs, .ttb] := by simp [*]) : view prt (acceptFlag s e q) = view prt s := by simp at hprt; simp [acceptFlag, *]
@[simp] theorem view_holdIngress (s : State) (e : Nat) (q : Req) (reason : Nat) (hprt : prt ∉ [.regs, .engs] := by simp [*]) : view prt (holdIngress s e q reason) = view prt s := by simp at hprt; simp [holdIngress, *]
@[simp] theorem view_clearIngress (s : State) (e : Nat) (hprt : prt ∉ [.regs, .engs] := by simp [*]) : view prt (clearIngress s e) = view prt s := by simp at hprt; simp [clearIngress, *]
@[simp] theorem view_denyAtPort (s : State) (e : Nat) (q : Req) (hprt : prt ∉ [.regs, .ttb, .spans, .hgt, .inc, .evr, .out] := by simp [*]) : view prt (denyAtPort s e q) = view prt s := by simp at hprt; simp [denyAtPort, *]
@[simp] theorem view_denyAtJct (s : State) (e : Nat) (q : Req) (hprt : prt ∉ [.regs, .ttb, .spans, .hgt, .inc, .evr, .out] := by simp [*]) : view prt (denyAtJct s e q) = view prt s := by simp at hprt; simp [denyAtJct, *]
@[simp] theorem view_admitKeyed (s : State) (e : Nat) (q : Req) (j : Nat) (x : JEntry) (inst : Option Nat) (hprt : prt ∉ [.regs, .kvt, .anchor, .ctc, .engs, .ttb, .spans, .hgt, .imu, .inc, .evr, .pmu, .free, .out] := by simp [*]) : view prt (admitKeyed s e q j x inst) = view prt s := by simp at hprt; (unfold admitKeyed; (try simp only []); repeat' (first | (simp [*]; done) | split | (refine (view_foldl _ _ _ ?_).trans ?_) | (refine (view_foldl_fst _ _ _ ?_).trans ?_) | (refine (view_foldl_snd _ _ _ ?_).trans ?_) | (intro _ _) | (intro _) | (simp [*])))
@[simp] theorem view_judgeItem (s : State) (e : Nat) (q : Req) (hold : State → Nat → State) (clear : State → State) (h_hold : ∀ x0 x1, view prt (hold x0 x1) = view prt x0) (h_clear : ∀ x0, view prt (clear x0) = view prt x0) (hprt : prt ∉ [.regs, .kvt, .jct, .anchor, .ctc, .engs, .ttb, .spans, .hgt, .cce, .imu, .inc, .evr, .pmu, .free, .out] := by simp [*]) : view prt (judgeItem s e q hold clear) = view prt s := by simp at hprt; (unfold judgeItem; (try simp only []); repeat' (first | (simp [*]; done) | ((try have h_judgeLocal := view_judgeLocal_eq (prt := prt) ‹judgeLocal _ _ _ = _›); simp [*]; done) | ((try have h_judgeLocal := view_judgeLocal_eq (prt := prt) ‹judgeLocal _ _ _ = _›); simp [*]; done) | split | (refine (view_foldl _ _ _ ?_).trans ?_) | (refine (view_foldl_fst _ _ _ ?_).trans ?_) | (refine (view_foldl_snd _ _ _ ?_).trans ?_) | (intro _ _) | (intro _) | (have h_ := view_judgeLocal_eq (prt := prt) ‹judgeLocal _ _ _ = _›; refine Eq.trans h_ ?_; clear h_) | (simp [*])))
@[simp] theorem view_judgeIngress (s : State) (e : Nat) (q : Req) (hprt : prt ∉ [.regs, .kvt, .jct, .anchor, .ctc, .engs, .ttb, .spans, .hgt, .cce, .imu, .inc, .evr, .pmu, .free, .out] := by simp [*]) : view prt (judgeIngress s e q) = view prt s := by simp at hprt; simp [judgeIngress, *]
theorem view_ownerCommit (s : State) (e : Nat) (q : Req) (c : Copy) (span : Nat) (inst : Option Nat) (hprt : prt ∉ [.regs, .kvt, .anchor, .ctc, .coh, .engs, .ttb, .spans, .hgt, .inc, .evr, .out] := by simp [*]) : ∀ t, ownerCommit s e q c span inst = some t → view prt t = view prt s := by simp at hprt; intro t h; unfold ownerCommit at h; (try simp only [] at h); repeat' (first | (simp at h; done) | (simp at h; subst h; first | (simp [*]; done)) | split at h)
theorem view_ownerCommit_eq {s : State} {e : Nat} {q : Req} {c : Copy} {span : Nat} {inst : Option Nat} {t : State} (h : ownerCommit s e q c span inst = some t) (hprt : prt ∉ [.regs, .kvt, .anchor, .ctc, .coh, .engs, .ttb, .spans, .hgt, .inc, .evr, .out] := by simp [*]) : view prt t = view prt s := view_ownerCommit s e q c span inst hprt t h
@[simp] theorem view_ownerCommit_getD (s : State) (e : Nat) (q : Req) (c : Copy) (span : Nat) (inst : Option Nat) (u_ : State) (hu_ : view prt u_ = view prt s) (hprt : prt ∉ [.regs, .kvt, .anchor, .ctc, .coh, .engs, .ttb, .spans, .hgt, .inc, .evr, .out] := by simp [*]) : view prt ((ownerCommit s e q c span inst).getD u_) = view prt s := by
  cases h : ownerCommit s e q c span inst with
  | none => exact hu_
  | some t => exact view_ownerCommit_eq h hprt

@[simp] theorem view_cohSend (s : State) (peer : Nat) (tree : Nat) (idx : Nat) (m : CohMsg) (hprt : prt ∉ [.spans] := by simp [*]) : view prt (cohSend s peer tree idx m) = view prt s := by simp at hprt; (unfold cohSend; (try simp only []); repeat' (first | (simp [*]; done) | split | (refine (view_foldl _ _ _ ?_).trans ?_) | (refine (view_foldl_fst _ _ _ ?_).trans ?_) | (refine (view_foldl_snd _ _ _ ?_).trans ?_) | (intro _ _) | (intro _) | (simp [*])))
@[simp] theorem view_cohDiscard (s : State) (hprt : prt ∉ [.regs, .inc, .evr] := by simp [*]) : view prt (cohDiscard s) = view prt s := by simp at hprt; simp [cohDiscard, *]
@[simp] theorem view_refreshDir (s : State) (hprt : prt ∉ [.regs] := by simp [*]) : view prt (refreshDir s) = view prt s := by simp at hprt; simp [refreshDir, *]
@[simp] theorem view_putDir (s : State) (d : DirEntry) (hprt : prt ∉ [.regs, .coh] := by simp [*]) : view prt (putDir s d) = view prt s := by simp at hprt; simp [putDir, *]
@[simp] theorem view_tidyDir (s : State) (tree : Nat) (idx : Nat) (hprt : prt ∉ [.regs, .ctc, .coh] := by simp [*]) : view prt (tidyDir s tree idx) = view prt s := by simp at hprt; (unfold tidyDir; (try simp only []); repeat' (first | (simp [*]; done) | split | (refine (view_foldl _ _ _ ?_).trans ?_) | (refine (view_foldl_fst _ _ _ ?_).trans ?_) | (refine (view_foldl_snd _ _ _ ?_).trans ?_) | (intro _ _) | (intro _) | (simp [*])))
@[simp] theorem view_pinDir (s : State) (tree : Nat) (idx : Nat) (hprt : prt ∉ [.regs, .ctc, .coh] := by simp [*]) : view prt (pinDir s tree idx) = view prt s := by simp at hprt; (unfold pinDir; (try simp only []); repeat' (first | (simp [*]; done) | split | (refine (view_foldl _ _ _ ?_).trans ?_) | (refine (view_foldl_fst _ _ _ ?_).trans ?_) | (refine (view_foldl_snd _ _ _ ?_).trans ?_) | (intro _ _) | (intro _) | (simp [*])))
@[simp] theorem view_sendRecall (s : State) (d : DirEntry) (hprt : prt ∉ [.regs, .coh, .spans] := by simp [*]) : view prt (sendRecall s d) = view prt s := by simp at hprt; (unfold sendRecall; (try simp only []); repeat' (first | (simp [*]; done) | split | (refine (view_foldl _ _ _ ?_).trans ?_) | (refine (view_foldl_fst _ _ _ ?_).trans ?_) | (refine (view_foldl_snd _ _ _ ?_).trans ?_) | (intro _ _) | (intro _) | (simp [*])))
@[simp] theorem view_sendInvs (s : State) (d : DirEntry) (except : Nat) (hprt : prt ∉ [.regs, .coh, .spans] := by simp [*]) : view prt (sendInvs s d except) = view prt s := by simp at hprt; (unfold sendInvs; (try simp only []); repeat' (first | (simp [*]; done) | split | (refine (view_foldl _ _ _ ?_).trans ?_) | (refine (view_foldl_fst _ _ _ ?_).trans ?_) | (refine (view_foldl_snd _ _ _ ?_).trans ?_) | (intro _ _) | (intro _) | (simp [*])))
@[simp] theorem view_serveDemand (s0 : State) (tree : Nat) (idx : Nat) (hprt : prt ∉ [.regs, .ctc, .coh, .spans] := by simp [*]) : view prt (serveDemand s0 tree idx) = view prt s0 := by simp at hprt; (unfold serveDemand; (try simp only []); repeat' (first | (simp [*]; done) | split | (refine (view_foldl _ _ _ ?_).trans ?_) | (refine (view_foldl_fst _ _ _ ?_).trans ?_) | (refine (view_foldl_snd _ _ _ ?_).trans ?_) | (intro _ _) | (intro _) | (simp [*])))
@[simp] theorem view_serveLine (s : State) (tree : Nat) (idx : Nat) (hprt : prt ∉ [.regs, .ctc, .coh, .spans] := by simp [*]) : view prt (serveLine s tree idx) = view prt s := by simp at hprt; simp [serveLine, *]
@[simp] theorem view_fetchHome (s : State) (tree : Nat) (idx : Nat) (member : Nat) (hprt : prt ∉ [.regs, .kvt, .anchor, .ctc, .engs, .ttb, .spans, .hgt, .cce, .inc, .evr, .out] := by simp [*]) : view prt (fetchHome s tree idx member) = view prt s := by simp at hprt; (unfold fetchHome; (try simp only []); repeat' (first | (simp [*]; done) | split | (refine (view_foldl _ _ _ ?_).trans ?_) | (refine (view_foldl_fst _ _ _ ?_).trans ?_) | (refine (view_foldl_snd _ _ _ ?_).trans ?_) | (intro _ _) | (intro _) | (simp [*])))
@[simp] theorem view_joinDir (s : State) (tree : Nat) (idx : Nat) (q : Demand) (hprt : prt ∉ [.regs, .kvt, .anchor, .ctc, .coh, .engs, .ttb, .spans, .hgt, .cce, .inc, .evr, .out] := by simp [*]) : view prt (joinDir s tree idx q) = view prt s := by simp at hprt; (unfold joinDir; (try simp only []); repeat' (first | (simp [*]; done) | split | (refine (view_foldl _ _ _ ?_).trans ?_) | (refine (view_foldl_fst _ _ _ ?_).trans ?_) | (refine (view_foldl_snd _ _ _ ?_).trans ?_) | (intro _ _) | (intro _) | (simp [*])))
@[simp] theorem view_serveLate (s : State) (hprt : prt ∉ [.regs, .kvt, .anchor, .ctc, .coh, .engs, .ttb, .spans, .hgt, .cce, .inc, .evr, .out] := by simp [*]) : view prt (serveLate s) = view prt s := by simp at hprt; simp [serveLate, *]
@[simp] theorem view_retryDir (s : State) (e : Nat) (hprt : prt ∉ [.regs, .kvt, .anchor, .ctc, .coh, .engs, .ttb, .spans, .hgt, .cce, .inc, .evr, .out] := by simp [*]) : view prt (retryDir s e) = view prt s := by simp at hprt; (unfold retryDir; (try simp only []); repeat' (first | (simp [*]; done) | split | (refine (view_foldl _ _ _ ?_).trans ?_) | (refine (view_foldl_fst _ _ _ ?_).trans ?_) | (refine (view_foldl_snd _ _ _ ?_).trans ?_) | (intro _ _) | (intro _) | (simp [*])))
@[simp] theorem view_demandLine (s : State) (tree : Nat) (idx : Nat) (member : Nat) (own : Bool) (hprt : prt ∉ [.regs, .kvt, .anchor, .ctc, .coh, .engs, .ttb, .spans, .hgt, .cce, .inc, .evr, .out] := by simp [*]) : view prt (demandLine s tree idx member own) = view prt s := by simp at hprt; (unfold demandLine; (try simp only []); repeat' (first | (simp [*]; done) | split | (refine (view_foldl _ _ _ ?_).trans ?_) | (refine (view_foldl_fst _ _ _ ?_).trans ?_) | (refine (view_foldl_snd _ _ _ ?_).trans ?_) | (intro _ _) | (intro _) | (simp [*])))
@[simp] theorem view_homeDemand (s : State) (e : Nat) (l : Nat) (wr : Bool) (hprt : prt ∉ [.regs, .ctc, .coh, .spans] := by simp [*]) : view prt (homeDemand s e l wr) = view prt s := by simp at hprt; (unfold homeDemand; (try simp only []); repeat' (first | (simp [*]; done) | split | (refine (view_foldl _ _ _ ?_).trans ?_) | (refine (view_foldl_fst _ _ _ ?_).trans ?_) | (refine (view_foldl_snd _ _ _ ?_).trans ?_) | (intro _ _) | (intro _) | (simp [*])))
@[simp] theorem view_applyWb (s : State) (d : DirEntry) (src : Nat) (line : LineData) (hprt : prt ∉ [.regs, .kvt, .anchor, .ctc, .coh, .engs, .ttb, .spans, .hgt, .cce, .inc, .evr, .out] := by simp [*]) : view prt (applyWb s d src line) = view prt s := by simp at hprt; simp [applyWb, *]
@[simp] theorem view_memberGone (s : State) (id : Nat) (hprt : prt ∉ [.regs, .kvt, .anchor, .ctc, .coh, .engs, .ttb, .spans, .hgt, .cce, .inc, .evr, .out] := by simp [*]) : view prt (memberGone s id) = view prt s := by simp at hprt; (unfold memberGone; (try simp only []); repeat' (first | (simp [*]; done) | split | (refine (view_foldl _ _ _ ?_).trans ?_) | (refine (view_foldl_fst _ _ _ ?_).trans ?_) | (refine (view_foldl_snd _ _ _ ?_).trans ?_) | (intro _ _) | (intro _) | (simp [*])))
@[simp] theorem view_homeGone (s : State) (id : Nat) (hprt : prt ∉ [.coh] := by simp [*]) : view prt (homeGone s id) = view prt s := by simp at hprt; simp [homeGone, *]
@[simp] theorem view_mapCopy (s : State) (home : Nat) (tree : Nat) (idx : Nat) (f : Copy → Copy) (hprt : prt ∉ [.coh] := by simp [*]) : view prt (mapCopy s home tree idx f) = view prt s := by simp at hprt; simp [mapCopy, *]
@[simp] theorem view_dropCopy (s : State) (home : Nat) (tree : Nat) (idx : Nat) (hprt : prt ∉ [.coh] := by simp [*]) : view prt (dropCopy s home tree idx) = view prt s := by simp at hprt; simp [dropCopy, *]
@[simp] theorem view_cohRequest (s : State) (home : Nat) (tree : Nat) (idx : Nat) (own : Bool) (hprt : prt ∉ [.coh, .spans] := by simp [*]) : view prt (cohRequest s home tree idx own) = view prt s := by simp at hprt; simp [cohRequest, *]
@[simp] theorem view_sendWb (s : State) (c : Copy) (hprt : prt ∉ [.coh, .spans] := by simp [*]) : view prt (sendWb s c) = view prt s := by simp at hprt; simp [sendWb, *]
@[simp] theorem view_remoteRefusal (s : State) (e : Nat) (q : Req) (hprt : prt ∉ [.regs, .inc, .evr] := by simp [*]) : view prt (remoteRefusal s e q).1 = view prt s := by simp at hprt; (unfold remoteRefusal; (try simp only []); repeat' (first | (simp [*]; done) | ((try have h_imuStage := view_imuStage_eq (prt := prt) ‹imuStage _ _ _ _ _ _ _ = _›); simp [*]; done) | ((try have h_imuStage := view_imuStage_eq (prt := prt) ‹imuStage _ _ _ _ _ _ _ = _›); simp [*]; done) | split | (refine (view_foldl _ _ _ ?_).trans ?_) | (refine (view_foldl_fst _ _ _ ?_).trans ?_) | (refine (view_foldl_snd _ _ _ ?_).trans ?_) | (intro _ _) | (intro _) | (have h_ := view_imuStage_eq (prt := prt) ‹imuStage _ _ _ _ _ _ _ = _›; refine Eq.trans h_ ?_; clear h_) | (simp [*])))
theorem view_remoteRefusal_eq {s : State} {e : Nat} {q : Req} {t} (h : remoteRefusal s e q = t) (hprt : prt ∉ [.regs, .inc, .evr] := by simp [*]) : view prt t.1 = view prt s := by subst h; exact view_remoteRefusal s e q hprt
@[simp] theorem view_judgeRemote (s : State) (e : Nat) (q : Req) (hprt : prt ∉ [.regs, .kvt, .anchor, .ctc, .coh, .engs, .ttb, .spans, .hgt, .cce, .inc, .evr, .out] := by simp [*]) : view prt (judgeRemote s e q) = view prt s := by simp at hprt; (unfold judgeRemote; (try simp only []); repeat' (first | (simp [*]; done) | ((try have h_remoteRefusal := view_remoteRefusal_eq (prt := prt) ‹remoteRefusal _ _ _ = _›); simp [*]; done) | ((try have h_ownerCommit := view_ownerCommit_eq (prt := prt) ‹ownerCommit _ _ _ _ _ _ = some _›); (try have h_remoteRefusal := view_remoteRefusal_eq (prt := prt) ‹remoteRefusal _ _ _ = _›); simp [*]; done) | split | (refine (view_foldl _ _ _ ?_).trans ?_) | (refine (view_foldl_fst _ _ _ ?_).trans ?_) | (refine (view_foldl_snd _ _ _ ?_).trans ?_) | (intro _ _) | (intro _) | (have h_ := view_ownerCommit_eq (prt := prt) ‹ownerCommit _ _ _ _ _ _ = some _›; refine Eq.trans h_ ?_; clear h_) | (have h_ := view_remoteRefusal_eq (prt := prt) ‹remoteRefusal _ _ _ = _›; refine Eq.trans h_ ?_; clear h_) | (simp [*])))
theorem view_takeCt (s : State) (w : HeldCt) (hprt : prt ∉ [.regs, .kvt, .anchor, .ctc, .coh, .engs, .ttb, .spans, .hgt, .cce, .inc, .evr, .out] := by simp [*]) : ∀ t, takeCt s w = some t → view prt t = view prt s := by simp at hprt; intro t h; unfold takeCt at h; (try simp only [] at h); repeat' (first | (simp at h; done) | (simp at h; subst h; first | (simp [*]; done)) | split at h)
theorem view_takeCt_eq {s : State} {w : HeldCt} {t : State} (h : takeCt s w = some t) (hprt : prt ∉ [.regs, .kvt, .anchor, .ctc, .coh, .engs, .ttb, .spans, .hgt, .cce, .inc, .evr, .out] := by simp [*]) : view prt t = view prt s := view_takeCt s w hprt t h
@[simp] theorem view_takeCt_getD (s : State) (w : HeldCt) (u_ : State) (hu_ : view prt u_ = view prt s) (hprt : prt ∉ [.regs, .kvt, .anchor, .ctc, .coh, .engs, .ttb, .spans, .hgt, .cce, .inc, .evr, .out] := by simp [*]) : view prt ((takeCt s w).getD u_) = view prt s := by
  cases h : takeCt s w with
  | none => exact hu_
  | some t => exact view_takeCt_eq h hprt
@[simp] theorem view_offerCt (s : State) (w : HeldCt) (hprt : prt ∉ [.regs, .kvt, .anchor, .ctc, .coh, .engs, .ttb, .spans, .hgt, .cce, .inc, .evr, .out] := by simp [*]) : view prt (offerCt s w) = view prt s := by simp at hprt; (unfold offerCt; (try simp only []); repeat' (first | (simp [*]; done) | ( simp [*]; done) | ((try have h_takeCt := view_takeCt_eq (prt := prt) ‹takeCt _ _ = some _›); simp [*]; done) | split | (refine (view_foldl _ _ _ ?_).trans ?_) | (refine (view_foldl_fst _ _ _ ?_).trans ?_) | (refine (view_foldl_snd _ _ _ ?_).trans ?_) | (intro _ _) | (intro _) | (have h_ := view_takeCt_eq (prt := prt) ‹takeCt _ _ = some _›; refine Eq.trans h_ ?_; clear h_) | (simp [*])))
@[simp] theorem view_retryCts (s : State) (hprt : prt ∉ [.regs, .kvt, .anchor, .ctc, .coh, .engs, .ttb, .spans, .hgt, .cce, .inc, .evr, .out] := by simp [*]) : view prt (retryCts s) = view prt s := by simp at hprt; simp [retryCts, *]
@[simp] theorem view_fillLost (s : State) (f : Fill) (st : Nat) (hprt : prt ∉ [.regs, .ctc, .engs, .ttb, .spans, .hgt, .inc, .evr, .out] := by simp [*]) : view prt (fillLost s f st) = view prt s := by simp at hprt; (unfold fillLost; (try simp only []); repeat' (first | (simp [*]; done) | split | (refine (view_foldl _ _ _ ?_).trans ?_) | (refine (view_foldl_fst _ _ _ ?_).trans ?_) | (refine (view_foldl_snd _ _ _ ?_).trans ?_) | (intro _ _) | (intro _) | (simp [*])))
@[simp] theorem view_afterSettle (s : State) (ends : List (Fill × Bool)) (hprt : prt ∉ [.regs, .kvt, .anchor, .ctc, .coh, .engs, .ttb, .spans, .hgt, .cce, .inc, .evr, .out] := by simp [*]) : view prt (afterSettle s ends) = view prt s := by simp at hprt; (unfold afterSettle; (try simp only []); repeat' (first | (simp [*]; done) | split | (refine (view_foldl _ _ _ ?_).trans ?_) | (refine (view_foldl_fst _ _ _ ?_).trans ?_) | (refine (view_foldl_snd _ _ _ ?_).trans ?_) | (intro _ _) | (intro _) | (simp [*])))
@[simp] theorem view_settleAll (s : State) (hprt : prt ∉ [.regs, .kvt, .anchor, .ctc, .coh, .engs, .ttb, .spans, .hgt, .cce, .inc, .evr, .out] := by simp [*]) : view prt (settleAll s) = view prt s := by simp at hprt; simp [settleAll, *]

@[simp] theorem view_cutOp (s : State) (hprt : prt ∉ [.otp, .free] := by simp [*]) : view prt (cutOp s) = view prt s := by simp at hprt; (unfold cutOp; (try simp only []); repeat' (first | (simp [*]; done) | ((try have h_drawNat := view_drawNat_eq (prt := prt) ‹drawNat _ = _›); simp [*]; done) | ((try have h_drawNat := view_drawNat_eq (prt := prt) ‹drawNat _ = _›); simp [*]; done) | split | (refine (view_foldl _ _ _ ?_).trans ?_) | (refine (view_foldl_fst _ _ _ ?_).trans ?_) | (refine (view_foldl_snd _ _ _ ?_).trans ?_) | (intro _ _) | (intro _) | (have h_ := view_drawNat_eq (prt := prt) ‹drawNat _ = _›; refine Eq.trans h_ ?_; clear h_) | (simp [*])))
@[simp] theorem view_porst (s : State) (hprt : prt ∉ [.regs, .latch, .hold, .exps, .epochs, .held, .withdrawn, .denied, .cru, .ports, .tmp, .wrc, .sbx, .ent, .lco, .otp, .kvt, .dom, .jct, .anchor, .ctc, .coh, .engs, .incarn, .ttb, .spans, .maps, .trs, .hgt, .cce, .imu, .inc, .evr, .ttu, .pmu, .att, .free] := by simp [*]) : view prt (porst s) = view prt s := by
  simp at hprt
  cases prt <;> first | (exact absurd rfl (by assumption)) | (simp at hprt; done) | exact view_cutOp (prt := .out) s | exact view_cutOp (prt := .pending) s | simp_all
@[simp] theorem view_lockLost (s : State) (hprt : prt ∉ [.regs, .epochs, .cru, .wrc, .kvt, .anchor, .ctc, .engs, .ttb, .spans, .trs, .hgt, .cce, .inc, .evr, .att, .out] := by simp [*]) : view prt (lockLost s) = view prt s := by simp at hprt; simp [lockLost, *]
@[simp] theorem view_powerOn (s : State) (d : Nat) (hprt : prt ∉ [.cru] := by simp [*]) : view prt (powerOn s d) = view prt s := by simp at hprt; simp [powerOn, *]
@[simp] theorem view_sequenceDone (s : State) (hprt : prt ∉ [.regs, .epochs, .withdrawn, .cru, .ports, .wrc] := by simp [*]) : view prt (sequenceDone s) = view prt s := by simp at hprt; simp [sequenceDone, *]
@[simp] theorem view_powerNext (s : State) (hprt : prt ∉ [.regs, .epochs, .withdrawn, .cru, .ports, .wrc] := by simp [*]) : view prt (powerNext s) = view prt s := by simp at hprt; (unfold powerNext; (try simp only []); repeat' (first | (simp [*]; done) | split | (refine (view_foldl _ _ _ ?_).trans ?_) | (refine (view_foldl_fst _ _ _ ?_).trans ?_) | (refine (view_foldl_snd _ _ _ ?_).trans ?_) | (intro _ _) | (intro _) | (simp [*])))
@[simp] theorem view_takeAck (s : State) (d : Nat) (hprt : prt ∉ [.cru] := by simp [*]) : view prt (takeAck s d) = view prt s := by simp at hprt; simp [takeAck, *]
@[simp] theorem view_ackTimeout (s : State) (d : Nat) (hprt : prt ∉ [.regs, .epochs, .withdrawn, .cru, .ports, .wrc, .ctc, .engs, .ttb, .spans, .hgt, .inc, .evr, .out] := by simp [*]) : view prt (ackTimeout s d) = view prt s := by simp at hprt; (unfold ackTimeout; (try simp only []); repeat' (first | (simp [*]; done) | split | (refine (view_foldl _ _ _ ?_).trans ?_) | (refine (view_foldl_fst _ _ _ ?_).trans ?_) | (refine (view_foldl_snd _ _ _ ?_).trans ?_) | (intro _ _) | (intro _) | (simp [*])))
@[simp] theorem view_offDone (s : State) (d : Nat) (hprt : prt ∉ [.cru] := by simp [*]) : view prt (offDone s d) = view prt s := by simp at hprt; simp [offDone, *]
@[simp] theorem view_lateOff (s : State) (d : Nat) (hprt : prt ∉ [.cru] := by simp [*]) : view prt (lateOff s d) = view prt s := by simp at hprt; simp [lateOff, *]
@[simp] theorem view_writebackFor (s : State) (d : Nat) (hprt : prt ∉ [.regs, .kvt, .anchor, .ctc, .engs, .inc, .evr, .out] := by simp [*]) : view prt (writebackFor s d) = view prt s := by simp at hprt; simp [writebackFor, *]
@[simp] theorem view_doSscWrite (r : Role) (v : Word) (s : State) (hprt : prt ∉ [.regs, .cru, .inc, .evr, .out] := by simp [*]) : view prt (doSscWrite r v s) = view prt s := by simp at hprt; simp [doSscWrite, *]
@[simp] theorem view_sleepIrq (s : State) (hprt : prt ∉ [.regs, .inc] := by simp [*]) : view prt (sleepIrq s) = view prt s := by simp at hprt; simp [sleepIrq, *]
@[simp] theorem view_sleepRefused (s : State) (hprt : prt ∉ [.regs, .inc, .evr] := by simp [*]) : view prt (sleepRefused s) = view prt s := by simp at hprt; simp [sleepRefused, *]
@[simp] theorem view_doSleepEnter (r : Role) (s : State) (hprt : prt ∉ [.regs, .epochs, .cru, .spans, .inc, .evr, .out] := by simp [*]) : view prt (doSleepEnter r s) = view prt s := by simp at hprt; simp [doSleepEnter, *]
@[simp] theorem view_wake (s : State) (cause : Nat) (hprt : prt ∉ [.regs, .epochs, .cru, .spans, .inc, .evr, .out] := by simp [*]) : view prt (wake s cause) = view prt s := by simp at hprt; (unfold wake; (try simp only []); repeat' (first | (simp [*]; done) | split | (refine (view_foldl _ _ _ ?_).trans ?_) | (refine (view_foldl_fst _ _ _ ?_).trans ?_) | (refine (view_foldl_snd _ _ _ ?_).trans ?_) | (intro _ _) | (intro _) | (simp [*])))
@[simp] theorem view_doSleepExit (r : Role) (s : State) (hprt : prt ∉ [.regs, .epochs, .cru, .spans, .inc, .evr, .out] := by simp [*]) : view prt (doSleepExit r s) = view prt s := by simp at hprt; simp [doSleepExit, *]
@[simp] theorem view_doSleepCtrl (r : Role) (v : Word) (s : State) (hprt : prt ∉ [.regs, .epochs, .cru, .spans, .inc, .evr, .out] := by simp [*]) : view prt (doSleepCtrl r v s) = view prt s := by simp at hprt; simp [doSleepCtrl, *]
@[simp] theorem view_writeGate (s : State) (u : GateUnit) (on : Bool) (hprt : prt ∉ [.regs, .cru, .pmu] := by simp [*]) : view prt (writeGate s u on) = view prt s := by simp at hprt; (unfold writeGate; (try simp only []); repeat' (first | (simp [*]; done) | split | (refine (view_foldl _ _ _ ?_).trans ?_) | (refine (view_foldl_fst _ _ _ ?_).trans ?_) | (refine (view_foldl_snd _ _ _ ?_).trans ?_) | (intro _ _) | (intro _) | (simp [*])))
@[simp] theorem view_doClkEn (r : Role) (reg : Nat) (v : Word) (s : State) (hprt : prt ∉ [.regs, .cru, .pmu, .out] := by simp [*]) : view prt (doClkEn r reg v s) = view prt s := by simp at hprt; (unfold doClkEn; (try simp only []); repeat' (first | (simp [*]; done) | split | (refine (view_foldl _ _ _ ?_).trans ?_) | (refine (view_foldl_fst _ _ _ ?_).trans ?_) | (refine (view_foldl_snd _ _ _ ?_).trans ?_) | (intro _ _) | (intro _) | (simp [*])))
@[simp] theorem view_gateRefused (s : State) (u : GateUnit) (hprt : prt ∉ [.regs, .cru, .inc, .evr] := by simp [*]) : view prt (gateRefused s u) = view prt s := by simp at hprt; simp [gateRefused, *]
@[simp] theorem view_pwrBit (s : State) (d : Nat) (on : Bool) (hprt : prt ∉ [.regs, .cru] := by simp [*]) : view prt (pwrBit s d on) = view prt s := by simp at hprt; simp [pwrBit, *]
@[simp] theorem view_doPwrCtrl (r : Role) (v : Word) (s : State) (hprt : prt ∉ [.regs, .cru, .out] := by simp [*]) : view prt (doPwrCtrl r v s) = view prt s := by simp at hprt; simp [doPwrCtrl, *]
@[simp] theorem view_clockWindow (edges : List Nat) (s : State) (p : Fin 59) (hprt : prt ∉ [.regs, .cru, .ports, .kvt, .anchor, .ctc, .engs, .ttb, .spans, .hgt, .inc, .evr, .out] := by simp [*]) : view prt (clockWindow edges s p) = view prt s := by simp at hprt; simp [clockWindow, *]

@[simp] theorem view_noteStore (s : State) (e : Nat) (q : Req) (hprt : prt ∉ [.ttb] := by simp [*]) : view prt (noteStore s e q) = view prt s := by simp at hprt; simp [noteStore, *]
@[simp] theorem view_askHome (s : State) (e : Nat) (q : Req) (hprt : prt ∉ [.regs, .ctc, .coh, .spans] := by simp [*]) : view prt (askHome s e q) = view prt s := by simp at hprt; simp [askHome, *]
@[simp] theorem view_denyUnmapped (s : State) (e : Nat) (q : Req) (hprt : prt ∉ [.regs, .ttb, .spans, .hgt, .inc, .evr, .out] := by simp [*]) : view prt (denyUnmapped s e q) = view prt s := by simp at hprt; (unfold denyUnmapped; (try simp only []); repeat' (first | (simp [*]; done) | ((try have h_imuStage := view_imuStage_eq (prt := prt) ‹imuStage _ _ _ _ _ _ _ = _›); simp [*]; done) | ((try have h_imuStage := view_imuStage_eq (prt := prt) ‹imuStage _ _ _ _ _ _ _ = _›); simp [*]; done) | split | (refine (view_foldl _ _ _ ?_).trans ?_) | (refine (view_foldl_fst _ _ _ ?_).trans ?_) | (refine (view_foldl_snd _ _ _ ?_).trans ?_) | (intro _ _) | (intro _) | (have h_ := view_imuStage_eq (prt := prt) ‹imuStage _ _ _ _ _ _ _ = _›; refine Eq.trans h_ ?_; clear h_) | (simp [*])))
@[simp] theorem view_judgeFlag (s : State) (e : Nat) (q : Req) (hprt : prt ∉ [.regs, .engs, .ttb, .spans, .hgt, .inc, .evr, .out] := by simp [*]) : view prt (judgeFlag s e q) = view prt s := by simp at hprt; simp [judgeFlag, *]
@[simp] theorem view_judgeFm (s : State) (e : Nat) (q : Req) (hprt : prt ∉ [.regs, .kvt, .jct, .anchor, .ctc, .coh, .engs, .ttb, .spans, .hgt, .cce, .imu, .inc, .evr, .pmu, .free, .out] := by simp [*]) : view prt (judgeFm s e q) = view prt s := by simp at hprt; (unfold judgeFm; (try simp only []); repeat' (first | (simp [*]; done) | split | (refine (view_foldl _ _ _ ?_).trans ?_) | (refine (view_foldl_fst _ _ _ ?_).trans ?_) | (refine (view_foldl_snd _ _ _ ?_).trans ?_) | (intro _ _) | (intro _) | (simp [*])))
@[simp] theorem view_judgeHeld (s : State) (e : Nat) (q : Req) (hprt : prt ∉ [.regs, .kvt, .jct, .anchor, .ctc, .coh, .engs, .ttb, .spans, .hgt, .cce, .imu, .inc, .evr, .pmu, .free, .out] := by simp [*]) : view prt (judgeHeld s e q) = view prt s := by simp at hprt; (unfold judgeHeld; (try simp only []); repeat' (first | (simp [*]; done) | split | (refine (view_foldl _ _ _ ?_).trans ?_) | (refine (view_foldl_fst _ _ _ ?_).trans ?_) | (refine (view_foldl_snd _ _ _ ?_).trans ?_) | (intro _ _) | (intro _) | (simp [*])))
@[simp] theorem view_sampleFm (s : State) (e : Nat) (q : Req) (hprt : prt ∉ [.regs, .epochs, .cru, .kvt, .jct, .anchor, .ctc, .coh, .engs, .ttb, .spans, .hgt, .cce, .imu, .inc, .evr, .pmu, .free, .out] := by simp [*]) : view prt (sampleFm s e q) = view prt s := by simp at hprt; (unfold sampleFm; (try simp only []); repeat' (first | (simp [*]; done) | split | (refine (view_foldl _ _ _ ?_).trans ?_) | (refine (view_foldl_fst _ _ _ ?_).trans ?_) | (refine (view_foldl_snd _ _ _ ?_).trans ?_) | (intro _ _) | (intro _) | (simp [*])))
@[simp] theorem view_judgeService (s : State) (e : Nat) (q : Req) (rest : List Req) (hprt : prt ∉ [.regs, .kvt, .jct, .anchor, .ctc, .coh, .engs, .ttb, .spans, .hgt, .cce, .imu, .inc, .evr, .pmu, .free, .out] := by simp [*]) : view prt (judgeService s e q rest) = view prt s := by simp at hprt; simp [judgeService, *]
@[simp] theorem view_doRequestAdmit (e : Fin 40) (s : State) (hprt : prt ∉ [.regs, .kvt, .jct, .anchor, .ctc, .coh, .engs, .ttb, .spans, .hgt, .cce, .imu, .inc, .evr, .pmu, .free, .out] := by simp [*]) : view prt (doRequestAdmit e s) = view prt s := by simp at hprt; (unfold doRequestAdmit; (try simp only []); repeat' (first | (simp [*]; done) | split | (refine (view_foldl _ _ _ ?_).trans ?_) | (refine (view_foldl_fst _ _ _ ?_).trans ?_) | (refine (view_foldl_snd _ _ _ ?_).trans ?_) | (intro _ _) | (intro _) | (simp [*])))
@[simp] theorem view_proceedFlag (s : State) (e : Nat) (q : Req) (hprt : prt ∉ [.regs, .engs, .ttb, .spans, .hgt, .inc, .evr, .out] := by simp [*]) : view prt (proceedFlag s e q) = view prt s := by simp at hprt; (unfold proceedFlag; (try simp only []); repeat' (first | (simp [*]; done) | ((try have h_remoteRefusal := view_remoteRefusal_eq (prt := prt) ‹remoteRefusal _ _ _ = _›); simp [*]; done) | ((try have h_remoteRefusal := view_remoteRefusal_eq (prt := prt) ‹remoteRefusal _ _ _ = _›); simp [*]; done) | split | (refine (view_foldl _ _ _ ?_).trans ?_) | (refine (view_foldl_fst _ _ _ ?_).trans ?_) | (refine (view_foldl_snd _ _ _ ?_).trans ?_) | (intro _ _) | (intro _) | (have h_ := view_remoteRefusal_eq (prt := prt) ‹remoteRefusal _ _ _ = _›; refine Eq.trans h_ ?_; clear h_) | (simp [*])))
@[simp] theorem view_dropTx (s : State) (e : Nat) (id : Nat) (hprt : prt ∉ [.engs, .out] := by simp [*]) : view prt (dropTx s e id) = view prt s := by simp at hprt; simp [dropTx, *]
@[simp] theorem view_memPoison (s : State) (e : Nat) (off : Nat) (perr : Bool) (hprt : prt ∉ [.regs, .exps, .epochs, .held, .withdrawn, .cru, .wrc, .sbx, .ent, .lco, .kvt, .jct, .anchor, .ctc, .coh, .engs, .incarn, .ttb, .spans, .maps, .trs, .hgt, .cce, .imu, .inc, .evr, .pmu, .att, .out] := by simp [*]) : view prt (memPoison s e off perr) = view prt s := by simp at hprt; simp [memPoison, *]
@[simp] theorem view_endSet (s : State) (e : Nat) (n : Nat) (st : Nat) (hprt : prt ∉ [.regs, .ctc, .engs, .ttb, .spans, .hgt, .inc, .evr, .out] := by simp [*]) : view prt (endSet s e n st) = view prt s := by simp at hprt; simp [endSet, *]
@[simp] theorem view_answerGroup (s : State) (e : Nat) (n : Nat) (a : Adm) (desc : List (Nat × Nat × Bytes)) (data : Bytes) (hprt : prt ∉ [.regs, .ctc, .engs, .spans] := by simp [*]) : view prt (answerGroup s e n a desc data) = view prt s := by simp at hprt; (unfold answerGroup; (try simp only []); repeat' (first | (simp [*]; done) | split | (refine (view_foldl _ _ _ ?_).trans ?_) | (refine (view_foldl_fst _ _ _ ?_).trans ?_) | (refine (view_foldl_snd _ _ _ ?_).trans ?_) | (intro _ _) | (intro _) | (simp [*])))
@[simp] theorem view_slotData (s : State) (e : Nat) (n : Nat) (data : Bytes) (hprt : prt ∉ [.regs, .exps, .epochs, .held, .withdrawn, .cru, .wrc, .sbx, .ent, .lco, .kvt, .jct, .anchor, .ctc, .coh, .engs, .incarn, .ttb, .spans, .maps, .trs, .hgt, .cce, .imu, .inc, .evr, .pmu, .att, .out] := by simp [*]) : view prt (slotData s e n data) = view prt s := by simp at hprt; (unfold slotData; (try simp only []); repeat' (first | (simp [*]; done) | split | (refine (view_foldl _ _ _ ?_).trans ?_) | (refine (view_foldl_fst _ _ _ ?_).trans ?_) | (refine (view_foldl_snd _ _ _ ?_).trans ?_) | (intro _ _) | (intro _) | (simp [*])))
@[simp] theorem view_doMemReadData (e : Fin 40) (id : BitVec 8) (data : Bytes) (rerr : Bool) (perr : Bool) (s : State) (hprt : prt ∉ [.regs, .exps, .epochs, .held, .withdrawn, .cru, .wrc, .sbx, .ent, .lco, .kvt, .jct, .anchor, .ctc, .coh, .engs, .incarn, .ttb, .spans, .maps, .trs, .hgt, .cce, .imu, .inc, .evr, .pmu, .att, .out] := by simp [*]) : view prt (doMemReadData e id data rerr perr s) = view prt s := by simp at hprt; (unfold doMemReadData; (try simp only []); repeat' (first | (simp [*]; done) | split | (refine (view_foldl _ _ _ ?_).trans ?_) | (refine (view_foldl_fst _ _ _ ?_).trans ?_) | (refine (view_foldl_snd _ _ _ ?_).trans ?_) | (intro _ _) | (intro _) | (simp [*])))
@[simp] theorem view_doMemWritePresent (e : Fin 40) (slot : Fin 128) (s : State) (hprt : prt ∉ [.regs, .ctc, .engs, .out] := by simp [*]) : view prt (doMemWritePresent e slot s) = view prt s := by simp at hprt; (unfold doMemWritePresent; (try simp only []); repeat' (first | (simp [*]; done) | split | (refine (view_foldl _ _ _ ?_).trans ?_) | (refine (view_foldl_fst _ _ _ ?_).trans ?_) | (refine (view_foldl_snd _ _ _ ?_).trans ?_) | (intro _ _) | (intro _) | (simp [*])))
@[simp] theorem view_doMemWriteAck (e : Fin 40) (id : BitVec 8) (s : State) (hprt : prt ∉ [.regs, .kvt, .anchor, .ctc, .engs, .inc, .evr, .out] := by simp [*]) : view prt (doMemWriteAck e id s) = view prt s := by simp at hprt; (unfold doMemWriteAck; (try simp only []); repeat' (first | (simp [*]; done) | split | (refine (view_foldl _ _ _ ?_).trans ?_) | (refine (view_foldl_fst _ _ _ ?_).trans ?_) | (refine (view_foldl_snd _ _ _ ?_).trans ?_) | (intro _ _) | (intro _) | (simp [*])))
@[simp] theorem view_doMetadataFillReturn (e : Fin 40) (id : BitVec 8) (data : Bytes) (rerr : Bool) (perr : Bool) (s : State) (hprt : prt ∉ [.regs, .exps, .epochs, .held, .withdrawn, .cru, .wrc, .sbx, .ent, .lco, .kvt, .jct, .anchor, .ctc, .coh, .engs, .incarn, .ttb, .spans, .maps, .trs, .hgt, .cce, .imu, .inc, .evr, .pmu, .att, .out] := by simp [*]) : view prt (doMetadataFillReturn e id data rerr perr s) = view prt s := by
  simp at hprt
  unfold doMetadataFillReturn
  split
  · dsimp only
    split
    · split
      · split
        · split
          · split <;> simp [*]
          · simp [*]
        · simp [*]
      · simp [*]
    · rfl
  · rfl
@[simp] theorem view_resealWrite (s : State) (e : Nat) (a : Adm) (l : Nat) (i : Nat) (major : Nat) (pt : Bytes) (hprt : prt ∉ [.ctc, .engs, .out] := by simp [*]) : view prt (resealWrite s e a l i major pt) = view prt s := by simp at hprt; (unfold resealWrite; (try simp only []); repeat' (first | (simp [*]; done) | split | (refine (view_foldl _ _ _ ?_).trans ?_) | (refine (view_foldl_fst _ _ _ ?_).trans ?_) | (refine (view_foldl_snd _ _ _ ?_).trans ?_) | (intro _ _) | (intro _) | (simp [*])))
@[simp] theorem view_resealGranule (s : State) (e : Nat) (a : Adm) (r : Reseal) (i : Nat) (hprt : prt ∉ [.regs, .ctc, .engs, .inc, .evr, .out] := by simp [*]) : view prt (resealGranule s e a r i) = view prt s := by simp at hprt; (unfold resealGranule; (try simp only []); repeat' (first | (simp [*]; done) | split | (refine (view_foldl _ _ _ ?_).trans ?_) | (refine (view_foldl_fst _ _ _ ?_).trans ?_) | (refine (view_foldl_snd _ _ _ ?_).trans ?_) | (intro _ _) | (intro _) | (simp [*])))
@[simp] theorem view_resealUnpin (s : State) (e : Nat) (r : Reseal) (hprt : prt ∉ [.ctc] := by simp [*]) : view prt (resealUnpin s e r) = view prt s := by simp at hprt; simp [resealUnpin, *]
@[simp] theorem view_doResealFinish (e : Fin 40) (s : State) (hprt : prt ∉ [.regs, .exps, .epochs, .held, .withdrawn, .cru, .wrc, .sbx, .ent, .lco, .kvt, .jct, .anchor, .ctc, .coh, .engs, .incarn, .ttb, .spans, .maps, .trs, .hgt, .cce, .imu, .inc, .evr, .pmu, .att, .out] := by simp [*]) : view prt (doResealFinish e s) = view prt s := by simp at hprt; (unfold doResealFinish; (try simp only []); repeat' (first | (simp [*]; done) | split | (refine (view_foldl _ _ _ ?_).trans ?_) | (refine (view_foldl_fst _ _ _ ?_).trans ?_) | (refine (view_foldl_snd _ _ _ ?_).trans ?_) | (intro _ _) | (intro _) | (simp [*])))
@[simp] theorem view_doCtcPart (r : Role) (v : Word) (s : State) (hprt : prt ∉ [.regs, .epochs, .ctc, .inc, .evr, .out] := by simp [*]) : view prt (doCtcPart r v s) = view prt s := by simp at hprt; simp [doCtcPart, *]
@[simp] theorem view_doCtcPf (r : Role) (v : Word) (s : State) (hprt : prt ∉ [.regs, .epochs, .ctc, .out] := by simp [*]) : view prt (doCtcPf r v s) = view prt s := by simp at hprt; simp [doCtcPf, *]
@[simp] theorem view_resetBelow (s : State) (e : Nat) (lo : Nat) (hi : Nat) (flags : Bool) (hprt : prt ∉ [.ctc] := by simp [*]) : view prt (resetBelow s e lo hi flags) = view prt s := by simp at hprt; simp [resetBelow, *]
@[simp] theorem view_initTree (a0 : Nat) (a1 : State) (a2 : Nat) (a3 : Nat) (a4 : Nat) (a5 : Nat) (hprt : prt ∉ [.regs, .kvt, .anchor, .ctc, .engs, .inc, .evr, .out] := by simp [*]) : view prt (initTree a0 a1 a2 a3 a4 a5).1 = view prt a1 := by
  simp at hprt
  induction a0 generalizing a1 a2 a3 a4 a5 with
  | zero => unfold initTree; simp only []; repeat' (first | (simp [*]; done) | split)
  | succ n ih =>
    unfold initTree; simp only []
    repeat' (first | (simp [*]; done) | (refine (view_foldl_fst _ _ _ ?_).trans ?_) | (intro p x; exact ih _ _ _ _ _) | split)
theorem view_initTree_eq {a0 : Nat} {a1 : State} {a2 : Nat} {a3 : Nat} {a4 : Nat} {a5 : Nat} {t} (h : initTree a0 a1 a2 a3 a4 a5 = t) (hprt : prt ∉ [.regs, .kvt, .anchor, .ctc, .engs, .inc, .evr, .out] := by simp [*]) : view prt t.1 = view prt a1 := by subst h; exact view_initTree a0 a1 a2 a3 a4 a5 hprt
@[simp] theorem view_resetTop (s : State) (e : Nat) (r : ResetRange) (hprt : prt ∉ [.anchor, .ctc] := by simp [*]) : view prt (resetTop s e r) = view prt s := by simp at hprt; (unfold resetTop; (try simp only []); repeat' (first | (simp [*]; done) | split | (refine (view_foldl _ _ _ ?_).trans ?_) | (refine (view_foldl_fst _ _ _ ?_).trans ?_) | (refine (view_foldl_snd _ _ _ ?_).trans ?_) | (intro _ _) | (intro _) | (simp [*])))
@[simp] theorem view_resetPart (s : State) (e : Nat) (r : ResetRange) (hprt : prt ∉ [.regs, .kvt, .anchor, .ctc, .engs, .ttb, .spans, .hgt, .cce, .inc, .evr, .out] := by simp [*]) : view prt (resetPart s e r).1 = view prt s := by
  simp at hprt
  have hw : ∀ (o : Nat → Nat) (g : State → Nat → Bytes) (l : List Nat) (t : State),
      view prt (l.foldl (fun t i => present t e .writeback true (o i) 64 (g t i)) t) = view prt t := fun _ _ _ _ =>
    view_foldl _ _ _ (fun _ _ => view_present _ _ _ _ _ _ _ (by simp [*]))
  have h : ∀ (fuel a b c : Nat) (l : List Nat) (p : State × Bool), view prt ((l.foldl (fun acc i =>
        if topInit acc.1 e ((if e < 32 then 9 * e + (c + i) else c + i) / 8) then (resetBelow acc.1 e (max a ((c + i) * 2 ^ 18)) (min b ((c + i + 1) * 2 ^ 18 - 1)) true, acc.2)
        else
          let x := initTree fuel acc.1 e (c + i) a b
          (x.1, acc.2 && x.2)) p)).1 = view prt p.1 := fun fuel a b c l p =>
    view_foldl_fst _ _ _ (fun p x => by split <;> split <;> simp [*])
  unfold resetPart
  split
  · rfl
  · generalize 6 = fuel
    split
    · rfl
    · split
      · split
        · dsimp only; rw [view_keyMiss]
        · dsimp only; rw [hw, view_resetBelow]
      · exact h fuel _ _ _ _ _
theorem view_resetPart_eq {s : State} {e : Nat} {r : ResetRange} {t} (h : resetPart s e r = t) (hprt : prt ∉ [.regs, .kvt, .anchor, .ctc, .engs, .ttb, .spans, .hgt, .cce, .inc, .evr, .out] := by simp [*]) : view prt t.1 = view prt s := by subst h; exact view_resetPart s e r hprt
@[simp] theorem view_resetRange (s : State) (r : ResetRange) (hprt : prt ∉ [.regs, .kvt, .anchor, .ctc, .engs, .ttb, .spans, .hgt, .cce, .inc, .evr, .out] := by simp [*]) : view prt (resetRange s r).1 = view prt s := by simp at hprt; simp [resetRange, *]
theorem view_resetRange_eq {s : State} {r : ResetRange} {t} (h : resetRange s r = t) (hprt : prt ∉ [.regs, .kvt, .anchor, .ctc, .engs, .ttb, .spans, .hgt, .cce, .inc, .evr, .out] := by simp [*]) : view prt t.1 = view prt s := by subst h; exact view_resetRange s r hprt

@[simp] theorem view_setFlow (s : State) (n : Nat) (f : Nat) (x : Flow) (hprt : prt ∉ [.spans] := by simp [*]) : view prt (setFlow s n f x) = view prt s := by simp at hprt; simp [setFlow, *]
@[simp] theorem view_keepKey (s : State) (n : Nat) (k : SpanKey) (hprt : prt ∉ [.spans] := by simp [*]) : view prt (keepKey s n k) = view prt s := by simp at hprt; simp [keepKey, *]
@[simp] theorem view_askKey (s : State) (n : Nat) (pos : Nat) (f : Nat) (rx : Bool) (hprt : prt ∉ [.kvt] := by simp [*]) : view prt (askKey s n pos f rx) = view prt s := by simp at hprt; simp [askKey, *]
@[simp] theorem view_takeSeq (s : State) (n : Nat) (f : Nat) (isReq : Bool) (hprt : prt ∉ [.spans] := by simp [*]) : view prt (takeSeq s n f isReq) = view prt s := by simp at hprt; simp [takeSeq, *]
@[simp] theorem view_sealAt (s : State) (n : Nat) (f : Nat) (c : Nat) (epoch : Nat) (key : Bytes) (d : Draft) (inst : Option Nat) (hprt : prt ∉ [.regs, .spans, .out] := by simp [*]) : view prt (sealAt s n f c epoch key d inst) = view prt s := by simp at hprt; simp [sealAt, *]
@[simp] theorem view_sealSend (s : State) (n : Nat) (f : Nat) (epoch : Nat) (key : Bytes) (d : Draft) (isReq : Bool) (inst : Option Nat) (hprt : prt ∉ [.regs, .spans, .out] := by simp [*]) : view prt (sealSend s n f epoch key d isReq inst) = view prt s := by simp at hprt; simp [sealSend, *]
@[simp] theorem view_goneAll (s : State) (n : Nat) (id : Nat) (hprt : prt ∉ [.regs, .ttb, .spans, .hgt, .inc, .evr, .out] := by simp [*]) : view prt (goneAll s n id) = view prt s := by simp at hprt; simp [goneAll, *]
@[simp] theorem view_peerSeen (s : State) (n : Nat) (id : Nat) (inc : Nat) (hprt : prt ∉ [.regs, .kvt, .anchor, .ctc, .coh, .engs, .ttb, .spans, .hgt, .cce, .inc, .evr, .out] := by simp [*]) : view prt (peerSeen s n id inc) = view prt s := by simp at hprt; (unfold peerSeen; (try simp only []); repeat' (first | (simp [*]; done) | split | (refine (view_foldl _ _ _ ?_).trans ?_) | (refine (view_foldl_fst _ _ _ ?_).trans ?_) | (refine (view_foldl_snd _ _ _ ?_).trans ?_) | (intro _ _) | (intro _) | (simp [*])))
@[simp] theorem view_txKey (s : State) (n : Nat) (f : Nat) (hprt : prt ∉ [.kvt, .spans] := by simp [*]) : view prt (txKey s n f).1 = view prt s := by simp at hprt; (unfold txKey; (try simp only []); repeat' (first | (simp [*]; done) | split | (refine (view_foldl _ _ _ ?_).trans ?_) | (refine (view_foldl_fst _ _ _ ?_).trans ?_) | (refine (view_foldl_snd _ _ _ ?_).trans ?_) | (intro _ _) | (intro _) | (simp [*])))
theorem view_txKey_eq {s : State} {n : Nat} {f : Nat} {t} (h : txKey s n f = t) (hprt : prt ∉ [.kvt, .spans] := by simp [*]) : view prt t.1 = view prt s := by subst h; exact view_txKey s n f hprt
@[simp] theorem view_judgeFlow (s : State) (n : Nat) (home : Nat) (hprt : prt ∉ [.regs, .inc, .evr] := by simp [*]) : view prt (judgeFlow s n home).1 = view prt s := by simp at hprt; (unfold judgeFlow; (try simp only []); repeat' (first | (simp [*]; done) | split | (refine (view_foldl _ _ _ ?_).trans ?_) | (refine (view_foldl_fst _ _ _ ?_).trans ?_) | (refine (view_foldl_snd _ _ _ ?_).trans ?_) | (intro _ _) | (intro _) | (simp [*])))
theorem view_judgeFlow_eq {s : State} {n : Nat} {home : Nat} {t} (h : judgeFlow s n home = t) (hprt : prt ∉ [.regs, .inc, .evr] := by simp [*]) : view prt t.1 = view prt s := by subst h; exact view_judgeFlow s n home hprt
@[simp] theorem view_sendMreq (s : State) (n : Nat) (q : Req) (engine f ep : Nat) (key : Bytes) (clear : State → State) (h_clear : ∀ x0, view prt (clear x0) = view prt x0) (hprt : prt ∉ [.regs, .kvt, .anchor, .ctc, .engs, .ttb, .spans, .hgt, .cce, .inc, .evr, .pmu, .free, .out] := by simp [*]) : view prt (sendMreq s n q engine f ep key clear) = view prt s := by
  simp at hprt
  unfold sendMreq
  extract_lets x y idx gflow q' part pt len s1 s2 s3
  have h1 : view prt s1 = view prt s := by simp [s1, *]
  have h2 : view prt s2 = view prt s1 := by simp [s2, *]
  have h3 : view prt s3 = view prt s2 := by simp only [s3]; split <;> simp [*]
  simp [*]
@[simp] theorem view_egressReq (s : State) (n : Nat) (q : Req) (engine : Nat) (clear : State → State) (h_clear : ∀ x0, view prt (clear x0) = view prt x0) (hprt : prt ∉ [.regs, .kvt, .anchor, .ctc, .engs, .ttb, .spans, .hgt, .cce, .inc, .evr, .pmu, .free, .out] := by simp [*]) : view prt (egressReq s n q engine clear).1 = view prt s := by
  simp at hprt
  unfold egressReq
  repeat' (first | (simp [*]; done) | ((have h1 := view_judgeFlow_eq (prt := prt) ‹judgeFlow _ _ _ = _› (by simp [*])); (try have h2 := view_txKey_eq (prt := prt) ‹txKey _ _ _ = _› (by simp [*])); simp at h1; (try simp at h2); simp [*]; done) | split | (dsimp only []))
theorem view_egressReq_eq {s : State} {n : Nat} {q : Req} {engine : Nat} {clear : State → State} (h_clear : ∀ x0, view prt (clear x0) = view prt x0) {t} (h : egressReq s n q engine clear = t) (hprt : prt ∉ [.regs, .kvt, .anchor, .ctc, .engs, .ttb, .spans, .hgt, .cce, .inc, .evr, .pmu, .free, .out] := by simp [*]) : view prt t.1 = view prt s := by subst h; exact view_egressReq s n q engine clear h_clear hprt
@[simp] theorem view_freeRsv (s : State) (n : Nat) (r : Nat) (hprt : prt ∉ [.regs, .spans] := by simp [*]) : view prt (freeRsv s n r) = view prt s := by simp at hprt; simp [freeRsv, *]
@[simp] theorem view_egressRsp (s : State) (n : Nat) (q : Req) (st : Nat) (cls : Nat) (bal : Nat) (rsv : Nat) (desc : List (Nat × Nat × Bytes)) (data : Bytes) (hprt : prt ∉ [.regs, .kvt, .spans, .out] := by simp [*]) : view prt (egressRsp s n q st cls bal rsv desc data).1 = view prt s := by simp at hprt; (unfold egressRsp; (try simp only []); repeat' (first | (simp [*]; done) | ((try have h_txKey := view_txKey_eq (prt := prt) ‹txKey _ _ _ = _›); simp [*]; done) | ((try have h_txKey := view_txKey_eq (prt := prt) ‹txKey _ _ _ = _›); simp [*]; done) | split | (refine (view_foldl _ _ _ ?_).trans ?_) | (refine (view_foldl_fst _ _ _ ?_).trans ?_) | (refine (view_foldl_snd _ _ _ ?_).trans ?_) | (intro _ _) | (intro _) | (have h_ := view_txKey_eq (prt := prt) ‹txKey _ _ _ = _›; refine Eq.trans h_ ?_; clear h_) | (simp [*])))
theorem view_egressRsp_eq {s : State} {n : Nat} {q : Req} {st : Nat} {cls : Nat} {bal : Nat} {rsv : Nat} {desc : List (Nat × Nat × Bytes)} {data : Bytes} {t} (h : egressRsp s n q st cls bal rsv desc data = t) (hprt : prt ∉ [.regs, .kvt, .spans, .out] := by simp [*]) : view prt t.1 = view prt s := by subst h; exact view_egressRsp s n q st cls bal rsv desc data hprt
@[simp] theorem view_egressGrp (s : State) (n : Nat) (reqs : List Req) (cls : Nat) (bal : Nat) (rsv : Nat) (gf : Nat) (desc : List (Nat × Nat × Bytes)) (data : Bytes) (hprt : prt ∉ [.regs, .kvt, .anchor, .ctc, .engs, .ttb, .spans, .hgt, .cce, .inc, .evr, .out] := by simp [*]) : view prt (egressGrp s n reqs cls bal rsv gf desc data).1 = view prt s := by simp at hprt; (unfold egressGrp; (try simp only []); repeat' (first | (simp [*]; done) | split | (refine (view_foldl _ _ _ ?_).trans ?_) | (refine (view_foldl_fst _ _ _ ?_).trans ?_) | (refine (view_foldl_snd _ _ _ ?_).trans ?_) | (intro _ _) | (intro _) | (simp [*])))
theorem view_egressGrp_eq {s : State} {n : Nat} {reqs : List Req} {cls : Nat} {bal : Nat} {rsv : Nat} {gf : Nat} {desc : List (Nat × Nat × Bytes)} {data : Bytes} {t} (h : egressGrp s n reqs cls bal rsv gf desc data = t) (hprt : prt ∉ [.regs, .kvt, .anchor, .ctc, .engs, .ttb, .spans, .hgt, .cce, .inc, .evr, .out] := by simp [*]) : view prt t.1 = view prt s := by subst h; exact view_egressGrp s n reqs cls bal rsv gf desc data hprt
@[simp] theorem view_egressCoh (s : State) (n : Nat) (peer : Nat) (isReq : Bool) (d : Draft) (hprt : prt ∉ [.regs, .kvt, .spans, .inc, .evr, .out] := by simp [*]) : view prt (egressCoh s n peer isReq d).1 = view prt s := by
  simp at hprt
  unfold egressCoh
  split
  · have h_ := view_judgeFlow_eq (prt := prt) ‹judgeFlow _ _ _ = _›; exact h_
  · have h_ := view_judgeFlow_eq (prt := prt) ‹judgeFlow _ _ _ = _›
    split
    · have h2 := view_txKey_eq (prt := prt) ‹txKey _ _ _ = _›; exact h2.trans h_
    · have h2 := view_txKey_eq (prt := prt) ‹txKey _ _ _ = _›
      split
      · exact h2.trans h_
      · exact (view_sealSend _ _ _ _ _ _ _ _).trans (h2.trans h_)
theorem view_egressCoh_eq {s : State} {n : Nat} {peer : Nat} {isReq : Bool} {d : Draft} {t} (h : egressCoh s n peer isReq d = t) (hprt : prt ∉ [.regs, .kvt, .spans, .inc, .evr, .out] := by simp [*]) : view prt t.1 = view prt s := by subst h; exact view_egressCoh s n peer isReq d hprt
@[simp] theorem view_markTold (s : State) (n : Nat) (f : Nat) (hprt : prt ∉ [.spans] := by simp [*]) : view prt (markTold s n f) = view prt s := by simp at hprt; simp [markTold, *]
@[simp] theorem view_sendNiAt (s : State) (n : Nat) (c : Nat) (x : NiItem) (ep : Nat) (key : Bytes) (hprt : prt ∉ [.regs, .ttb, .spans, .pmu, .out] := by simp [*]) : view prt (sendNiAt s n c x ep key) = view prt s := by simp at hprt; (unfold sendNiAt; (try simp only []); repeat' (first | (simp [*]; done) | split | (refine (view_foldl _ _ _ ?_).trans ?_) | (refine (view_foldl_fst _ _ _ ?_).trans ?_) | (refine (view_foldl_snd _ _ _ ?_).trans ?_) | (intro _ _) | (intro _) | (simp [*])))
@[simp] theorem view_sendNi (s : State) (n : Nat) (x : NiItem) (ep : Nat) (key : Bytes) (hprt : prt ∉ [.regs, .ttb, .spans, .pmu, .out] := by simp [*]) : view prt (sendNi s n x ep key) = view prt s := by simp at hprt; (unfold sendNi; (try simp only []); repeat' (first | (simp [*]; done) | split | (refine (view_foldl _ _ _ ?_).trans ?_) | (refine (view_foldl_fst _ _ _ ?_).trans ?_) | (refine (view_foldl_snd _ _ _ ?_).trans ?_) | (intro _ _) | (intro _) | (simp [*])))
@[simp] theorem view_egressNi (s : State) (n : Nat) (x : NiItem) (hprt : prt ∉ [.regs, .kvt, .ttb, .spans, .pmu, .out] := by simp [*]) : view prt (egressNi s n x).1 = view prt s := by simp at hprt; (unfold egressNi; (try simp only []); repeat' (first | (simp [*]; done) | ((try have h_txKey := view_txKey_eq (prt := prt) ‹txKey _ _ _ = _›); simp [*]; done) | ((try have h_txKey := view_txKey_eq (prt := prt) ‹txKey _ _ _ = _›); simp [*]; done) | split | (refine (view_foldl _ _ _ ?_).trans ?_) | (refine (view_foldl_fst _ _ _ ?_).trans ?_) | (refine (view_foldl_snd _ _ _ ?_).trans ?_) | (intro _ _) | (intro _) | (have h_ := view_txKey_eq (prt := prt) ‹txKey _ _ _ = _›; refine Eq.trans h_ ?_; clear h_) | (simp [*])))
theorem view_egressNi_eq {s : State} {n : Nat} {x : NiItem} {t} (h : egressNi s n x = t) (hprt : prt ∉ [.regs, .kvt, .ttb, .spans, .pmu, .out] := by simp [*]) : view prt t.1 = view prt s := by subst h; exact view_egressNi s n x hprt
@[simp] theorem view_egressCredit (s : State) (n : Nat) (f : Nat) (hprt : prt ∉ [.regs, .kvt, .spans, .out] := by simp [*]) : view prt (egressCredit s n f).1 = view prt s := by simp at hprt; (unfold egressCredit; (try simp only []); repeat' (first | (simp [*]; done) | ((try have h_txKey := view_txKey_eq (prt := prt) ‹txKey _ _ _ = _›); simp [*]; done) | ((try have h_txKey := view_txKey_eq (prt := prt) ‹txKey _ _ _ = _›); simp [*]; done) | split | (refine (view_foldl _ _ _ ?_).trans ?_) | (refine (view_foldl_fst _ _ _ ?_).trans ?_) | (refine (view_foldl_snd _ _ _ ?_).trans ?_) | (intro _ _) | (intro _) | (have h_ := view_txKey_eq (prt := prt) ‹txKey _ _ _ = _›; refine Eq.trans h_ ?_; clear h_) | (simp [*])))
theorem view_egressCredit_eq {s : State} {n : Nat} {f : Nat} {t} (h : egressCredit s n f = t) (hprt : prt ∉ [.regs, .kvt, .spans, .out] := by simp [*]) : view prt t.1 = view prt s := by subst h; exact view_egressCredit s n f hprt
@[simp] theorem view_ltOpen (s : State) (k : Unit → Egress) (h : view prt (k ()).1 = view prt s) : view prt (ltOpen s k).1 = view prt s := by
  unfold ltOpen; split <;> simp_all
theorem view_ltOpen_eq {s : State} {k : Unit → Egress} {t} (e : ltOpen s k = t) (h : view prt (k ()).1 = view prt s) : view prt t.1 = view prt s := by subst e; exact view_ltOpen s k h
@[simp] theorem view_egressFm (s : State) (n : Nat) (e : Nat) (hprt : prt ∉ [.regs, .kvt, .anchor, .ctc, .engs, .ttb, .spans, .hgt, .cce, .inc, .evr, .pmu, .free, .out] := by simp [*]) : view prt (egressFm s n e).1 = view prt s := by simp at hprt; (unfold egressFm; (try simp only []); repeat' (first | (simp [*]; done) | ((try have h_remoteRefusal := view_remoteRefusal_eq (prt := prt) ‹remoteRefusal _ _ _ = _›); (try have h_egressReq := view_egressReq_eq (prt := prt) ‹egressReq _ _ _ _ _ = _›); simp [*]; done) | ((try have h_remoteRefusal := view_remoteRefusal_eq (prt := prt) ‹remoteRefusal _ _ _ = _›); (try have h_egressReq := view_egressReq_eq (prt := prt) ‹egressReq _ _ _ _ _ = _›); simp [*]; done) | split | (refine (view_foldl _ _ _ ?_).trans ?_) | (refine (view_foldl_fst _ _ _ ?_).trans ?_) | (refine (view_foldl_snd _ _ _ ?_).trans ?_) | (intro _ _) | (intro _) | (have h_ := view_remoteRefusal_eq (prt := prt) ‹remoteRefusal _ _ _ = _›; refine Eq.trans h_ ?_; clear h_) | (have h_ := view_egressReq_eq (prt := prt) ‹egressReq _ _ _ _ _ = _›; refine Eq.trans h_ ?_; clear h_) | (simp [*])))
theorem view_egressFm_eq {s : State} {n : Nat} {e : Nat} {t} (h : egressFm s n e = t) (hprt : prt ∉ [.regs, .kvt, .anchor, .ctc, .engs, .ttb, .spans, .hgt, .cce, .inc, .evr, .pmu, .free, .out] := by simp [*]) : view prt t.1 = view prt s := by subst h; exact view_egressFm s n e hprt
@[simp] theorem view_egressFlag (s : State) (n : Nat) (q : Req) (e : Nat) (hprt : prt ∉ [.regs, .kvt, .anchor, .ctc, .engs, .ttb, .spans, .hgt, .cce, .inc, .evr, .pmu, .free, .out] := by simp [*]) : view prt (egressFlag s n q e).1 = view prt s := by simp at hprt; (unfold egressFlag; (try simp only []); repeat' (first | (simp [*]; done) | ((try have h_remoteRefusal := view_remoteRefusal_eq (prt := prt) ‹remoteRefusal _ _ _ = _›); (try have h_egressReq := view_egressReq_eq (prt := prt) ‹egressReq _ _ _ _ _ = _›); simp [*]; done) | ((try have h_remoteRefusal := view_remoteRefusal_eq (prt := prt) ‹remoteRefusal _ _ _ = _›); (try have h_egressReq := view_egressReq_eq (prt := prt) ‹egressReq _ _ _ _ _ = _›); simp [*]; done) | split | (refine (view_foldl _ _ _ ?_).trans ?_) | (refine (view_foldl_fst _ _ _ ?_).trans ?_) | (refine (view_foldl_snd _ _ _ ?_).trans ?_) | (intro _ _) | (intro _) | (have h_ := view_remoteRefusal_eq (prt := prt) ‹remoteRefusal _ _ _ = _›; refine Eq.trans h_ ?_; clear h_) | (have h_ := view_egressReq_eq (prt := prt) ‹egressReq _ _ _ _ _ = _›; refine Eq.trans h_ ?_; clear h_) | (simp [*])))
theorem view_egressFlag_eq {s : State} {n : Nat} {q : Req} {e : Nat} {t} (h : egressFlag s n q e = t) (hprt : prt ∉ [.regs, .kvt, .anchor, .ctc, .engs, .ttb, .spans, .hgt, .cce, .inc, .evr, .pmu, .free, .out] := by simp [*]) : view prt t.1 = view prt s := by subst h; exact view_egressFlag s n q e hprt
@[simp] theorem view_freshGroup (s : State) (reqs : List Req) (hprt : prt ∉ [.regs] := by simp [*]) : view prt (freshGroup s reqs).1 = view prt s := by simp at hprt; simp [freshGroup, *]
theorem view_freshGroup_eq {s : State} {reqs : List Req} {t} (h : freshGroup s reqs = t) (hprt : prt ∉ [.regs] := by simp [*]) : view prt t.1 = view prt s := by subst h; exact view_freshGroup s reqs hprt
@[simp] theorem view_admitOpen (s : State) (n : Nat) (k : Unit → Egress) (h : view prt (k ()).1 = view prt s) : view prt (admitOpen s n k).1 = view prt s := by
  unfold admitOpen; split <;> simp_all
theorem view_admitOpen_eq {s : State} {n : Nat} {k : Unit → Egress} {t} (e : admitOpen s n k = t) (h : view prt (k ()).1 = view prt s) : view prt t.1 = view prt s := by subst e; exact view_admitOpen s n k h
@[simp] theorem view_egressItem (s : State) (n : Nat) (a2 : TxItem) (hprt : prt ∉ [.regs, .kvt, .anchor, .ctc, .engs, .ttb, .spans, .hgt, .cce, .inc, .evr, .pmu, .free, .out] := by simp [*]) : view prt (egressItem s n a2).1 = view prt s := by simp at hprt; (unfold egressItem; (try simp only []); repeat' (first | (simp [*]; done) | ((try have h_egressRsp := view_egressRsp_eq (prt := prt) ‹egressRsp _ _ _ _ _ _ _ _ _ = _›); (try have h_egressGrp := view_egressGrp_eq (prt := prt) ‹egressGrp _ _ _ _ _ _ _ _ _ = _›); (try have h_egressCoh := view_egressCoh_eq (prt := prt) ‹egressCoh _ _ _ _ _ = _›); (try have h_egressNi := view_egressNi_eq (prt := prt) ‹egressNi _ _ _ = _›); (try have h_egressCredit := view_egressCredit_eq (prt := prt) ‹egressCredit _ _ _ = _›); (try have h_ltOpen := view_ltOpen_eq (prt := prt) ‹ltOpen _ _ = _›); (try have h_egressFm := view_egressFm_eq (prt := prt) ‹egressFm _ _ _ = _›); (try have h_egressFlag := view_egressFlag_eq (prt := prt) ‹egressFlag _ _ _ _ = _›); (try have h_freshGroup := view_freshGroup_eq (prt := prt) ‹freshGroup _ _ = _›); (try have h_admitOpen := view_admitOpen_eq (prt := prt) ‹admitOpen _ _ _ = _›); simp [*]; done) | ((try have h_egressRsp := view_egressRsp_eq (prt := prt) ‹egressRsp _ _ _ _ _ _ _ _ _ = _›); (try have h_egressGrp := view_egressGrp_eq (prt := prt) ‹egressGrp _ _ _ _ _ _ _ _ _ = _›); (try have h_egressCoh := view_egressCoh_eq (prt := prt) ‹egressCoh _ _ _ _ _ = _›); (try have h_egressNi := view_egressNi_eq (prt := prt) ‹egressNi _ _ _ = _›); (try have h_egressCredit := view_egressCredit_eq (prt := prt) ‹egressCredit _ _ _ = _›); (try have h_ltOpen := view_ltOpen_eq (prt := prt) ‹ltOpen _ _ = _›); (try have h_egressFm := view_egressFm_eq (prt := prt) ‹egressFm _ _ _ = _›); (try have h_egressFlag := view_egressFlag_eq (prt := prt) ‹egressFlag _ _ _ _ = _›); (try have h_freshGroup := view_freshGroup_eq (prt := prt) ‹freshGroup _ _ = _›); (try have h_admitOpen := view_admitOpen_eq (prt := prt) ‹admitOpen _ _ _ = _›); simp [*]; done) | split | (refine (view_foldl _ _ _ ?_).trans ?_) | (refine (view_foldl_fst _ _ _ ?_).trans ?_) | (refine (view_foldl_snd _ _ _ ?_).trans ?_) | (intro _ _) | (intro _) | (have h_ := view_egressRsp_eq (prt := prt) ‹egressRsp _ _ _ _ _ _ _ _ _ = _›; refine Eq.trans h_ ?_; clear h_) | (have h_ := view_egressGrp_eq (prt := prt) ‹egressGrp _ _ _ _ _ _ _ _ _ = _›; refine Eq.trans h_ ?_; clear h_) | (have h_ := view_egressCoh_eq (prt := prt) ‹egressCoh _ _ _ _ _ = _›; refine Eq.trans h_ ?_; clear h_) | (have h_ := view_egressNi_eq (prt := prt) ‹egressNi _ _ _ = _›; refine Eq.trans h_ ?_; clear h_) | (have h_ := view_egressCredit_eq (prt := prt) ‹egressCredit _ _ _ = _›; refine Eq.trans h_ ?_; clear h_) | (have h_ := view_ltOpen_eq (prt := prt) ‹ltOpen _ _ = _›; refine Eq.trans h_ ?_; clear h_) | (have h_ := view_egressFm_eq (prt := prt) ‹egressFm _ _ _ = _›; refine Eq.trans h_ ?_; clear h_) | (have h_ := view_egressFlag_eq (prt := prt) ‹egressFlag _ _ _ _ = _›; refine Eq.trans h_ ?_; clear h_) | (have h_ := view_freshGroup_eq (prt := prt) ‹freshGroup _ _ = _›; refine Eq.trans h_ ?_; clear h_) | (have h_ := view_admitOpen_eq (prt := prt) ‹admitOpen _ _ _ = _›; refine Eq.trans h_ ?_; clear h_) | (simp [*])))
theorem view_egressItem_eq {s : State} {n : Nat} {a2 : TxItem} {t} (h : egressItem s n a2 = t) (hprt : prt ∉ [.regs, .kvt, .anchor, .ctc, .engs, .ttb, .spans, .hgt, .cce, .inc, .evr, .pmu, .free, .out] := by simp [*]) : view prt t.1 = view prt s := by subst h; exact view_egressItem s n a2 hprt
@[simp] theorem view_egressScan (s : State) (n : Nat) (a2 : List TxItem) (a3 : Option Nat) (hprt : prt ∉ [.regs, .kvt, .anchor, .ctc, .engs, .ttb, .spans, .hgt, .cce, .inc, .evr, .pmu, .free, .out] := by simp [*]) : view prt (egressScan s n a2 a3) = view prt s := by
  simp at hprt
  induction a2 generalizing s a3 with
  | nil => simp [egressScan, *]
  | cons i t ih =>
    unfold egressScan; simp only []
    split
    · have h_ := view_egressItem_eq (prt := prt) ‹egressItem _ _ _ = _›
      simp [*] at h_; simp [h_, *]
    · have h_ := view_egressItem_eq (prt := prt) ‹egressItem _ _ _ = _›
      simp [*] at h_; rw [ih]; simp [h_, *]

@[simp] theorem view_setPair (s : State) (p : Nat) (x : Pair) (hprt : prt ∉ [.hgt] := by simp [*]) : view prt (setPair s p x) = view prt s := by simp at hprt; simp [setPair, *]
@[simp] theorem view_putRec (s : State) (r : HgtRec) (hprt : prt ∉ [.hgt] := by simp [*]) : view prt (putRec s r) = view prt s := by simp at hprt; simp [putRec, *]
@[simp] theorem view_writeD2h (s : State) (r : HgtRec) (hprt : prt ∉ [.hgt, .out] := by simp [*]) : view prt (writeD2h s r) = view prt s := by simp at hprt; (unfold writeD2h; (try simp only []); repeat' (first | (simp [*]; done) | split | (refine (view_foldl _ _ _ ?_).trans ?_) | (refine (view_foldl_fst _ _ _ ?_).trans ?_) | (refine (view_foldl_snd _ _ _ ?_).trans ?_) | (intro _ _) | (intro _) | (simp [*])))
@[simp] theorem view_failRec (s : State) (r : HgtRec) (st : Nat) (inj : Bool) (hprt : prt ∉ [.regs, .hgt, .inc, .evr, .out] := by simp [*]) : view prt (failRec s r st inj) = view prt s := by simp at hprt; simp [failRec, *]
@[simp] theorem view_hgtIssue (s : State) (p : Nat) (hprt : prt ∉ [.regs, .engs, .ttb, .spans, .hgt, .inc, .evr, .out] := by simp [*]) : view prt (hgtIssue s p) = view prt s := by simp at hprt; (unfold hgtIssue; (try simp only []); repeat' (first | (simp [*]; done) | split | (refine (view_foldl _ _ _ ?_).trans ?_) | (refine (view_foldl_fst _ _ _ ?_).trans ?_) | (refine (view_foldl_snd _ _ _ ?_).trans ?_) | (intro _ _) | (intro _) | (simp [*])))
@[simp] theorem view_hostIssue (s : State) (id : Nat) (hprt : prt ∉ [.regs, .engs, .ttb, .spans, .hgt, .inc, .evr, .out] := by simp [*]) : view prt (hostIssue s id) = view prt s := by simp at hprt; (unfold hostIssue; (try simp only []); repeat' (first | (simp [*]; done) | split | (refine (view_foldl _ _ _ ?_).trans ?_) | (refine (view_foldl_fst _ _ _ ?_).trans ?_) | (refine (view_foldl_snd _ _ _ ?_).trans ?_) | (intro _ _) | (intro _) | (simp [*])))
@[simp] theorem view_hgtReply (s : State) (r : Reply) (hprt : prt ∉ [.regs, .hgt] := by simp [*]) : view prt (hgtReply s r) = view prt s := by simp at hprt; (unfold hgtReply; (try simp only []); repeat' (first | (simp [*]; done) | split | (refine (view_foldl _ _ _ ?_).trans ?_) | (refine (view_foldl_fst _ _ _ ?_).trans ?_) | (refine (view_foldl_snd _ _ _ ?_).trans ?_) | (intro _ _) | (intro _) | (simp [*])))
@[simp] theorem view_hgtSettle (s : State) (hprt : prt ∉ [.regs, .engs, .ttb, .spans, .hgt, .inc, .evr, .out] := by simp [*]) : view prt (hgtSettle s) = view prt s := by simp at hprt; simp [hgtSettle, *]
@[simp] theorem view_writeMsi (s : State) (hprt : prt ∉ [.hgt, .out] := by simp [*]) : view prt (writeMsi s) = view prt s := by simp at hprt; simp [writeMsi, *]
@[simp] theorem view_msiDue (s : State) (hprt : prt ∉ [.hgt, .out] := by simp [*]) : view prt (msiDue s) = view prt s := by simp at hprt; simp [msiDue, *]
@[simp] theorem view_eqPut (s : State) (r : MbRec) (k : Nat) (hprt : prt ∉ [.out] := by simp [*]) : view prt (eqPut s r k) = view prt s := by simp at hprt; simp [eqPut, *]
@[simp] theorem view_eqWrite (s : State) (a : Act) (hprt : prt ∉ [.hgt, .out] := by simp [*]) : view prt (eqWrite s a) = view prt s := by simp at hprt; simp [eqWrite, *]
@[simp] theorem view_eqEnable (s : State) (hprt : prt ∉ [.hgt, .out] := by simp [*]) : view prt (eqEnable s) = view prt s := by simp at hprt; simp [eqEnable, *]

@[simp] theorem view_trsRefused (s : State) (i : Option Nat) (st : Nat) (hprt : prt ∉ [.regs, .trs, .inc, .evr] := by simp [*]) : view prt (trsRefused s i st) = view prt s := by simp at hprt; simp [trsRefused, *]
@[simp] theorem view_trsIssue (s : State) (c : Chunk) (hprt : prt ∉ [.regs, .engs, .ttb, .spans, .trs, .hgt, .inc, .evr, .out] := by simp [*]) : view prt (trsIssue s c) = view prt s := by simp at hprt; (unfold trsIssue; (try simp only []); repeat' (first | (simp [*]; done) | split | (refine (view_foldl _ _ _ ?_).trans ?_) | (refine (view_foldl_fst _ _ _ ?_).trans ?_) | (refine (view_foldl_snd _ _ _ ?_).trans ?_) | (intro _ _) | (intro _) | (simp [*])))
@[simp] theorem view_trsJudge (s : State) (hprt : prt ∉ [.regs, .engs, .ttb, .spans, .trs, .hgt, .inc, .evr, .out] := by simp [*]) : view prt (trsJudge s) = view prt s := by simp at hprt; (unfold trsJudge; (try simp only []); repeat' (first | (simp [*]; done) | split | (refine (view_foldl _ _ _ ?_).trans ?_) | (refine (view_foldl_fst _ _ _ ?_).trans ?_) | (refine (view_foldl_snd _ _ _ ?_).trans ?_) | (intro _ _) | (intro _) | (simp [*])))
@[simp] theorem view_trsComplete (s : State) (c : Chunk) (hprt : prt ∉ [.regs, .exps, .epochs, .held, .withdrawn, .cru, .wrc, .sbx, .ent, .lco, .kvt, .jct, .anchor, .ctc, .coh, .engs, .incarn, .ttb, .spans, .maps, .trs, .hgt, .cce, .imu, .inc, .evr, .pmu, .att, .out] := by simp [*]) : view prt (trsComplete s c) = view prt s := by simp at hprt; simp [trsComplete, *]
@[simp] theorem view_trsDropFrame (s : State) (inst : Nat) (handle : Nat) (row : Nat) (counter : Nat) (hprt : prt ∉ [.regs, .trs, .inc, .evr] := by simp [*]) : view prt (trsDropFrame s inst handle row counter) = view prt s := by simp at hprt; simp [trsDropFrame, *]
@[simp] theorem view_trsCommit (s : State) (f : Staged) (hprt : prt ∉ [.regs, .exps, .epochs, .held, .withdrawn, .cru, .wrc, .sbx, .ent, .lco, .kvt, .jct, .anchor, .ctc, .coh, .engs, .incarn, .ttb, .spans, .maps, .trs, .hgt, .cce, .imu, .inc, .evr, .pmu, .att, .out] := by simp [*]) : view prt (trsCommit s f) = view prt s := by simp at hprt; (unfold trsCommit; (try simp only []); repeat' (first | (simp [*]; done) | split | (refine (view_foldl _ _ _ ?_).trans ?_) | (refine (view_foldl_fst _ _ _ ?_).trans ?_) | (refine (view_foldl_snd _ _ _ ?_).trans ?_) | (intro _ _) | (intro _) | (simp [*])))
@[simp] theorem view_trsReserve (s : State) (inst : Nat) (handle : Nat) (f : Staged) (c : Chunk) (hprt : prt ∉ [.regs, .trs, .inc, .evr] := by simp [*]) : view prt (trsReserve s inst handle f c).1 = view prt s := by simp at hprt; (unfold trsReserve; (try simp only []); repeat' (first | (simp [*]; done) | split | (refine (view_foldl _ _ _ ?_).trans ?_) | (refine (view_foldl_fst _ _ _ ?_).trans ?_) | (refine (view_foldl_snd _ _ _ ?_).trans ?_) | (intro _ _) | (intro _) | (simp [*])))
theorem view_trsReserve_eq {s : State} {inst : Nat} {handle : Nat} {f : Staged} {c : Chunk} {t} (h : trsReserve s inst handle f c = t) (hprt : prt ∉ [.regs, .trs, .inc, .evr] := by simp [*]) : view prt t.1 = view prt s := by subst h; exact view_trsReserve s inst handle f c hprt
theorem view_trsVerdict (s : State) (n : Nat) (f : Nat) (sq : Nat) (pass : Bool) (hprt : prt ∉ [.regs, .exps, .epochs, .held, .withdrawn, .cru, .wrc, .sbx, .ent, .lco, .kvt, .jct, .anchor, .ctc, .coh, .engs, .incarn, .ttb, .spans, .maps, .trs, .hgt, .cce, .imu, .inc, .evr, .pmu, .att, .out] := by simp [*]) : ∀ t, trsVerdict s n f sq pass = some t → view prt t = view prt s := by simp at hprt; intro t h; unfold trsVerdict at h; (try simp only [] at h); repeat' (first | (simp at h; done) | (simp at h; subst h; first | (simp [*]; done)) | split at h)
theorem view_trsVerdict_eq {s : State} {n : Nat} {f : Nat} {sq : Nat} {pass : Bool} {t : State} (h : trsVerdict s n f sq pass = some t) (hprt : prt ∉ [.regs, .exps, .epochs, .held, .withdrawn, .cru, .wrc, .sbx, .ent, .lco, .kvt, .jct, .anchor, .ctc, .coh, .engs, .incarn, .ttb, .spans, .maps, .trs, .hgt, .cce, .imu, .inc, .evr, .pmu, .att, .out] := by simp [*]) : view prt t = view prt s := view_trsVerdict s n f sq pass hprt t h
@[simp] theorem view_trsVerdict_getD (s : State) (n : Nat) (f : Nat) (sq : Nat) (pass : Bool) (u_ : State) (hu_ : view prt u_ = view prt s) (hprt : prt ∉ [.regs, .exps, .epochs, .held, .withdrawn, .cru, .wrc, .sbx, .ent, .lco, .kvt, .jct, .anchor, .ctc, .coh, .engs, .incarn, .ttb, .spans, .maps, .trs, .hgt, .cce, .imu, .inc, .evr, .pmu, .att, .out] := by simp [*]) : view prt ((trsVerdict s n f sq pass).getD u_) = view prt s := by
  cases h : trsVerdict s n f sq pass with
  | none => exact hu_
  | some t => exact view_trsVerdict_eq h hprt
@[simp] theorem view_trsReply (s : State) (r : Reply) (hprt : prt ∉ [.regs, .exps, .epochs, .held, .withdrawn, .cru, .wrc, .sbx, .ent, .lco, .kvt, .jct, .anchor, .ctc, .coh, .engs, .incarn, .ttb, .spans, .maps, .trs, .hgt, .cce, .imu, .inc, .evr, .pmu, .att, .out] := by simp [*]) : view prt (trsReply s r) = view prt s := by simp at hprt; (unfold trsReply; (try simp only []); repeat' (first | (simp [*]; done) | ((try have h_trsReserve := view_trsReserve_eq (prt := prt) ‹trsReserve _ _ _ _ _ = _›); simp [*]; done) | ((try have h_trsReserve := view_trsReserve_eq (prt := prt) ‹trsReserve _ _ _ _ _ = _›); simp [*]; done) | split | (refine (view_foldl _ _ _ ?_).trans ?_) | (refine (view_foldl_fst _ _ _ ?_).trans ?_) | (refine (view_foldl_snd _ _ _ ?_).trans ?_) | (intro _ _) | (intro _) | (have h_ := view_trsReserve_eq (prt := prt) ‹trsReserve _ _ _ _ _ = _›; refine Eq.trans h_ ?_; clear h_) | (simp [*])))
@[simp] theorem view_trsSettle (s : State) (hprt : prt ∉ [.regs, .exps, .epochs, .held, .withdrawn, .cru, .wrc, .sbx, .ent, .lco, .kvt, .jct, .anchor, .ctc, .coh, .engs, .incarn, .ttb, .spans, .maps, .trs, .hgt, .cce, .imu, .inc, .evr, .pmu, .att, .out] := by simp [*]) : view prt (trsSettle s) = view prt s := by simp at hprt; simp [trsSettle, *]

@[simp] theorem view_cceIssue (s : State) (q : Nat) (hprt : prt ∉ [.regs, .engs, .ttb, .spans, .hgt, .cce, .inc, .evr, .out] := by simp [*]) : view prt (cceIssue s q) = view prt s := by simp at hprt; (unfold cceIssue; (try simp only []); repeat' (first | (simp [*]; done) | split | (refine (view_foldl _ _ _ ?_).trans ?_) | (refine (view_foldl_fst _ _ _ ?_).trans ?_) | (refine (view_foldl_snd _ _ _ ?_).trans ?_) | (intro _ _) | (intro _) | (simp [*])))
@[simp] theorem view_cceAnswer (s : State) (q : Nat) (j : CceJob) (kind : Nat) (addr : Nat) (st : Nat) (data : Bytes) (hprt : prt ∉ [.regs, .cce] := by simp [*]) : view prt (cceAnswer s q j kind addr st data) = view prt s := by simp at hprt; simp [cceAnswer, *]
@[simp] theorem view_cceReply (s : State) (r : Reply) (hprt : prt ∉ [.regs, .cce] := by simp [*]) : view prt (cceReply s r) = view prt s := by simp at hprt; (unfold cceReply; (try simp only []); repeat' (first | (simp [*]; done) | split | (refine (view_foldl _ _ _ ?_).trans ?_) | (refine (view_foldl_fst _ _ _ ?_).trans ?_) | (refine (view_foldl_snd _ _ _ ?_).trans ?_) | (intro _ _) | (intro _) | (simp [*])))
@[simp] theorem view_cceMismatch (s : State) (q : Nat) (j : CceJob) (hprt : prt ∉ [.regs, .cce] := by simp [*]) : view prt (cceMismatch s q j) = view prt s := by simp at hprt; simp [cceMismatch, *]
@[simp] theorem view_cceVerdict (s : State) (q : Nat) (j : CceJob) (hprt : prt ∉ [.regs, .cce] := by simp [*]) : view prt (cceVerdict s q j) = view prt s := by simp at hprt; simp [cceVerdict, *]
@[simp] theorem view_cceFirstDone (s : State) (q : Nat) (j : CceJob) (hprt : prt ∉ [.regs, .cce] := by simp [*]) : view prt (cceFirstDone s q j) = view prt s := by simp at hprt; simp [cceFirstDone, *]
@[simp] theorem view_cceProcess (s : State) (q : Nat) (j : CceJob) (top : Nat) (hprt : prt ∉ [.cce] := by simp [*]) : view prt (cceProcess s q j top) = view prt s := by simp at hprt; simp [cceProcess, *]
@[simp] theorem view_cceDisagree (s : State) (q : Nat) (j : CceJob) (bit : Nat) (hprt : prt ∉ [.regs, .exps, .epochs, .held, .withdrawn, .cru, .wrc, .sbx, .ent, .lco, .kvt, .jct, .anchor, .ctc, .coh, .engs, .incarn, .ttb, .spans, .maps, .trs, .hgt, .cce, .imu, .inc, .evr, .pmu, .att, .out] := by simp [*]) : view prt (cceDisagree s q j bit) = view prt s := by simp at hprt; simp [cceDisagree, *]
@[simp] theorem view_cceNext (s : State) (q : Nat) (j : CceJob) (hprt : prt ∉ [.cce] := by simp [*]) : view prt (cceNext s q j) = view prt s := by simp at hprt; simp [cceNext, *]
@[simp] theorem view_cceAdvance (s : State) (q : Nat) (hprt : prt ∉ [.regs, .exps, .epochs, .held, .withdrawn, .cru, .wrc, .sbx, .ent, .lco, .kvt, .jct, .anchor, .ctc, .coh, .engs, .incarn, .ttb, .spans, .maps, .trs, .hgt, .cce, .imu, .inc, .evr, .pmu, .att, .free, .out] := by simp [*]) : view prt (cceAdvance s q) = view prt s := by simp at hprt; (unfold cceAdvance; (try simp only []); repeat' (first | (simp [*]; done) | split | (refine (view_foldl _ _ _ ?_).trans ?_) | (refine (view_foldl_fst _ _ _ ?_).trans ?_) | (refine (view_foldl_snd _ _ _ ?_).trans ?_) | (intro _ _) | (intro _) | (simp [*])))
@[simp] theorem view_cceRecord (s : State) (q : Nat) (hprt : prt ∉ [.cce] := by simp [*]) : view prt (cceRecord s q) = view prt s := by simp at hprt; (unfold cceRecord; (try simp only []); repeat' (first | (simp [*]; done) | split | (refine (view_foldl _ _ _ ?_).trans ?_) | (refine (view_foldl_fst _ _ _ ?_).trans ?_) | (refine (view_foldl_snd _ _ _ ?_).trans ?_) | (intro _ _) | (intro _) | (simp [*])))
@[simp] theorem view_cceFetch (s : State) (q : Nat) (hprt : prt ∉ [.cce] := by simp [*]) : view prt (cceFetch s q) = view prt s := by simp at hprt; simp [cceFetch, *]
@[simp] theorem view_cceStart (s : State) (hprt : prt ∉ [.regs, .cce, .pmu] := by simp [*]) : view prt (cceStart s) = view prt s := by simp at hprt; (unfold cceStart; (try simp only []); repeat' (first | (simp [*]; done) | split | (refine (view_foldl _ _ _ ?_).trans ?_) | (refine (view_foldl_fst _ _ _ ?_).trans ?_) | (refine (view_foldl_snd _ _ _ ?_).trans ?_) | (intro _ _) | (intro _) | (simp [*])))
@[simp] theorem view_cceSettle (s : State) (hprt : prt ∉ [.regs, .exps, .epochs, .held, .withdrawn, .cru, .wrc, .sbx, .ent, .lco, .kvt, .jct, .anchor, .ctc, .coh, .engs, .incarn, .ttb, .spans, .maps, .trs, .hgt, .cce, .imu, .inc, .evr, .pmu, .att, .free, .out] := by simp [*]) : view prt (cceSettle s) = view prt s := by simp at hprt; (unfold cceSettle; (try simp only []); repeat' (first | (simp [*]; done) | split | (refine (view_foldl _ _ _ ?_).trans ?_) | (refine (view_foldl_fst _ _ _ ?_).trans ?_) | (refine (view_foldl_snd _ _ _ ?_).trans ?_) | (intro _ _) | (intro _) | (simp [*])))

@[simp] theorem view_imuIssue (s : State) (hprt : prt ∉ [.regs, .engs, .ttb, .spans, .hgt, .imu, .inc, .evr, .out] := by simp [*]) : view prt (imuIssue s) = view prt s := by simp at hprt; simp [imuIssue, *]
@[simp] theorem view_imuAsk (s : State) (q : Req) (hprt : prt ∉ [.regs, .engs, .ttb, .spans, .hgt, .imu, .inc, .evr, .out] := by simp [*]) : view prt (imuAsk s q) = view prt s := by simp at hprt; simp [imuAsk, *]
@[simp] theorem view_createDone (s : State) (i : Nat) (st : Nat) (hprt : prt ∉ [.regs, .imu, .inc] := by simp [*]) : view prt (createDone s i st) = view prt s := by simp at hprt; (unfold createDone; (try simp only []); repeat' (first | (simp [*]; done) | split | (refine (view_foldl _ _ _ ?_).trans ?_) | (refine (view_foldl_fst _ _ _ ?_).trans ?_) | (refine (view_foldl_snd _ _ _ ?_).trans ?_) | (intro _ _) | (intro _) | (simp [*])))
@[simp] theorem view_imuReply (s : State) (r : Reply) (hprt : prt ∉ [.regs, .imu, .inc] := by simp [*]) : view prt (imuReply s r) = view prt s := by simp at hprt; (unfold imuReply; (try simp only []); repeat' (first | (simp [*]; done) | split | (refine (view_foldl _ _ _ ?_).trans ?_) | (refine (view_foldl_fst _ _ _ ?_).trans ?_) | (refine (view_foldl_snd _ _ _ ?_).trans ?_) | (intro _ _) | (intro _) | (simp [*])))
@[simp] theorem view_imuSettle (s : State) (hprt : prt ∉ [.regs, .engs, .ttb, .spans, .hgt, .imu, .inc, .evr, .out] := by simp [*]) : view prt (imuSettle s) = view prt s := by simp at hprt; simp [imuSettle, *]

@[simp] theorem view_cohTake (s : State) (k : State → State) (h_k : ∀ x0, view prt (k x0) = view prt x0) (hprt : prt ∉ [.regs, .epochs, .cru, .spans, .inc, .evr, .out] := by simp [*]) : view prt (cohTake s k) = view prt s := by simp at hprt; simp [cohTake, *]

end Sys2Proof.Machine
end

