-- ==== Sys2Proof/Laws/FrameKeys.lean ====
section
/-!
SUPPORT. Frames of the shared operations of the page registers, JCT, keys, boot and life cycle: each leaves every part of the state outside its list as it was (`view`).
-/
set_option linter.all false
set_option Elab.async false
namespace Sys2Proof.Machine

variable {prt : Part}

@[simp] theorem view_doPageCtrl (r : Role) (pg : Nat) (v : Word) (s : State) (hprt : prt ∉ [.regs, .exps, .epochs, .held, .withdrawn, .cru, .wrc, .sbx, .ent, .lco, .kvt, .jct, .anchor, .ctc, .coh, .engs, .incarn, .ttb, .spans, .maps, .trs, .hgt, .cce, .imu, .inc, .evr, .pmu, .att, .free, .out] := by simp [*]) : view prt (doPageCtrl r pg v s) = view prt s := by simp at hprt; (unfold doPageCtrl; (try simp only []); repeat' (first | (simp [*]; done) | ((try have h_drawNat := view_drawNat_eq (prt := prt) ‹drawNat _ = _›); simp [*]; done) | ((try have h_drawNat := view_drawNat_eq (prt := prt) ‹drawNat _ = _›); simp [*]; done) | split | (refine (view_foldl _ _ _ ?_).trans ?_) | (refine (view_foldl_fst _ _ _ ?_).trans ?_) | (refine (view_foldl_snd _ _ _ ?_).trans ?_) | (intro _ _) | (intro _) | (have h_ := view_drawNat_eq (prt := prt) ‹drawNat _ = _›; refine Eq.trans h_ ?_; clear h_) | (simp [*])))
@[simp] theorem view_fireMask (s : State) (pg : Nat) (m : Word) (hprt : prt ∉ [.regs, .exps, .epochs, .held, .withdrawn, .cru, .wrc, .sbx, .ent, .lco, .kvt, .jct, .anchor, .ctc, .coh, .engs, .incarn, .ttb, .spans, .maps, .trs, .hgt, .cce, .imu, .inc, .evr, .pmu, .att, .out] := by simp [*]) : view prt (fireMask s pg m) = view prt s := by simp at hprt; simp [fireMask, *]
@[simp] theorem view_doErrClear (r : Role) (pg : Nat) (v : Word) (firing : Word) (s : State) (hprt : prt ∉ [.regs, .exps, .epochs, .held, .withdrawn, .cru, .wrc, .sbx, .ent, .lco, .kvt, .jct, .anchor, .ctc, .coh, .engs, .incarn, .ttb, .spans, .maps, .trs, .hgt, .cce, .imu, .inc, .evr, .pmu, .att, .out] := by simp [*]) : view prt (doErrClear r pg v firing s) = view prt s := by simp at hprt; simp [doErrClear, *]
@[simp] theorem view_doErrMask (r : Role) (pg : Nat) (v : Word) (s : State) (hprt : prt ∉ [.regs, .inc, .out] := by simp [*]) : view prt (doErrMask r pg v s) = view prt s := by simp at hprt; simp [doErrMask, *]
@[simp] theorem view_heartbeatMiss (s : State) (hprt : prt ∉ [.regs, .exps, .epochs, .held, .withdrawn, .cru, .wrc, .sbx, .ent, .lco, .kvt, .jct, .anchor, .ctc, .coh, .engs, .incarn, .ttb, .spans, .maps, .trs, .hgt, .cce, .imu, .inc, .evr, .pmu, .att, .out] := by simp [*]) : view prt (heartbeatMiss s) = view prt s := by simp at hprt; simp [heartbeatMiss, *]
@[simp] theorem view_aonLost (s : State) (hprt : prt ∉ [.regs, .inc, .evr, .ttu] := by simp [*]) : view prt (aonLost s) = view prt s := by simp at hprt; simp [aonLost, *]
@[simp] theorem view_fireInjected (s : State) (pg : Nat) (bit : Nat) (hprt : prt ∉ [.regs, .exps, .epochs, .held, .withdrawn, .cru, .wrc, .sbx, .ent, .lco, .kvt, .jct, .anchor, .ctc, .coh, .engs, .incarn, .ttb, .spans, .maps, .trs, .hgt, .cce, .imu, .inc, .evr, .ttu, .pmu, .att, .out] := by simp [*]) : view prt (fireInjected s pg bit) = view prt s := by simp at hprt; simp [fireInjected, *]
@[simp] theorem view_doErrInj (r : Role) (pg : Nat) (v : Word) (s : State) (hprt : prt ∉ [.regs, .exps, .epochs, .held, .withdrawn, .cru, .wrc, .sbx, .ent, .lco, .kvt, .jct, .anchor, .ctc, .coh, .engs, .incarn, .ttb, .spans, .maps, .trs, .hgt, .cce, .imu, .inc, .evr, .ttu, .pmu, .att, .out] := by simp [*]) : view prt (doErrInj r pg v s) = view prt s := by simp at hprt; simp [doErrInj, *]
@[simp] theorem view_doTimeout (r : Role) (off : Nat) (s : State) (hprt : prt ∉ [.regs, .exps, .epochs, .held, .withdrawn, .cru, .wrc, .sbx, .ent, .lco, .kvt, .jct, .anchor, .ctc, .coh, .engs, .incarn, .ttb, .spans, .maps, .trs, .hgt, .cce, .imu, .inc, .evr, .pmu, .att, .out] := by simp [*]) : view prt (doTimeout r off s) = view prt s := by simp at hprt; simp [doTimeout, *]

@[simp] theorem view_commitReport (s : State) (st : Status) (reason : Nat) (entry : Nat) (hprt : prt ∉ [.regs, .inc, .evr] := by simp [*]) : view prt (commitReport s st reason entry) = view prt s := by simp at hprt; simp [commitReport, *]
@[simp] theorem view_doJctCtrl (r : Role) (v : Word) (s : State) (hprt : prt ∉ [.regs, .epochs, .jct, .out] := by simp [*]) : view prt (doJctCtrl r v s) = view prt s := by simp at hprt; simp [doJctCtrl, *]
@[simp] theorem view_jctCtrlWrite (r : Role) (v : Word) (s : State) (hprt : prt ∉ [.regs, .epochs, .denied, .jct, .inc, .evr, .out] := by simp [*]) : view prt (jctCtrlWrite r v s) = view prt s := by simp at hprt; simp [jctCtrlWrite, *]
@[simp] theorem view_commitTables (s : State) (hprt : prt ∉ [.regs, .jct, .anchor] := by simp [*]) : view prt (commitTables s) = view prt s := by simp at hprt; simp [commitTables, *]
@[simp] theorem view_strike (s : State) (u : CopyUpset) (hprt : prt ∉ [.jct] := by simp [*]) : view prt (strike s u) = view prt s := by simp at hprt; simp [strike, *]

@[simp] theorem view_countCall (s : State) (hprt : prt ∉ [.ent] := by simp [*]) : view prt (countCall s) = view prt s := by simp at hprt; simp [countCall, *]
@[simp] theorem view_drbg (s : State) (n : Nat) (hprt : prt ∉ [.ent, .free] := by simp [*]) : view prt (drbg s n).2 = view prt s := by simp at hprt; simp [drbg, *]
theorem view_drbg_eq {s : State} {n : Nat} {t} (h : drbg s n = t) (hprt : prt ∉ [.ent, .free] := by simp [*]) : view prt t.2 = view prt s := by subst h; exact view_drbg s n hprt
@[simp] theorem view_drbgNat (s : State) (hprt : prt ∉ [.ent, .free] := by simp [*]) : view prt (drbgNat s).2 = view prt s := by simp at hprt; simp [drbgNat, *]
theorem view_drbgNat_eq {s : State} {t} (h : drbgNat s = t) (hprt : prt ∉ [.ent, .free] := by simp [*]) : view prt t.2 = view prt s := by subst h; exact view_drbgNat s hprt
@[simp] theorem view_failedSet (s : State) (hprt : prt ∉ [.regs, .epochs, .ent] := by simp [*]) : view prt (failedSet s) = view prt s := by simp at hprt; simp [failedSet, *]
@[simp] theorem view_drawBn (s : State) (hprt : prt ∉ [.regs, .ent, .kvt, .free] := by simp [*]) : view prt (drawBn s) = view prt s := by simp at hprt; (unfold drawBn; (try simp only []); repeat' (first | (simp [*]; done) | ((try have h_drbg := view_drbg_eq (prt := prt) ‹drbg _ _ = _›); (try have h_drbgNat := view_drbgNat_eq (prt := prt) ‹drbgNat _ = _›); simp [*]; done) | ((try have h_drbg := view_drbg_eq (prt := prt) ‹drbg _ _ = _›); (try have h_drbgNat := view_drbgNat_eq (prt := prt) ‹drbgNat _ = _›); simp [*]; done) | split | (refine (view_foldl _ _ _ ?_).trans ?_) | (refine (view_foldl_fst _ _ _ ?_).trans ?_) | (refine (view_foldl_snd _ _ _ ?_).trans ?_) | (intro _ _) | (intro _) | (have h_ := view_drbg_eq (prt := prt) ‹drbg _ _ = _›; refine Eq.trans h_ ?_; clear h_) | (have h_ := view_drbgNat_eq (prt := prt) ‹drbgNat _ = _›; refine Eq.trans h_ ?_; clear h_) | (simp [*])))
@[simp] theorem view_drawScramble (s : State) (hprt : prt ∉ [.ent, .kvt, .free] := by simp [*]) : view prt (drawScramble s) = view prt s := by simp at hprt; (unfold drawScramble; (try simp only []); repeat' (first | (simp [*]; done) | ((try have h_drbgNat := view_drbgNat_eq (prt := prt) ‹drbgNat _ = _›); simp [*]; done) | ((try have h_drbgNat := view_drbgNat_eq (prt := prt) ‹drbgNat _ = _›); simp [*]; done) | split | (refine (view_foldl _ _ _ ?_).trans ?_) | (refine (view_foldl_fst _ _ _ ?_).trans ?_) | (refine (view_foldl_snd _ _ _ ?_).trans ?_) | (intro _ _) | (intro _) | (have h_ := view_drbgNat_eq (prt := prt) ‹drbgNat _ = _›; refine Eq.trans h_ ?_; clear h_) | (simp [*])))
@[simp] theorem view_writeKeyed (s : State) (k : Nat) (ep : Nat) (policy : Nat) (owners : Bytes) (dk : Bytes) (wst : Nat) (hprt : prt ∉ [.regs, .kvt, .anchor, .ctc, .engs, .inc, .evr, .out] := by simp [*]) : view prt (writeKeyed s k ep policy owners dk wst) = view prt s := by simp at hprt; simp [writeKeyed, *]
@[simp] theorem view_drawMessages (s : State) (a1 : Nat) (hprt : prt ∉ [.ent, .free] := by simp [*]) : view prt (drawMessages s a1).2 = view prt s := by
  simp at hprt
  induction a1 with
  | zero => rfl
  | succ n ih => simp [drawMessages, *]
theorem view_drawMessages_eq {s : State} {a1 : Nat} {t} (h : drawMessages s a1 = t) (hprt : prt ∉ [.ent, .free] := by simp [*]) : view prt t.2 = view prt s := by subst h; exact view_drawMessages s a1 hprt
@[simp] theorem view_enrolHelper (s : State) (hprt : prt ∉ [.ent, .free] := by simp [*]) : view prt (enrolHelper s).2 = view prt s := by simp at hprt; simp [enrolHelper, *]
theorem view_enrolHelper_eq {s : State} {t} (h : enrolHelper s = t) (hprt : prt ∉ [.ent, .free] := by simp [*]) : view prt t.2 = view prt s := by subst h; exact view_enrolHelper s hprt
@[simp] theorem view_runKeygen (s : State) (c : KCmd) (hprt : prt ∉ [.regs, .ent, .lco, .kvt, .anchor, .ctc, .engs, .inc, .evr, .free, .out] := by simp [*]) : view prt (runKeygen s c) = view prt s := by
  simp at hprt
  unfold runKeygen
  dsimp only
  split
  · split
    · simp [*]
    · split <;> simp [*]
  · split
    · simp [*]
    · split
      · simp [*]
      · split
        · split <;> simp [*]
        · split <;> simp [*]
@[simp] theorem view_serveKeygen (s : State) (hprt : prt ∉ [.regs, .ent, .lco, .kvt, .anchor, .ctc, .engs, .inc, .evr, .free, .out] := by simp [*]) : view prt (serveKeygen s) = view prt s := by simp at hprt; (unfold serveKeygen; (try simp only []); repeat' (first | (simp [*]; done) | split | (refine (view_foldl _ _ _ ?_).trans ?_) | (refine (view_foldl_fst _ _ _ ?_).trans ?_) | (refine (view_foldl_snd _ _ _ ?_).trans ?_) | (intro _ _) | (intro _) | (simp [*])))
@[simp] theorem view_keygen (s : State) (c : KCmd) (hprt : prt ∉ [.regs, .ent, .lco, .kvt, .anchor, .ctc, .engs, .inc, .evr, .free, .out] := by simp [*]) : view prt (keygen s c) = view prt s := by simp at hprt; (unfold keygen; (try simp only []); repeat' (first | (simp [*]; done) | split | (refine (view_foldl _ _ _ ?_).trans ?_) | (refine (view_foldl_fst _ _ _ ?_).trans ?_) | (refine (view_foldl_snd _ _ _ ?_).trans ?_) | (intro _ _) | (intro _) | (simp [*])))
@[simp] theorem view_doDrbgRead (r : Role) (s : State) (hprt : prt ∉ [.ent, .free, .out] := by simp [*]) : view prt (doDrbgRead r s) = view prt s := by simp at hprt; (unfold doDrbgRead; (try simp only []); repeat' (first | (simp [*]; done) | ((try have h_drbg := view_drbg_eq (prt := prt) ‹drbg _ _ = _›); simp [*]; done) | ((try have h_drbg := view_drbg_eq (prt := prt) ‹drbg _ _ = _›); simp [*]; done) | split | (refine (view_foldl _ _ _ ?_).trans ?_) | (refine (view_foldl_fst _ _ _ ?_).trans ?_) | (refine (view_foldl_snd _ _ _ ?_).trans ?_) | (intro _ _) | (intro _) | (have h_ := view_drbg_eq (prt := prt) ‹drbg _ _ = _›; refine Eq.trans h_ ?_; clear h_) | (simp [*])))
@[simp] theorem view_kvtCmd (r : Role) (op : Nat) (seq : Nat) (keyId : Nat) (n : Nat) (k : KCmd → State → State) (s : State) (h_k : ∀ x0 x1, view prt (k x0 x1) = view prt x1) (hprt : prt ∉ [.regs, .epochs, .denied, .kvt, .inc, .evr, .out] := by simp [*]) : view prt (kvtCmd r op seq keyId n k s) = view prt s := by simp at hprt; simp [kvtCmd, *]
@[simp] theorem view_doGenerate (kt : KtabRead) (wst : Status) (c : KCmd) (s : State) (hprt : prt ∉ [.regs, .ent, .lco, .kvt, .anchor, .ctc, .engs, .inc, .evr, .free, .out] := by simp [*]) : view prt (doGenerate kt wst c s) = view prt s := by simp at hprt; (unfold doGenerate; (try simp only []); repeat' (first | (simp [*]; done) | ((try have h_kentRead := view_kentRead_eq (prt := prt) ‹kentRead _ _ _ = _›); simp [*]; done) | ((try have h_kentRead := view_kentRead_eq (prt := prt) ‹kentRead _ _ _ = _›); simp [*]; done) | split | (refine (view_foldl _ _ _ ?_).trans ?_) | (refine (view_foldl_fst _ _ _ ?_).trans ?_) | (refine (view_foldl_snd _ _ _ ?_).trans ?_) | (intro _ _) | (intro _) | (have h_ := view_kentRead_eq (prt := prt) ‹kentRead _ _ _ = _›; refine Eq.trans h_ ?_; clear h_) | (simp [*])))
@[simp] theorem view_doExport (kt : KtabRead) (c : KCmd) (s : State) (hprt : prt ∉ [.regs, .kvt, .inc, .evr] := by simp [*]) : view prt (doExport kt c s) = view prt s := by simp at hprt; (unfold doExport; (try simp only []); repeat' (first | (simp [*]; done) | ((try have h_kentRead := view_kentRead_eq (prt := prt) ‹kentRead _ _ _ = _›); simp [*]; done) | ((try have h_kentRead := view_kentRead_eq (prt := prt) ‹kentRead _ _ _ = _›); simp [*]; done) | split | (refine (view_foldl _ _ _ ?_).trans ?_) | (refine (view_foldl_fst _ _ _ ?_).trans ?_) | (refine (view_foldl_snd _ _ _ ?_).trans ?_) | (intro _ _) | (intro _) | (have h_ := view_kentRead_eq (prt := prt) ‹kentRead _ _ _ = _›; refine Eq.trans h_ ?_; clear h_) | (simp [*])))
@[simp] theorem view_doImport (kt : KtabRead) (wst : Status) (c : KCmd) (s : State) (hprt : prt ∉ [.regs, .kvt, .anchor, .ctc, .engs, .inc, .evr, .out] := by simp [*]) : view prt (doImport kt wst c s) = view prt s := by simp at hprt; (unfold doImport; (try simp only []); repeat' (first | (simp [*]; done) | ((try have h_ktabEnd := view_ktabEnd_eq (prt := prt) ‹ktabEnd _ _ _ = _›); (try have h_kentRead := view_kentRead_eq (prt := prt) ‹kentRead _ _ _ = _›); simp [*]; done) | ((try have h_ktabEnd := view_ktabEnd_eq (prt := prt) ‹ktabEnd _ _ _ = _›); (try have h_kentRead := view_kentRead_eq (prt := prt) ‹kentRead _ _ _ = _›); simp [*]; done) | split | (refine (view_foldl _ _ _ ?_).trans ?_) | (refine (view_foldl_fst _ _ _ ?_).trans ?_) | (refine (view_foldl_snd _ _ _ ?_).trans ?_) | (intro _ _) | (intro _) | (have h_ := view_ktabEnd_eq (prt := prt) ‹ktabEnd _ _ _ = _›; refine Eq.trans h_ ?_; clear h_) | (have h_ := view_kentRead_eq (prt := prt) ‹kentRead _ _ _ = _›; refine Eq.trans h_ ?_; clear h_) | (simp [*])))
@[simp] theorem view_doLoad (c : KCmd) (s : State) (hprt : prt ∉ [.regs, .kvt, .anchor, .ctc, .engs, .inc, .evr, .free, .out] := by simp [*]) : view prt (doLoad c s) = view prt s := by simp at hprt; (unfold doLoad; (try simp only []); repeat' (first | (simp [*]; done) | split | (refine (view_foldl _ _ _ ?_).trans ?_) | (refine (view_foldl_fst _ _ _ ?_).trans ?_) | (refine (view_foldl_snd _ _ _ ?_).trans ?_) | (intro _ _) | (intro _) | (simp [*])))
@[simp] theorem view_doUnpin (c : KCmd) (s : State) (hprt : prt ∉ [.regs, .kvt, .anchor, .ctc, .engs, .inc, .evr, .out] := by simp [*]) : view prt (doUnpin c s) = view prt s := by simp at hprt; (unfold doUnpin; (try simp only []); repeat' (first | (simp [*]; done) | split | (refine (view_foldl _ _ _ ?_).trans ?_) | (refine (view_foldl_fst _ _ _ ?_).trans ?_) | (refine (view_foldl_snd _ _ _ ?_).trans ?_) | (intro _ _) | (intro _) | (simp [*])))
@[simp] theorem view_doStep (kt : KtabRead) (c : KCmd) (s : State) (hprt : prt ∉ [.regs, .kvt, .inc, .evr, .free, .out] := by simp [*]) : view prt (doStep kt c s) = view prt s := by simp at hprt; (unfold doStep; (try simp only []); repeat' (first | (simp [*]; done) | ((try have h_kentRead := view_kentRead_eq (prt := prt) ‹kentRead _ _ _ = _›); (try have h_maskKey := view_maskKey_eq (prt := prt) ‹maskKey _ _ = _›); simp [*]; done) | ((try have h_kentRead := view_kentRead_eq (prt := prt) ‹kentRead _ _ _ = _›); (try have h_maskKey := view_maskKey_eq (prt := prt) ‹maskKey _ _ = _›); simp [*]; done) | split | (refine (view_foldl _ _ _ ?_).trans ?_) | (refine (view_foldl_fst _ _ _ ?_).trans ?_) | (refine (view_foldl_snd _ _ _ ?_).trans ?_) | (intro _ _) | (intro _) | (have h_ := view_kentRead_eq (prt := prt) ‹kentRead _ _ _ = _›; refine Eq.trans h_ ?_; clear h_) | (have h_ := view_maskKey_eq (prt := prt) ‹maskKey _ _ = _›; refine Eq.trans h_ ?_; clear h_) | (simp [*])))
@[simp] theorem view_stepEnds (st : Nat) (c : KCmd) (s : State) (hprt : prt ∉ [.regs, .kvt, .inc, .evr] := by simp [*]) : view prt (stepEnds st c s) = view prt s := by simp at hprt; (unfold stepEnds; (try simp only []); repeat' (first | (simp [*]; done) | split | (refine (view_foldl _ _ _ ?_).trans ?_) | (refine (view_foldl_fst _ _ _ ?_).trans ?_) | (refine (view_foldl_snd _ _ _ ?_).trans ?_) | (intro _ _) | (intro _) | (simp [*])))
@[simp] theorem view_doRetire (c : KCmd) (s : State) (hprt : prt ∉ [.regs, .kvt, .anchor, .ctc, .engs, .ttb, .spans, .trs, .hgt, .cce, .inc, .evr, .out] := by simp [*]) : view prt (doRetire c s) = view prt s := by simp at hprt; (unfold doRetire; (try simp only []); repeat' (first | (simp [*]; done) | split | (refine (view_foldl _ _ _ ?_).trans ?_) | (refine (view_foldl_fst _ _ _ ?_).trans ?_) | (refine (view_foldl_snd _ _ _ ?_).trans ?_) | (intro _ _) | (intro _) | (simp [*])))
@[simp] theorem view_retireDone (s : State) (k : Nat) (st : Nat) (hprt : prt ∉ [.regs, .epochs, .kvt, .anchor, .ctc, .engs, .ttb, .spans, .trs, .hgt, .cce, .imu, .inc, .evr, .out] := by simp [*]) : view prt (retireDone s k st) = view prt s := by simp at hprt; (unfold retireDone; (try simp only []); repeat' (first | (simp [*]; done) | split | (refine (view_foldl _ _ _ ?_).trans ?_) | (refine (view_foldl_fst _ _ _ ?_).trans ?_) | (refine (view_foldl_snd _ _ _ ?_).trans ?_) | (intro _ _) | (intro _) | (simp [*])))
@[simp] theorem view_retireErase (s : State) (k : Nat) (hprt : prt ∉ [.regs, .kvt] := by simp [*]) : view prt (retireErase s k) = view prt s := by simp at hprt; (unfold retireErase; (try simp only []); repeat' (first | (simp [*]; done) | split | (refine (view_foldl _ _ _ ?_).trans ?_) | (refine (view_foldl_fst _ _ _ ?_).trans ?_) | (refine (view_foldl_snd _ _ _ ?_).trans ?_) | (intro _ _) | (intro _) | (simp [*])))
@[simp] theorem view_retireFails (s : State) (k : Nat) (st : Nat) (hprt : prt ∉ [.regs, .epochs, .kvt, .anchor, .ctc, .engs, .ttb, .spans, .trs, .hgt, .cce, .imu, .inc, .evr, .out] := by simp [*]) : view prt (retireFails s k st) = view prt s := by simp at hprt; simp [retireFails, *]
@[simp] theorem view_retireStands (s : State) (k : Nat) (hprt : prt ∉ [.regs, .kvt, .anchor, .imu] := by simp [*]) : view prt (retireStands s k) = view prt s := by simp at hprt; simp [retireStands, *]
@[simp] theorem view_doEnrol (c : KCmd) (s : State) (hprt : prt ∉ [.regs, .ent, .lco, .kvt, .anchor, .ctc, .engs, .inc, .evr, .free, .out] := by simp [*]) : view prt (doEnrol c s) = view prt s := by simp at hprt; simp [doEnrol, *]
@[simp] theorem view_doJoinDecap (c : KCmd) (s : State) (hprt : prt ∉ [.regs, .kvt, .inc, .evr] := by simp [*]) : view prt (doJoinDecap c s) = view prt s := by simp at hprt; (unfold doJoinDecap; (try simp only []); repeat' (first | (simp [*]; done) | split | (refine (view_foldl _ _ _ ?_).trans ?_) | (refine (view_foldl_fst _ _ _ ?_).trans ?_) | (refine (view_foldl_snd _ _ _ ?_).trans ?_) | (intro _ _) | (intro _) | (simp [*])))
@[simp] theorem view_doJoinFinish (c : KCmd) (s : State) (hprt : prt ∉ [.regs, .kvt, .inc, .evr, .free] := by simp [*]) : view prt (doJoinFinish c s) = view prt s := by simp at hprt; (unfold doJoinFinish; (try simp only []); repeat' (first | (simp [*]; done) | ((try have h_maskKey := view_maskKey_eq (prt := prt) ‹maskKey _ _ = _›); simp [*]; done) | ((try have h_maskKey := view_maskKey_eq (prt := prt) ‹maskKey _ _ = _›); simp [*]; done) | split | (refine (view_foldl _ _ _ ?_).trans ?_) | (refine (view_foldl_fst _ _ _ ?_).trans ?_) | (refine (view_foldl_snd _ _ _ ?_).trans ?_) | (intro _ _) | (intro _) | (have h_ := view_maskKey_eq (prt := prt) ‹maskKey _ _ = _›; refine Eq.trans h_ ?_; clear h_) | (simp [*])))
@[simp] theorem view_epochRefused (s : State) (e : Nat) (st : Nat) (hprt : prt ∉ [.regs, .inc, .evr] := by simp [*]) : view prt (epochRefused s e st) = view prt s := by simp at hprt; simp [epochRefused, *]
@[simp] theorem view_doEpochGenerate (c : KCmd) (s : State) (hprt : prt ∉ [.regs, .ent, .lco, .kvt, .anchor, .ctc, .engs, .inc, .evr, .free, .out] := by simp [*]) : view prt (doEpochGenerate c s) = view prt s := by simp at hprt; simp [doEpochGenerate, *]
@[simp] theorem view_dropJtk (s : State) (hprt : prt ∉ [.kvt] := by simp [*]) : view prt (dropJtk s) = view prt s := by simp at hprt; simp [dropJtk, *]
@[simp] theorem view_doEpochWrap (c : KCmd) (s : State) (hprt : prt ∉ [.regs, .kvt, .inc, .evr] := by simp [*]) : view prt (doEpochWrap c s) = view prt s := by simp at hprt; (unfold doEpochWrap; (try simp only []); repeat' (first | (simp [*]; done) | split | (refine (view_foldl _ _ _ ?_).trans ?_) | (refine (view_foldl_fst _ _ _ ?_).trans ?_) | (refine (view_foldl_snd _ _ _ ?_).trans ?_) | (intro _ _) | (intro _) | (simp [*])))
@[simp] theorem view_loadEpochKey (s : State) (e : EpochKey) (hprt : prt ∉ [.regs, .kvt] := by simp [*]) : view prt (loadEpochKey s e) = view prt s := by simp at hprt; simp [loadEpochKey, *]
@[simp] theorem view_doEpochLoad (c : KCmd) (s : State) (hprt : prt ∉ [.regs, .kvt, .inc, .evr, .free] := by simp [*]) : view prt (doEpochLoad c s) = view prt s := by simp at hprt; (unfold doEpochLoad; (try simp only []); repeat' (first | (simp [*]; done) | ((try have h_maskKey := view_maskKey_eq (prt := prt) ‹maskKey _ _ = _›); simp [*]; done) | ((try have h_maskKey := view_maskKey_eq (prt := prt) ‹maskKey _ _ = _›); simp [*]; done) | split | (refine (view_foldl _ _ _ ?_).trans ?_) | (refine (view_foldl_fst _ _ _ ?_).trans ?_) | (refine (view_foldl_snd _ _ _ ?_).trans ?_) | (intro _ _) | (intro _) | (have h_ := view_maskKey_eq (prt := prt) ‹maskKey _ _ = _›; refine Eq.trans h_ ?_; clear h_) | (simp [*])))
@[simp] theorem view_doEpochSend (c : KCmd) (s : State) (hprt : prt ∉ [.regs, .kvt, .dom, .spans, .inc, .evr] := by simp [*]) : view prt (doEpochSend c s) = view prt s := by simp at hprt; (unfold doEpochSend; (try simp only []); repeat' (first | (simp [*]; done) | split | (refine (view_foldl _ _ _ ?_).trans ?_) | (refine (view_foldl_fst _ _ _ ?_).trans ?_) | (refine (view_foldl_snd _ _ _ ?_).trans ?_) | (intro _ _) | (intro _) | (simp [*])))
@[simp] theorem view_loadLive (s : State) (l : Load) (n : Nat) (x : Kent) (policy : Nat) (dk : Bytes) (hprt : prt ∉ [.regs, .kvt, .anchor, .ctc, .coh, .engs, .ttb, .spans, .hgt, .cce, .inc, .evr, .free, .out] := by simp [*]) : view prt (loadLive s l n x policy dk) = view prt s := by simp at hprt; (unfold loadLive; (try simp only []); repeat' (first | (simp [*]; done) | ((try have h_makeBank := view_makeBank_eq (prt := prt) ‹makeBank _ _ _ _ _ = _›); simp [*]; done) | ((try have h_makeBank := view_makeBank_eq (prt := prt) ‹makeBank _ _ _ _ _ = _›); simp [*]; done) | split | (refine (view_foldl _ _ _ ?_).trans ?_) | (refine (view_foldl_fst _ _ _ ?_).trans ?_) | (refine (view_foldl_snd _ _ _ ?_).trans ?_) | (intro _ _) | (intro _) | (have h_ := view_makeBank_eq (prt := prt) ‹makeBank _ _ _ _ _ = _›; refine Eq.trans h_ ?_; clear h_) | (simp [*])))

@[simp] theorem view_endL4 (s : State) (hprt : prt ∉ [.regs, .epochs, .wrc, .ttb, .spans, .trs, .hgt, .cce, .imu, .inc, .evr] := by simp [*]) : view prt (endL4 s) = view prt s := by simp at hprt; (unfold endL4; (try simp only []); repeat' (first | (simp [*]; done) | split | (refine (view_foldl _ _ _ ?_).trans ?_) | (refine (view_foldl_fst _ _ _ ?_).trans ?_) | (refine (view_foldl_snd _ _ _ ?_).trans ?_) | (intro _ _) | (intro _) | (simp [*])))
@[simp] theorem view_enterBoot (s : State) (b : BootSt) (hprt : prt ∉ [.regs, .exps, .epochs, .held, .withdrawn, .cru, .wrc, .sbx, .ent, .lco, .kvt, .jct, .anchor, .ctc, .coh, .engs, .incarn, .ttb, .spans, .maps, .trs, .hgt, .cce, .imu, .inc, .evr, .pmu, .att, .out] := by simp [*]) : view prt (enterBoot s b) = view prt s := by simp at hprt; simp [enterBoot, *]
@[simp] theorem view_leaveRootWait (s : State) (hprt : prt ∉ [.regs, .exps, .epochs, .held, .withdrawn, .cru, .wrc, .sbx, .ent, .lco, .kvt, .jct, .anchor, .ctc, .coh, .engs, .incarn, .ttb, .spans, .maps, .trs, .hgt, .cce, .imu, .inc, .evr, .pmu, .att, .out] := by simp [*]) : view prt (leaveRootWait s) = view prt s := by simp at hprt; (unfold leaveRootWait; (try simp only []); repeat' (first | (simp [*]; done) | split | (refine (view_foldl _ _ _ ?_).trans ?_) | (refine (view_foldl_fst _ _ _ ?_).trans ?_) | (refine (view_foldl_snd _ _ _ ?_).trans ?_) | (intro _ _) | (intro _) | (simp [*])))
@[simp] theorem view_takeRoot (s : State) (m : Bytes) (hprt : prt ∉ [.regs, .kvt, .anchor, .ctc, .coh, .engs, .ttb, .spans, .hgt, .cce, .inc, .evr, .free, .out] := by simp [*]) : view prt (takeRoot s m) = view prt s := by simp at hprt; simp [takeRoot, *]
@[simp] theorem view_dlRespond (s : State) (cmd : Nat) (seq : Nat) (st : Status) (err : Nat) (hprt : prt ∉ [.regs, .out] := by simp [*]) : view prt (dlRespond s cmd seq st err) = view prt s := by simp at hprt; simp [dlRespond, *]
@[simp] theorem view_dlObject (s : State) (vid : BitVec 16) (typ : BitVec 8) (cmd : Nat) (seq : Nat) (malformed : Bool) (k : State → State) (h_k : ∀ x0, view prt (k x0) = view prt x0) (hprt : prt ∉ [.regs, .sbx, .out] := by simp [*]) : view prt (dlObject s vid typ cmd seq malformed k) = view prt s := by simp at hprt; (unfold dlObject; (try simp only []); repeat' (first | (simp [*]; done) | split | (refine (view_foldl _ _ _ ?_).trans ?_) | (refine (view_foldl_fst _ _ _ ?_).trans ?_) | (refine (view_foldl_snd _ _ _ ?_).trans ?_) | (intro _ _) | (intro _) | (simp [*])))
@[simp] theorem view_doBegin (seq : Nat) (len : Nat) (s : State) (hprt : prt ∉ [.regs, .epochs, .sbx, .out] := by simp [*]) : view prt (doBegin seq len s) = view prt s := by simp at hprt; (unfold doBegin; (try simp only []); repeat' (first | (simp [*]; done) | split | (refine (view_foldl _ _ _ ?_).trans ?_) | (refine (view_foldl_fst _ _ _ ?_).trans ?_) | (refine (view_foldl_snd _ _ _ ?_).trans ?_) | (intro _ _) | (intro _) | (simp [*])))
@[simp] theorem view_doChunk (seq : Nat) (off : Nat) (data : Bytes) (s : State) (hprt : prt ∉ [.regs, .sbx, .out] := by simp [*]) : view prt (doChunk seq off data s) = view prt s := by simp at hprt; simp [doChunk, *]
@[simp] theorem view_doEnd (seq : Nat) (s : State) (hprt : prt ∉ [.regs, .epochs, .sbx, .out] := by simp [*]) : view prt (doEnd seq s) = view prt s := by simp at hprt; simp [doEnd, *]
@[simp] theorem view_doCancel (seq : Nat) (s : State) (hprt : prt ∉ [.regs, .exps, .epochs, .held, .withdrawn, .cru, .wrc, .sbx, .ent, .lco, .kvt, .jct, .anchor, .ctc, .coh, .engs, .incarn, .ttb, .spans, .maps, .trs, .hgt, .cce, .imu, .inc, .evr, .pmu, .att, .out] := by simp [*]) : view prt (doCancel seq s) = view prt s := by simp at hprt; simp [doCancel, *]
@[simp] theorem view_verifyFailed (s : State) (err : Nat) (hprt : prt ∉ [.regs, .exps, .epochs, .held, .withdrawn, .cru, .wrc, .sbx, .ent, .lco, .kvt, .jct, .anchor, .ctc, .coh, .engs, .incarn, .ttb, .spans, .maps, .trs, .hgt, .cce, .imu, .inc, .evr, .pmu, .att, .out] := by simp [*]) : view prt (verifyFailed s err) = view prt s := by simp at hprt; (unfold verifyFailed; (try simp only []); repeat' (first | (simp [*]; done) | split | (refine (view_foldl _ _ _ ?_).trans ?_) | (refine (view_foldl_fst _ _ _ ?_).trans ?_) | (refine (view_foldl_snd _ _ _ ?_).trans ?_) | (intro _ _) | (intro _) | (simp [*])))
@[simp] theorem view_verifyPassed (s : State) (hprt : prt ∉ [.regs, .epochs, .sbx, .inc, .evr, .out] := by simp [*]) : view prt (verifyPassed s) = view prt s := by simp at hprt; (unfold verifyPassed; (try simp only []); repeat' (first | (simp [*]; done) | split | (refine (view_foldl _ _ _ ?_).trans ?_) | (refine (view_foldl_fst _ _ _ ?_).trans ?_) | (refine (view_foldl_snd _ _ _ ?_).trans ?_) | (intro _ _) | (intro _) | (simp [*])))
@[simp] theorem view_setMeas (s : State) (i : Nat) (v : Bytes) (hprt : prt ∉ [.sbx] := by simp [*]) : view prt (setMeas s i v) = view prt s := by simp at hprt; simp [setMeas, *]
@[simp] theorem view_diceChain (s : State) (m0 : Bytes) (m1 : Bytes) (hprt : prt ∉ [.sbx, .kvt, .free] := by simp [*]) : view prt (diceChain s m0 m1) = view prt s := by simp at hprt; (unfold diceChain; (try simp only []); repeat' (first | (simp [*]; done) | ((try have h_drawNat := view_drawNat_eq (prt := prt) ‹drawNat _ = _›); simp [*]; done) | ((try have h_drawNat := view_drawNat_eq (prt := prt) ‹drawNat _ = _›); simp [*]; done) | split | (refine (view_foldl _ _ _ ?_).trans ?_) | (refine (view_foldl_fst _ _ _ ?_).trans ?_) | (refine (view_foldl_snd _ _ _ ?_).trans ?_) | (intro _ _) | (intro _) | (have h_ := view_drawNat_eq (prt := prt) ‹drawNat _ = _›; refine Eq.trans h_ ?_; clear h_) | (simp [*])))
@[simp] theorem view_doMeasCtrl (r : Role) (v : Word) (s : State) (hprt : prt ∉ [.regs, .sbx, .out] := by simp [*]) : view prt (doMeasCtrl r v s) = view prt s := by simp at hprt; simp [doMeasCtrl, *]

@[simp] theorem view_refreshGate (s : State) (hprt : prt ∉ [.regs] := by simp [*]) : view prt (refreshGate s) = view prt s := by simp at hprt; simp [refreshGate, *]
@[simp] theorem view_loadFromOtp (s : State) (hprt : prt ∉ [.regs, .cru] := by simp [*]) : view prt (loadFromOtp s) = view prt s := by simp at hprt; simp [loadFromOtp, *]
@[simp] theorem view_startWipe (s : State) (hprt : prt ∉ [.regs, .lco] := by simp [*]) : view prt (startWipe s) = view prt s := by simp at hprt; (unfold startWipe; (try simp only []); repeat' (first | (simp [*]; done) | split | (refine (view_foldl _ _ _ ?_).trans ?_) | (refine (view_foldl_fst _ _ _ ?_).trans ?_) | (refine (view_foldl_snd _ _ _ ?_).trans ?_) | (intro _ _) | (intro _) | (simp [*])))
@[simp] theorem view_lcoEnd (s : State) (cmd : Nat) (arg : Nat) (st : Status) (hprt : prt ∉ [.regs, .inc] := by simp [*]) : view prt (lcoEnd s cmd arg st) = view prt s := by simp at hprt; simp [lcoEnd, *]
@[simp] theorem view_lcoJudged (s : State) (cmd : Nat) (arg : Nat) (st : Status) (hprt : prt ∉ [.regs, .inc, .evr] := by simp [*]) : view prt (lcoJudged s cmd arg st) = view prt s := by simp at hprt; simp [lcoJudged, *]
@[simp] theorem view_doGo (r : Role) (tgt : Nat) (s : State) (hprt : prt ∉ [.regs, .epochs, .lco, .inc, .evr, .out] := by simp [*]) : view prt (doGo r tgt s) = view prt s := by simp at hprt; (unfold doGo; (try simp only []); repeat' (first | (simp [*]; done) | split | (refine (view_foldl _ _ _ ?_).trans ?_) | (refine (view_foldl_fst _ _ _ ?_).trans ?_) | (refine (view_foldl_snd _ _ _ ?_).trans ?_) | (intro _ _) | (intro _) | (simp [*])))
@[simp] theorem view_doUnlock (r : Role) (s : State) (hprt : prt ∉ [.regs, .epochs, .lco, .inc, .evr, .out] := by simp [*]) : view prt (doUnlock r s) = view prt s := by simp at hprt; (unfold doUnlock; (try simp only []); repeat' (first | (simp [*]; done) | split | (refine (view_foldl _ _ _ ?_).trans ?_) | (refine (view_foldl_fst _ _ _ ?_).trans ?_) | (refine (view_foldl_snd _ _ _ ?_).trans ?_) | (intro _ _) | (intro _) | (simp [*])))
@[simp] theorem view_doClose (s : State) (hprt : prt ∉ [.regs, .lco] := by simp [*]) : view prt (doClose s) = view prt s := by simp at hprt; simp [doClose, *]
@[simp] theorem view_doLcCtrl (r : Role) (v : Word) (s : State) (hprt : prt ∉ [.regs, .epochs, .lco, .inc, .evr, .out] := by simp [*]) : view prt (doLcCtrl r v s) = view prt s := by simp at hprt; simp [doLcCtrl, *]
@[simp] theorem view_lcCtrlWrite (r : Role) (v : Word) (s : State) (hprt : prt ∉ [.regs, .epochs, .denied, .lco, .inc, .evr, .out] := by simp [*]) : view prt (lcCtrlWrite r v s) = view prt s := by simp at hprt; simp [lcCtrlWrite, *]
@[simp] theorem view_setPending (s : State) (hprt : prt ∉ [.regs, .lco] := by simp [*]) : view prt (setPending s) = view prt s := by simp at hprt; simp [setPending, *]
@[simp] theorem view_transitionStep (s : State) (b : Lc) (hprt : prt ∉ [.regs, .lco, .inc] := by simp [*]) : view prt (transitionStep s b) = view prt s := by simp at hprt; (unfold transitionStep; (try simp only []); repeat' (first | (simp [*]; done) | split | (refine (view_foldl _ _ _ ?_).trans ?_) | (refine (view_foldl_fst _ _ _ ?_).trans ?_) | (refine (view_foldl_snd _ _ _ ?_).trans ?_) | (intro _ _) | (intro _) | (simp [*])))
@[simp] theorem view_eraseStep (s : State) (b : Lc) (w : Nat) (hprt : prt ∉ [.regs, .lco, .inc] := by simp [*]) : view prt (eraseStep s b w) = view prt s := by simp at hprt; (unfold eraseStep; (try simp only []); repeat' (first | (simp [*]; done) | split | (refine (view_foldl _ _ _ ?_).trans ?_) | (refine (view_foldl_fst _ _ _ ?_).trans ?_) | (refine (view_foldl_snd _ _ _ ?_).trans ?_) | (intro _ _) | (intro _) | (simp [*])))
@[simp] theorem view_lcZeroise (s : State) (hprt : prt ∉ [.regs, .wrc, .kvt, .anchor, .ctc, .engs, .ttb, .spans, .trs, .hgt, .cce, .inc, .evr, .att, .out] := by simp [*]) : view prt (lcZeroise s) = view prt s := by simp at hprt; simp [lcZeroise, *]
@[simp] theorem view_otpSet (s : State) (w : Nat) (v : Word) (hprt : prt ∉ [.otp] := by simp [*]) : view prt (otpSet s w v) = view prt s := by simp at hprt; simp [otpSet, *]
@[simp] theorem view_otpFail (s : State) (w : Nat) (idx : Nat) (cmd : Nat) (hprt : prt ∉ [.regs, .inc, .evr] := by simp [*]) : view prt (otpFail s w idx cmd) = view prt s := by simp at hprt; simp [otpFail, *]
@[simp] theorem view_pulseTransition (s : State) (b : Lc) (c : Nat) (y : Nat) (p : Nat) (ok : Bool) (hprt : prt ∉ [.regs, .lco, .otp, .inc, .evr] := by simp [*]) : view prt (pulseTransition s b c y p ok) = view prt s := by simp at hprt; simp [pulseTransition, *]
@[simp] theorem view_pulseErase (s : State) (b : Lc) (w : Nat) (p : Nat) (ok : Bool) (hprt : prt ∉ [.regs, .lco, .otp, .inc, .evr] := by simp [*]) : view prt (pulseErase s b w p ok) = view prt s := by simp at hprt; simp [pulseErase, *]
@[simp] theorem view_pulseProg (s : State) (w : Nat) (v : Word) (p : Nat) (ok : Bool) (hprt : prt ∉ [.regs, .lco, .otp, .inc, .evr] := by simp [*]) : view prt (pulseProg s w v p ok) = view prt s := by simp at hprt; simp [pulseProg, *]
@[simp] theorem view_pulseArb (s : State) (r : Role) (target : Nat) (cell : Nat) (p : Nat) (ok : Bool) (hprt : prt ∉ [.regs, .lco, .otp, .inc, .evr, .out] := by simp [*]) : view prt (pulseArb s r target cell p ok) = view prt s := by simp at hprt; simp [pulseArb, *]
@[simp] theorem view_pulseWdrSet (s : State) (cell : Nat) (p : Nat) (ok : Bool) (hprt : prt ∉ [.regs, .lco, .otp, .inc, .evr] := by simp [*]) : view prt (pulseWdrSet s cell p ok) = view prt s := by simp at hprt; simp [pulseWdrSet, *]
@[simp] theorem view_pulseWdrClr (s : State) (cell : Nat) (p : Nat) (ok : Bool) (hprt : prt ∉ [.regs, .epochs, .withdrawn, .wrc, .lco, .otp, .inc, .evr] := by simp [*]) : view prt (pulseWdrClr s cell p ok) = view prt s := by simp at hprt; simp [pulseWdrClr, *]
@[simp] theorem view_wipeStep (s : State) (w : Nat) (n : Nat) (hprt : prt ∉ [.regs, .lco, .inc, .evr] := by simp [*]) : view prt (wipeStep s w n) = view prt s := by simp at hprt; (unfold wipeStep; (try simp only []); repeat' (first | (simp [*]; done) | split | (refine (view_foldl _ _ _ ?_).trans ?_) | (refine (view_foldl_fst _ _ _ ?_).trans ?_) | (refine (view_foldl_snd _ _ _ ?_).trans ?_) | (intro _ _) | (intro _) | (simp [*])))
@[simp] theorem view_pulseWipe (s : State) (w : Nat) (p : Nat) (n : Nat) (ok : Bool) (hprt : prt ∉ [.regs, .lco, .otp, .inc, .evr] := by simp [*]) : view prt (pulseWipe s w p n ok) = view prt s := by simp at hprt; simp [pulseWipe, *]
@[simp] theorem view_pulseEnrol (s : State) (w : Nat) (p : Nat) (h : List Word) (ok : Bool) (hprt : prt ∉ [.lco, .otp] := by simp [*]) : view prt (pulseEnrol s w p h ok) = view prt s := by simp at hprt; (unfold pulseEnrol; (try simp only []); repeat' (first | (simp [*]; done) | split | (refine (view_foldl _ _ _ ?_).trans ?_) | (refine (view_foldl_fst _ _ _ ?_).trans ?_) | (refine (view_foldl_snd _ _ _ ?_).trans ?_) | (intro _ _) | (intro _) | (simp [*])))
@[simp] theorem view_doArb (r : Role) (v : Word) (s : State) (hprt : prt ∉ [.regs, .epochs, .lco, .inc, .out] := by simp [*]) : view prt (doArb r v s) = view prt s := by simp at hprt; simp [doArb, *]
@[simp] theorem view_doProg (r : Role) (s : State) (hprt : prt ∉ [.regs, .epochs, .lco, .inc, .out] := by simp [*]) : view prt (doProg r s) = view prt s := by simp at hprt; simp [doProg, *]
@[simp] theorem view_loadRdata (r : Role) (s : State) (hprt : prt ∉ [.regs] := by simp [*]) : view prt (loadRdata r s).1 = view prt s := by simp at hprt; (unfold loadRdata; (try simp only []); repeat' (first | (simp [*]; done) | split | (refine (view_foldl _ _ _ ?_).trans ?_) | (refine (view_foldl_fst _ _ _ ?_).trans ?_) | (refine (view_foldl_snd _ _ _ ?_).trans ?_) | (intro _ _) | (intro _) | (simp [*])))
theorem view_loadRdata_eq {r : Role} {s : State} {t} (h : loadRdata r s = t) (hprt : prt ∉ [.regs] := by simp [*]) : view prt t.1 = view prt s := by subst h; exact view_loadRdata r s hprt
@[simp] theorem view_doOtpRead (r : Role) (s : State) (hprt : prt ∉ [.regs, .out] := by simp [*]) : view prt (doOtpRead r s) = view prt s := by simp at hprt; simp [doOtpRead, *]
@[simp] theorem view_otpCmdWrite (r : Role) (v : Word) (s : State) (hprt : prt ∉ [.regs, .epochs, .denied, .lco, .inc, .evr, .out] := by simp [*]) : view prt (otpCmdWrite r v s) = view prt s := by simp at hprt; simp [otpCmdWrite, *]
theorem view_gateWord (s : State) (r : Role) (code : Nat) (idx : Nat) (hprt : prt ∉ [.free] := by simp [*]) : ∀ t, gateWord s r code idx = some t → view prt t.2 = view prt s := by
  simp at hprt
  have hi : ∀ (c : Prop) [Decidable c] (a b : Option (Word × State)), (∀ t, a = some t → view prt t.2 = view prt s) → (∀ t, b = some t → view prt t.2 = view prt s) →
      ∀ t, (if c then a else b) = some t → view prt t.2 = view prt s := by
    intro c _ a b ha hb t h; split at h
    · exact ha t h
    · exact hb t h
  have hn : ∀ t, (none : Option (Word × State)) = some t → view prt t.2 = view prt s := by intro t h; cases h
  have hs : ∀ (w : Word) t, some (w, s) = some t → view prt t.2 = view prt s := by intro w t h; cases h; rfl
  have hd : ∀ (w : Word) t, some (w, (drawNat s).2) = some t → view prt t.2 = view prt s := by intro w t h; cases h; simp [*]
  unfold gateWord
  extract_lets free
  have hf : ∀ n t, free n = some t → view prt t.2 = view prt s := fun n => hi _ _ _ (hd _) hn
  clear_value free
  exact hi _ _ _ (hi _ _ _ (hs _) hn) (hi _ _ _ (hi _ _ _ (hi _ _ _ (hs _) hn) (hf _)) (hi _ _ _ (hi _ _ _ (hs _) hn) (hi _ _ _ (hi _ _ _ (hf _) hn)
    (hi _ _ _ (hi _ _ _ (hs _) hn) (hi _ _ _ (hi _ _ _ (hs _) hn) (hi _ _ _ (hf _) (hi _ _ _ (hf _) (hi _ _ _ (hf _) (hi _ _ _ (hf _) hn)))))))))
theorem view_gateWord_eq {s : State} {r : Role} {code : Nat} {idx : Nat} {t} (h : gateWord s r code idx = some t) (hprt : prt ∉ [.free] := by simp [*]) : view prt t.2 = view prt s := view_gateWord s r code idx hprt t h
@[simp] theorem view_doDbgData (r : Role) (s : State) (hprt : prt ∉ [.regs, .free, .out] := by simp [*]) : view prt (doDbgData r s) = view prt s := by
  simp at hprt
  unfold doDbgData
  dsimp only
  split
  · simp [*]
  · split
    · simp [*]
    · split
      · have h_ := view_gateWord_eq (prt := prt) ‹gateWord _ _ _ _ = some _› (by simp [*])
        dsimp only at h_
        simp [*]
      · simp [*]
@[simp] theorem view_doHalt (r : Role) (on : Bool) (s : State) (hprt : prt ∉ [.regs, .sbx, .inc, .evr, .out] := by simp [*]) : view prt (doHalt r on s) = view prt s := by simp at hprt; simp [doHalt, *]

end Sys2Proof.Machine
end

