-- ==== Sys2Proof/Laws/FrameUnits.lean ====
section
/-!
SUPPORT. Frames of the shared operations of the links, dispatch, attestation, the mailboxes, interrupts, the recorder, time, observation and the register rows: each leaves every part of the state outside its list as it was (`view`).
-/
set_option linter.all false
set_option Elab.async false
namespace Sys2Proof.Machine

variable {prt : Part}

@[simp] theorem view_doDoorbell (r : Role) (p : Nat) (d : Nat) (v : Word) (s : State) (hprt : prt ∉ [.regs, .hgt, .out] := by simp [*]) : view prt (doDoorbell r p d v s) = view prt s := by simp at hprt; (unfold doDoorbell; (try simp only []); repeat' (first | (simp [*]; done) | split | (refine (view_foldl _ _ _ ?_).trans ?_) | (refine (view_foldl_fst _ _ _ ?_).trans ?_) | (refine (view_foldl_snd _ _ _ ?_).trans ?_) | (intro _ _) | (intro _) | (simp [*])))
@[simp] theorem view_chKeyClear (s : State) (p : Nat) (hprt : prt ∉ [.hgt] := by simp [*]) : view prt (chKeyClear s p) = view prt s := by simp at hprt; simp [chKeyClear, *]
@[simp] theorem view_chDone (s : State) (r : Role) (st : Status) (hprt : prt ∉ [.regs, .epochs, .out] := by simp [*]) : view prt (chDone s r st) = view prt s := by simp at hprt; simp [chDone, *]
@[simp] theorem view_chOpen (s : State) (p : Nat) (sid : Option Nat) (kem : Bool) (hprt : prt ∉ [.hgt] := by simp [*]) : view prt (chOpen s p sid kem).1 = view prt s := by simp at hprt; (unfold chOpen; (try simp only []); repeat' (first | (simp [*]; done) | split | (refine (view_foldl _ _ _ ?_).trans ?_) | (refine (view_foldl_fst _ _ _ ?_).trans ?_) | (refine (view_foldl_snd _ _ _ ?_).trans ?_) | (intro _ _) | (intro _) | (simp [*])))
theorem view_chOpen_eq {s : State} {p : Nat} {sid : Option Nat} {kem : Bool} {t} (h : chOpen s p sid kem = t) (hprt : prt ∉ [.hgt] := by simp [*]) : view prt t.1 = view prt s := by subst h; exact view_chOpen s p sid kem hprt
@[simp] theorem view_doChOpen (r : Role) (s : State) (hprt : prt ∉ [.regs, .epochs, .hgt, .out] := by simp [*]) : view prt (doChOpen r s) = view prt s := by simp at hprt; simp [doChOpen, *]
@[simp] theorem view_doChClose (r : Role) (s : State) (hprt : prt ∉ [.regs, .epochs, .hgt, .out] := by simp [*]) : view prt (doChClose r s) = view prt s := by simp at hprt; simp [doChClose, *]
@[simp] theorem view_doEqCons (r : Role) (v : Word) (s : State) (hprt : prt ∉ [.regs, .out] := by simp [*]) : view prt (doEqCons r v s) = view prt s := by simp at hprt; simp [doEqCons, *]

@[simp] theorem view_dropCount (s : State) (n : Nat) (o : Nat) (hprt : prt ∉ [.regs] := by simp [*]) : view prt (dropCount s n o) = view prt s := by simp at hprt; simp [dropCount, *]
@[simp] theorem view_putRx (s : State) (n : Nat) (r : RxFrame) (r' : RxFrame) (hprt : prt ∉ [.spans] := by simp [*]) : view prt (putRx s n r r') = view prt s := by simp at hprt; simp [putRx, *]
@[simp] theorem view_takeFrameKey (s : State) (n : Nat) (r : RxFrame) (hprt : prt ∉ [.regs, .kvt, .anchor, .ctc, .engs, .inc, .evr, .out] := by simp [*]) : view prt (takeFrameKey s n r).1 = view prt s := by simp at hprt; (unfold takeFrameKey; (try simp only []); repeat' (first | (simp [*]; done) | split | (refine (view_foldl _ _ _ ?_).trans ?_) | (refine (view_foldl_fst _ _ _ ?_).trans ?_) | (refine (view_foldl_snd _ _ _ ?_).trans ?_) | (intro _ _) | (intro _) | (simp [*])))
theorem view_takeFrameKey_eq {s : State} {n : Nat} {r : RxFrame} {t} (h : takeFrameKey s n r = t) (hprt : prt ∉ [.regs, .kvt, .anchor, .ctc, .engs, .inc, .evr, .out] := by simp [*]) : view prt t.1 = view prt s := by subst h; exact view_takeFrameKey s n r hprt
@[simp] theorem view_takeFwdKeys (s : State) (n : Nat) (r : RxFrame) (hprt : prt ∉ [.regs, .kvt, .anchor, .ctc, .engs, .ttb, .spans, .hgt, .cce, .inc, .evr, .out] := by simp [*]) : view prt (takeFwdKeys s n r).1 = view prt s := by simp at hprt; (unfold takeFwdKeys; (try simp only []); repeat' (first | (simp [*]; done) | split | (refine (view_foldl _ _ _ ?_).trans ?_) | (refine (view_foldl_fst _ _ _ ?_).trans ?_) | (refine (view_foldl_snd _ _ _ ?_).trans ?_) | (intro _ _) | (intro _) | (simp [*])))
theorem view_takeFwdKeys_eq {s : State} {n : Nat} {r : RxFrame} {t} (h : takeFwdKeys s n r = t) (hprt : prt ∉ [.regs, .kvt, .anchor, .ctc, .engs, .ttb, .spans, .hgt, .cce, .inc, .evr, .out] := by simp [*]) : view prt t.1 = view prt s := by subst h; exact view_takeFwdKeys s n r hprt
@[simp] theorem view_admitRx (s : State) (n : Nat) (r : RxFrame) (hprt : prt ∉ [.regs, .kvt, .anchor, .ctc, .engs, .ttb, .spans, .hgt, .cce, .inc, .evr, .out] := by simp [*]) : view prt (admitRx s n r) = view prt s := by simp at hprt; simp [admitRx, *]
@[simp] theorem view_recordDrop (s : State) (n : Nat) (f : Nat) (sender : Nat) (c : RecCode) (ballast : Bool) (inj : Bool) (hprt : prt ∉ [.regs, .spans, .inc, .evr] := by simp [*]) : view prt (recordDrop s n f sender c ballast inj) = view prt s := by simp at hprt; simp [recordDrop, *]
@[simp] theorem view_completeForward (s : State) (n : Nat) (idx : Nat) (home : Nat) (r : RxFrame) (op : Bytes) (desc : Bytes) (stored : Bytes) (padOk : Bool) (hprt : prt ∉ [.regs, .exps, .epochs, .held, .withdrawn, .cru, .wrc, .sbx, .ent, .lco, .kvt, .jct, .anchor, .ctc, .coh, .engs, .incarn, .ttb, .spans, .maps, .trs, .hgt, .cce, .imu, .inc, .evr, .pmu, .att, .free, .out] := by simp [*]) : view prt (completeForward s n idx home r op desc stored padOk) = view prt s := by simp at hprt; (unfold completeForward; (try simp only []); repeat' (first | (simp [*]; done) | split | (refine (view_foldl _ _ _ ?_).trans ?_) | (refine (view_foldl_fst _ _ _ ?_).trans ?_) | (refine (view_foldl_snd _ _ _ ?_).trans ?_) | (intro _ _) | (intro _) | (simp [*])))
@[simp] theorem view_takeCredit (s : State) (n : Nat) (f : Nat) (pt : Bytes) (hprt : prt ∉ [.spans] := by simp [*]) : view prt (takeCredit s n f pt) = view prt s := by simp at hprt; simp [takeCredit, *]
@[simp] theorem view_drainNr (s : State) (n : Nat) (hprt : prt ∉ [.regs, .spans, .out] := by simp [*]) : view prt (drainNr s n) = view prt s := by simp at hprt; simp [drainNr, *]
@[simp] theorem view_toNr (s : State) (n : Nat) (x : NiItem) (sq : Option Nat) (st : Nat) (ready : Bool) (hprt : prt ∉ [.regs, .spans, .out] := by simp [*]) : view prt (toNr s n x sq st ready) = view prt s := by simp at hprt; simp [toNr, *]
@[simp] theorem view_deliverNi (s : State) (n : Nat) (f : Nat) (r : RxFrame) (pt : Bytes) (hprt : prt ∉ [.regs, .exps, .epochs, .held, .withdrawn, .cru, .wrc, .sbx, .ent, .lco, .kvt, .jct, .anchor, .ctc, .coh, .engs, .incarn, .ttb, .spans, .maps, .trs, .hgt, .cce, .imu, .inc, .evr, .pmu, .att, .out] := by simp [*]) : view prt (deliverNi s n f r pt) = view prt s := by simp at hprt; (unfold deliverNi; (try simp only []); repeat' (first | (simp [*]; done) | ( simp [*]; done) | ((try have h_trsVerdict := view_trsVerdict_eq (prt := prt) ‹trsVerdict _ _ _ _ _ = some _›); simp [*]; done) | split | (refine (view_foldl _ _ _ ?_).trans ?_) | (refine (view_foldl_fst _ _ _ ?_).trans ?_) | (refine (view_foldl_snd _ _ _ ?_).trans ?_) | (intro _ _) | (intro _) | (have h_ := view_trsVerdict_eq (prt := prt) ‹trsVerdict _ _ _ _ _ = some _›; refine Eq.trans h_ ?_; clear h_) | (simp [*])))
@[simp] theorem view_refuseFrame (s : State) (n : Nat) (r : RxFrame) (err : Bool) (hprt : prt ∉ [.regs, .exps, .epochs, .held, .withdrawn, .cru, .wrc, .sbx, .ent, .lco, .kvt, .jct, .anchor, .ctc, .coh, .engs, .incarn, .ttb, .spans, .maps, .trs, .hgt, .cce, .imu, .inc, .evr, .pmu, .att, .out] := by simp [*]) : view prt (refuseFrame s n r err) = view prt s := by simp at hprt; simp [refuseFrame, *]
@[simp] theorem view_finishResponse (s : State) (n : Nat) (i : Nat) (st : Nat) (pt : Bytes) (hprt : prt ∉ [.regs, .ttb, .spans, .hgt, .inc, .evr, .out] := by simp [*]) : view prt (finishResponse s n i st pt) = view prt s := by simp at hprt; (unfold finishResponse; (try simp only []); repeat' (first | (simp [*]; done) | split | (refine (view_foldl _ _ _ ?_).trans ?_) | (refine (view_foldl_fst _ _ _ ?_).trans ?_) | (refine (view_foldl_snd _ _ _ ?_).trans ?_) | (intro _ _) | (intro _) | (simp [*])))
@[simp] theorem view_handFrame (s : State) (n : Nat) (r : RxFrame) (h : Bytes) (body : Bytes) (pt : Bytes) (op : Bytes) (clear : Bytes) (stored : Bytes) (pad : Bytes) (hprt : prt ∉ [.regs, .exps, .epochs, .held, .withdrawn, .cru, .wrc, .sbx, .ent, .lco, .kvt, .jct, .anchor, .ctc, .coh, .engs, .incarn, .ttb, .spans, .maps, .trs, .hgt, .cce, .imu, .inc, .evr, .pmu, .att, .free, .out] := by simp [*]) : view prt (handFrame s n r h body pt op clear stored pad) = view prt s := by simp at hprt; (unfold handFrame; (try simp only []); repeat' (first | (simp [*]; done) | split | (refine (view_foldl _ _ _ ?_).trans ?_) | (refine (view_foldl_fst _ _ _ ?_).trans ?_) | (refine (view_foldl_snd _ _ _ ?_).trans ?_) | (intro _ _) | (intro _) | (simp [*])))
@[simp] theorem view_finishFrame (s : State) (n : Nat) (r : RxFrame) (key : Bytes) (err : Bool) (hprt : prt ∉ [.regs, .exps, .epochs, .held, .withdrawn, .cru, .wrc, .sbx, .ent, .lco, .kvt, .jct, .anchor, .ctc, .coh, .engs, .incarn, .ttb, .spans, .maps, .trs, .hgt, .cce, .imu, .inc, .evr, .pmu, .att, .free, .out] := by simp [*]) : view prt (finishFrame s n r key err) = view prt s := by simp at hprt; (unfold finishFrame; (try simp only []); repeat' (first | (simp [*]; done) | split | (refine (view_foldl _ _ _ ?_).trans ?_) | (refine (view_foldl_fst _ _ _ ?_).trans ?_) | (refine (view_foldl_snd _ _ _ ?_).trans ?_) | (intro _ _) | (intro _) | (simp [*])))
@[simp] theorem view_finishReady (s : State) (n : Nat) (hprt : prt ∉ [.regs, .exps, .epochs, .held, .withdrawn, .cru, .wrc, .sbx, .ent, .lco, .kvt, .jct, .anchor, .ctc, .coh, .engs, .incarn, .ttb, .spans, .maps, .trs, .hgt, .cce, .imu, .inc, .evr, .pmu, .att, .free, .out] := by simp [*]) : view prt (finishReady s n) = view prt s := by simp at hprt; (unfold finishReady; (try simp only []); repeat' (first | (simp [*]; done) | ((try have h_takeFrameKey := view_takeFrameKey_eq (prt := prt) ‹takeFrameKey _ _ _ = _›); (try have h_takeFwdKeys := view_takeFwdKeys_eq (prt := prt) ‹takeFwdKeys _ _ _ = _›); simp [*]; done) | ((try have h_takeFrameKey := view_takeFrameKey_eq (prt := prt) ‹takeFrameKey _ _ _ = _›); (try have h_takeFwdKeys := view_takeFwdKeys_eq (prt := prt) ‹takeFwdKeys _ _ _ = _›); simp [*]; done) | split | (refine (view_foldl _ _ _ ?_).trans ?_) | (refine (view_foldl_fst _ _ _ ?_).trans ?_) | (refine (view_foldl_snd _ _ _ ?_).trans ?_) | (intro _ _) | (intro _) | (have h_ := view_takeFrameKey_eq (prt := prt) ‹takeFrameKey _ _ _ = _›; refine Eq.trans h_ ?_; clear h_) | (have h_ := view_takeFwdKeys_eq (prt := prt) ‹takeFwdKeys _ _ _ = _›; refine Eq.trans h_ ?_; clear h_) | (simp [*])))
@[simp] theorem view_spansGoOn (s : State) (hprt : prt ∉ [.regs, .exps, .epochs, .held, .withdrawn, .cru, .wrc, .sbx, .ent, .lco, .kvt, .jct, .anchor, .ctc, .coh, .engs, .incarn, .ttb, .spans, .maps, .trs, .hgt, .cce, .imu, .inc, .evr, .pmu, .att, .free, .out] := by simp [*]) : view prt (spansGoOn s) = view prt s := by simp at hprt; simp [spansGoOn, *]
@[simp] theorem view_askNext (s : State) (n : Nat) (hprt : prt ∉ [.regs, .kvt, .anchor, .ctc, .engs, .inc, .evr, .out] := by simp [*]) : view prt (askNext s n) = view prt s := by simp at hprt; simp [askNext, *]
@[simp] theorem view_judgeNt (s : State) (n : Nat) (x : NiItem) (hprt : prt ∉ [.regs, .kvt, .spans] := by simp [*]) : view prt (judgeNt s n x) = view prt s := by simp at hprt; (unfold judgeNt; (try simp only []); repeat' (first | (simp [*]; done) | ((try have h_txKey := view_txKey_eq (prt := prt) ‹txKey _ _ _ = _›); simp [*]; done) | ((try have h_txKey := view_txKey_eq (prt := prt) ‹txKey _ _ _ = _›); simp [*]; done) | split | (refine (view_foldl _ _ _ ?_).trans ?_) | (refine (view_foldl_fst _ _ _ ?_).trans ?_) | (refine (view_foldl_snd _ _ _ ?_).trans ?_) | (intro _ _) | (intro _) | (have h_ := view_txKey_eq (prt := prt) ‹txKey _ _ _ = _›; refine Eq.trans h_ ?_; clear h_) | (simp [*])))
@[simp] theorem view_flowDone (s : State) (r : Role) (n : Nat) (st : Status) (hprt : prt ∉ [.regs, .epochs, .out] := by simp [*]) : view prt (flowDone s r n st) = view prt s := by simp at hprt; simp [flowDone, *]
@[simp] theorem view_flowOpen (s : State) (n : Nat) (i : Nat) (x : Flow) (hprt : prt ∉ [.spans] := by simp [*]) : view prt (flowOpen s n i x).1 = view prt s := by simp at hprt; (unfold flowOpen; (try simp only []); repeat' (first | (simp [*]; done) | split | (refine (view_foldl _ _ _ ?_).trans ?_) | (refine (view_foldl_fst _ _ _ ?_).trans ?_) | (refine (view_foldl_snd _ _ _ ?_).trans ?_) | (intro _ _) | (intro _) | (simp [*])))
theorem view_flowOpen_eq {s : State} {n : Nat} {i : Nat} {x : Flow} {t} (h : flowOpen s n i x = t) (hprt : prt ∉ [.spans] := by simp [*]) : view prt t.1 = view prt s := by subst h; exact view_flowOpen s n i x hprt
@[simp] theorem view_doFlowOpen (r : Role) (n : Nat) (s : State) (hprt : prt ∉ [.regs, .epochs, .spans, .out] := by simp [*]) : view prt (doFlowOpen r n s) = view prt s := by simp at hprt; simp [doFlowOpen, *]
@[simp] theorem view_endDsp (s : State) (n : Nat) (e : Nat) (st : Nat) (hprt : prt ∉ [.regs, .ttb, .spans, .out] := by simp [*]) : view prt (endDsp s n e st) = view prt s := by simp at hprt; (unfold endDsp; (try simp only []); repeat' (first | (simp [*]; done) | split | (refine (view_foldl _ _ _ ?_).trans ?_) | (refine (view_foldl_fst _ _ _ ?_).trans ?_) | (refine (view_foldl_snd _ _ _ ?_).trans ?_) | (intro _ _) | (intro _) | (simp [*])))
@[simp] theorem view_doFlowClose (r : Role) (n : Nat) (s : State) (hprt : prt ∉ [.regs, .epochs, .ttb, .spans, .out] := by simp [*]) : view prt (doFlowClose r n s) = view prt s := by simp at hprt; (unfold doFlowClose; (try simp only []); repeat' (first | (simp [*]; done) | split | (refine (view_foldl _ _ _ ?_).trans ?_) | (refine (view_foldl_fst _ _ _ ?_).trans ?_) | (refine (view_foldl_snd _ _ _ ?_).trans ?_) | (intro _ _) | (intro _) | (simp [*])))
@[simp] theorem view_doFlowLoad (r : Role) (n : Nat) (s : State) (hprt : prt ∉ [.regs, .epochs, .out] := by simp [*]) : view prt (doFlowLoad r n s) = view prt s := by simp at hprt; simp [doFlowLoad, *]
@[simp] theorem view_gaugeLate (s : State) (n : Nat) (g : Nat) (hprt : prt ∉ [.regs, .spans, .inc, .evr] := by simp [*]) : view prt (gaugeLate s n g) = view prt s := by simp at hprt; simp [gaugeLate, *]

@[simp] theorem view_doeServe (s : State) (len : Nat) (k : State → State) (h_k : ∀ x0, view prt (k x0) = view prt x0) (hprt : prt ∉ [.sbx] := by simp [*]) : view prt (doeServe s len k) = view prt s := by simp at hprt; simp [doeServe, *]
@[simp] theorem view_spdmError (s : State) (sid : Nat) (err : Nat) (hprt : prt ∉ [.out] := by simp [*]) : view prt (spdmError s sid err) = view prt s := by simp at hprt; simp [spdmError, *]
@[simp] theorem view_inSession (s : State) (sid : Word) (auth : Bool) (len : Nat) (k : Session → State → State) (h_k : ∀ x0 x1, view prt (k x0 x1) = view prt x1) (hprt : prt ∉ [.regs, .sbx, .hgt, .att] := by simp [*]) : view prt (inSession s sid auth len k) = view prt s := by simp at hprt; (unfold inSession; (try simp only []); repeat' (first | (simp [*]; done) | (refine view_doeServe _ _ _ ?_ (by simp [*])) | split | (refine (view_foldl _ _ _ ?_).trans ?_) | (refine (view_foldl_fst _ _ _ ?_).trans ?_) | (refine (view_foldl_snd _ _ _ ?_).trans ?_) | (intro _ _) | (intro _) | (simp [*])))
@[simp] theorem view_inEither (s : State) (sid : Option Word) (auth : Bool) (len : Nat) (k : Option Session → State → State) (h_k : ∀ x0 x1, view prt (k x0 x1) = view prt x1) (hprt : prt ∉ [.regs, .sbx, .hgt, .att] := by simp [*]) : view prt (inEither s sid auth len k) = view prt s := by simp at hprt; (unfold inEither; (try simp only []); repeat' (first | (simp [*]; done) | (refine view_doeServe _ _ _ ?_ (by simp [*])) | (refine view_inSession _ _ _ _ _ ?_ (by simp [*])) | split | (refine (view_foldl _ _ _ ?_).trans ?_) | (refine (view_foldl_fst _ _ _ ?_).trans ?_) | (refine (view_foldl_snd _ _ _ ?_).trans ?_) | (intro _ _) | (intro _) | (simp [*])))
@[simp] theorem view_putSession (s : State) (sid : Nat) (x : Session) (hprt : prt ∉ [.att] := by simp [*]) : view prt (putSession s sid x) = view prt s := by simp at hprt; simp [putSession, *]
@[simp] theorem view_vdAnswer (s : State) (sid : Nat) (code : Nat) (st : Nat) (b : Bytes) (hprt : prt ∉ [.out] := by simp [*]) : view prt (vdAnswer s sid code st b) = view prt s := by simp at hprt; simp [vdAnswer, *]
@[simp] theorem view_chLoad (s : State) (p : Nat) (i : Nat) (f : Bytes) (keyH : Bytes) (keyD : Bytes) (hprt : prt ∉ [.hgt] := by simp [*]) : view prt (chLoad s p i f keyH keyD) = view prt s := by simp at hprt; simp [chLoad, *]
@[simp] theorem view_fwKvt (s : State) (op : Nat) (keyId : Nat) (arg0 : Nat) (pend : Bool) (inputs : Bytes) (k : KCmd → State → State) (h_k : ∀ x0 x1, view prt (k x0 x1) = view prt x1) (hprt : prt ∉ [.regs, .epochs, .kvt, .inc, .evr, .free] := by simp [*]) : view prt (fwKvt s op keyId arg0 pend inputs k).1 = view prt s := by simp at hprt; (unfold fwKvt; (try simp only []); repeat' (first | (simp [*]; done) | ((try have h_drawNat := view_drawNat_eq (prt := prt) ‹drawNat _ = _›); simp [*]; done) | ((try have h_drawNat := view_drawNat_eq (prt := prt) ‹drawNat _ = _›); simp [*]; done) | split | (refine (view_foldl _ _ _ ?_).trans ?_) | (refine (view_foldl_fst _ _ _ ?_).trans ?_) | (refine (view_foldl_snd _ _ _ ?_).trans ?_) | (intro _ _) | (intro _) | (have h_ := view_drawNat_eq (prt := prt) ‹drawNat _ = _›; refine Eq.trans h_ ?_; clear h_) | (simp [*])))
theorem view_fwKvt_eq {s : State} {op : Nat} {keyId : Nat} {arg0 : Nat} {pend : Bool} {inputs : Bytes} {k : KCmd → State → State} (h_k : ∀ x0 x1, view prt (k x0 x1) = view prt x1) {t} (h : fwKvt s op keyId arg0 pend inputs k = t) (hprt : prt ∉ [.regs, .epochs, .kvt, .inc, .evr, .free] := by simp [*]) : view prt t.1 = view prt s := by subst h; exact view_fwKvt s op keyId arg0 pend inputs k h_k hprt
@[simp] theorem view_ideMsg (s : State) (sid : Word) (auth : Bool) (len : Nat) (k : State → State) (h_k : ∀ x0, view prt (k x0) = view prt x0) (hprt : prt ∉ [.regs, .sbx, .hgt, .att, .out] := by simp [*]) : view prt (ideMsg s sid auth len k) = view prt s := by simp at hprt; simp [ideMsg, *]
@[simp] theorem view_ideAnswer (s : State) (c : HiCmd) (st : Nat) (hprt : prt ∉ [.out] := by simp [*]) : view prt (ideAnswer s c st) = view prt s := by simp at hprt; simp [ideAnswer, *]
@[simp] theorem view_hiLate (s : State) (c : HiCmd) (hprt : prt ∉ [.regs, .exps, .epochs, .held, .withdrawn, .cru, .wrc, .sbx, .ent, .lco, .kvt, .jct, .anchor, .ctc, .coh, .engs, .incarn, .ttb, .spans, .maps, .trs, .hgt, .cce, .imu, .inc, .evr, .pmu, .att, .out] := by simp [*]) : view prt (hiLate s c) = view prt s := by simp at hprt; simp [hiLate, *]
@[simp] theorem view_svcAnswer (s : State) (cmd : Nat) (st : Nat) (b : Bytes) (hprt : prt ∉ [.out] := by simp [*]) : view prt (svcAnswer s cmd st b) = view prt s := by simp at hprt; simp [svcAnswer, *]
@[simp] theorem view_joinFail (s : State) (peer : Nat) (check : Nat) (st : Nat) (hprt : prt ∉ [.regs, .inc, .evr] := by simp [*]) : view prt (joinFail s peer check st) = view prt s := by simp at hprt; simp [joinFail, *]
@[simp] theorem view_planNext (s : State) (own : Nat) (pod : Nat) (ms : List Member) (hprt : prt ∉ [.dom] := by simp [*]) : view prt (planNext s own pod ms) = view prt s := by simp at hprt; simp [planNext, *]
@[simp] theorem view_putMap (s : State) (map : Bytes) (hprt : prt ∉ [.maps] := by simp [*]) : view prt (putMap s map) = view prt s := by simp at hprt; simp [putMap, *]
@[simp] theorem view_putJoiner (s : State) (j : Joiner) (hprt : prt ∉ [.att] := by simp [*]) : view prt (putJoiner s j) = view prt s := by simp at hprt; simp [putJoiner, *]
@[simp] theorem view_endJoin (s : State) (id : Nat) (st : Nat) (hprt : prt ∉ [.att, .out] := by simp [*]) : view prt (endJoin s id st) = view prt s := by simp at hprt; simp [endJoin, *]
@[simp] theorem view_sendPeer (s : State) (id : Nat) (b : Bytes) (hprt : prt ∉ [.att] := by simp [*]) : view prt (sendPeer s id b) = view prt s := by simp at hprt; simp [sendPeer, *]
@[simp] theorem view_joinAdvance (s : State) (a1 : Nat) (hprt : prt ∉ [.regs, .epochs, .ent, .lco, .kvt, .dom, .anchor, .ctc, .engs, .spans, .inc, .evr, .att, .free, .out] := by simp [*]) : view prt (joinAdvance s a1) = view prt s := by
  simp at hprt
  have hf : ∀ (s : State) (op k a : Nat) (p : Bool) (i : Bytes) (f : KCmd → State → State) (t : State) (st : Nat), (∀ c u, view prt (f c u) = view prt u) →
      fwKvt s op k a p i f = (t, st) → view prt t = view prt s := by
    intro s op k a p i f t st hk h
    have h1 := view_fwKvt s op k a p i f hk
    rw [h] at h1; exact h1
  induction a1 generalizing s with
  | zero => rfl
  | succ n ih =>
    unfold joinAdvance; simp only []
    repeat' (first | (simp [*]; done) | (rw [ih]; simp [*]; done) | (have h_ := hf _ _ _ _ _ _ _ _ _ (by intro c u; simp [*]) ‹fwKvt _ _ _ _ _ _ _ = _›; simp [h_, *]; done) | split)
@[simp] theorem view_advance (s : State) (hprt : prt ∉ [.regs, .epochs, .ent, .lco, .kvt, .dom, .anchor, .ctc, .engs, .spans, .inc, .evr, .att, .free, .out] := by simp [*]) : view prt (advance s) = view prt s := by simp at hprt; simp [advance, *]
@[simp] theorem view_takeAnswer (s : State) (peer : BitVec 14) (stage : JoinStage) (k : Plan → Joiner → State → State) (h_k : ∀ x0 x1 x2, view prt (k x0 x1 x2) = view prt x2) (hprt : prt ∉ [.att] := by simp [*]) : view prt (takeAnswer s peer stage k) = view prt s := by simp at hprt; (unfold takeAnswer; (try simp only []); repeat' (first | (simp [*]; done) | split | (refine (view_foldl _ _ _ ?_).trans ?_) | (refine (view_foldl_fst _ _ _ ?_).trans ?_) | (refine (view_foldl_snd _ _ _ ?_).trans ?_) | (intro _ _) | (intro _) | (simp [*])))
@[simp] theorem view_signTj (s : State) (tj : Bytes) (hprt : prt ∉ [.free] := by simp [*]) : view prt (signTj s tj).2 = view prt s := by simp at hprt; simp [signTj, *]
theorem view_signTj_eq {s : State} {tj : Bytes} {t} (h : signTj s tj = t) (hprt : prt ∉ [.free] := by simp [*]) : view prt t.2 = view prt s := by subst h; exact view_signTj s tj hprt
@[simp] theorem view_failJoinIn (s : State) (sid : Nat) (code : Nat) (check : Nat) (hprt : prt ∉ [.regs, .hgt, .inc, .evr, .att, .out] := by simp [*]) : view prt (failJoinIn s sid code check) = view prt s := by simp at hprt; simp [failJoinIn, *]

@[simp] theorem view_cceStatus (s : State) (q : Nat) (st : Status) (hprt : prt ∉ [.cce] := by simp [*]) : view prt (cceStatus s q st) = view prt s := by simp at hprt; simp [cceStatus, *]
@[simp] theorem view_doCceOpen (r : Role) (s : State) (hprt : prt ∉ [.epochs, .cce, .out] := by simp [*]) : view prt (doCceOpen r s) = view prt s := by simp at hprt; simp [doCceOpen, *]
@[simp] theorem view_cceClosed (s : State) (q : Nat) (hprt : prt ∉ [.cce] := by simp [*]) : view prt (cceClosed s q) = view prt s := by simp at hprt; simp [cceClosed, *]
@[simp] theorem view_doCceClose (r : Role) (s : State) (hprt : prt ∉ [.epochs, .cce, .out] := by simp [*]) : view prt (doCceClose r s) = view prt s := by simp at hprt; simp [doCceClose, *]
@[simp] theorem view_cceDoorbell (s : State) (q : Nat) (v : Nat) (hprt : prt ∉ [.regs, .exps, .epochs, .held, .withdrawn, .cru, .wrc, .sbx, .ent, .lco, .kvt, .jct, .anchor, .ctc, .coh, .engs, .incarn, .ttb, .spans, .maps, .trs, .hgt, .cce, .imu, .inc, .evr, .pmu, .att, .free, .out] := by simp [*]) : view prt (cceDoorbell s q v) = view prt s := by simp at hprt; simp [cceDoorbell, *]
@[simp] theorem view_doCceDoorbell (r : Role) (off : Nat) (q : Nat) (v : Word) (s : State) (hprt : prt ∉ [.regs, .exps, .epochs, .held, .withdrawn, .cru, .wrc, .sbx, .ent, .lco, .kvt, .jct, .anchor, .ctc, .coh, .engs, .incarn, .ttb, .spans, .maps, .trs, .hgt, .cce, .imu, .inc, .evr, .pmu, .att, .free, .out] := by simp [*]) : view prt (doCceDoorbell r off q v s) = view prt s := by simp at hprt; simp [doCceDoorbell, *]
@[simp] theorem view_cceRingErr (s : State) (q : Nat) (j : CceJob) (st : Nat) (hprt : prt ∉ [.regs, .exps, .epochs, .held, .withdrawn, .cru, .wrc, .sbx, .ent, .lco, .kvt, .jct, .anchor, .ctc, .coh, .engs, .incarn, .ttb, .spans, .maps, .trs, .hgt, .cce, .imu, .inc, .evr, .pmu, .att, .out] := by simp [*]) : view prt (cceRingErr s q j st) = view prt s := by simp at hprt; simp [cceRingErr, *]

@[simp] theorem view_mbHold (s : State) (i : Nat) (tenant : Bool) (w : MbWait) (hprt : prt ∉ [.imu] := by simp [*]) : view prt (mbHold s i tenant w) = view prt s := by simp at hprt; simp [mbHold, *]
@[simp] theorem view_mbCreate (s : State) (i : Nat) (seq : Nat) (hprt : prt ∉ [.regs, .epochs, .imu, .inc] := by simp [*]) : view prt (mbCreate s i seq) = view prt s := by simp at hprt; simp [mbCreate, *]
@[simp] theorem view_mbPasidAdd (s : State) (i : Nat) (seq : Nat) (hprt : prt ∉ [.regs, .imu, .inc] := by simp [*]) : view prt (mbPasidAdd s i seq) = view prt s := by simp at hprt; simp [mbPasidAdd, *]
@[simp] theorem view_mbPasidDel (s : State) (i : Nat) (seq : Nat) (hprt : prt ∉ [.regs, .imu, .inc] := by simp [*]) : view prt (mbPasidDel s i seq) = view prt s := by simp at hprt; simp [mbPasidDel, *]
@[simp] theorem view_mbSlice (s : State) (i : Nat) (seq : Nat) (hprt : prt ∉ [.regs, .kvt, .anchor, .ctc, .engs, .imu, .inc, .evr, .out] := by simp [*]) : view prt (mbSlice s i seq) = view prt s := by simp at hprt; simp [mbSlice, *]
@[simp] theorem view_mbScratch (s : State) (i : Nat) (seq : Nat) (hprt : prt ∉ [.regs, .imu, .inc] := by simp [*]) : view prt (mbScratch s i seq) = view prt s := by simp at hprt; simp [mbScratch, *]
@[simp] theorem view_bindJudge (s : State) (i : Nat) (k : Nat) (kt : KtabRead) (hprt : prt ∉ [.regs, .inc, .evr] := by simp [*]) : view prt (bindJudge s i k kt).1 = view prt s := by simp at hprt; (unfold bindJudge; (try simp only []); repeat' (first | (simp [*]; done) | ((try have h_kentRead := view_kentRead_eq (prt := prt) ‹kentRead _ _ _ = _›); simp [*]; done) | ((try have h_kentRead := view_kentRead_eq (prt := prt) ‹kentRead _ _ _ = _›); simp [*]; done) | split | (refine (view_foldl _ _ _ ?_).trans ?_) | (refine (view_foldl_fst _ _ _ ?_).trans ?_) | (refine (view_foldl_snd _ _ _ ?_).trans ?_) | (intro _ _) | (intro _) | (have h_ := view_kentRead_eq (prt := prt) ‹kentRead _ _ _ = _›; refine Eq.trans h_ ?_; clear h_) | (simp [*])))
theorem view_bindJudge_eq {s : State} {i : Nat} {k : Nat} {kt : KtabRead} {t} (h : bindJudge s i k kt = t) (hprt : prt ∉ [.regs, .inc, .evr] := by simp [*]) : view prt t.1 = view prt s := by subst h; exact view_bindJudge s i k kt hprt
@[simp] theorem view_mbBind (s : State) (i : Nat) (seq : Nat) (kt : KtabRead) (hprt : prt ∉ [.regs, .imu, .inc, .evr] := by simp [*]) : view prt (mbBind s i seq kt) = view prt s := by simp at hprt; (unfold mbBind; (try simp only []); repeat' (first | (simp [*]; done) | ((try have h_bindJudge := view_bindJudge_eq (prt := prt) ‹bindJudge _ _ _ _ = _›); simp [*]; done) | ((try have h_bindJudge := view_bindJudge_eq (prt := prt) ‹bindJudge _ _ _ _ = _›); simp [*]; done) | split | (refine (view_foldl _ _ _ ?_).trans ?_) | (refine (view_foldl_fst _ _ _ ?_).trans ?_) | (refine (view_foldl_snd _ _ _ ?_).trans ?_) | (intro _ _) | (intro _) | (have h_ := view_bindJudge_eq (prt := prt) ‹bindJudge _ _ _ _ = _›; refine Eq.trans h_ ?_; clear h_) | (simp [*])))
@[simp] theorem view_mbUnbind (s : State) (i : Nat) (seq : Nat) (hprt : prt ∉ [.regs, .kvt, .anchor, .ctc, .engs, .ttb, .spans, .trs, .hgt, .cce, .imu, .inc, .evr, .out] := by simp [*]) : view prt (mbUnbind s i seq) = view prt s := by simp at hprt; simp [mbUnbind, *]
@[simp] theorem view_mbSequence (s : State) (i : Nat) (cmd : Nat) (seq : Nat) (st : InstSt) (hprt : prt ∉ [.regs, .epochs, .ttb, .spans, .trs, .hgt, .cce, .imu, .inc, .evr] := by simp [*]) : view prt (mbSequence s i cmd seq st) = view prt s := by simp at hprt; simp [mbSequence, *]
@[simp] theorem view_mbStep (s : State) (i : Nat) (seq : Nat) (kt : KtabRead) (hprt : prt ∉ [.regs, .kvt, .imu, .inc, .evr, .free, .out] := by simp [*]) : view prt (mbStep s i seq kt) = view prt s := by simp at hprt; simp [mbStep, *]
@[simp] theorem view_mbCtxLose (s : State) (i : Nat) (seq : Nat) (hprt : prt ∉ [.regs, .trs, .cce, .imu, .inc, .evr, .out] := by simp [*]) : view prt (mbCtxLose s i seq) = view prt s := by simp at hprt; simp [mbCtxLose, *]
@[simp] theorem view_mbObjPage (s : State) (i : Nat) (seq : Nat) (hprt : prt ∉ [.regs, .imu, .inc] := by simp [*]) : view prt (mbObjPage s i seq) = view prt s := by simp at hprt; simp [mbObjPage, *]
@[simp] theorem view_mbObjCreate (s : State) (i : Nat) (seq : Nat) (hprt : prt ∉ [.regs, .engs, .ttb, .spans, .hgt, .imu, .inc, .evr, .out] := by simp [*]) : view prt (mbObjCreate s i seq) = view prt s := by simp at hprt; (unfold mbObjCreate; (try simp only []); repeat' (first | (simp [*]; done) | split | (refine (view_foldl _ _ _ ?_).trans ?_) | (refine (view_foldl_fst _ _ _ ?_).trans ?_) | (refine (view_foldl_snd _ _ _ ?_).trans ?_) | (intro _ _) | (intro _) | (simp [*])))
@[simp] theorem view_mbObjDestroy (s : State) (i : Nat) (seq : Nat) (hprt : prt ∉ [.regs, .imu, .inc] := by simp [*]) : view prt (mbObjDestroy s i seq) = view prt s := by simp at hprt; simp [mbObjDestroy, *]
@[simp] theorem view_mbServe (s : State) (i : Nat) (tenant : Bool) (seq : Nat) (kt : KtabRead) (hprt : prt ∉ [.regs, .epochs, .kvt, .anchor, .ctc, .engs, .ttb, .spans, .trs, .hgt, .cce, .imu, .inc, .evr, .free, .out] := by simp [*]) : view prt (mbServe s i tenant seq kt) = view prt s := by
  simp at hprt
  have hi : ∀ (c : Prop) [Decidable c] (a b : State), view prt a = view prt s → view prt b = view prt s → view prt (if c then a else b) = view prt s := by
    intro c _ a b ha hb; split <;> assumption
  unfold mbServe; extract_lets w cmd; clear_value cmd; clear_value w
  refine hi _ _ _ (view_mbDone _ _ _ _ _ _) (hi _ _ _ (view_mbDone _ _ _ _ _ _) ?_)
  cases mbRefused s i tenant cmd with
  | some st => exact view_mbDone _ _ _ _ _ _
  | none =>
    refine hi _ _ _ (view_mbCreate _ _ _) ?_
    refine hi _ _ _ (view_mbPasidAdd _ _ _) ?_
    refine hi _ _ _ (view_mbPasidDel _ _ _) ?_
    refine hi _ _ _ (view_mbSlice _ _ _) ?_
    refine hi _ _ _ (view_mbScratch _ _ _) ?_
    refine hi _ _ _ (view_mbBind _ _ _ _) ?_
    refine hi _ _ _ (view_mbUnbind _ _ _) ?_
    refine hi _ _ _ (view_mbSequence _ _ _ _ _) ?_
    refine hi _ _ _ (view_mbSequence _ _ _ _ _) ?_
    refine hi _ _ _ (view_mbSequence _ _ _ _ _) ?_
    refine hi _ _ _ (view_mbStep _ _ _ _) ?_
    refine hi _ _ _ (view_mbCtxLose _ _ _) ?_
    refine hi _ _ _ (view_mbObjPage _ _ _) ?_
    refine hi _ _ _ (view_mbObjCreate _ _ _) ?_
    exact view_mbObjDestroy _ _ _
@[simp] theorem view_doMbGo (r : Role) (i : Nat) (tenant : Bool) (seq : Nat) (kt : KtabRead) (s : State) (hprt : prt ∉ [.regs, .epochs, .kvt, .anchor, .ctc, .engs, .ttb, .spans, .trs, .hgt, .cce, .imu, .inc, .evr, .free, .out] := by simp [*]) : view prt (doMbGo r i tenant seq kt s) = view prt s := by simp at hprt; simp [doMbGo, *]
@[simp] theorem view_mbTake (s : State) (hprt : prt ∉ [.regs, .epochs, .kvt, .anchor, .ctc, .engs, .ttb, .spans, .trs, .hgt, .cce, .imu, .inc, .evr, .free, .out] := by simp [*]) : view prt (mbTake s) = view prt s := by simp at hprt; (unfold mbTake; (try simp only []); repeat' (first | (simp [*]; done) | split | (refine (view_foldl _ _ _ ?_).trans ?_) | (refine (view_foldl_fst _ _ _ ?_).trans ?_) | (refine (view_foldl_snd _ _ _ ?_).trans ?_) | (intro _ _) | (intro _) | (simp [*])))
@[simp] theorem view_mbResume (s : State) (hprt : prt ∉ [.regs, .epochs, .kvt, .anchor, .ctc, .engs, .ttb, .spans, .trs, .hgt, .cce, .imu, .inc, .evr, .free, .out] := by simp [*]) : view prt (mbResume s) = view prt s := by simp at hprt; (unfold mbResume; (try simp only []); repeat' (first | (simp [*]; done) | split | (refine (view_foldl _ _ _ ?_).trans ?_) | (refine (view_foldl_fst _ _ _ ?_).trans ?_) | (refine (view_foldl_snd _ _ _ ?_).trans ?_) | (intro _ _) | (intro _) | (simp [*])))
@[simp] theorem view_scEnd (s : State) (g : Nat) (ok : Bool) (hprt : prt ∉ [.regs, .epochs, .imu, .inc, .evr, .out] := by simp [*]) : view prt (scEnd s g ok) = view prt s := by simp at hprt; (unfold scEnd; (try simp only []); repeat' (first | (simp [*]; done) | split | (refine (view_foldl _ _ _ ?_).trans ?_) | (refine (view_foldl_fst _ _ _ ?_).trans ?_) | (refine (view_foldl_snd _ _ _ ?_).trans ?_) | (intro _ _) | (intro _) | (simp [*])))
@[simp] theorem view_uncharge (s : State) (i : Nat) (hprt : prt ∉ [.regs, .anchor, .ctc, .engs, .inc, .evr, .out] := by simp [*]) : view prt (uncharge s i) = view prt s := by
  simp at hprt
  have he : ∀ (s : State) (c : Prop) [Decidable c] (x : Line) (t : State), (if c then evict s x else none) = some t → view prt t = view prt s := by
    intro s c _ x t h
    split at h
    · exact view_evict_eq (prt := prt) h
    · cases h
  unfold uncharge
  repeat' (first | (simp [*]; done) | (refine (view_foldl _ _ _ ?_).trans ?_) | (intro _ _) | split | (exact he _ _ _ _ ‹_›))
@[simp] theorem view_blockScrub (s : State) (i : Nat) (hprt : prt ∉ [.regs, .anchor, .ctc, .engs, .trs, .imu, .inc, .evr, .out] := by simp [*]) : view prt (blockScrub s i) = view prt s := by simp at hprt; simp [blockScrub, *]
@[simp] theorem view_doSigGo (r : Role) (i : Nat) (s : State) (hprt : prt ∉ [.regs, .engs, .ttb, .spans, .hgt, .imu, .inc, .evr, .out] := by simp [*]) : view prt (doSigGo r i s) = view prt s := by simp at hprt; (unfold doSigGo; (try simp only []); repeat' (first | (simp [*]; done) | split | (refine (view_foldl _ _ _ ?_).trans ?_) | (refine (view_foldl_fst _ _ _ ?_).trans ?_) | (refine (view_foldl_snd _ _ _ ?_).trans ?_) | (intro _ _) | (intro _) | (simp [*])))
@[simp] theorem view_doWaitArm (r : Role) (i : Nat) (s : State) (hprt : prt ∉ [.regs, .engs, .ttb, .spans, .hgt, .imu, .inc, .evr, .out] := by simp [*]) : view prt (doWaitArm r i s) = view prt s := by simp at hprt; (unfold doWaitArm; (try simp only []); repeat' (first | (simp [*]; done) | split | (refine (view_foldl _ _ _ ?_).trans ?_) | (refine (view_foldl_fst _ _ _ ?_).trans ?_) | (refine (view_foldl_snd _ _ _ ?_).trans ?_) | (intro _ _) | (intro _) | (simp [*])))
@[simp] theorem view_doWaitCancel (r : Role) (i : Nat) (s : State) (hprt : prt ∉ [.regs, .imu, .inc, .out] := by simp [*]) : view prt (doWaitCancel r i s) = view prt s := by simp at hprt; simp [doWaitCancel, *]

@[simp] theorem view_mgrRefresh (s : State) (hprt : prt ∉ [.regs] := by simp [*]) : view prt (mgrRefresh s) = view prt s := by simp at hprt; simp [mgrRefresh, *]
@[simp] theorem view_sinkPut (s : State) (t : Nat) (a : Act) (hprt : prt ∉ [.regs, .hgt, .inc, .out] := by simp [*]) : view prt (sinkPut s t a) = view prt s := by simp at hprt; simp [sinkPut, *]
@[simp] theorem view_actDone (r : Role) (src : Nat) (inst : Option Nat) (s : State) (hprt : prt ∉ [.regs, .inc] := by simp [*]) : view prt (actDone r src inst s) = view prt s := by simp at hprt; (unfold actDone; (try simp only []); repeat' (first | (simp [*]; done) | split | (refine (view_foldl _ _ _ ?_).trans ?_) | (refine (view_foldl_fst _ _ _ ?_).trans ?_) | (refine (view_foldl_snd _ _ _ ?_).trans ?_) | (intro _ _) | (intro _) | (simp [*])))
@[simp] theorem view_doIncDone (r : Role) (v : Word) (s : State) (hprt : prt ∉ [.regs, .inc, .out] := by simp [*]) : view prt (doIncDone r v s) = view prt s := by simp at hprt; simp [doIncDone, *]
@[simp] theorem view_doInstDone (r : Role) (i : Nat) (v : Word) (s : State) (hprt : prt ∉ [.regs, .inc, .out] := by simp [*]) : view prt (doInstDone r i v s) = view prt s := by simp at hprt; simp [doInstDone, *]
@[simp] theorem view_doIncHold (r : Role) (v : Word) (s : State) (hprt : prt ∉ [.regs, .out] := by simp [*]) : view prt (doIncHold r v s) = view prt s := by simp at hprt; simp [doIncHold, *]
@[simp] theorem view_doIncSource (r : Role) (src : Nat) (v : Word) (s : State) (hprt : prt ∉ [.regs, .epochs, .out] := by simp [*]) : view prt (doIncSource r src v s) = view prt s := by simp at hprt; simp [doIncSource, *]
@[simp] theorem view_writeIncSource (r : Role) (src : Nat) (v : Word) (s : State) (hprt : prt ∉ [.regs, .epochs, .denied, .inc, .evr, .out] := by simp [*]) : view prt (writeIncSource r src v s) = view prt s := by simp at hprt; simp [writeIncSource, *]
@[simp] theorem view_doMgrPop (r : Role) (s : State) (hprt : prt ∉ [.regs, .inc, .out] := by simp [*]) : view prt (doMgrPop r s) = view prt s := by simp at hprt; simp [doMgrPop, *]

@[simp] theorem view_takeRec (s : State) (x : Option Nat × Rec) (hprt : prt ∉ [.evr] := by simp [*]) : view prt (takeRec s x) = view prt s := by simp at hprt; (unfold takeRec; (try simp only []); repeat' (first | (simp [*]; done) | split | (refine (view_foldl _ _ _ ?_).trans ?_) | (refine (view_foldl_fst _ _ _ ?_).trans ?_) | (refine (view_foldl_snd _ _ _ ?_).trans ?_) | (intro _ _) | (intro _) | (simp [*])))
@[simp] theorem view_spillBlock (s : State) (k : Nat) (hprt : prt ∉ [.evr, .out] := by simp [*]) : view prt (spillBlock s k) = view prt s := by simp at hprt; simp [spillBlock, *]
@[simp] theorem view_evrWrite (s : State) (r : Rec) (hprt : prt ∉ [.regs, .inc, .evr, .out] := by simp [*]) : view prt (evrWrite s r) = view prt s := by simp at hprt; simp [evrWrite, *]
@[simp] theorem view_doRecordLoad (r : Role) (sq : Word) (rd : KtabRead) (s : State) (hprt : prt ∉ [.regs, .evr, .out] := by simp [*]) : view prt (doRecordLoad r sq rd s) = view prt s := by simp at hprt; (unfold doRecordLoad; (try simp only []); repeat' (first | (simp [*]; done) | ((try have h_serviceRead := view_serviceRead_eq (prt := prt) ‹serviceRead _ _ _ _ = _›); simp [*]; done) | ((try have h_serviceRead := view_serviceRead_eq (prt := prt) ‹serviceRead _ _ _ _ = _›); simp [*]; done) | split | (refine (view_foldl _ _ _ ?_).trans ?_) | (refine (view_foldl_fst _ _ _ ?_).trans ?_) | (refine (view_foldl_snd _ _ _ ?_).trans ?_) | (intro _ _) | (intro _) | (have h_ := view_serviceRead_eq (prt := prt) ‹serviceRead _ _ _ _ = _›; refine Eq.trans h_ ?_; clear h_) | (simp [*])))
@[simp] theorem view_absorb (s : State) (f : Freeze) (a2 : Nat) (hprt : prt ∉ [.evr] := by simp [*]) : view prt (absorb s f a2).2 = view prt s := by
  simp at hprt
  induction a2 generalizing s f with
  | zero => rfl
  | succ n ih =>
    unfold absorb
    repeat' (first | (simp [*]; done) | (rw [ih]; simp [*]; done) | split)
theorem view_absorb_eq {s : State} {f : Freeze} {a2 : Nat} {t} (h : absorb s f a2 = t) (hprt : prt ∉ [.evr] := by simp [*]) : view prt t.2 = view prt s := by subst h; exact view_absorb s f a2 hprt
@[simp] theorem view_doEvrFreeze (r : Role) (s : State) (hprt : prt ∉ [.regs, .epochs, .evr, .out] := by simp [*]) : view prt (doEvrFreeze r s) = view prt s := by simp at hprt; simp [doEvrFreeze, *]
@[simp] theorem view_doEvrUnfreeze (r : Role) (s : State) (hprt : prt ∉ [.regs, .epochs, .inc, .evr, .out] := by simp [*]) : view prt (doEvrUnfreeze r s) = view prt s := by simp at hprt; simp [doEvrUnfreeze, *]
@[simp] theorem view_evrAccept (s : State) (hprt : prt ∉ [.regs, .inc, .evr, .out] := by simp [*]) : view prt (evrAccept s) = view prt s := by simp at hprt; simp [evrAccept, *]
@[simp] theorem view_doEvrClear (r : Role) (s : State) (hprt : prt ∉ [.regs, .epochs, .inc, .evr, .out] := by simp [*]) : view prt (doEvrClear r s) = view prt s := by simp at hprt; simp [doEvrClear, *]
@[simp] theorem view_doClrDigest (r : Role) (k : Nat) (v : Word) (s : State) (hprt : prt ∉ [.regs, .evr, .out] := by simp [*]) : view prt (doClrDigest r k v s) = view prt s := by simp at hprt; simp [doClrDigest, *]

@[simp] theorem view_setCount (s : State) (c : Nat) (hprt : prt ∉ [.ttu] := by simp [*]) : view prt (setCount s c) = view prt s := by simp at hprt; simp [setCount, *]
@[simp] theorem view_doSetGo (r : Role) (s : State) (hprt : prt ∉ [.regs, .epochs, .inc, .evr, .ttu, .out] := by simp [*]) : view prt (doSetGo r s) = view prt s := by simp at hprt; simp [doSetGo, *]
@[simp] theorem view_discipline (s : State) (hprt : prt ∉ [.regs, .inc, .evr, .ttu] := by simp [*]) : view prt (discipline s) = view prt s := by simp at hprt; simp [discipline, *]
@[simp] theorem view_doNowDate (r : Role) (s : State) (hprt : prt ∉ [.ttu, .out] := by simp [*]) : view prt (doNowDate r s) = view prt s := by simp at hprt; simp [doNowDate, *]
@[simp] theorem view_ttuTick (s : State) (hprt : prt ∉ [.ttu] := by simp [*]) : view prt (ttuTick s) = view prt s := by simp at hprt; simp [ttuTick, *]

@[simp] theorem view_dspDone (s : State) (r : Role) (n : Nat) (st : Status) (hprt : prt ∉ [.regs, .epochs, .out] := by simp [*]) : view prt (dspDone s r n st) = view prt s := by simp at hprt; simp [dspDone, *]
@[simp] theorem view_doDspStart (r : Role) (n : Nat) (s : State) (hprt : prt ∉ [.regs, .epochs, .spans, .out] := by simp [*]) : view prt (doDspStart r n s) = view prt s := by simp at hprt; simp [doDspStart, *]
@[simp] theorem view_doDspStop (r : Role) (n : Nat) (s : State) (hprt : prt ∉ [.regs, .epochs, .spans, .out] := by simp [*]) : view prt (doDspStop r n s) = view prt s := by simp at hprt; (unfold doDspStop; (try simp only []); repeat' (first | (simp [*]; done) | split | (refine (view_foldl _ _ _ ?_).trans ?_) | (refine (view_foldl_fst _ _ _ ?_).trans ?_) | (refine (view_foldl_snd _ _ _ ?_).trans ?_) | (intro _ _) | (intro _) | (simp [*])))
@[simp] theorem view_doDspLoad (r : Role) (n : Nat) (s : State) (hprt : prt ∉ [.regs, .epochs, .out] := by simp [*]) : view prt (doDspLoad r n s) = view prt s := by simp at hprt; simp [doDspLoad, *]
@[simp] theorem view_setDsp (s : State) (n : Nat) (e : Nat) (d : Dsp) (hprt : prt ∉ [.spans] := by simp [*]) : view prt (setDsp s n e d) = view prt s := by simp at hprt; simp [setDsp, *]
@[simp] theorem view_dspEnd (s : State) (n : Nat) (e : Nat) (d : Dsp) (hprt : prt ∉ [.spans] := by simp [*]) : view prt (dspEnd s n e d) = view prt s := by simp at hprt; simp [dspEnd, *]
@[simp] theorem view_sendDsp (s : State) (n : Nat) (d : Dsp) (x : Option NiItem) (ep : Nat) (key : Bytes) (hprt : prt ∉ [.regs, .ttb, .spans, .out] := by simp [*]) : view prt (sendDsp s n d x ep key) = view prt s := by simp at hprt; (unfold sendDsp; (try simp only []); repeat' (first | (simp [*]; done) | split | (refine (view_foldl _ _ _ ?_).trans ?_) | (refine (view_foldl_fst _ _ _ ?_).trans ?_) | (refine (view_foldl_snd _ _ _ ?_).trans ?_) | (intro _ _) | (intro _) | (simp [*])))
@[simp] theorem view_dspJudge (s : State) (n : Nat) (d : Dsp) (x : Option NiItem) (b : Bool) (hprt : prt ∉ [.regs, .kvt, .ttb, .spans, .out] := by simp [*]) : view prt (dspJudge s n d x b).1 = view prt s := by simp at hprt; (unfold dspJudge; (try simp only []); repeat' (first | (simp [*]; done) | ((try have h_txKey := view_txKey_eq (prt := prt) ‹txKey _ _ _ = _›); simp [*]; done) | ((try have h_txKey := view_txKey_eq (prt := prt) ‹txKey _ _ _ = _›); simp [*]; done) | split | (refine (view_foldl _ _ _ ?_).trans ?_) | (refine (view_foldl_fst _ _ _ ?_).trans ?_) | (refine (view_foldl_snd _ _ _ ?_).trans ?_) | (intro _ _) | (intro _) | (have h_ := view_txKey_eq (prt := prt) ‹txKey _ _ _ = _›; refine Eq.trans h_ ?_; clear h_) | (simp [*])))
theorem view_dspJudge_eq {s : State} {n : Nat} {d : Dsp} {x : Option NiItem} {b : Bool} {t} (h : dspJudge s n d x b = t) (hprt : prt ∉ [.regs, .kvt, .ttb, .spans, .out] := by simp [*]) : view prt t.1 = view prt s := by subst h; exact view_dspJudge s n d x b hprt
@[simp] theorem view_dspLate (s : State) (n : Nat) (e : Nat) (k : Nat) (d : Dsp) (hprt : prt ∉ [.regs, .spans, .inc, .evr] := by simp [*]) : view prt (dspLate s n e k d) = view prt s := by simp at hprt; simp [dspLate, *]

theorem view_pmuEn (s : State) (en : Bool) (hprt : prt ∉ [.regs, .pmu] := by simp [*]) : ∀ t, pmuEn s en = some t → view prt t = view prt s := by simp at hprt; intro t h; unfold pmuEn at h; (try simp only [] at h); repeat' (first | (simp at h; done) | (simp at h; subst h; first | (simp [*]; done)) | split at h)
theorem view_pmuEn_eq {s : State} {en : Bool} {t : State} (h : pmuEn s en = some t) (hprt : prt ∉ [.regs, .pmu] := by simp [*]) : view prt t = view prt s := view_pmuEn s en hprt t h
@[simp] theorem view_pmuEn_getD (s : State) (en : Bool) (u_ : State) (hu_ : view prt u_ = view prt s) (hprt : prt ∉ [.regs, .pmu] := by simp [*]) : view prt ((pmuEn s en).getD u_) = view prt s := by
  cases h : pmuEn s en with
  | none => exact hu_
  | some t => exact view_pmuEn_eq h hprt
@[simp] theorem view_doPmuEn (r : Role) (v : Word) (s : State) (hprt : prt ∉ [.regs, .epochs, .pmu, .out] := by simp [*]) : view prt (doPmuEn r v s) = view prt s := by simp at hprt; (unfold doPmuEn; (try simp only []); repeat' (first | (simp [*]; done) | ( simp [*]; done) | ((try have h_pmuEn := view_pmuEn_eq (prt := prt) ‹pmuEn _ _ = some _›); simp [*]; done) | split | (refine (view_foldl _ _ _ ?_).trans ?_) | (refine (view_foldl_fst _ _ _ ?_).trans ?_) | (refine (view_foldl_snd _ _ _ ?_).trans ?_) | (intro _ _) | (intro _) | (have h_ := view_pmuEn_eq (prt := prt) ‹pmuEn _ _ = some _›; refine Eq.trans h_ ?_; clear h_) | (simp [*])))
@[simp] theorem view_engineRec (s : State) (n : Nat) (hprt : prt ∉ [.free] := by simp [*]) : view prt (engineRec s n).2 = view prt s := by
  simp at hprt
  have h : (engineRec s n).2 = (drawNat (drawNat (drawNat (drawNat (drawNat (drawNat s).2).2).2).2).2).2 := rfl
  rw [h]; simp only [view_drawNat, List.mem_cons, List.not_mem_nil, or_false, hprt, not_false_eq_true]
theorem view_engineRec_eq {s : State} {n : Nat} {t} (h : engineRec s n = t) (hprt : prt ∉ [.free] := by simp [*]) : view prt t.2 = view prt s := by subst h; exact view_engineRec s n hprt
@[simp] theorem view_setBytes (s : State) (hprt : prt ∉ [.free] := by simp [*]) : view prt (setBytes s).2 = view prt s := by
  simp at hprt
  have h : ∀ (l : List Nat) (p : Bytes × State), view prt (l.foldl (fun acc n => (acc.1 ++ (engineRec acc.2 n).1, (engineRec acc.2 n).2)) p).2 = view prt p.2 := fun l p =>
    view_foldl_snd _ _ _ (fun p x => view_engineRec p.2 x)
  unfold setBytes; dsimp only; rw [h]
theorem view_setBytes_eq {s : State} {t} (h : setBytes s = t) (hprt : prt ∉ [.free] := by simp [*]) : view prt t.2 = view prt s := by subst h; exact view_setBytes s hprt
@[simp] theorem view_presentSlot (s : State) (n : Nat) (i : Nat) (body : Bytes) (hprt : prt ∉ [.pmu, .out] := by simp [*]) : view prt (presentSlot s n i body) = view prt s := by simp at hprt; simp [presentSlot, *]
@[simp] theorem view_loseSet (s : State) (hprt : prt ∉ [.regs, .inc, .pmu] := by simp [*]) : view prt (loseSet s) = view prt s := by simp at hprt; simp [loseSet, *]
@[simp] theorem view_setDone (s : State) (n : Nat) (hprt : prt ∉ [.regs, .inc, .pmu] := by simp [*]) : view prt (setDone s n) = view prt s := by simp at hprt; simp [setDone, *]
@[simp] theorem view_doPmuLoad (r : Role) (v : Word) (rd : KtabRead) (s : State) (hprt : prt ∉ [.regs, .pmu, .out] := by simp [*]) : view prt (doPmuLoad r v rd s) = view prt s := by simp at hprt; (unfold doPmuLoad; (try simp only []); repeat' (first | (simp [*]; done) | ((try have h_serviceRead := view_serviceRead_eq (prt := prt) ‹serviceRead _ _ _ _ = _›); simp [*]; done) | ((try have h_serviceRead := view_serviceRead_eq (prt := prt) ‹serviceRead _ _ _ _ = _›); simp [*]; done) | split | (refine (view_foldl _ _ _ ?_).trans ?_) | (refine (view_foldl_fst _ _ _ ?_).trans ?_) | (refine (view_foldl_snd _ _ _ ?_).trans ?_) | (intro _ _) | (intro _) | (have h_ := view_serviceRead_eq (prt := prt) ‹serviceRead _ _ _ _ = _›; refine Eq.trans h_ ?_; clear h_) | (simp [*])))

@[simp] theorem view_mapReplay (s : State) (pg : Nat) (f : Replay → Replay) (hprt : prt ∉ [.wrc] := by simp [*]) : view prt (mapReplay s pg f) = view prt s := by simp at hprt; simp [mapReplay, *]
@[simp] theorem view_endReplay (s : State) (r : Replay) (hprt : prt ∉ [.regs, .wrc, .ctc, .engs] := by simp [*]) : view prt (endReplay s r) = view prt s := by simp at hprt; simp [endReplay, *]
@[simp] theorem view_noVerdict (s : State) (r : Replay) (hprt : prt ∉ [.regs, .wrc, .ctc, .engs, .evr] := by simp [*]) : view prt (noVerdict s r) = view prt s := by simp at hprt; simp [noVerdict, *]
@[simp] theorem view_nextSuspect (s : State) (r : Replay) (hprt : prt ∉ [.regs, .wrc, .ctc, .engs, .evr, .out] := by simp [*]) : view prt (nextSuspect s r) = view prt s := by simp at hprt; (unfold nextSuspect; (try simp only []); repeat' (first | (simp [*]; done) | split | (refine (view_foldl _ _ _ ?_).trans ?_) | (refine (view_foldl_fst _ _ _ ?_).trans ?_) | (refine (view_foldl_snd _ _ _ ?_).trans ?_) | (intro _ _) | (intro _) | (simp [*])))
@[simp] theorem view_startReplay (s : State) (r : Replay) (hprt : prt ∉ [.regs, .wrc, .ctc, .engs, .evr, .out] := by simp [*]) : view prt (startReplay s r) = view prt s := by simp at hprt; simp [startReplay, *]
@[simp] theorem view_guiltyL1 (s : State) (pg : Nat) (cause : Nat) (r : Replay) (x : Suspect) (hprt : prt ∉ [.regs, .exps, .epochs, .held, .wrc, .sbx, .ent, .kvt, .jct, .anchor, .ctc, .coh, .engs, .incarn, .ttb, .spans, .maps, .trs, .hgt, .cce, .imu, .inc, .evr, .pmu, .att, .out] := by simp [*]) : view prt (guiltyL1 s pg cause r x) = view prt s := by simp at hprt; simp [guiltyL1, *]
@[simp] theorem view_doSbxKick (r : Role) (v : Word) (s : State) (hprt : prt ∉ [.wrc, .out] := by simp [*]) : view prt (doSbxKick r v s) = view prt s := by simp at hprt; simp [doSbxKick, *]
@[simp] theorem view_levelOver (s : State) (r : Recov) (hprt : prt ∉ [.regs, .wrc, .inc, .evr] := by simp [*]) : view prt (levelOver s r) = view prt s := by simp at hprt; simp [levelOver, *]
@[simp] theorem view_settleUnits (s : State) (hprt : prt ∉ [.regs, .exps, .epochs, .held, .withdrawn, .cru, .wrc, .sbx, .ent, .lco, .kvt, .jct, .anchor, .ctc, .coh, .engs, .incarn, .ttb, .spans, .maps, .trs, .hgt, .cce, .imu, .inc, .evr, .pmu, .att, .free, .out] := by simp [*]) : view prt (settleUnits s) = view prt s := by simp at hprt; simp [settleUnits, *]
@[simp] theorem view_verdict (s : State) (r : Replay) (x : Suspect) (hprt : prt ∉ [.regs, .wrc, .ctc, .engs, .trs, .cce, .imu, .inc, .evr, .out] := by simp [*]) : view prt (verdict s r x) = view prt s := by simp at hprt; simp [verdict, *]
@[simp] theorem view_levelTooLong (s : State) (r : Recov) (hprt : prt ∉ [.regs, .exps, .epochs, .held, .withdrawn, .cru, .wrc, .sbx, .ent, .lco, .kvt, .jct, .anchor, .ctc, .coh, .engs, .incarn, .ttb, .spans, .maps, .trs, .hgt, .cce, .imu, .inc, .evr, .pmu, .att, .free, .out] := by simp [*]) : view prt (levelTooLong s r) = view prt s := by simp at hprt; simp [levelTooLong, *]
@[simp] theorem view_nextL3 (s : State) (hprt : prt ∉ [.regs, .epochs, .cru, .wrc, .evr] := by simp [*]) : view prt (nextL3 s) = view prt s := by simp at hprt; (unfold nextL3; (try simp only []); repeat' (first | (simp [*]; done) | split | (refine (view_foldl _ _ _ ?_).trans ?_) | (refine (view_foldl_fst _ _ _ ?_).trans ?_) | (refine (view_foldl_snd _ _ _ ?_).trans ?_) | (intro _ _) | (intro _) | (simp [*])))
@[simp] theorem view_trainOver (s : State) (p : Nat) (hprt : prt ∉ [.regs, .ports, .ctc, .engs, .ttb, .spans, .hgt, .inc, .evr, .out] := by simp [*]) : view prt (trainOver s p) = view prt s := by simp at hprt; simp [trainOver, *]
@[simp] theorem view_doResume (r : Role) (v : Word) (s : State) (hprt : prt ∉ [.regs, .epochs, .lco, .out] := by simp [*]) : view prt (doResume r v s) = view prt s := by simp at hprt; simp [doResume, *]
@[simp] theorem view_tamperStart (s : State) (bits : BitVec 6) (hprt : prt ∉ [.regs, .tmp, .wrc, .kvt, .anchor, .ctc, .engs, .ttb, .spans, .trs, .hgt, .cce, .inc, .evr, .att, .out] := by simp [*]) : view prt (tamperStart s bits) = view prt s := by simp at hprt; simp [tamperStart, *]

@[simp] theorem view_trsTake (s : State) (n : Nat) (f : Nat) (sq : Nat) (inst : Nat) (keyId : Nat) (p : Bytes) (arriving : Bool) (hprt : prt ∉ [.regs, .trs, .inc, .evr] := by simp [*]) : view prt (trsTake s n f sq inst keyId p arriving).1 = view prt s := by simp at hprt; (unfold trsTake; (try simp only []); repeat' (first | (simp [*]; done) | ((try have h_trsReserve := view_trsReserve_eq (prt := prt) ‹trsReserve _ _ _ _ _ = _›); simp [*]; done) | ((try have h_trsReserve := view_trsReserve_eq (prt := prt) ‹trsReserve _ _ _ _ _ = _›); simp [*]; done) | split | (refine (view_foldl _ _ _ ?_).trans ?_) | (refine (view_foldl_fst _ _ _ ?_).trans ?_) | (refine (view_foldl_snd _ _ _ ?_).trans ?_) | (intro _ _) | (intro _) | (have h_ := view_trsReserve_eq (prt := prt) ‹trsReserve _ _ _ _ _ = _›; refine Eq.trans h_ ?_; clear h_) | (simp [*])))
theorem view_trsTake_eq {s : State} {n : Nat} {f : Nat} {sq : Nat} {inst : Nat} {keyId : Nat} {p : Bytes} {arriving : Bool} {t} (h : trsTake s n f sq inst keyId p arriving = t) (hprt : prt ∉ [.regs, .trs, .inc, .evr] := by simp [*]) : view prt t.1 = view prt s := by subst h; exact view_trsTake s n f sq inst keyId p arriving hprt

@[simp] theorem view_pairRead (s : State) (r : Role) (off : Nat) (hprt : prt ∉ [.latch] := by simp [*]) : view prt (pairRead s r off).2 = view prt s := by simp at hprt; (unfold pairRead; (try simp only []); repeat' (first | (simp [*]; done) | split | (refine (view_foldl _ _ _ ?_).trans ?_) | (refine (view_foldl_fst _ _ _ ?_).trans ?_) | (refine (view_foldl_snd _ _ _ ?_).trans ?_) | (intro _ _) | (intro _) | (simp [*])))
theorem view_pairRead_eq {s : State} {r : Role} {off : Nat} {t} (h : pairRead s r off = t) (hprt : prt ∉ [.latch] := by simp [*]) : view prt t.2 = view prt s := by subst h; exact view_pairRead s r off hprt
@[simp] theorem view_doRead (r : Role) (off : Nat) (s : State) (hprt : prt ∉ [.regs, .latch, .ent, .ttu, .free, .out] := by simp [*]) : view prt (doRead r off s) = view prt s := by simp at hprt; simp [doRead, *]
@[simp] theorem view_regRead (s : State) (r : Role) (off : Nat) (len : Nat) (hprt : prt ∉ [.regs, .latch, .denied, .ent, .inc, .evr, .ttu, .free, .out] := by simp [*]) : view prt (regRead s r off len) = view prt s := by simp at hprt; simp [regRead, *]
@[simp] theorem view_htBreach (s : State) (r : Role) (breach : Bool) (hprt : prt ∉ [.regs, .exps, .epochs, .held, .withdrawn, .cru, .wrc, .sbx, .ent, .lco, .kvt, .jct, .anchor, .ctc, .coh, .engs, .incarn, .ttb, .spans, .maps, .trs, .hgt, .cce, .imu, .inc, .evr, .pmu, .att, .out] := by simp [*]) : view prt (htBreach s r breach) = view prt s := by simp at hprt; simp [htBreach, *]
@[simp] theorem view_chPut (s : State) (ch : Nat) (o : Nat) (w : Word) (hprt : prt ∉ [.hgt] := by simp [*]) : view prt (chPut s ch o w) = view prt s := by simp at hprt; simp [chPut, *]
@[simp] theorem view_storePairWord (s : State) (r : Role) (off : Nat) (v : Word) (hprt : prt ∉ [.regs, .hgt] := by simp [*]) : view prt (storePairWord s r off v) = view prt s := by simp at hprt; simp [storePairWord, *]
@[simp] theorem view_wroteDone (r : Role) (off : Nat) (s : State) (hprt : prt ∉ [.epochs, .out] := by simp [*]) : view prt (wroteDone r off s) = view prt s := by simp at hprt; simp [wroteDone, *]
@[simp] theorem view_doStore (r : Role) (off : Nat) (v : Word) (s : State) (hprt : prt ∉ [.regs, .epochs, .out] := by simp [*]) : view prt (doStore r off v s) = view prt s := by simp at hprt; simp [doStore, *]
@[simp] theorem view_doPair (r : Role) (off : Nat) (low : Nat) (v : Word) (s : State) (hprt : prt ∉ [.regs, .hold, .epochs, .hgt, .out] := by simp [*]) : view prt (doPair r off low v s) = view prt s := by simp at hprt; (unfold doPair; (try simp only []); repeat' (first | (simp [*]; done) | split | (refine (view_foldl _ _ _ ?_).trans ?_) | (refine (view_foldl_fst _ _ _ ?_).trans ?_) | (refine (view_foldl_snd _ _ _ ?_).trans ?_) | (intro _ _) | (intro _) | (simp [*])))
@[simp] theorem view_doHeader (r : Role) (off : Nat) (v : Word) (s : State) (hprt : prt ∉ [.regs, .exps, .epochs, .held, .withdrawn, .cru, .wrc, .sbx, .ent, .lco, .kvt, .jct, .anchor, .ctc, .coh, .engs, .incarn, .ttb, .spans, .maps, .trs, .hgt, .cce, .imu, .inc, .evr, .ttu, .pmu, .att, .free, .out] := by simp [*]) : view prt (doHeader r off v s) = view prt s := by simp at hprt; simp [doHeader, *]
@[simp] theorem view_writeKvtCmd (r : Role) (v : Word) (kt : KtabRead) (wst : Status) (s : State) (hprt : prt ∉ [.regs, .epochs, .denied, .ent, .lco, .kvt, .dom, .anchor, .ctc, .engs, .ttb, .spans, .trs, .hgt, .cce, .inc, .evr, .free, .out] := by simp [*]) : view prt (writeKvtCmd r v kt wst s) = view prt s := by
  simp at hprt
  have hi : ∀ (c : Prop) [Decidable c] (a b : Nat × (KCmd → State → State)), (∀ c t, view prt (a.2 c t) = view prt t) → (∀ c t, view prt (b.2 c t) = view prt t) → ∀ d t, view prt ((if c then a else b).2 d t) = view prt t := by
    intro c _ a b ha hb; split <;> assumption
  have h : ∀ c t, view prt ((kvtOp (getBits v 7 0) kt wst).2 c t) = view prt t := by
    unfold kvtOp
    repeat' (first | (intro c t; simp [*]; done) | (refine hi _ _ _ ?_ ?_))
  exact view_kvtCmd _ _ _ _ _ _ _ h
@[simp] theorem view_doStaged (r : Role) (off : Nat) (v : Word) (s : State) (hprt : prt ∉ [.jct, .out] := by simp [*]) : view prt (doStaged r off v s) = view prt s := by simp at hprt; simp [doStaged, *]
@[simp] theorem view_doSpanReg (r : Role) (off : Nat) (v : Word) (s : State) (hprt : prt ∉ [.regs, .epochs, .ttb, .spans, .maps, .out] := by simp [*]) : view prt (doSpanReg r off v s) = view prt s := by simp at hprt; (unfold doSpanReg; (try simp only []); repeat' (first | (simp [*]; done) | split | (refine (view_foldl _ _ _ ?_).trans ?_) | (refine (view_foldl_fst _ _ _ ?_).trans ?_) | (refine (view_foldl_snd _ _ _ ?_).trans ?_) | (intro _ _) | (intro _) | (simp [*])))
@[simp] theorem view_doEqCtrl (r : Role) (v : Word) (s : State) (hprt : prt ∉ [.regs, .hgt, .out] := by simp [*]) : view prt (doEqCtrl r v s) = view prt s := by simp at hprt; simp [doEqCtrl, *]
@[simp] theorem view_doHgtReg (r : Role) (off : Nat) (v : Word) (s : State) (hprt : prt ∉ [.regs, .epochs, .hgt, .out] := by simp [*]) : view prt (doHgtReg r off v s) = view prt s := by simp at hprt; (unfold doHgtReg; (try simp only []); repeat' (first | (simp [*]; done) | split | (refine (view_foldl _ _ _ ?_).trans ?_) | (refine (view_foldl_fst _ _ _ ?_).trans ?_) | (refine (view_foldl_snd _ _ _ ?_).trans ?_) | (intro _ _) | (intro _) | (simp [*])))
@[simp] theorem view_doCceReg (r : Role) (off : Nat) (v : Word) (s : State) (hprt : prt ∉ [.regs, .exps, .epochs, .held, .withdrawn, .cru, .wrc, .sbx, .ent, .lco, .kvt, .jct, .anchor, .ctc, .coh, .engs, .incarn, .ttb, .spans, .maps, .trs, .hgt, .cce, .imu, .inc, .evr, .pmu, .att, .free, .out] := by simp [*]) : view prt (doCceReg r off v s) = view prt s := by simp at hprt; (unfold doCceReg; (try simp only []); repeat' (first | (simp [*]; done) | split | (refine (view_foldl _ _ _ ?_).trans ?_) | (refine (view_foldl_fst _ _ _ ?_).trans ?_) | (refine (view_foldl_snd _ _ _ ?_).trans ?_) | (intro _ _) | (intro _) | (simp [*])))
@[simp] theorem view_doEvrReg (r : Role) (off : Nat) (v : Word) (kt : KtabRead) (s : State) (hprt : prt ∉ [.regs, .epochs, .inc, .evr, .out] := by simp [*]) : view prt (doEvrReg r off v kt s) = view prt s := by simp at hprt; (unfold doEvrReg; (try simp only []); repeat' (first | (simp [*]; done) | split | (refine (view_foldl _ _ _ ?_).trans ?_) | (refine (view_foldl_fst _ _ _ ?_).trans ?_) | (refine (view_foldl_snd _ _ _ ?_).trans ?_) | (intro _ _) | (intro _) | (simp [*])))
@[simp] theorem view_doCruReg (r : Role) (off : Nat) (v : Word) (s : State) (hprt : prt ∉ [.regs, .epochs, .cru, .spans, .inc, .evr, .pmu, .out] := by simp [*]) : view prt (doCruReg r off v s) = view prt s := by simp at hprt; simp [doCruReg, *]
@[simp] theorem view_doInstReg (r : Role) (off : Nat) (v : Word) (kt : KtabRead) (s : State) (hprt : prt ∉ [.regs, .exps, .epochs, .held, .withdrawn, .cru, .wrc, .sbx, .ent, .lco, .kvt, .jct, .anchor, .ctc, .coh, .engs, .incarn, .ttb, .spans, .maps, .trs, .hgt, .cce, .imu, .inc, .evr, .pmu, .att, .free, .out] := by simp [*]) : view prt (doInstReg r off v kt s) = view prt s := by simp at hprt; (unfold doInstReg; (try simp only []); repeat' (first | (simp [*]; done) | split | (refine (view_foldl _ _ _ ?_).trans ?_) | (refine (view_foldl_fst _ _ _ ?_).trans ?_) | (refine (view_foldl_snd _ _ _ ?_).trans ?_) | (intro _ _) | (intro _) | (simp [*])))
@[simp] theorem view_doUnitReg (r : Role) (off : Nat) (v : Word) (kt : KtabRead) (s : State) (hprt : prt ∉ [.regs, .exps, .epochs, .held, .withdrawn, .cru, .wrc, .sbx, .ent, .lco, .kvt, .jct, .anchor, .ctc, .coh, .engs, .incarn, .ttb, .spans, .maps, .trs, .hgt, .cce, .imu, .inc, .evr, .ttu, .pmu, .att, .free, .out] := by simp [*]) : view prt (doUnitReg r off v kt s) = view prt s := by simp at hprt; simp [doUnitReg, *]
@[simp] theorem view_doWrite (r : Role) (off : Nat) (v : Word) (kt : KtabRead) (s : State) (hprt : prt ∉ [.regs, .hold, .exps, .epochs, .held, .withdrawn, .cru, .wrc, .sbx, .ent, .lco, .kvt, .jct, .anchor, .ctc, .coh, .engs, .incarn, .ttb, .spans, .maps, .trs, .hgt, .cce, .imu, .inc, .evr, .ttu, .pmu, .att, .free, .out] := by simp [*]) : view prt (doWrite r off v kt s) = view prt s := by simp at hprt; (unfold doWrite; (try simp only []); repeat' (first | (simp [*]; done) | split | (refine (view_foldl _ _ _ ?_).trans ?_) | (refine (view_foldl_fst _ _ _ ?_).trans ?_) | (refine (view_foldl_snd _ _ _ ?_).trans ?_) | (intro _ _) | (intro _) | (simp [*])))
@[simp] theorem view_writeWord (s : State) (r : Role) (off : Nat) (v : Word) (kt : KtabRead) (wst : Status) (hprt : prt ∉ [.regs, .hold, .exps, .epochs, .held, .withdrawn, .denied, .cru, .wrc, .sbx, .ent, .lco, .kvt, .dom, .jct, .anchor, .ctc, .coh, .engs, .incarn, .ttb, .spans, .maps, .trs, .hgt, .cce, .imu, .inc, .evr, .ttu, .pmu, .att, .free, .out] := by simp [*]) : view prt (writeWord s r off v kt wst) = view prt s := by simp at hprt; simp [writeWord, *]
@[simp] theorem view_regWrite (s : State) (r : Role) (off : Nat) (len : Nat) (v : Word) (kt : KtabRead) (wst : Status) (hprt : prt ∉ [.regs, .hold, .exps, .epochs, .held, .withdrawn, .denied, .cru, .wrc, .sbx, .ent, .lco, .kvt, .dom, .jct, .anchor, .ctc, .coh, .engs, .incarn, .ttb, .spans, .maps, .trs, .hgt, .cce, .imu, .inc, .evr, .ttu, .pmu, .att, .free, .out] := by simp [*]) : view prt (regWrite s r off len v kt wst) = view prt s := by simp at hprt; simp [regWrite, *]

@[simp] theorem view_eqFullTick (s : State) (hprt : prt ∉ [.regs] := by simp [*]) : view prt (eqFullTick s) = view prt s := by simp at hprt; simp [eqFullTick, *]
@[simp] theorem view_tick (s : State) (hprt : prt ∉ [.regs, .epochs, .kvt, .anchor, .ctc, .engs, .ttb, .spans, .trs, .hgt, .cce, .imu, .inc, .evr, .ttu, .free, .out] := by simp [*]) : view prt (tick s) = view prt s := by simp at hprt; simp [tick, *]

end Sys2Proof.Machine
end

