-- ==== Sys2Proof/Laws/Puf.lean ====
section
/-!
SUPPORT. Laws of the fuzzy extractor: a codeword decodes to itself, what a helper area must hold for an attempt to give its message, and when it gives none.
-/
namespace Sys2Proof.Machine

theorem bchMul_zero (b : Nat) : bchMul 0 b = 0 := by simp [bchMul, gfDbl]; decide

theorem polyEval_zeros (n x : Nat) : polyEval (List.replicate n 0) x = 0 := by
  induction n with
  | zero => rfl
  | succ n ih => simp only [polyEval, List.replicate_succ, List.foldr_cons] at *; rw [ih, bchMul_zero]; rfl

theorem bchSyndrome_zeros (n i : Nat) : bchSyndrome (List.replicate n false) i = 0 := by
  unfold bchSyndrome; rw [List.map_replicate]; exact polyEval_zeros n _

set_option maxRecDepth 10000 in
theorem bmStep_zeros : (List.range 36).foldl (bmStep (List.replicate 36 0)) ⟨[1], [1], 0, 1, 1⟩ = ⟨[1], [1], 0, 37, 1⟩ := by decide

/-- A word whose syndromes are all zero decodes to itself. -/
theorem bchDecode_codeword (w : List Bool) (hl : w.length = 255) (hs : ∀ i, bchSyndrome w i = 0) : bchDecode w = some w := by
  have h1 : (List.range 36).map (fun i => bchSyndrome w (i + 1)) = List.replicate 36 0 := by simp only [hs]; rfl
  have h2 : (List.range 255).filter (fun i => decide (polyEval [1] (gfAlpha (255 - i)) = 0)) = [] := by
    rw [List.filter_eq_nil_iff]; intro i _; simp [polyEval, bchMul_zero]
  have h3 : (List.range 255).map (fun i => xor (w.getD i false) (([] : List Nat).contains i)) = w := by
    apply List.ext_getElem (by simp [hl])
    intro i hi _
    have : i < w.length := by simpa [hl] using hi
    simp [List.getD_eq_getElem?_getD, List.getElem?_eq_getElem this]
  have h4 : (List.range 36).all (fun i => decide (bchSyndrome w (i + 1) = 0)) = true := by simp [hs]
  unfold bchDecode
  rw [h1]
  dsimp only []
  rw [bmStep_zeros]
  dsimp only []
  rw [h2, h3, h4]
  rfl

theorem helperWords_getD (s : State) (k : Nat) (h : k < 2053) : (helperWords s).getD k 0 = otpWord s (0x100 + k) := by
  unfold helperWords; rw [List.getD_eq_getElem?_getD, List.getElem?_map, List.getElem?_range h]; rfl

/-- Four decoded codewords, the header and the check value of their message give that message. -/
theorem pufMessage_of (array helper : List Word) (a b c d : List Bool)
    (h : (List.range 4).map (fun j => bchDecode (groupWord array helper j)) = [some a, some b, some c, some d])
    (hh : helper.getD 0 0 = helperHeader)
    (hc : (helper.drop 2041).take 12 = (List.range 12).map (wordAt (kPufCheck (pufPack (a.drop 124 ++ b.drop 124 ++ c.drop 124 ++ d.drop 124))))) :
    pufMessage array helper = some (pufPack (a.drop 124 ++ b.drop 124 ++ c.drop 124 ++ d.drop 124)) := by
  unfold pufMessage; rw [h]; exact if_pos ⟨hh, hc⟩

/-- Without the header of Table 08.1 no attempt gives a message. -/
theorem pufMessage_none (array helper : List Word) (h : helper.getD 0 0 ≠ helperHeader) : pufMessage array helper = none := by
  unfold pufMessage; split
  · exact if_neg (fun x => h x.1)
  · rfl

end Sys2Proof.Machine
end

