-- ==== Sys2Proof/Laws/Tbl.lean ====
section
/-!
SUPPORT. The laws of tables: what a read answers after a write, and that every table operation keeps the canonical form.
-/
namespace Sys2Proof.Machine

variable {α : Type}

@[simp] theorem tblFind_nil (a : Nat) : tblFind ([] : Tbl α) a = none := rfl

theorem tblFind_put_same (t : Tbl α) (a : Nat) (x : α) : tblFind (tblPut t a x) a = some x := by
  induction t with
  | nil => simp [tblPut, tblFind]
  | cons e t ih =>
    simp only [tblPut]
    split
    · simp [tblFind]
    · split
      · rename_i h; subst h; simp [tblFind]
      · rename_i h; simp [tblFind, h, ih]

theorem tblFind_put_ne (t : Tbl α) {a b : Nat} (x : α) (h : b ≠ a) : tblFind (tblPut t a x) b = tblFind t b := by
  induction t with
  | nil => simp [tblPut, tblFind, h]
  | cons e t ih =>
    simp only [tblPut]
    split
    · simp [tblFind, h]
    · split
      · rename_i h1; subst h1; simp [tblFind, h]
      · simp [tblFind, ih]

theorem tblFind_del_same (t : Tbl α) (a : Nat) : tblFind (tblDel t a) a = none := by
  induction t with
  | nil => rfl
  | cons e t ih =>
    by_cases h : e.1 = a
    · simpa [tblDel, h] using ih
    · have : tblDel (e :: t) a = e :: tblDel t a := by simp [tblDel, h]
      rw [this]; simp [tblFind, Ne.symm h, ih]

theorem tblFind_del_ne (t : Tbl α) {a b : Nat} (h : b ≠ a) : tblFind (tblDel t a) b = tblFind t b := by
  induction t with
  | nil => rfl
  | cons e t ih =>
    by_cases h1 : e.1 = a
    · have h2 : b ≠ e.1 := by rw [h1]; exact h
      have : tblDel (e :: t) a = tblDel t a := by simp [tblDel, h1]
      rw [this, ih]; simp [tblFind, h2]
    · have : tblDel (e :: t) a = e :: tblDel t a := by simp [tblDel, h1]
      rw [this]; simp [tblFind, ih]

theorem tblGet_set_same [DecidableEq α] (d : α) (t : Tbl α) (a : Nat) (x : α) : tblGet d (tblSet d t a x) a = x := by
  unfold tblGet tblSet
  split
  · rename_i h; simp [tblFind_del_same, h]
  · simp [tblFind_put_same]

theorem tblGet_set_ne [DecidableEq α] (d c : α) (t : Tbl α) {a b : Nat} (x : α) (h : b ≠ a) :
    tblGet c (tblSet d t a x) b = tblGet c t b := by
  unfold tblGet tblSet
  split
  · simp [tblFind_del_ne t h]
  · simp [tblFind_put_ne t x h]

theorem tblFind_set_same [DecidableEq α] (d : α) (t : Tbl α) (a : Nat) (x : α) : (tblFind (tblSet d t a x) a).getD d = x :=
  tblGet_set_same d t a x

theorem tblFind_set_ne [DecidableEq α] (d : α) (t : Tbl α) {a b : Nat} (x : α) (h : b ≠ a) :
    tblFind (tblSet d t a x) b = tblFind t b := by
  unfold tblSet
  split
  · exact tblFind_del_ne t h
  · exact tblFind_put_ne t x h

/-! ### The canonical form -/

/-- Every key of a table lies above a bound. -/
def tblAbove (n : Nat) (t : Tbl α) : Prop := ∀ e ∈ t, n < e.1

theorem tblSorted_cons (e : Nat × α) (t : Tbl α) : tblSorted (e :: t) = true ↔ tblAbove e.1 t ∧ tblSorted t = true := by
  induction t generalizing e with
  | nil => simp [tblSorted, tblAbove]
  | cons f t ih =>
    simp only [tblSorted, Bool.and_eq_true, decide_eq_true_eq, tblAbove, List.mem_cons, forall_eq_or_imp]
    constructor
    · rintro ⟨h, hs⟩
      have := (ih f).1 hs
      exact ⟨⟨h, fun x hx => Nat.lt_trans h (this.1 x hx)⟩, hs⟩
    · rintro ⟨⟨h, _⟩, hs⟩
      exact ⟨h, hs⟩

theorem tblSorted_filter (p : Nat × α → Bool) (t : Tbl α) (h : tblSorted t = true) : tblSorted (t.filter p) = true := by
  induction t with
  | nil => rfl
  | cons e t ih =>
    obtain ⟨ha, hs⟩ := (tblSorted_cons e t).1 h
    simp only [List.filter_cons]
    split
    · exact (tblSorted_cons _ _).2 ⟨fun x hx => ha x ((List.mem_filter.1 hx).1), ih hs⟩
    · exact ih hs

theorem mem_tblPut {t : Tbl α} {a : Nat} {x : α} {e : Nat × α} (h : e ∈ tblPut t a x) : e = (a, x) ∨ e ∈ t := by
  induction t with
  | nil => simpa [tblPut] using h
  | cons f t ih =>
    simp only [tblPut] at h
    split at h
    · simpa using h
    · split at h
      · rename_i hk
        rcases List.mem_cons.1 h with h | h
        · left; rw [h, hk]
        · right; exact List.mem_cons_of_mem _ h
      · rcases List.mem_cons.1 h with h | h
        · right; rw [h]; exact List.mem_cons_self
        · rcases ih h with h | h
          · left; exact h
          · right; exact List.mem_cons_of_mem _ h

theorem tblSorted_put (t : Tbl α) (a : Nat) (x : α) (h : tblSorted t = true) : tblSorted (tblPut t a x) = true := by
  induction t with
  | nil => rfl
  | cons e t ih =>
    obtain ⟨ha, hs⟩ := (tblSorted_cons e t).1 h
    simp only [tblPut]
    split
    · rename_i hk
      refine (tblSorted_cons _ _).2 ⟨?_, h⟩
      intro y hy
      rcases List.mem_cons.1 hy with hy | hy
      · rw [hy]; exact hk
      · exact Nat.lt_trans hk (ha y hy)
    · split
      · rename_i hk
        exact (tblSorted_cons _ _).2 ⟨ha, hs⟩
      · rename_i h1 h2
        refine (tblSorted_cons _ _).2 ⟨?_, ih hs⟩
        intro y hy
        rcases mem_tblPut hy with hy | hy
        · rw [hy]; simp only; omega
        · exact ha y hy

theorem tblWf_filter [DecidableEq α] (d : Nat → α) (p : Nat × α → Bool) (t : Tbl α) (h : tblWf d t = true) : tblWf d (t.filter p) = true := by
  unfold tblWf at *
  rw [Bool.and_eq_true] at *
  refine ⟨tblSorted_filter p t h.1, ?_⟩
  rw [List.all_eq_true] at *
  exact fun x hx => h.2 x ((List.mem_filter.1 hx).1)

theorem tblWf_set [DecidableEq α] (d : Nat → α) (t : Tbl α) (a : Nat) (x : α) (h : tblWf d t = true) :
    tblWf d (tblSet (d a) t a x) = true := by
  unfold tblSet
  split
  · exact tblWf_filter d _ t h
  · rename_i hx
    unfold tblWf at *
    rw [Bool.and_eq_true] at *
    refine ⟨tblSorted_put t a x h.1, ?_⟩
    rw [List.all_eq_true] at *
    intro e he
    rcases mem_tblPut he with he | he
    · rw [he]; simpa using hx
    · exact h.2 e he

end Sys2Proof.Machine
end

