-- ==== Sys2Proof/Laws/State.lean ====
section
/-!
SUPPORT. What the plain updates of the state leave alone, field by field, and what a register reads after a write.
-/
namespace Sys2Proof.Machine

variable (s : State)

/-! ### setReg -/

@[simp] theorem setReg_latch (a : Nat) (v : Word) : (setReg s a v).latch = s.latch := rfl
@[simp] theorem setReg_hold (a : Nat) (v : Word) : (setReg s a v).hold = s.hold := rfl
@[simp] theorem setReg_exps (a : Nat) (v : Word) : (setReg s a v).exps = s.exps := rfl
@[simp] theorem setReg_epochAll (a : Nat) (v : Word) : (setReg s a v).epochAll = s.epochAll := rfl
@[simp] theorem setReg_epochs (a : Nat) (v : Word) : (setReg s a v).epochs = s.epochs := rfl
@[simp] theorem setReg_held (a : Nat) (v : Word) : (setReg s a v).held = s.held := rfl
@[simp] theorem setReg_withdrawn (a : Nat) (v : Word) : (setReg s a v).withdrawn = s.withdrawn := rfl
@[simp] theorem setReg_denied (a : Nat) (v : Word) : (setReg s a v).denied = s.denied := rfl
@[simp] theorem setReg_cru (a : Nat) (v : Word) : (setReg s a v).cru = s.cru := rfl
@[simp] theorem setReg_ports (a : Nat) (v : Word) : (setReg s a v).ports = s.ports := rfl
@[simp] theorem setReg_tmp (a : Nat) (v : Word) : (setReg s a v).tmp = s.tmp := rfl
@[simp] theorem setReg_wrc (a : Nat) (v : Word) : (setReg s a v).wrc = s.wrc := rfl
@[simp] theorem setReg_sbx (a : Nat) (v : Word) : (setReg s a v).sbx = s.sbx := rfl
@[simp] theorem setReg_ent (a : Nat) (v : Word) : (setReg s a v).ent = s.ent := rfl
@[simp] theorem setReg_lco (a : Nat) (v : Word) : (setReg s a v).lco = s.lco := rfl
@[simp] theorem setReg_kvt (a : Nat) (v : Word) : (setReg s a v).kvt = s.kvt := rfl
@[simp] theorem setReg_dom (a : Nat) (v : Word) : (setReg s a v).dom = s.dom := rfl
@[simp] theorem setReg_jct (a : Nat) (v : Word) : (setReg s a v).jct = s.jct := rfl
@[simp] theorem setReg_anchor (a : Nat) (v : Word) : (setReg s a v).anchor = s.anchor := rfl
@[simp] theorem setReg_ctc (a : Nat) (v : Word) : (setReg s a v).ctc = s.ctc := rfl
@[simp] theorem setReg_coh (a : Nat) (v : Word) : (setReg s a v).coh = s.coh := rfl
@[simp] theorem setReg_engs (a : Nat) (v : Word) : (setReg s a v).engs = s.engs := rfl
@[simp] theorem setReg_incarn (a : Nat) (v : Word) : (setReg s a v).incarn = s.incarn := rfl
@[simp] theorem setReg_ttb (a : Nat) (v : Word) : (setReg s a v).ttb = s.ttb := rfl
@[simp] theorem setReg_spans (a : Nat) (v : Word) : (setReg s a v).spans = s.spans := rfl
@[simp] theorem setReg_maps (a : Nat) (v : Word) : (setReg s a v).maps = s.maps := rfl
@[simp] theorem setReg_trs (a : Nat) (v : Word) : (setReg s a v).trs = s.trs := rfl
@[simp] theorem setReg_hgt (a : Nat) (v : Word) : (setReg s a v).hgt = s.hgt := rfl
@[simp] theorem setReg_cce (a : Nat) (v : Word) : (setReg s a v).cce = s.cce := rfl
@[simp] theorem setReg_imu (a : Nat) (v : Word) : (setReg s a v).imu = s.imu := rfl
@[simp] theorem setReg_inc (a : Nat) (v : Word) : (setReg s a v).inc = s.inc := rfl
@[simp] theorem setReg_evr (a : Nat) (v : Word) : (setReg s a v).evr = s.evr := rfl
@[simp] theorem setReg_ttu (a : Nat) (v : Word) : (setReg s a v).ttu = s.ttu := rfl
@[simp] theorem setReg_pmu (a : Nat) (v : Word) : (setReg s a v).pmu = s.pmu := rfl
@[simp] theorem setReg_att (a : Nat) (v : Word) : (setReg s a v).att = s.att := rfl
@[simp] theorem setReg_free (a : Nat) (v : Word) : (setReg s a v).free = s.free := rfl
@[simp] theorem setReg_out (a : Nat) (v : Word) : (setReg s a v).out = s.out := rfl
@[simp] theorem setReg_pending (a : Nat) (v : Word) : (setReg s a v).pending = s.pending := rfl

/-! ### setFld -/

@[simp] theorem setFld_latch (a hi lo v : Nat) : (setFld s a hi lo v).latch = s.latch := rfl
@[simp] theorem setFld_hold (a hi lo v : Nat) : (setFld s a hi lo v).hold = s.hold := rfl
@[simp] theorem setFld_exps (a hi lo v : Nat) : (setFld s a hi lo v).exps = s.exps := rfl
@[simp] theorem setFld_epochAll (a hi lo v : Nat) : (setFld s a hi lo v).epochAll = s.epochAll := rfl
@[simp] theorem setFld_epochs (a hi lo v : Nat) : (setFld s a hi lo v).epochs = s.epochs := rfl
@[simp] theorem setFld_held (a hi lo v : Nat) : (setFld s a hi lo v).held = s.held := rfl
@[simp] theorem setFld_withdrawn (a hi lo v : Nat) : (setFld s a hi lo v).withdrawn = s.withdrawn := rfl
@[simp] theorem setFld_denied (a hi lo v : Nat) : (setFld s a hi lo v).denied = s.denied := rfl
@[simp] theorem setFld_cru (a hi lo v : Nat) : (setFld s a hi lo v).cru = s.cru := rfl
@[simp] theorem setFld_ports (a hi lo v : Nat) : (setFld s a hi lo v).ports = s.ports := rfl
@[simp] theorem setFld_tmp (a hi lo v : Nat) : (setFld s a hi lo v).tmp = s.tmp := rfl
@[simp] theorem setFld_wrc (a hi lo v : Nat) : (setFld s a hi lo v).wrc = s.wrc := rfl
@[simp] theorem setFld_sbx (a hi lo v : Nat) : (setFld s a hi lo v).sbx = s.sbx := rfl
@[simp] theorem setFld_ent (a hi lo v : Nat) : (setFld s a hi lo v).ent = s.ent := rfl
@[simp] theorem setFld_lco (a hi lo v : Nat) : (setFld s a hi lo v).lco = s.lco := rfl
@[simp] theorem setFld_kvt (a hi lo v : Nat) : (setFld s a hi lo v).kvt = s.kvt := rfl
@[simp] theorem setFld_dom (a hi lo v : Nat) : (setFld s a hi lo v).dom = s.dom := rfl
@[simp] theorem setFld_jct (a hi lo v : Nat) : (setFld s a hi lo v).jct = s.jct := rfl
@[simp] theorem setFld_anchor (a hi lo v : Nat) : (setFld s a hi lo v).anchor = s.anchor := rfl
@[simp] theorem setFld_ctc (a hi lo v : Nat) : (setFld s a hi lo v).ctc = s.ctc := rfl
@[simp] theorem setFld_coh (a hi lo v : Nat) : (setFld s a hi lo v).coh = s.coh := rfl
@[simp] theorem setFld_engs (a hi lo v : Nat) : (setFld s a hi lo v).engs = s.engs := rfl
@[simp] theorem setFld_incarn (a hi lo v : Nat) : (setFld s a hi lo v).incarn = s.incarn := rfl
@[simp] theorem setFld_ttb (a hi lo v : Nat) : (setFld s a hi lo v).ttb = s.ttb := rfl
@[simp] theorem setFld_spans (a hi lo v : Nat) : (setFld s a hi lo v).spans = s.spans := rfl
@[simp] theorem setFld_maps (a hi lo v : Nat) : (setFld s a hi lo v).maps = s.maps := rfl
@[simp] theorem setFld_trs (a hi lo v : Nat) : (setFld s a hi lo v).trs = s.trs := rfl
@[simp] theorem setFld_hgt (a hi lo v : Nat) : (setFld s a hi lo v).hgt = s.hgt := rfl
@[simp] theorem setFld_cce (a hi lo v : Nat) : (setFld s a hi lo v).cce = s.cce := rfl
@[simp] theorem setFld_imu (a hi lo v : Nat) : (setFld s a hi lo v).imu = s.imu := rfl
@[simp] theorem setFld_inc (a hi lo v : Nat) : (setFld s a hi lo v).inc = s.inc := rfl
@[simp] theorem setFld_evr (a hi lo v : Nat) : (setFld s a hi lo v).evr = s.evr := rfl
@[simp] theorem setFld_ttu (a hi lo v : Nat) : (setFld s a hi lo v).ttu = s.ttu := rfl
@[simp] theorem setFld_pmu (a hi lo v : Nat) : (setFld s a hi lo v).pmu = s.pmu := rfl
@[simp] theorem setFld_att (a hi lo v : Nat) : (setFld s a hi lo v).att = s.att := rfl
@[simp] theorem setFld_free (a hi lo v : Nat) : (setFld s a hi lo v).free = s.free := rfl
@[simp] theorem setFld_out (a hi lo v : Nat) : (setFld s a hi lo v).out = s.out := rfl
@[simp] theorem setFld_pending (a hi lo v : Nat) : (setFld s a hi lo v).pending = s.pending := rfl

/-! ### setRegBit -/

@[simp] theorem setRegBit_latch (a n : Nat) (b : Bool) : (setRegBit s a n b).latch = s.latch := rfl
@[simp] theorem setRegBit_hold (a n : Nat) (b : Bool) : (setRegBit s a n b).hold = s.hold := rfl
@[simp] theorem setRegBit_exps (a n : Nat) (b : Bool) : (setRegBit s a n b).exps = s.exps := rfl
@[simp] theorem setRegBit_epochAll (a n : Nat) (b : Bool) : (setRegBit s a n b).epochAll = s.epochAll := rfl
@[simp] theorem setRegBit_epochs (a n : Nat) (b : Bool) : (setRegBit s a n b).epochs = s.epochs := rfl
@[simp] theorem setRegBit_held (a n : Nat) (b : Bool) : (setRegBit s a n b).held = s.held := rfl
@[simp] theorem setRegBit_withdrawn (a n : Nat) (b : Bool) : (setRegBit s a n b).withdrawn = s.withdrawn := rfl
@[simp] theorem setRegBit_denied (a n : Nat) (b : Bool) : (setRegBit s a n b).denied = s.denied := rfl
@[simp] theorem setRegBit_cru (a n : Nat) (b : Bool) : (setRegBit s a n b).cru = s.cru := rfl
@[simp] theorem setRegBit_ports (a n : Nat) (b : Bool) : (setRegBit s a n b).ports = s.ports := rfl
@[simp] theorem setRegBit_tmp (a n : Nat) (b : Bool) : (setRegBit s a n b).tmp = s.tmp := rfl
@[simp] theorem setRegBit_wrc (a n : Nat) (b : Bool) : (setRegBit s a n b).wrc = s.wrc := rfl
@[simp] theorem setRegBit_sbx (a n : Nat) (b : Bool) : (setRegBit s a n b).sbx = s.sbx := rfl
@[simp] theorem setRegBit_ent (a n : Nat) (b : Bool) : (setRegBit s a n b).ent = s.ent := rfl
@[simp] theorem setRegBit_lco (a n : Nat) (b : Bool) : (setRegBit s a n b).lco = s.lco := rfl
@[simp] theorem setRegBit_kvt (a n : Nat) (b : Bool) : (setRegBit s a n b).kvt = s.kvt := rfl
@[simp] theorem setRegBit_dom (a n : Nat) (b : Bool) : (setRegBit s a n b).dom = s.dom := rfl
@[simp] theorem setRegBit_jct (a n : Nat) (b : Bool) : (setRegBit s a n b).jct = s.jct := rfl
@[simp] theorem setRegBit_anchor (a n : Nat) (b : Bool) : (setRegBit s a n b).anchor = s.anchor := rfl
@[simp] theorem setRegBit_ctc (a n : Nat) (b : Bool) : (setRegBit s a n b).ctc = s.ctc := rfl
@[simp] theorem setRegBit_coh (a n : Nat) (b : Bool) : (setRegBit s a n b).coh = s.coh := rfl
@[simp] theorem setRegBit_engs (a n : Nat) (b : Bool) : (setRegBit s a n b).engs = s.engs := rfl
@[simp] theorem setRegBit_incarn (a n : Nat) (b : Bool) : (setRegBit s a n b).incarn = s.incarn := rfl
@[simp] theorem setRegBit_ttb (a n : Nat) (b : Bool) : (setRegBit s a n b).ttb = s.ttb := rfl
@[simp] theorem setRegBit_spans (a n : Nat) (b : Bool) : (setRegBit s a n b).spans = s.spans := rfl
@[simp] theorem setRegBit_maps (a n : Nat) (b : Bool) : (setRegBit s a n b).maps = s.maps := rfl
@[simp] theorem setRegBit_trs (a n : Nat) (b : Bool) : (setRegBit s a n b).trs = s.trs := rfl
@[simp] theorem setRegBit_hgt (a n : Nat) (b : Bool) : (setRegBit s a n b).hgt = s.hgt := rfl
@[simp] theorem setRegBit_cce (a n : Nat) (b : Bool) : (setRegBit s a n b).cce = s.cce := rfl
@[simp] theorem setRegBit_imu (a n : Nat) (b : Bool) : (setRegBit s a n b).imu = s.imu := rfl
@[simp] theorem setRegBit_inc (a n : Nat) (b : Bool) : (setRegBit s a n b).inc = s.inc := rfl
@[simp] theorem setRegBit_evr (a n : Nat) (b : Bool) : (setRegBit s a n b).evr = s.evr := rfl
@[simp] theorem setRegBit_ttu (a n : Nat) (b : Bool) : (setRegBit s a n b).ttu = s.ttu := rfl
@[simp] theorem setRegBit_pmu (a n : Nat) (b : Bool) : (setRegBit s a n b).pmu = s.pmu := rfl
@[simp] theorem setRegBit_att (a n : Nat) (b : Bool) : (setRegBit s a n b).att = s.att := rfl
@[simp] theorem setRegBit_free (a n : Nat) (b : Bool) : (setRegBit s a n b).free = s.free := rfl
@[simp] theorem setRegBit_out (a n : Nat) (b : Bool) : (setRegBit s a n b).out = s.out := rfl
@[simp] theorem setRegBit_pending (a n : Nat) (b : Bool) : (setRegBit s a n b).pending = s.pending := rfl

/-! ### incSat -/

@[simp] theorem incSat_latch (a hi lo n : Nat) : (incSat s a hi lo n).latch = s.latch := rfl
@[simp] theorem incSat_hold (a hi lo n : Nat) : (incSat s a hi lo n).hold = s.hold := rfl
@[simp] theorem incSat_exps (a hi lo n : Nat) : (incSat s a hi lo n).exps = s.exps := rfl
@[simp] theorem incSat_epochAll (a hi lo n : Nat) : (incSat s a hi lo n).epochAll = s.epochAll := rfl
@[simp] theorem incSat_epochs (a hi lo n : Nat) : (incSat s a hi lo n).epochs = s.epochs := rfl
@[simp] theorem incSat_held (a hi lo n : Nat) : (incSat s a hi lo n).held = s.held := rfl
@[simp] theorem incSat_withdrawn (a hi lo n : Nat) : (incSat s a hi lo n).withdrawn = s.withdrawn := rfl
@[simp] theorem incSat_denied (a hi lo n : Nat) : (incSat s a hi lo n).denied = s.denied := rfl
@[simp] theorem incSat_cru (a hi lo n : Nat) : (incSat s a hi lo n).cru = s.cru := rfl
@[simp] theorem incSat_ports (a hi lo n : Nat) : (incSat s a hi lo n).ports = s.ports := rfl
@[simp] theorem incSat_tmp (a hi lo n : Nat) : (incSat s a hi lo n).tmp = s.tmp := rfl
@[simp] theorem incSat_wrc (a hi lo n : Nat) : (incSat s a hi lo n).wrc = s.wrc := rfl
@[simp] theorem incSat_sbx (a hi lo n : Nat) : (incSat s a hi lo n).sbx = s.sbx := rfl
@[simp] theorem incSat_ent (a hi lo n : Nat) : (incSat s a hi lo n).ent = s.ent := rfl
@[simp] theorem incSat_lco (a hi lo n : Nat) : (incSat s a hi lo n).lco = s.lco := rfl
@[simp] theorem incSat_kvt (a hi lo n : Nat) : (incSat s a hi lo n).kvt = s.kvt := rfl
@[simp] theorem incSat_dom (a hi lo n : Nat) : (incSat s a hi lo n).dom = s.dom := rfl
@[simp] theorem incSat_jct (a hi lo n : Nat) : (incSat s a hi lo n).jct = s.jct := rfl
@[simp] theorem incSat_anchor (a hi lo n : Nat) : (incSat s a hi lo n).anchor = s.anchor := rfl
@[simp] theorem incSat_ctc (a hi lo n : Nat) : (incSat s a hi lo n).ctc = s.ctc := rfl
@[simp] theorem incSat_coh (a hi lo n : Nat) : (incSat s a hi lo n).coh = s.coh := rfl
@[simp] theorem incSat_engs (a hi lo n : Nat) : (incSat s a hi lo n).engs = s.engs := rfl
@[simp] theorem incSat_incarn (a hi lo n : Nat) : (incSat s a hi lo n).incarn = s.incarn := rfl
@[simp] theorem incSat_ttb (a hi lo n : Nat) : (incSat s a hi lo n).ttb = s.ttb := rfl
@[simp] theorem incSat_spans (a hi lo n : Nat) : (incSat s a hi lo n).spans = s.spans := rfl
@[simp] theorem incSat_maps (a hi lo n : Nat) : (incSat s a hi lo n).maps = s.maps := rfl
@[simp] theorem incSat_trs (a hi lo n : Nat) : (incSat s a hi lo n).trs = s.trs := rfl
@[simp] theorem incSat_hgt (a hi lo n : Nat) : (incSat s a hi lo n).hgt = s.hgt := rfl
@[simp] theorem incSat_cce (a hi lo n : Nat) : (incSat s a hi lo n).cce = s.cce := rfl
@[simp] theorem incSat_imu (a hi lo n : Nat) : (incSat s a hi lo n).imu = s.imu := rfl
@[simp] theorem incSat_inc (a hi lo n : Nat) : (incSat s a hi lo n).inc = s.inc := rfl
@[simp] theorem incSat_evr (a hi lo n : Nat) : (incSat s a hi lo n).evr = s.evr := rfl
@[simp] theorem incSat_ttu (a hi lo n : Nat) : (incSat s a hi lo n).ttu = s.ttu := rfl
@[simp] theorem incSat_pmu (a hi lo n : Nat) : (incSat s a hi lo n).pmu = s.pmu := rfl
@[simp] theorem incSat_att (a hi lo n : Nat) : (incSat s a hi lo n).att = s.att := rfl
@[simp] theorem incSat_free (a hi lo n : Nat) : (incSat s a hi lo n).free = s.free := rfl
@[simp] theorem incSat_out (a hi lo n : Nat) : (incSat s a hi lo n).out = s.out := rfl
@[simp] theorem incSat_pending (a hi lo n : Nat) : (incSat s a hi lo n).pending = s.pending := rfl

/-! ### incWrap -/

@[simp] theorem incWrap_latch (a hi lo n : Nat) : (incWrap s a hi lo n).latch = s.latch := rfl
@[simp] theorem incWrap_hold (a hi lo n : Nat) : (incWrap s a hi lo n).hold = s.hold := rfl
@[simp] theorem incWrap_exps (a hi lo n : Nat) : (incWrap s a hi lo n).exps = s.exps := rfl
@[simp] theorem incWrap_epochAll (a hi lo n : Nat) : (incWrap s a hi lo n).epochAll = s.epochAll := rfl
@[simp] theorem incWrap_epochs (a hi lo n : Nat) : (incWrap s a hi lo n).epochs = s.epochs := rfl
@[simp] theorem incWrap_held (a hi lo n : Nat) : (incWrap s a hi lo n).held = s.held := rfl
@[simp] theorem incWrap_withdrawn (a hi lo n : Nat) : (incWrap s a hi lo n).withdrawn = s.withdrawn := rfl
@[simp] theorem incWrap_denied (a hi lo n : Nat) : (incWrap s a hi lo n).denied = s.denied := rfl
@[simp] theorem incWrap_cru (a hi lo n : Nat) : (incWrap s a hi lo n).cru = s.cru := rfl
@[simp] theorem incWrap_ports (a hi lo n : Nat) : (incWrap s a hi lo n).ports = s.ports := rfl
@[simp] theorem incWrap_tmp (a hi lo n : Nat) : (incWrap s a hi lo n).tmp = s.tmp := rfl
@[simp] theorem incWrap_wrc (a hi lo n : Nat) : (incWrap s a hi lo n).wrc = s.wrc := rfl
@[simp] theorem incWrap_sbx (a hi lo n : Nat) : (incWrap s a hi lo n).sbx = s.sbx := rfl
@[simp] theorem incWrap_ent (a hi lo n : Nat) : (incWrap s a hi lo n).ent = s.ent := rfl
@[simp] theorem incWrap_lco (a hi lo n : Nat) : (incWrap s a hi lo n).lco = s.lco := rfl
@[simp] theorem incWrap_kvt (a hi lo n : Nat) : (incWrap s a hi lo n).kvt = s.kvt := rfl
@[simp] theorem incWrap_dom (a hi lo n : Nat) : (incWrap s a hi lo n).dom = s.dom := rfl
@[simp] theorem incWrap_jct (a hi lo n : Nat) : (incWrap s a hi lo n).jct = s.jct := rfl
@[simp] theorem incWrap_anchor (a hi lo n : Nat) : (incWrap s a hi lo n).anchor = s.anchor := rfl
@[simp] theorem incWrap_ctc (a hi lo n : Nat) : (incWrap s a hi lo n).ctc = s.ctc := rfl
@[simp] theorem incWrap_coh (a hi lo n : Nat) : (incWrap s a hi lo n).coh = s.coh := rfl
@[simp] theorem incWrap_engs (a hi lo n : Nat) : (incWrap s a hi lo n).engs = s.engs := rfl
@[simp] theorem incWrap_incarn (a hi lo n : Nat) : (incWrap s a hi lo n).incarn = s.incarn := rfl
@[simp] theorem incWrap_ttb (a hi lo n : Nat) : (incWrap s a hi lo n).ttb = s.ttb := rfl
@[simp] theorem incWrap_spans (a hi lo n : Nat) : (incWrap s a hi lo n).spans = s.spans := rfl
@[simp] theorem incWrap_maps (a hi lo n : Nat) : (incWrap s a hi lo n).maps = s.maps := rfl
@[simp] theorem incWrap_trs (a hi lo n : Nat) : (incWrap s a hi lo n).trs = s.trs := rfl
@[simp] theorem incWrap_hgt (a hi lo n : Nat) : (incWrap s a hi lo n).hgt = s.hgt := rfl
@[simp] theorem incWrap_cce (a hi lo n : Nat) : (incWrap s a hi lo n).cce = s.cce := rfl
@[simp] theorem incWrap_imu (a hi lo n : Nat) : (incWrap s a hi lo n).imu = s.imu := rfl
@[simp] theorem incWrap_inc (a hi lo n : Nat) : (incWrap s a hi lo n).inc = s.inc := rfl
@[simp] theorem incWrap_evr (a hi lo n : Nat) : (incWrap s a hi lo n).evr = s.evr := rfl
@[simp] theorem incWrap_ttu (a hi lo n : Nat) : (incWrap s a hi lo n).ttu = s.ttu := rfl
@[simp] theorem incWrap_pmu (a hi lo n : Nat) : (incWrap s a hi lo n).pmu = s.pmu := rfl
@[simp] theorem incWrap_att (a hi lo n : Nat) : (incWrap s a hi lo n).att = s.att := rfl
@[simp] theorem incWrap_free (a hi lo n : Nat) : (incWrap s a hi lo n).free = s.free := rfl
@[simp] theorem incWrap_out (a hi lo n : Nat) : (incWrap s a hi lo n).out = s.out := rfl
@[simp] theorem incWrap_pending (a hi lo n : Nat) : (incWrap s a hi lo n).pending = s.pending := rfl

/-! ### resetRegs -/

@[simp] theorem resetRegs_latch (pg lo hi : Nat) : (resetRegs s pg lo hi).latch = s.latch := rfl
@[simp] theorem resetRegs_hold (pg lo hi : Nat) : (resetRegs s pg lo hi).hold = s.hold := rfl
@[simp] theorem resetRegs_exps (pg lo hi : Nat) : (resetRegs s pg lo hi).exps = s.exps := rfl
@[simp] theorem resetRegs_epochAll (pg lo hi : Nat) : (resetRegs s pg lo hi).epochAll = s.epochAll := rfl
@[simp] theorem resetRegs_epochs (pg lo hi : Nat) : (resetRegs s pg lo hi).epochs = s.epochs := rfl
@[simp] theorem resetRegs_held (pg lo hi : Nat) : (resetRegs s pg lo hi).held = s.held := rfl
@[simp] theorem resetRegs_withdrawn (pg lo hi : Nat) : (resetRegs s pg lo hi).withdrawn = s.withdrawn := rfl
@[simp] theorem resetRegs_denied (pg lo hi : Nat) : (resetRegs s pg lo hi).denied = s.denied := rfl
@[simp] theorem resetRegs_cru (pg lo hi : Nat) : (resetRegs s pg lo hi).cru = s.cru := rfl
@[simp] theorem resetRegs_ports (pg lo hi : Nat) : (resetRegs s pg lo hi).ports = s.ports := rfl
@[simp] theorem resetRegs_tmp (pg lo hi : Nat) : (resetRegs s pg lo hi).tmp = s.tmp := rfl
@[simp] theorem resetRegs_wrc (pg lo hi : Nat) : (resetRegs s pg lo hi).wrc = s.wrc := rfl
@[simp] theorem resetRegs_sbx (pg lo hi : Nat) : (resetRegs s pg lo hi).sbx = s.sbx := rfl
@[simp] theorem resetRegs_ent (pg lo hi : Nat) : (resetRegs s pg lo hi).ent = s.ent := rfl
@[simp] theorem resetRegs_lco (pg lo hi : Nat) : (resetRegs s pg lo hi).lco = s.lco := rfl
@[simp] theorem resetRegs_kvt (pg lo hi : Nat) : (resetRegs s pg lo hi).kvt = s.kvt := rfl
@[simp] theorem resetRegs_dom (pg lo hi : Nat) : (resetRegs s pg lo hi).dom = s.dom := rfl
@[simp] theorem resetRegs_jct (pg lo hi : Nat) : (resetRegs s pg lo hi).jct = s.jct := rfl
@[simp] theorem resetRegs_anchor (pg lo hi : Nat) : (resetRegs s pg lo hi).anchor = s.anchor := rfl
@[simp] theorem resetRegs_ctc (pg lo hi : Nat) : (resetRegs s pg lo hi).ctc = s.ctc := rfl
@[simp] theorem resetRegs_coh (pg lo hi : Nat) : (resetRegs s pg lo hi).coh = s.coh := rfl
@[simp] theorem resetRegs_engs (pg lo hi : Nat) : (resetRegs s pg lo hi).engs = s.engs := rfl
@[simp] theorem resetRegs_incarn (pg lo hi : Nat) : (resetRegs s pg lo hi).incarn = s.incarn := rfl
@[simp] theorem resetRegs_ttb (pg lo hi : Nat) : (resetRegs s pg lo hi).ttb = s.ttb := rfl
@[simp] theorem resetRegs_spans (pg lo hi : Nat) : (resetRegs s pg lo hi).spans = s.spans := rfl
@[simp] theorem resetRegs_maps (pg lo hi : Nat) : (resetRegs s pg lo hi).maps = s.maps := rfl
@[simp] theorem resetRegs_trs (pg lo hi : Nat) : (resetRegs s pg lo hi).trs = s.trs := rfl
@[simp] theorem resetRegs_hgt (pg lo hi : Nat) : (resetRegs s pg lo hi).hgt = s.hgt := rfl
@[simp] theorem resetRegs_cce (pg lo hi : Nat) : (resetRegs s pg lo hi).cce = s.cce := rfl
@[simp] theorem resetRegs_imu (pg lo hi : Nat) : (resetRegs s pg lo hi).imu = s.imu := rfl
@[simp] theorem resetRegs_inc (pg lo hi : Nat) : (resetRegs s pg lo hi).inc = s.inc := rfl
@[simp] theorem resetRegs_evr (pg lo hi : Nat) : (resetRegs s pg lo hi).evr = s.evr := rfl
@[simp] theorem resetRegs_ttu (pg lo hi : Nat) : (resetRegs s pg lo hi).ttu = s.ttu := rfl
@[simp] theorem resetRegs_pmu (pg lo hi : Nat) : (resetRegs s pg lo hi).pmu = s.pmu := rfl
@[simp] theorem resetRegs_att (pg lo hi : Nat) : (resetRegs s pg lo hi).att = s.att := rfl
@[simp] theorem resetRegs_free (pg lo hi : Nat) : (resetRegs s pg lo hi).free = s.free := rfl
@[simp] theorem resetRegs_out (pg lo hi : Nat) : (resetRegs s pg lo hi).out = s.out := rfl
@[simp] theorem resetRegs_pending (pg lo hi : Nat) : (resetRegs s pg lo hi).pending = s.pending := rfl

/-! ### emit -/

@[simp] theorem emit_regs (o : Out) : (emit s o).regs = s.regs := rfl
@[simp] theorem emit_latch (o : Out) : (emit s o).latch = s.latch := rfl
@[simp] theorem emit_hold (o : Out) : (emit s o).hold = s.hold := rfl
@[simp] theorem emit_exps (o : Out) : (emit s o).exps = s.exps := rfl
@[simp] theorem emit_epochAll (o : Out) : (emit s o).epochAll = s.epochAll := rfl
@[simp] theorem emit_epochs (o : Out) : (emit s o).epochs = s.epochs := rfl
@[simp] theorem emit_held (o : Out) : (emit s o).held = s.held := rfl
@[simp] theorem emit_withdrawn (o : Out) : (emit s o).withdrawn = s.withdrawn := rfl
@[simp] theorem emit_denied (o : Out) : (emit s o).denied = s.denied := rfl
@[simp] theorem emit_cru (o : Out) : (emit s o).cru = s.cru := rfl
@[simp] theorem emit_ports (o : Out) : (emit s o).ports = s.ports := rfl
@[simp] theorem emit_tmp (o : Out) : (emit s o).tmp = s.tmp := rfl
@[simp] theorem emit_wrc (o : Out) : (emit s o).wrc = s.wrc := rfl
@[simp] theorem emit_sbx (o : Out) : (emit s o).sbx = s.sbx := rfl
@[simp] theorem emit_ent (o : Out) : (emit s o).ent = s.ent := rfl
@[simp] theorem emit_lco (o : Out) : (emit s o).lco = s.lco := rfl
@[simp] theorem emit_kvt (o : Out) : (emit s o).kvt = s.kvt := rfl
@[simp] theorem emit_dom (o : Out) : (emit s o).dom = s.dom := rfl
@[simp] theorem emit_jct (o : Out) : (emit s o).jct = s.jct := rfl
@[simp] theorem emit_anchor (o : Out) : (emit s o).anchor = s.anchor := rfl
@[simp] theorem emit_ctc (o : Out) : (emit s o).ctc = s.ctc := rfl
@[simp] theorem emit_coh (o : Out) : (emit s o).coh = s.coh := rfl
@[simp] theorem emit_engs (o : Out) : (emit s o).engs = s.engs := rfl
@[simp] theorem emit_incarn (o : Out) : (emit s o).incarn = s.incarn := rfl
@[simp] theorem emit_ttb (o : Out) : (emit s o).ttb = s.ttb := rfl
@[simp] theorem emit_spans (o : Out) : (emit s o).spans = s.spans := rfl
@[simp] theorem emit_maps (o : Out) : (emit s o).maps = s.maps := rfl
@[simp] theorem emit_trs (o : Out) : (emit s o).trs = s.trs := rfl
@[simp] theorem emit_hgt (o : Out) : (emit s o).hgt = s.hgt := rfl
@[simp] theorem emit_cce (o : Out) : (emit s o).cce = s.cce := rfl
@[simp] theorem emit_imu (o : Out) : (emit s o).imu = s.imu := rfl
@[simp] theorem emit_inc (o : Out) : (emit s o).inc = s.inc := rfl
@[simp] theorem emit_evr (o : Out) : (emit s o).evr = s.evr := rfl
@[simp] theorem emit_ttu (o : Out) : (emit s o).ttu = s.ttu := rfl
@[simp] theorem emit_pmu (o : Out) : (emit s o).pmu = s.pmu := rfl
@[simp] theorem emit_att (o : Out) : (emit s o).att = s.att := rfl
@[simp] theorem emit_free (o : Out) : (emit s o).free = s.free := rfl
@[simp] theorem emit_pending (o : Out) : (emit s o).pending = s.pending := rfl

/-! ### regDone -/

@[simp] theorem regDone_regs (r : Role) (off : Nat) (st : Status) (d : Word) : (regDone s r off st d).regs = s.regs := rfl
@[simp] theorem regDone_latch (r : Role) (off : Nat) (st : Status) (d : Word) : (regDone s r off st d).latch = s.latch := rfl
@[simp] theorem regDone_hold (r : Role) (off : Nat) (st : Status) (d : Word) : (regDone s r off st d).hold = s.hold := rfl
@[simp] theorem regDone_exps (r : Role) (off : Nat) (st : Status) (d : Word) : (regDone s r off st d).exps = s.exps := rfl
@[simp] theorem regDone_epochAll (r : Role) (off : Nat) (st : Status) (d : Word) : (regDone s r off st d).epochAll = s.epochAll := rfl
@[simp] theorem regDone_epochs (r : Role) (off : Nat) (st : Status) (d : Word) : (regDone s r off st d).epochs = s.epochs := rfl
@[simp] theorem regDone_held (r : Role) (off : Nat) (st : Status) (d : Word) : (regDone s r off st d).held = s.held := rfl
@[simp] theorem regDone_withdrawn (r : Role) (off : Nat) (st : Status) (d : Word) : (regDone s r off st d).withdrawn = s.withdrawn := rfl
@[simp] theorem regDone_denied (r : Role) (off : Nat) (st : Status) (d : Word) : (regDone s r off st d).denied = s.denied := rfl
@[simp] theorem regDone_cru (r : Role) (off : Nat) (st : Status) (d : Word) : (regDone s r off st d).cru = s.cru := rfl
@[simp] theorem regDone_ports (r : Role) (off : Nat) (st : Status) (d : Word) : (regDone s r off st d).ports = s.ports := rfl
@[simp] theorem regDone_tmp (r : Role) (off : Nat) (st : Status) (d : Word) : (regDone s r off st d).tmp = s.tmp := rfl
@[simp] theorem regDone_wrc (r : Role) (off : Nat) (st : Status) (d : Word) : (regDone s r off st d).wrc = s.wrc := rfl
@[simp] theorem regDone_sbx (r : Role) (off : Nat) (st : Status) (d : Word) : (regDone s r off st d).sbx = s.sbx := rfl
@[simp] theorem regDone_ent (r : Role) (off : Nat) (st : Status) (d : Word) : (regDone s r off st d).ent = s.ent := rfl
@[simp] theorem regDone_lco (r : Role) (off : Nat) (st : Status) (d : Word) : (regDone s r off st d).lco = s.lco := rfl
@[simp] theorem regDone_kvt (r : Role) (off : Nat) (st : Status) (d : Word) : (regDone s r off st d).kvt = s.kvt := rfl
@[simp] theorem regDone_dom (r : Role) (off : Nat) (st : Status) (d : Word) : (regDone s r off st d).dom = s.dom := rfl
@[simp] theorem regDone_jct (r : Role) (off : Nat) (st : Status) (d : Word) : (regDone s r off st d).jct = s.jct := rfl
@[simp] theorem regDone_anchor (r : Role) (off : Nat) (st : Status) (d : Word) : (regDone s r off st d).anchor = s.anchor := rfl
@[simp] theorem regDone_ctc (r : Role) (off : Nat) (st : Status) (d : Word) : (regDone s r off st d).ctc = s.ctc := rfl
@[simp] theorem regDone_coh (r : Role) (off : Nat) (st : Status) (d : Word) : (regDone s r off st d).coh = s.coh := rfl
@[simp] theorem regDone_engs (r : Role) (off : Nat) (st : Status) (d : Word) : (regDone s r off st d).engs = s.engs := rfl
@[simp] theorem regDone_incarn (r : Role) (off : Nat) (st : Status) (d : Word) : (regDone s r off st d).incarn = s.incarn := rfl
@[simp] theorem regDone_ttb (r : Role) (off : Nat) (st : Status) (d : Word) : (regDone s r off st d).ttb = s.ttb := rfl
@[simp] theorem regDone_spans (r : Role) (off : Nat) (st : Status) (d : Word) : (regDone s r off st d).spans = s.spans := rfl
@[simp] theorem regDone_maps (r : Role) (off : Nat) (st : Status) (d : Word) : (regDone s r off st d).maps = s.maps := rfl
@[simp] theorem regDone_trs (r : Role) (off : Nat) (st : Status) (d : Word) : (regDone s r off st d).trs = s.trs := rfl
@[simp] theorem regDone_hgt (r : Role) (off : Nat) (st : Status) (d : Word) : (regDone s r off st d).hgt = s.hgt := rfl
@[simp] theorem regDone_cce (r : Role) (off : Nat) (st : Status) (d : Word) : (regDone s r off st d).cce = s.cce := rfl
@[simp] theorem regDone_imu (r : Role) (off : Nat) (st : Status) (d : Word) : (regDone s r off st d).imu = s.imu := rfl
@[simp] theorem regDone_inc (r : Role) (off : Nat) (st : Status) (d : Word) : (regDone s r off st d).inc = s.inc := rfl
@[simp] theorem regDone_evr (r : Role) (off : Nat) (st : Status) (d : Word) : (regDone s r off st d).evr = s.evr := rfl
@[simp] theorem regDone_ttu (r : Role) (off : Nat) (st : Status) (d : Word) : (regDone s r off st d).ttu = s.ttu := rfl
@[simp] theorem regDone_pmu (r : Role) (off : Nat) (st : Status) (d : Word) : (regDone s r off st d).pmu = s.pmu := rfl
@[simp] theorem regDone_att (r : Role) (off : Nat) (st : Status) (d : Word) : (regDone s r off st d).att = s.att := rfl
@[simp] theorem regDone_free (r : Role) (off : Nat) (st : Status) (d : Word) : (regDone s r off st d).free = s.free := rfl
@[simp] theorem regDone_pending (r : Role) (off : Nat) (st : Status) (d : Word) : (regDone s r off st d).pending = s.pending := rfl

/-! ### setDom -/

@[simp] theorem setDom_regs (d : Nat) (x : DomSt) : (setDom s d x).regs = s.regs := rfl
@[simp] theorem setDom_latch (d : Nat) (x : DomSt) : (setDom s d x).latch = s.latch := rfl
@[simp] theorem setDom_hold (d : Nat) (x : DomSt) : (setDom s d x).hold = s.hold := rfl
@[simp] theorem setDom_exps (d : Nat) (x : DomSt) : (setDom s d x).exps = s.exps := rfl
@[simp] theorem setDom_epochAll (d : Nat) (x : DomSt) : (setDom s d x).epochAll = s.epochAll := rfl
@[simp] theorem setDom_epochs (d : Nat) (x : DomSt) : (setDom s d x).epochs = s.epochs := rfl
@[simp] theorem setDom_held (d : Nat) (x : DomSt) : (setDom s d x).held = s.held := rfl
@[simp] theorem setDom_withdrawn (d : Nat) (x : DomSt) : (setDom s d x).withdrawn = s.withdrawn := rfl
@[simp] theorem setDom_denied (d : Nat) (x : DomSt) : (setDom s d x).denied = s.denied := rfl
@[simp] theorem setDom_ports (d : Nat) (x : DomSt) : (setDom s d x).ports = s.ports := rfl
@[simp] theorem setDom_tmp (d : Nat) (x : DomSt) : (setDom s d x).tmp = s.tmp := rfl
@[simp] theorem setDom_wrc (d : Nat) (x : DomSt) : (setDom s d x).wrc = s.wrc := rfl
@[simp] theorem setDom_sbx (d : Nat) (x : DomSt) : (setDom s d x).sbx = s.sbx := rfl
@[simp] theorem setDom_ent (d : Nat) (x : DomSt) : (setDom s d x).ent = s.ent := rfl
@[simp] theorem setDom_lco (d : Nat) (x : DomSt) : (setDom s d x).lco = s.lco := rfl
@[simp] theorem setDom_kvt (d : Nat) (x : DomSt) : (setDom s d x).kvt = s.kvt := rfl
@[simp] theorem setDom_dom (d : Nat) (x : DomSt) : (setDom s d x).dom = s.dom := rfl
@[simp] theorem setDom_jct (d : Nat) (x : DomSt) : (setDom s d x).jct = s.jct := rfl
@[simp] theorem setDom_anchor (d : Nat) (x : DomSt) : (setDom s d x).anchor = s.anchor := rfl
@[simp] theorem setDom_ctc (d : Nat) (x : DomSt) : (setDom s d x).ctc = s.ctc := rfl
@[simp] theorem setDom_coh (d : Nat) (x : DomSt) : (setDom s d x).coh = s.coh := rfl
@[simp] theorem setDom_engs (d : Nat) (x : DomSt) : (setDom s d x).engs = s.engs := rfl
@[simp] theorem setDom_incarn (d : Nat) (x : DomSt) : (setDom s d x).incarn = s.incarn := rfl
@[simp] theorem setDom_ttb (d : Nat) (x : DomSt) : (setDom s d x).ttb = s.ttb := rfl
@[simp] theorem setDom_spans (d : Nat) (x : DomSt) : (setDom s d x).spans = s.spans := rfl
@[simp] theorem setDom_maps (d : Nat) (x : DomSt) : (setDom s d x).maps = s.maps := rfl
@[simp] theorem setDom_trs (d : Nat) (x : DomSt) : (setDom s d x).trs = s.trs := rfl
@[simp] theorem setDom_hgt (d : Nat) (x : DomSt) : (setDom s d x).hgt = s.hgt := rfl
@[simp] theorem setDom_cce (d : Nat) (x : DomSt) : (setDom s d x).cce = s.cce := rfl
@[simp] theorem setDom_imu (d : Nat) (x : DomSt) : (setDom s d x).imu = s.imu := rfl
@[simp] theorem setDom_inc (d : Nat) (x : DomSt) : (setDom s d x).inc = s.inc := rfl
@[simp] theorem setDom_evr (d : Nat) (x : DomSt) : (setDom s d x).evr = s.evr := rfl
@[simp] theorem setDom_ttu (d : Nat) (x : DomSt) : (setDom s d x).ttu = s.ttu := rfl
@[simp] theorem setDom_pmu (d : Nat) (x : DomSt) : (setDom s d x).pmu = s.pmu := rfl
@[simp] theorem setDom_att (d : Nat) (x : DomSt) : (setDom s d x).att = s.att := rfl
@[simp] theorem setDom_free (d : Nat) (x : DomSt) : (setDom s d x).free = s.free := rfl
@[simp] theorem setDom_out (d : Nat) (x : DomSt) : (setDom s d x).out = s.out := rfl
@[simp] theorem setDom_pending (d : Nat) (x : DomSt) : (setDom s d x).pending = s.pending := rfl

/-! ### bumpEpoch -/

@[simp] theorem bumpEpoch_regs (pg : Nat) : (bumpEpoch s pg).regs = s.regs := rfl
@[simp] theorem bumpEpoch_latch (pg : Nat) : (bumpEpoch s pg).latch = s.latch := rfl
@[simp] theorem bumpEpoch_hold (pg : Nat) : (bumpEpoch s pg).hold = s.hold := rfl
@[simp] theorem bumpEpoch_exps (pg : Nat) : (bumpEpoch s pg).exps = s.exps := rfl
@[simp] theorem bumpEpoch_epochAll (pg : Nat) : (bumpEpoch s pg).epochAll = s.epochAll := rfl
@[simp] theorem bumpEpoch_held (pg : Nat) : (bumpEpoch s pg).held = s.held := rfl
@[simp] theorem bumpEpoch_withdrawn (pg : Nat) : (bumpEpoch s pg).withdrawn = s.withdrawn := rfl
@[simp] theorem bumpEpoch_denied (pg : Nat) : (bumpEpoch s pg).denied = s.denied := rfl
@[simp] theorem bumpEpoch_cru (pg : Nat) : (bumpEpoch s pg).cru = s.cru := rfl
@[simp] theorem bumpEpoch_ports (pg : Nat) : (bumpEpoch s pg).ports = s.ports := rfl
@[simp] theorem bumpEpoch_tmp (pg : Nat) : (bumpEpoch s pg).tmp = s.tmp := rfl
@[simp] theorem bumpEpoch_wrc (pg : Nat) : (bumpEpoch s pg).wrc = s.wrc := rfl
@[simp] theorem bumpEpoch_sbx (pg : Nat) : (bumpEpoch s pg).sbx = s.sbx := rfl
@[simp] theorem bumpEpoch_ent (pg : Nat) : (bumpEpoch s pg).ent = s.ent := rfl
@[simp] theorem bumpEpoch_lco (pg : Nat) : (bumpEpoch s pg).lco = s.lco := rfl
@[simp] theorem bumpEpoch_kvt (pg : Nat) : (bumpEpoch s pg).kvt = s.kvt := rfl
@[simp] theorem bumpEpoch_dom (pg : Nat) : (bumpEpoch s pg).dom = s.dom := rfl
@[simp] theorem bumpEpoch_jct (pg : Nat) : (bumpEpoch s pg).jct = s.jct := rfl
@[simp] theorem bumpEpoch_anchor (pg : Nat) : (bumpEpoch s pg).anchor = s.anchor := rfl
@[simp] theorem bumpEpoch_ctc (pg : Nat) : (bumpEpoch s pg).ctc = s.ctc := rfl
@[simp] theorem bumpEpoch_coh (pg : Nat) : (bumpEpoch s pg).coh = s.coh := rfl
@[simp] theorem bumpEpoch_engs (pg : Nat) : (bumpEpoch s pg).engs = s.engs := rfl
@[simp] theorem bumpEpoch_incarn (pg : Nat) : (bumpEpoch s pg).incarn = s.incarn := rfl
@[simp] theorem bumpEpoch_ttb (pg : Nat) : (bumpEpoch s pg).ttb = s.ttb := rfl
@[simp] theorem bumpEpoch_spans (pg : Nat) : (bumpEpoch s pg).spans = s.spans := rfl
@[simp] theorem bumpEpoch_maps (pg : Nat) : (bumpEpoch s pg).maps = s.maps := rfl
@[simp] theorem bumpEpoch_trs (pg : Nat) : (bumpEpoch s pg).trs = s.trs := rfl
@[simp] theorem bumpEpoch_hgt (pg : Nat) : (bumpEpoch s pg).hgt = s.hgt := rfl
@[simp] theorem bumpEpoch_cce (pg : Nat) : (bumpEpoch s pg).cce = s.cce := rfl
@[simp] theorem bumpEpoch_imu (pg : Nat) : (bumpEpoch s pg).imu = s.imu := rfl
@[simp] theorem bumpEpoch_inc (pg : Nat) : (bumpEpoch s pg).inc = s.inc := rfl
@[simp] theorem bumpEpoch_evr (pg : Nat) : (bumpEpoch s pg).evr = s.evr := rfl
@[simp] theorem bumpEpoch_ttu (pg : Nat) : (bumpEpoch s pg).ttu = s.ttu := rfl
@[simp] theorem bumpEpoch_pmu (pg : Nat) : (bumpEpoch s pg).pmu = s.pmu := rfl
@[simp] theorem bumpEpoch_att (pg : Nat) : (bumpEpoch s pg).att = s.att := rfl
@[simp] theorem bumpEpoch_free (pg : Nat) : (bumpEpoch s pg).free = s.free := rfl
@[simp] theorem bumpEpoch_out (pg : Nat) : (bumpEpoch s pg).out = s.out := rfl
@[simp] theorem bumpEpoch_pending (pg : Nat) : (bumpEpoch s pg).pending = s.pending := rfl

/-! ### bumpAll -/

@[simp] theorem bumpAll_regs : (bumpAll s).regs = s.regs := rfl
@[simp] theorem bumpAll_latch : (bumpAll s).latch = s.latch := rfl
@[simp] theorem bumpAll_hold : (bumpAll s).hold = s.hold := rfl
@[simp] theorem bumpAll_exps : (bumpAll s).exps = s.exps := rfl
@[simp] theorem bumpAll_epochs : (bumpAll s).epochs = s.epochs := rfl
@[simp] theorem bumpAll_held : (bumpAll s).held = s.held := rfl
@[simp] theorem bumpAll_withdrawn : (bumpAll s).withdrawn = s.withdrawn := rfl
@[simp] theorem bumpAll_denied : (bumpAll s).denied = s.denied := rfl
@[simp] theorem bumpAll_cru : (bumpAll s).cru = s.cru := rfl
@[simp] theorem bumpAll_ports : (bumpAll s).ports = s.ports := rfl
@[simp] theorem bumpAll_tmp : (bumpAll s).tmp = s.tmp := rfl
@[simp] theorem bumpAll_wrc : (bumpAll s).wrc = s.wrc := rfl
@[simp] theorem bumpAll_sbx : (bumpAll s).sbx = s.sbx := rfl
@[simp] theorem bumpAll_ent : (bumpAll s).ent = s.ent := rfl
@[simp] theorem bumpAll_lco : (bumpAll s).lco = s.lco := rfl
@[simp] theorem bumpAll_kvt : (bumpAll s).kvt = s.kvt := rfl
@[simp] theorem bumpAll_dom : (bumpAll s).dom = s.dom := rfl
@[simp] theorem bumpAll_jct : (bumpAll s).jct = s.jct := rfl
@[simp] theorem bumpAll_anchor : (bumpAll s).anchor = s.anchor := rfl
@[simp] theorem bumpAll_ctc : (bumpAll s).ctc = s.ctc := rfl
@[simp] theorem bumpAll_coh : (bumpAll s).coh = s.coh := rfl
@[simp] theorem bumpAll_engs : (bumpAll s).engs = s.engs := rfl
@[simp] theorem bumpAll_incarn : (bumpAll s).incarn = s.incarn := rfl
@[simp] theorem bumpAll_ttb : (bumpAll s).ttb = s.ttb := rfl
@[simp] theorem bumpAll_spans : (bumpAll s).spans = s.spans := rfl
@[simp] theorem bumpAll_maps : (bumpAll s).maps = s.maps := rfl
@[simp] theorem bumpAll_trs : (bumpAll s).trs = s.trs := rfl
@[simp] theorem bumpAll_hgt : (bumpAll s).hgt = s.hgt := rfl
@[simp] theorem bumpAll_cce : (bumpAll s).cce = s.cce := rfl
@[simp] theorem bumpAll_imu : (bumpAll s).imu = s.imu := rfl
@[simp] theorem bumpAll_inc : (bumpAll s).inc = s.inc := rfl
@[simp] theorem bumpAll_evr : (bumpAll s).evr = s.evr := rfl
@[simp] theorem bumpAll_ttu : (bumpAll s).ttu = s.ttu := rfl
@[simp] theorem bumpAll_pmu : (bumpAll s).pmu = s.pmu := rfl
@[simp] theorem bumpAll_att : (bumpAll s).att = s.att := rfl
@[simp] theorem bumpAll_free : (bumpAll s).free = s.free := rfl
@[simp] theorem bumpAll_out : (bumpAll s).out = s.out := rfl
@[simp] theorem bumpAll_pending : (bumpAll s).pending = s.pending := rfl

/-! ### setExpEpoch -/

@[simp] theorem setExpEpoch_regs (r : Role) (pg v : Nat) : (setExpEpoch s r pg v).regs = s.regs := rfl
@[simp] theorem setExpEpoch_latch (r : Role) (pg v : Nat) : (setExpEpoch s r pg v).latch = s.latch := rfl
@[simp] theorem setExpEpoch_hold (r : Role) (pg v : Nat) : (setExpEpoch s r pg v).hold = s.hold := rfl
@[simp] theorem setExpEpoch_epochAll (r : Role) (pg v : Nat) : (setExpEpoch s r pg v).epochAll = s.epochAll := rfl
@[simp] theorem setExpEpoch_epochs (r : Role) (pg v : Nat) : (setExpEpoch s r pg v).epochs = s.epochs := rfl
@[simp] theorem setExpEpoch_held (r : Role) (pg v : Nat) : (setExpEpoch s r pg v).held = s.held := rfl
@[simp] theorem setExpEpoch_withdrawn (r : Role) (pg v : Nat) : (setExpEpoch s r pg v).withdrawn = s.withdrawn := rfl
@[simp] theorem setExpEpoch_denied (r : Role) (pg v : Nat) : (setExpEpoch s r pg v).denied = s.denied := rfl
@[simp] theorem setExpEpoch_cru (r : Role) (pg v : Nat) : (setExpEpoch s r pg v).cru = s.cru := rfl
@[simp] theorem setExpEpoch_ports (r : Role) (pg v : Nat) : (setExpEpoch s r pg v).ports = s.ports := rfl
@[simp] theorem setExpEpoch_tmp (r : Role) (pg v : Nat) : (setExpEpoch s r pg v).tmp = s.tmp := rfl
@[simp] theorem setExpEpoch_wrc (r : Role) (pg v : Nat) : (setExpEpoch s r pg v).wrc = s.wrc := rfl
@[simp] theorem setExpEpoch_sbx (r : Role) (pg v : Nat) : (setExpEpoch s r pg v).sbx = s.sbx := rfl
@[simp] theorem setExpEpoch_ent (r : Role) (pg v : Nat) : (setExpEpoch s r pg v).ent = s.ent := rfl
@[simp] theorem setExpEpoch_lco (r : Role) (pg v : Nat) : (setExpEpoch s r pg v).lco = s.lco := rfl
@[simp] theorem setExpEpoch_kvt (r : Role) (pg v : Nat) : (setExpEpoch s r pg v).kvt = s.kvt := rfl
@[simp] theorem setExpEpoch_dom (r : Role) (pg v : Nat) : (setExpEpoch s r pg v).dom = s.dom := rfl
@[simp] theorem setExpEpoch_jct (r : Role) (pg v : Nat) : (setExpEpoch s r pg v).jct = s.jct := rfl
@[simp] theorem setExpEpoch_anchor (r : Role) (pg v : Nat) : (setExpEpoch s r pg v).anchor = s.anchor := rfl
@[simp] theorem setExpEpoch_ctc (r : Role) (pg v : Nat) : (setExpEpoch s r pg v).ctc = s.ctc := rfl
@[simp] theorem setExpEpoch_coh (r : Role) (pg v : Nat) : (setExpEpoch s r pg v).coh = s.coh := rfl
@[simp] theorem setExpEpoch_engs (r : Role) (pg v : Nat) : (setExpEpoch s r pg v).engs = s.engs := rfl
@[simp] theorem setExpEpoch_incarn (r : Role) (pg v : Nat) : (setExpEpoch s r pg v).incarn = s.incarn := rfl
@[simp] theorem setExpEpoch_ttb (r : Role) (pg v : Nat) : (setExpEpoch s r pg v).ttb = s.ttb := rfl
@[simp] theorem setExpEpoch_spans (r : Role) (pg v : Nat) : (setExpEpoch s r pg v).spans = s.spans := rfl
@[simp] theorem setExpEpoch_maps (r : Role) (pg v : Nat) : (setExpEpoch s r pg v).maps = s.maps := rfl
@[simp] theorem setExpEpoch_trs (r : Role) (pg v : Nat) : (setExpEpoch s r pg v).trs = s.trs := rfl
@[simp] theorem setExpEpoch_hgt (r : Role) (pg v : Nat) : (setExpEpoch s r pg v).hgt = s.hgt := rfl
@[simp] theorem setExpEpoch_cce (r : Role) (pg v : Nat) : (setExpEpoch s r pg v).cce = s.cce := rfl
@[simp] theorem setExpEpoch_imu (r : Role) (pg v : Nat) : (setExpEpoch s r pg v).imu = s.imu := rfl
@[simp] theorem setExpEpoch_inc (r : Role) (pg v : Nat) : (setExpEpoch s r pg v).inc = s.inc := rfl
@[simp] theorem setExpEpoch_evr (r : Role) (pg v : Nat) : (setExpEpoch s r pg v).evr = s.evr := rfl
@[simp] theorem setExpEpoch_ttu (r : Role) (pg v : Nat) : (setExpEpoch s r pg v).ttu = s.ttu := rfl
@[simp] theorem setExpEpoch_pmu (r : Role) (pg v : Nat) : (setExpEpoch s r pg v).pmu = s.pmu := rfl
@[simp] theorem setExpEpoch_att (r : Role) (pg v : Nat) : (setExpEpoch s r pg v).att = s.att := rfl
@[simp] theorem setExpEpoch_free (r : Role) (pg v : Nat) : (setExpEpoch s r pg v).free = s.free := rfl
@[simp] theorem setExpEpoch_out (r : Role) (pg v : Nat) : (setExpEpoch s r pg v).out = s.out := rfl
@[simp] theorem setExpEpoch_pending (r : Role) (pg v : Nat) : (setExpEpoch s r pg v).pending = s.pending := rfl

/-! ### pmuItem -/

@[simp] theorem pmuItem_regs (n : Nat) : (pmuItem s n).regs = s.regs := rfl
@[simp] theorem pmuItem_latch (n : Nat) : (pmuItem s n).latch = s.latch := rfl
@[simp] theorem pmuItem_hold (n : Nat) : (pmuItem s n).hold = s.hold := rfl
@[simp] theorem pmuItem_exps (n : Nat) : (pmuItem s n).exps = s.exps := rfl
@[simp] theorem pmuItem_epochAll (n : Nat) : (pmuItem s n).epochAll = s.epochAll := rfl
@[simp] theorem pmuItem_epochs (n : Nat) : (pmuItem s n).epochs = s.epochs := rfl
@[simp] theorem pmuItem_held (n : Nat) : (pmuItem s n).held = s.held := rfl
@[simp] theorem pmuItem_withdrawn (n : Nat) : (pmuItem s n).withdrawn = s.withdrawn := rfl
@[simp] theorem pmuItem_denied (n : Nat) : (pmuItem s n).denied = s.denied := rfl
@[simp] theorem pmuItem_cru (n : Nat) : (pmuItem s n).cru = s.cru := rfl
@[simp] theorem pmuItem_ports (n : Nat) : (pmuItem s n).ports = s.ports := rfl
@[simp] theorem pmuItem_tmp (n : Nat) : (pmuItem s n).tmp = s.tmp := rfl
@[simp] theorem pmuItem_wrc (n : Nat) : (pmuItem s n).wrc = s.wrc := rfl
@[simp] theorem pmuItem_sbx (n : Nat) : (pmuItem s n).sbx = s.sbx := rfl
@[simp] theorem pmuItem_ent (n : Nat) : (pmuItem s n).ent = s.ent := rfl
@[simp] theorem pmuItem_lco (n : Nat) : (pmuItem s n).lco = s.lco := rfl
@[simp] theorem pmuItem_kvt (n : Nat) : (pmuItem s n).kvt = s.kvt := rfl
@[simp] theorem pmuItem_dom (n : Nat) : (pmuItem s n).dom = s.dom := rfl
@[simp] theorem pmuItem_jct (n : Nat) : (pmuItem s n).jct = s.jct := rfl
@[simp] theorem pmuItem_anchor (n : Nat) : (pmuItem s n).anchor = s.anchor := rfl
@[simp] theorem pmuItem_ctc (n : Nat) : (pmuItem s n).ctc = s.ctc := rfl
@[simp] theorem pmuItem_coh (n : Nat) : (pmuItem s n).coh = s.coh := rfl
@[simp] theorem pmuItem_engs (n : Nat) : (pmuItem s n).engs = s.engs := rfl
@[simp] theorem pmuItem_incarn (n : Nat) : (pmuItem s n).incarn = s.incarn := rfl
@[simp] theorem pmuItem_ttb (n : Nat) : (pmuItem s n).ttb = s.ttb := rfl
@[simp] theorem pmuItem_spans (n : Nat) : (pmuItem s n).spans = s.spans := rfl
@[simp] theorem pmuItem_maps (n : Nat) : (pmuItem s n).maps = s.maps := rfl
@[simp] theorem pmuItem_trs (n : Nat) : (pmuItem s n).trs = s.trs := rfl
@[simp] theorem pmuItem_hgt (n : Nat) : (pmuItem s n).hgt = s.hgt := rfl
@[simp] theorem pmuItem_cce (n : Nat) : (pmuItem s n).cce = s.cce := rfl
@[simp] theorem pmuItem_imu (n : Nat) : (pmuItem s n).imu = s.imu := rfl
@[simp] theorem pmuItem_inc (n : Nat) : (pmuItem s n).inc = s.inc := rfl
@[simp] theorem pmuItem_evr (n : Nat) : (pmuItem s n).evr = s.evr := rfl
@[simp] theorem pmuItem_ttu (n : Nat) : (pmuItem s n).ttu = s.ttu := rfl
@[simp] theorem pmuItem_att (n : Nat) : (pmuItem s n).att = s.att := rfl
@[simp] theorem pmuItem_free (n : Nat) : (pmuItem s n).free = s.free := rfl
@[simp] theorem pmuItem_out (n : Nat) : (pmuItem s n).out = s.out := rfl
@[simp] theorem pmuItem_pending (n : Nat) : (pmuItem s n).pending = s.pending := rfl

/-! ### setEng -/

@[simp] theorem setEng_regs (e : Nat) (x : Eng) : (setEng s e x).regs = s.regs := rfl
@[simp] theorem setEng_latch (e : Nat) (x : Eng) : (setEng s e x).latch = s.latch := rfl
@[simp] theorem setEng_hold (e : Nat) (x : Eng) : (setEng s e x).hold = s.hold := rfl
@[simp] theorem setEng_exps (e : Nat) (x : Eng) : (setEng s e x).exps = s.exps := rfl
@[simp] theorem setEng_epochAll (e : Nat) (x : Eng) : (setEng s e x).epochAll = s.epochAll := rfl
@[simp] theorem setEng_epochs (e : Nat) (x : Eng) : (setEng s e x).epochs = s.epochs := rfl
@[simp] theorem setEng_held (e : Nat) (x : Eng) : (setEng s e x).held = s.held := rfl
@[simp] theorem setEng_withdrawn (e : Nat) (x : Eng) : (setEng s e x).withdrawn = s.withdrawn := rfl
@[simp] theorem setEng_denied (e : Nat) (x : Eng) : (setEng s e x).denied = s.denied := rfl
@[simp] theorem setEng_cru (e : Nat) (x : Eng) : (setEng s e x).cru = s.cru := rfl
@[simp] theorem setEng_ports (e : Nat) (x : Eng) : (setEng s e x).ports = s.ports := rfl
@[simp] theorem setEng_tmp (e : Nat) (x : Eng) : (setEng s e x).tmp = s.tmp := rfl
@[simp] theorem setEng_wrc (e : Nat) (x : Eng) : (setEng s e x).wrc = s.wrc := rfl
@[simp] theorem setEng_sbx (e : Nat) (x : Eng) : (setEng s e x).sbx = s.sbx := rfl
@[simp] theorem setEng_ent (e : Nat) (x : Eng) : (setEng s e x).ent = s.ent := rfl
@[simp] theorem setEng_lco (e : Nat) (x : Eng) : (setEng s e x).lco = s.lco := rfl
@[simp] theorem setEng_kvt (e : Nat) (x : Eng) : (setEng s e x).kvt = s.kvt := rfl
@[simp] theorem setEng_dom (e : Nat) (x : Eng) : (setEng s e x).dom = s.dom := rfl
@[simp] theorem setEng_jct (e : Nat) (x : Eng) : (setEng s e x).jct = s.jct := rfl
@[simp] theorem setEng_anchor (e : Nat) (x : Eng) : (setEng s e x).anchor = s.anchor := rfl
@[simp] theorem setEng_ctc (e : Nat) (x : Eng) : (setEng s e x).ctc = s.ctc := rfl
@[simp] theorem setEng_coh (e : Nat) (x : Eng) : (setEng s e x).coh = s.coh := rfl
@[simp] theorem setEng_incarn (e : Nat) (x : Eng) : (setEng s e x).incarn = s.incarn := rfl
@[simp] theorem setEng_ttb (e : Nat) (x : Eng) : (setEng s e x).ttb = s.ttb := rfl
@[simp] theorem setEng_spans (e : Nat) (x : Eng) : (setEng s e x).spans = s.spans := rfl
@[simp] theorem setEng_maps (e : Nat) (x : Eng) : (setEng s e x).maps = s.maps := rfl
@[simp] theorem setEng_trs (e : Nat) (x : Eng) : (setEng s e x).trs = s.trs := rfl
@[simp] theorem setEng_hgt (e : Nat) (x : Eng) : (setEng s e x).hgt = s.hgt := rfl
@[simp] theorem setEng_cce (e : Nat) (x : Eng) : (setEng s e x).cce = s.cce := rfl
@[simp] theorem setEng_imu (e : Nat) (x : Eng) : (setEng s e x).imu = s.imu := rfl
@[simp] theorem setEng_inc (e : Nat) (x : Eng) : (setEng s e x).inc = s.inc := rfl
@[simp] theorem setEng_evr (e : Nat) (x : Eng) : (setEng s e x).evr = s.evr := rfl
@[simp] theorem setEng_ttu (e : Nat) (x : Eng) : (setEng s e x).ttu = s.ttu := rfl
@[simp] theorem setEng_pmu (e : Nat) (x : Eng) : (setEng s e x).pmu = s.pmu := rfl
@[simp] theorem setEng_att (e : Nat) (x : Eng) : (setEng s e x).att = s.att := rfl
@[simp] theorem setEng_free (e : Nat) (x : Eng) : (setEng s e x).free = s.free := rfl
@[simp] theorem setEng_out (e : Nat) (x : Eng) : (setEng s e x).out = s.out := rfl
@[simp] theorem setEng_pending (e : Nat) (x : Eng) : (setEng s e x).pending = s.pending := rfl

/-! ### setPort -/

@[simp] theorem setPort_regs (q : Nat) (x : Port) : (setPort s q x).regs = s.regs := rfl
@[simp] theorem setPort_latch (q : Nat) (x : Port) : (setPort s q x).latch = s.latch := rfl
@[simp] theorem setPort_hold (q : Nat) (x : Port) : (setPort s q x).hold = s.hold := rfl
@[simp] theorem setPort_exps (q : Nat) (x : Port) : (setPort s q x).exps = s.exps := rfl
@[simp] theorem setPort_epochAll (q : Nat) (x : Port) : (setPort s q x).epochAll = s.epochAll := rfl
@[simp] theorem setPort_epochs (q : Nat) (x : Port) : (setPort s q x).epochs = s.epochs := rfl
@[simp] theorem setPort_held (q : Nat) (x : Port) : (setPort s q x).held = s.held := rfl
@[simp] theorem setPort_withdrawn (q : Nat) (x : Port) : (setPort s q x).withdrawn = s.withdrawn := rfl
@[simp] theorem setPort_denied (q : Nat) (x : Port) : (setPort s q x).denied = s.denied := rfl
@[simp] theorem setPort_cru (q : Nat) (x : Port) : (setPort s q x).cru = s.cru := rfl
@[simp] theorem setPort_tmp (q : Nat) (x : Port) : (setPort s q x).tmp = s.tmp := rfl
@[simp] theorem setPort_wrc (q : Nat) (x : Port) : (setPort s q x).wrc = s.wrc := rfl
@[simp] theorem setPort_sbx (q : Nat) (x : Port) : (setPort s q x).sbx = s.sbx := rfl
@[simp] theorem setPort_ent (q : Nat) (x : Port) : (setPort s q x).ent = s.ent := rfl
@[simp] theorem setPort_lco (q : Nat) (x : Port) : (setPort s q x).lco = s.lco := rfl
@[simp] theorem setPort_kvt (q : Nat) (x : Port) : (setPort s q x).kvt = s.kvt := rfl
@[simp] theorem setPort_dom (q : Nat) (x : Port) : (setPort s q x).dom = s.dom := rfl
@[simp] theorem setPort_jct (q : Nat) (x : Port) : (setPort s q x).jct = s.jct := rfl
@[simp] theorem setPort_anchor (q : Nat) (x : Port) : (setPort s q x).anchor = s.anchor := rfl
@[simp] theorem setPort_ctc (q : Nat) (x : Port) : (setPort s q x).ctc = s.ctc := rfl
@[simp] theorem setPort_coh (q : Nat) (x : Port) : (setPort s q x).coh = s.coh := rfl
@[simp] theorem setPort_engs (q : Nat) (x : Port) : (setPort s q x).engs = s.engs := rfl
@[simp] theorem setPort_incarn (q : Nat) (x : Port) : (setPort s q x).incarn = s.incarn := rfl
@[simp] theorem setPort_ttb (q : Nat) (x : Port) : (setPort s q x).ttb = s.ttb := rfl
@[simp] theorem setPort_spans (q : Nat) (x : Port) : (setPort s q x).spans = s.spans := rfl
@[simp] theorem setPort_maps (q : Nat) (x : Port) : (setPort s q x).maps = s.maps := rfl
@[simp] theorem setPort_trs (q : Nat) (x : Port) : (setPort s q x).trs = s.trs := rfl
@[simp] theorem setPort_hgt (q : Nat) (x : Port) : (setPort s q x).hgt = s.hgt := rfl
@[simp] theorem setPort_cce (q : Nat) (x : Port) : (setPort s q x).cce = s.cce := rfl
@[simp] theorem setPort_imu (q : Nat) (x : Port) : (setPort s q x).imu = s.imu := rfl
@[simp] theorem setPort_inc (q : Nat) (x : Port) : (setPort s q x).inc = s.inc := rfl
@[simp] theorem setPort_evr (q : Nat) (x : Port) : (setPort s q x).evr = s.evr := rfl
@[simp] theorem setPort_ttu (q : Nat) (x : Port) : (setPort s q x).ttu = s.ttu := rfl
@[simp] theorem setPort_pmu (q : Nat) (x : Port) : (setPort s q x).pmu = s.pmu := rfl
@[simp] theorem setPort_att (q : Nat) (x : Port) : (setPort s q x).att = s.att := rfl
@[simp] theorem setPort_free (q : Nat) (x : Port) : (setPort s q x).free = s.free := rfl
@[simp] theorem setPort_out (q : Nat) (x : Port) : (setPort s q x).out = s.out := rfl
@[simp] theorem setPort_pending (q : Nat) (x : Port) : (setPort s q x).pending = s.pending := rfl

/-! ### mapSpan -/

@[simp] theorem mapSpan_regs (n : Nat) (f : Span → Span) : (mapSpan s n f).regs = s.regs := rfl
@[simp] theorem mapSpan_latch (n : Nat) (f : Span → Span) : (mapSpan s n f).latch = s.latch := rfl
@[simp] theorem mapSpan_hold (n : Nat) (f : Span → Span) : (mapSpan s n f).hold = s.hold := rfl
@[simp] theorem mapSpan_exps (n : Nat) (f : Span → Span) : (mapSpan s n f).exps = s.exps := rfl
@[simp] theorem mapSpan_epochAll (n : Nat) (f : Span → Span) : (mapSpan s n f).epochAll = s.epochAll := rfl
@[simp] theorem mapSpan_epochs (n : Nat) (f : Span → Span) : (mapSpan s n f).epochs = s.epochs := rfl
@[simp] theorem mapSpan_held (n : Nat) (f : Span → Span) : (mapSpan s n f).held = s.held := rfl
@[simp] theorem mapSpan_withdrawn (n : Nat) (f : Span → Span) : (mapSpan s n f).withdrawn = s.withdrawn := rfl
@[simp] theorem mapSpan_denied (n : Nat) (f : Span → Span) : (mapSpan s n f).denied = s.denied := rfl
@[simp] theorem mapSpan_cru (n : Nat) (f : Span → Span) : (mapSpan s n f).cru = s.cru := rfl
@[simp] theorem mapSpan_ports (n : Nat) (f : Span → Span) : (mapSpan s n f).ports = s.ports := rfl
@[simp] theorem mapSpan_tmp (n : Nat) (f : Span → Span) : (mapSpan s n f).tmp = s.tmp := rfl
@[simp] theorem mapSpan_wrc (n : Nat) (f : Span → Span) : (mapSpan s n f).wrc = s.wrc := rfl
@[simp] theorem mapSpan_sbx (n : Nat) (f : Span → Span) : (mapSpan s n f).sbx = s.sbx := rfl
@[simp] theorem mapSpan_ent (n : Nat) (f : Span → Span) : (mapSpan s n f).ent = s.ent := rfl
@[simp] theorem mapSpan_lco (n : Nat) (f : Span → Span) : (mapSpan s n f).lco = s.lco := rfl
@[simp] theorem mapSpan_kvt (n : Nat) (f : Span → Span) : (mapSpan s n f).kvt = s.kvt := rfl
@[simp] theorem mapSpan_dom (n : Nat) (f : Span → Span) : (mapSpan s n f).dom = s.dom := rfl
@[simp] theorem mapSpan_jct (n : Nat) (f : Span → Span) : (mapSpan s n f).jct = s.jct := rfl
@[simp] theorem mapSpan_anchor (n : Nat) (f : Span → Span) : (mapSpan s n f).anchor = s.anchor := rfl
@[simp] theorem mapSpan_ctc (n : Nat) (f : Span → Span) : (mapSpan s n f).ctc = s.ctc := rfl
@[simp] theorem mapSpan_coh (n : Nat) (f : Span → Span) : (mapSpan s n f).coh = s.coh := rfl
@[simp] theorem mapSpan_engs (n : Nat) (f : Span → Span) : (mapSpan s n f).engs = s.engs := rfl
@[simp] theorem mapSpan_incarn (n : Nat) (f : Span → Span) : (mapSpan s n f).incarn = s.incarn := rfl
@[simp] theorem mapSpan_ttb (n : Nat) (f : Span → Span) : (mapSpan s n f).ttb = s.ttb := rfl
@[simp] theorem mapSpan_maps (n : Nat) (f : Span → Span) : (mapSpan s n f).maps = s.maps := rfl
@[simp] theorem mapSpan_trs (n : Nat) (f : Span → Span) : (mapSpan s n f).trs = s.trs := rfl
@[simp] theorem mapSpan_hgt (n : Nat) (f : Span → Span) : (mapSpan s n f).hgt = s.hgt := rfl
@[simp] theorem mapSpan_cce (n : Nat) (f : Span → Span) : (mapSpan s n f).cce = s.cce := rfl
@[simp] theorem mapSpan_imu (n : Nat) (f : Span → Span) : (mapSpan s n f).imu = s.imu := rfl
@[simp] theorem mapSpan_inc (n : Nat) (f : Span → Span) : (mapSpan s n f).inc = s.inc := rfl
@[simp] theorem mapSpan_evr (n : Nat) (f : Span → Span) : (mapSpan s n f).evr = s.evr := rfl
@[simp] theorem mapSpan_ttu (n : Nat) (f : Span → Span) : (mapSpan s n f).ttu = s.ttu := rfl
@[simp] theorem mapSpan_pmu (n : Nat) (f : Span → Span) : (mapSpan s n f).pmu = s.pmu := rfl
@[simp] theorem mapSpan_att (n : Nat) (f : Span → Span) : (mapSpan s n f).att = s.att := rfl
@[simp] theorem mapSpan_free (n : Nat) (f : Span → Span) : (mapSpan s n f).free = s.free := rfl
@[simp] theorem mapSpan_out (n : Nat) (f : Span → Span) : (mapSpan s n f).out = s.out := rfl
@[simp] theorem mapSpan_pending (n : Nat) (f : Span → Span) : (mapSpan s n f).pending = s.pending := rfl

/-! ### setInst -/

@[simp] theorem setInst_regs (i : Nat) (x : InstRec) : (setInst s i x).regs = s.regs := rfl
@[simp] theorem setInst_latch (i : Nat) (x : InstRec) : (setInst s i x).latch = s.latch := rfl
@[simp] theorem setInst_hold (i : Nat) (x : InstRec) : (setInst s i x).hold = s.hold := rfl
@[simp] theorem setInst_exps (i : Nat) (x : InstRec) : (setInst s i x).exps = s.exps := rfl
@[simp] theorem setInst_epochAll (i : Nat) (x : InstRec) : (setInst s i x).epochAll = s.epochAll := rfl
@[simp] theorem setInst_epochs (i : Nat) (x : InstRec) : (setInst s i x).epochs = s.epochs := rfl
@[simp] theorem setInst_held (i : Nat) (x : InstRec) : (setInst s i x).held = s.held := rfl
@[simp] theorem setInst_withdrawn (i : Nat) (x : InstRec) : (setInst s i x).withdrawn = s.withdrawn := rfl
@[simp] theorem setInst_denied (i : Nat) (x : InstRec) : (setInst s i x).denied = s.denied := rfl
@[simp] theorem setInst_cru (i : Nat) (x : InstRec) : (setInst s i x).cru = s.cru := rfl
@[simp] theorem setInst_ports (i : Nat) (x : InstRec) : (setInst s i x).ports = s.ports := rfl
@[simp] theorem setInst_tmp (i : Nat) (x : InstRec) : (setInst s i x).tmp = s.tmp := rfl
@[simp] theorem setInst_wrc (i : Nat) (x : InstRec) : (setInst s i x).wrc = s.wrc := rfl
@[simp] theorem setInst_sbx (i : Nat) (x : InstRec) : (setInst s i x).sbx = s.sbx := rfl
@[simp] theorem setInst_ent (i : Nat) (x : InstRec) : (setInst s i x).ent = s.ent := rfl
@[simp] theorem setInst_lco (i : Nat) (x : InstRec) : (setInst s i x).lco = s.lco := rfl
@[simp] theorem setInst_kvt (i : Nat) (x : InstRec) : (setInst s i x).kvt = s.kvt := rfl
@[simp] theorem setInst_dom (i : Nat) (x : InstRec) : (setInst s i x).dom = s.dom := rfl
@[simp] theorem setInst_jct (i : Nat) (x : InstRec) : (setInst s i x).jct = s.jct := rfl
@[simp] theorem setInst_anchor (i : Nat) (x : InstRec) : (setInst s i x).anchor = s.anchor := rfl
@[simp] theorem setInst_ctc (i : Nat) (x : InstRec) : (setInst s i x).ctc = s.ctc := rfl
@[simp] theorem setInst_coh (i : Nat) (x : InstRec) : (setInst s i x).coh = s.coh := rfl
@[simp] theorem setInst_engs (i : Nat) (x : InstRec) : (setInst s i x).engs = s.engs := rfl
@[simp] theorem setInst_incarn (i : Nat) (x : InstRec) : (setInst s i x).incarn = s.incarn := rfl
@[simp] theorem setInst_ttb (i : Nat) (x : InstRec) : (setInst s i x).ttb = s.ttb := rfl
@[simp] theorem setInst_spans (i : Nat) (x : InstRec) : (setInst s i x).spans = s.spans := rfl
@[simp] theorem setInst_maps (i : Nat) (x : InstRec) : (setInst s i x).maps = s.maps := rfl
@[simp] theorem setInst_trs (i : Nat) (x : InstRec) : (setInst s i x).trs = s.trs := rfl
@[simp] theorem setInst_hgt (i : Nat) (x : InstRec) : (setInst s i x).hgt = s.hgt := rfl
@[simp] theorem setInst_cce (i : Nat) (x : InstRec) : (setInst s i x).cce = s.cce := rfl
@[simp] theorem setInst_inc (i : Nat) (x : InstRec) : (setInst s i x).inc = s.inc := rfl
@[simp] theorem setInst_evr (i : Nat) (x : InstRec) : (setInst s i x).evr = s.evr := rfl
@[simp] theorem setInst_ttu (i : Nat) (x : InstRec) : (setInst s i x).ttu = s.ttu := rfl
@[simp] theorem setInst_pmu (i : Nat) (x : InstRec) : (setInst s i x).pmu = s.pmu := rfl
@[simp] theorem setInst_att (i : Nat) (x : InstRec) : (setInst s i x).att = s.att := rfl
@[simp] theorem setInst_free (i : Nat) (x : InstRec) : (setInst s i x).free = s.free := rfl
@[simp] theorem setInst_out (i : Nat) (x : InstRec) : (setInst s i x).out = s.out := rfl
@[simp] theorem setInst_pending (i : Nat) (x : InstRec) : (setInst s i x).pending = s.pending := rfl

/-! ### commitDone -/

@[simp] theorem commitDone_regs (r : Role) (off : Nat) : (commitDone s r off).regs = s.regs := rfl
@[simp] theorem commitDone_latch (r : Role) (off : Nat) : (commitDone s r off).latch = s.latch := rfl
@[simp] theorem commitDone_hold (r : Role) (off : Nat) : (commitDone s r off).hold = s.hold := rfl
@[simp] theorem commitDone_exps (r : Role) (off : Nat) : (commitDone s r off).exps = s.exps := rfl
@[simp] theorem commitDone_epochAll (r : Role) (off : Nat) : (commitDone s r off).epochAll = s.epochAll := rfl
@[simp] theorem commitDone_held (r : Role) (off : Nat) : (commitDone s r off).held = s.held := rfl
@[simp] theorem commitDone_withdrawn (r : Role) (off : Nat) : (commitDone s r off).withdrawn = s.withdrawn := rfl
@[simp] theorem commitDone_denied (r : Role) (off : Nat) : (commitDone s r off).denied = s.denied := rfl
@[simp] theorem commitDone_cru (r : Role) (off : Nat) : (commitDone s r off).cru = s.cru := rfl
@[simp] theorem commitDone_ports (r : Role) (off : Nat) : (commitDone s r off).ports = s.ports := rfl
@[simp] theorem commitDone_tmp (r : Role) (off : Nat) : (commitDone s r off).tmp = s.tmp := rfl
@[simp] theorem commitDone_wrc (r : Role) (off : Nat) : (commitDone s r off).wrc = s.wrc := rfl
@[simp] theorem commitDone_sbx (r : Role) (off : Nat) : (commitDone s r off).sbx = s.sbx := rfl
@[simp] theorem commitDone_ent (r : Role) (off : Nat) : (commitDone s r off).ent = s.ent := rfl
@[simp] theorem commitDone_lco (r : Role) (off : Nat) : (commitDone s r off).lco = s.lco := rfl
@[simp] theorem commitDone_kvt (r : Role) (off : Nat) : (commitDone s r off).kvt = s.kvt := rfl
@[simp] theorem commitDone_dom (r : Role) (off : Nat) : (commitDone s r off).dom = s.dom := rfl
@[simp] theorem commitDone_jct (r : Role) (off : Nat) : (commitDone s r off).jct = s.jct := rfl
@[simp] theorem commitDone_anchor (r : Role) (off : Nat) : (commitDone s r off).anchor = s.anchor := rfl
@[simp] theorem commitDone_ctc (r : Role) (off : Nat) : (commitDone s r off).ctc = s.ctc := rfl
@[simp] theorem commitDone_coh (r : Role) (off : Nat) : (commitDone s r off).coh = s.coh := rfl
@[simp] theorem commitDone_engs (r : Role) (off : Nat) : (commitDone s r off).engs = s.engs := rfl
@[simp] theorem commitDone_incarn (r : Role) (off : Nat) : (commitDone s r off).incarn = s.incarn := rfl
@[simp] theorem commitDone_ttb (r : Role) (off : Nat) : (commitDone s r off).ttb = s.ttb := rfl
@[simp] theorem commitDone_spans (r : Role) (off : Nat) : (commitDone s r off).spans = s.spans := rfl
@[simp] theorem commitDone_maps (r : Role) (off : Nat) : (commitDone s r off).maps = s.maps := rfl
@[simp] theorem commitDone_trs (r : Role) (off : Nat) : (commitDone s r off).trs = s.trs := rfl
@[simp] theorem commitDone_hgt (r : Role) (off : Nat) : (commitDone s r off).hgt = s.hgt := rfl
@[simp] theorem commitDone_cce (r : Role) (off : Nat) : (commitDone s r off).cce = s.cce := rfl
@[simp] theorem commitDone_imu (r : Role) (off : Nat) : (commitDone s r off).imu = s.imu := rfl
@[simp] theorem commitDone_inc (r : Role) (off : Nat) : (commitDone s r off).inc = s.inc := rfl
@[simp] theorem commitDone_evr (r : Role) (off : Nat) : (commitDone s r off).evr = s.evr := rfl
@[simp] theorem commitDone_ttu (r : Role) (off : Nat) : (commitDone s r off).ttu = s.ttu := rfl
@[simp] theorem commitDone_pmu (r : Role) (off : Nat) : (commitDone s r off).pmu = s.pmu := rfl
@[simp] theorem commitDone_att (r : Role) (off : Nat) : (commitDone s r off).att = s.att := rfl
@[simp] theorem commitDone_free (r : Role) (off : Nat) : (commitDone s r off).free = s.free := rfl
@[simp] theorem commitDone_pending (r : Role) (off : Nat) : (commitDone s r off).pending = s.pending := rfl

/-! ### The fields that the updates write -/

theorem setReg_regs (a : Nat) (v : Word) : (setReg s a v).regs = tblSet (regReset a) s.regs a v := rfl
theorem emit_out (o : Out) : (emit s o).out = s.out ++ [o] := rfl
@[simp] theorem regDone_out (r : Role) (off : Nat) (st : Status) (d : Word) :
    (regDone s r off st d).out = s.out ++ [⟨.reg, r.key, 0, st.code, off, leBytes 4 d.toNat⟩] := rfl
@[simp] theorem commitDone_out (r : Role) (off : Nat) :
    (commitDone s r off).out = s.out ++ [⟨.reg, r.key, 0, Status.ok.code, off, leBytes 4 0⟩] := rfl

/-! ### Reading back -/

/-- Reading a register is reading the register file. -/
theorem rawReg_of_regs {t : State} (h : t.regs = s.regs) (a : Nat) : rawReg t a = rawReg s a := by unfold rawReg; rw [h]

/-- A register reads what was stored in it. -/
@[simp] theorem rawReg_setReg_same (a : Nat) (v : Word) : rawReg (setReg s a v) a = v := tblGet_set_same _ _ _ _

/-- Storing at one offset leaves every other register as it was. -/
theorem rawReg_setReg_ne {a b : Nat} (v : Word) (h : b ≠ a) : rawReg (setReg s a v) b = rawReg s b := tblGet_set_ne _ _ _ _ h

theorem rawReg_setFld_ne {a b : Nat} (hi lo v : Nat) (h : b ≠ a) : rawReg (setFld s a hi lo v) b = rawReg s b := rawReg_setReg_ne s _ h

/-- A field of a register word reads what was written, cut to its width. -/
theorem getFld_setFld_same (a : Nat) {hi : Nat} (lo v : Nat) (h : hi < 32) : getFld (setFld s a hi lo v) a hi lo = v % 2 ^ (hi + 1 - lo) := by
  unfold getFld setFld; rw [rawReg_setReg_same]; exact getBits_putBits_same _ _ h

/-- Writing a field leaves the fields of the same word above and below it as they were. -/
theorem getFld_setFld_other (a : Nat) {hi lo hi' lo' : Nat} (v : Nat) (h : hi < lo' ∨ hi' < lo) :
    getFld (setFld s a hi' lo' v) a hi lo = getFld s a hi lo := by
  unfold getFld setFld; rw [rawReg_setReg_same]; exact getBits_putBits_other _ _ h

theorem getFld_setFld_ne {a b : Nat} (hi lo hi' lo' v : Nat) (h : b ≠ a) : getFld (setFld s a hi' lo' v) b hi lo = getFld s b hi lo := by
  unfold getFld; rw [rawReg_setFld_ne s hi' lo' v h]

/-- A bit reads what was written. -/
theorem regBit_setRegBit_same (a : Nat) {n : Nat} (b : Bool) (h : n < 32) : regBit (setRegBit s a n b) a n = b := by
  unfold regBit setRegBit; rw [getFld_setFld_same s a n _ h]; cases b <;> simp [b2n]

theorem regBit_setFld_ne {a b : Nat} (hi lo v n : Nat) (h : b ≠ a) : regBit (setFld s a hi lo v) b n = regBit s b n := by
  unfold regBit; rw [getFld_setFld_ne s _ _ _ _ _ h]

theorem regBit_setRegBit_ne {a b : Nat} (n m : Nat) (x : Bool) (h : b ≠ a) : regBit (setRegBit s a m x) b n = regBit s b n := regBit_setFld_ne s _ _ _ _ h

theorem regBit_setRegBit_other (a : Nat) {n m : Nat} (x : Bool) (h : n ≠ m) : regBit (setRegBit s a m x) a n = regBit s a n := by
  unfold regBit setRegBit; rw [getFld_setFld_other s a _ (by omega)]

/-- The state of a domain after it was set. -/
theorem domSt_setDom_same (d : Nat) (x : DomSt) : domSt (setDom s d x) d = x := tblFind_set_same _ _ _ _

theorem domSt_setDom_ne {d e : Nat} (x : DomSt) (h : e ≠ d) : domSt (setDom s d x) e = domSt s e := by
  unfold domSt setDom; simp only [tblFind_set_ne _ _ _ h]

end Sys2Proof.Machine
end

