-- ==== Sys2Proof/Machine/Pins.lean ====
section
/-!
DEFINITION. The pins of the block (03 Tables 03.2 to 03.6): the levels that it drives, which are a view of the state, and the parity that it generates
over what it puts out (R65).
-/
namespace Sys2Proof.Machine

/-! ### Parity (03 R65) -/

/-- The even-parity bit of a number of up to `w` bits: with it, the number of ones is even. -/
def parityOf (w v : Nat) : Bool := popCount w v % 2 = 1

/-- One even-parity bit per 8 bytes of a data bus, the first for bytes 0 to 7. -/
def dataParity : Nat → Bytes → List Bool
  | 0, _ => []
  | n + 1, b => parityOf 64 (leNat (b.take 8)) :: dataParity n (b.drop 8)

/-- Control fields in the order of their signal table, each with its width; the first field's least significant bit is bit 0 (log entry 115). -/
def ctrlBits : List (Nat × Nat) → Nat
  | [] => 0
  | (w, v) :: t => v % 2 ^ w + 2 ^ w * ctrlBits t

/-- One even-parity bit per 32 bits of control fields, the last group padded with zeros. -/
def ctrlParity (f : List (Nat × Nat)) : List Bool :=
  let n := (f.map Prod.fst).sum
  (List.range ((n + 31) / 32)).map (fun g => parityOf 32 (ctrlBits f / 2 ^ (32 * g) % 2 ^ 32))

/-- The control fields of a memory request: xx_WR, xx_ADDR, xx_MASK, xx_ID (03 Table 03.3). -/
def memCtrl (o : Out) : List (Nat × Nat) :=
  if o.num < 32 then [(1, b2n (o.port = .memWrite)), (25, o.addr / 512), (8, o.st), (8, o.tag)]
  else [(1, b2n (o.port = .memWrite)), (30, o.addr / 256), (4, o.st), (8, o.tag)]

/-- xx_CPAR of a memory request; the other ports carry no control parity outwards. -/
def Out.cpar (o : Out) : List Bool :=
  match o.port with
  | .memRead | .memWrite => if o.num < 40 then ctrlParity (memCtrl o) else []
  | _ => []

/-- The bytes on the data bus of an output, in whole beats: a memory write stands in the units of its mask; FM, LT, NR, HM and HT pad their last beat with zeros. -/
def Out.beats (o : Out) : Bytes :=
  let whole (n : Nat) (b : Bytes) : Bytes := b ++ zeros ((n - b.length % n) % n)
  match o.port with
  | .fm | .lt => whole 256 o.data
  | .memWrite => if o.num < 40 then whole (if o.num < 32 then 512 else 256) (zeros (64 * ((List.range 8).takeWhile (fun i => !o.st.testBit i)).length) ++ o.data) else []
  | .nr | .hmWrite | .ht | .reg => whole 128 o.data
  | _ => []

/-- The data parity of an output: FM_RPAR, xx_WPAR, LT_PAR, NR_PAR, HM_WPAR, HT_CPAR, one bit per 8 bytes. -/
def Out.dpar (o : Out) : List Bool := dataParity (o.beats.length / 8) o.beats

/-! ### Levels -/

/-- The levels that the block drives (03 Tables 03.2 to 03.6): the ready signals, the retraining and gauge requests, the DOE status, mesh, alarm, power switches,
clock outputs and ST_HELD. -/
structure Pins where
  fmReady : List Bool
  memTrainReq : List Bool
  linkTrainReq : List Bool
  linkGaugeReq : List Nat
  htReady : Bool
  hdBusy : Bool
  hdError : Bool
  dpReady : Bool
  tmMeshOut : Nat
  tmAlarmOut : Bool
  pswEn : BitVec 13
  ckoCry : Bool
  ckoCtl : Bool
  stHeld : Bool
deriving DecidableEq, Repr

/-- ST_HELD (03 R68, 04 R107): high while HELD, WITHDRAWN or in an L4, and from PORST_N until firmware is verified, which HELD spans. -/
def stHeld (s : State) : Bool := s.held || s.withdrawn || s.wrc.l4.isSome || s.cru.porst

/-- TM_ALARM_OUT (03 Table 03.6, 19 R496): high from the zeroise assertion until its release. -/
def tmAlarm (s : State) : Bool := regBit s (pgTmp + 0x040) 0

/-- LK_GAUGE_REQ of a span: the request that is out, else the gauge acknowledged (03 R83). -/
def gaugeReq (s : State) (n : Nat) : Nat := (spanAt s n).gauge.req.getD (getFld s (pgVdt n + 0x040) 14 13)

/-- The levels in a state. FM_READY is low while TTB holds a request of the port at ingress (03 Table 03.2); HT_READY and DP_READY are low and HD_BUSY is high
before CRU enters RUN (R68). -/
def State.pins (s : State) : Pins where
  fmReady := (List.range 40).map (fun e => windowOpen s && (engAt s e).ingress.isNone)
  memTrainReq := (List.range 40).map (fun e => (portAt s e).training)
  linkTrainReq := (List.range 18).map (fun n => (portAt s (40 + n)).training)
  linkGaugeReq := (List.range 18).map (gaugeReq s)
  htReady := windowOpen s
  hdBusy := !doeOpen s
  hdError := s.sbx.hdError
  dpReady := windowOpen s
  tmMeshOut := s.tmp.mesh % 2 ^ 16
  tmAlarmOut := tmAlarm s
  pswEn := s.cru.pswEn
  ckoCry := clocksRun s
  ckoCtl := clocksRun s
  stHeld := stHeld s

end Sys2Proof.Machine
end

