-- ==== Sys2Proof/WellFormed.lean ====
section
/-!
DEFINITION. Which commands can come: the lengths that the ports and the messages fix (03 Tables 03.1 to 03.6, 08 R208, 10 R275, 15 Table 15.9, 20 Table 20.3). The types of the
operands fix every other width.
-/
namespace Sys2Proof
open Sys2Proof.Machine

/-- What a read gives has `n` bytes where it gives an entry. -/
def entryOf (n : Nat) : KtabRead → Bool
  | .entry b => b.length = n
  | .unwritten => true
  | .fail st => st != .ok && st != .unwritten

/-- The bytes of a host-initiated access of `len` double words; 0 stands for 256 (03 Table 03.5). -/
def accessBytes (len : BitVec 8) : Nat := if len = 0 then 1024 else len.toNat * 4

/-- A command that can come. -/
def Instr.wellFormed : Instr → Bool
  | .portClockWindow edges => edges.length = 59
  | .rootAttemptDone array => array.length = 2048
  | .dlBegin _ _ cmd _ _ _ => cmd != 2 && cmd != 3 && cmd != 5
  | .registerWrite _ _ _ _ kt _ _ _ => entryOf 128 kt || entryOf 32 kt
  | .generate _ _ _ kt _ => entryOf 128 kt
  | .keyExport _ _ _ kt => entryOf 128 kt
  | .keyImport _ _ kt _ => entryOf 128 kt
  | .kvtStep _ _ _ kt => entryOf 128 kt
  | .retireWritebackDone _ kt => entryOf 128 kt
  | .keyLoadDone _ kt => entryOf 128 kt
  | .fmRequestSample _ _ _ _ _ _ _ _ _ _ _ wdata _ _ _ => wdata.length = 256
  | .memReadData _ _ data _ _ => data.length ≤ 512
  | .metadataFillReturn _ _ data _ _ => data.length ≤ 512
  | .resealCheckpointAck _ data => data.length = 64
  | .cohDataReceive _ _ _ _ _ line => line.length = 64
  | .wbReceive _ _ _ _ _ line => line.length = 64
  | .writeCtReceive _ _ _ _ _ _ data => data.length = 128
  | .hostMemAccess _ wr _ len data _ _ => !wr || data.length = accessBytes len
  | .keyShare _ _ _ kt _ => entryOf 128 kt
  | .joinConfirm _ _ sig => sig.length = 4627
  | .joinConfirmed _ sig => sig.length = 4627
  | .bind _ _ _ _ kt => entryOf 128 kt
  | .mbStep _ _ _ _ kt => entryOf 128 kt
  | .evrRecordLoad _ _ rd => entryOf 32 rd
  | .pmuRecordLoad _ _ rd => entryOf 32 rd
  | .porstNAssert | .porstNRelease | .lcDecode | .pllLockRise | .pllLockFall | .pllLockTimeout | .pllResetHoldEnd | .pllStabilityCountDone
  | .aonStableCountDone | .pswAckReceived .. | .pswAckTimeout .. | .domainIsolationRelease .. | .domainResetRelease .. | .domainOffDrained ..
  | .domainOffWritebackDone .. | .sscCtrlWrite .. | .sscApply | .sleepEnter .. | .sleepExit .. | .sleepEnginesIdle | .sleepEntryTimeout
  | .wakeClocksRestarted | .portWakeTimeout .. | .clkEnWrite .. | .gateUnitIdle .. | .gateIdleTimeout .. | .pwrCtrlWrite .. | .pwrOffIdleCheck ..
  | .thermalWarningStart .. | .thermalWarningEnd .. | .portUpSignalChange .. | .portTrainDone .. | .gaugeWindow .. | .gaugeAck ..
  | .gaugeAckTimeout .. | .gaugeRequestRepeat .. | .rcCounterRead .. | .pairLowRead .. | .pairHighWrite .. | .pairLowWrite .. | .pairLatchExpire ..
  | .registerAccessTimeout .. | .pageEnableWrite .. | .pageSreset .. | .expEpochWrite .. | .errStatClear .. | .errInjWrite .. | .sbxResetRelease
  | .pufOffPeriodEnd | .entSample .. | .entStartupSetDone .. | .drbgInstantiated | .keygenQueueTimeout | .entDrbgRead ..
  | .drbgReseedDue | .drbgReseedDone | .doeDiscovery .. | .dlChunk .. | .dlEnd .. | .dlCancel .. | .doeAbort | .dlIdleTimeout
  | .reloadFetchDone .. | .reloadFetchFail | .reloadTimeout | .verifyDone | .measureDone | .measExtend .. | .measExtendDone | .arbTargetWrite ..
  | .lcGo .. | .dbgUnlock .. | .dbgClose .. | .tokenCompareDone | .otpPulseDone .. | .otpProg .. | .otpRead .. | .dbgDataRead .. | .sbxHalt ..
  | .sbxResume .. | .load .. | .unpin .. | .stepKtabWriteDone .. | .retire .. | .retireDrainDone .. | .retireKtabWriteDone .. | .enrol ..
  | .enrolComplete | .joinKeygen .. | .joinRespond .. | .joinDecap .. | .joinFinish .. | .epochGenerate .. | .epochWrap .. | .epochLoad ..
  | .epochSend .. | .epochKeyErase | .pairKeyDelivered .. | .keyLoadWaitTimeout .. | .slotRemask | .jctGo .. | .jctCommitJudged | .jctRestage ..
  | .jctCopySweep .. | .jctEntryReload .. | .resetListRangeDone .. | .orderFlagProceed | .requestAdmit .. | .memWritePresent .. | .memWriteAck ..
  | .prefetchDepthAdjust | .prefetchOverrideEnd | .ctcPartWrite .. | .ctcPartChangeDone | .ctcPfWrite .. | .resealFinish .. | .getsReceive ..
  | .getoReceive .. | .invReceive .. | .invAckReceive .. | .recallReceive .. | .recallAnswer .. | .wbAckReceive .. | .nackReceive .. | .nackRetry ..
  | .wbHoldTimeout .. | .recallRepeat .. | .invRepeat .. | .lrFrameStart .. | .lrFrameEnd .. | .homeMreqHandover .. | .ntFrameStart ..
  | .ntFrameEnd .. | .spanEgressAdmit .. | .responseTimeout .. | .peerGoneTimeout .. | .flowCmdOpen .. | .flowCmdClose .. | .flowCmdLoad ..
  | .creditReturnDue .. | .credTmoExpire .. | .dspStart .. | .dspStop .. | .dspCmdLoad .. | .dispatchRound .. | .dispatchSlot ..
  | .dispatchLateSend .. | .ctDescriptor .. | .trsContribution .. | .chunkEnd .. | .trsNochunkTimeout .. | .chunkTimeout .. | .h2dDoorbell ..
  | .d2hDoorbell .. | .h2dRecord .. | .h2dRecordAccessesDone .. | .d2hRecordAcked .. | .hgtChOpen .. | .hgtChClose .. | .hiAck | .hiAckTimeout
  | .eqRecordAcked .. | .eqConsWrite .. | .msiGapEnd | .spdmRequest .. | .spdmGetCertificate .. | .spdmGetMeasurements .. | .spdmKeyExchange ..
  | .spdmEndSession .. | .sessionIdleTimeout .. | .pqAttest .. | .pqCert .. | .sessionBind .. | .channelOpen .. | .channelClose .. | .flowOpen ..
  | .joinOffer .. | .joinAccept .. | .joinEpoch .. | .joinLoaded .. | .joinSend .. | .joinSent .. | .joinPeerTimeout .. | .ideKmQuery ..
  | .ideKmKeyProg .. | .ideKmKSetGo .. | .ideKmKSetStop .. | .poll | .deliver .. | .certPut .. | .domainPlan .. | .domainAdd .. | .domainGo
  | .cceQOpen .. | .cceQClose .. | .cceDoorbell .. | .cceDescFetched .. | .cceDescEnd .. | .create .. | .pasidAdd .. | .pasidDel .. | .slice ..
  | .scratch .. | .unbind .. | .instanceReset .. | .switch .. | .destroy .. | .ctxLose .. | .objPage .. | .objCreate .. | .objDestroy ..
  | .instanceDrainDone .. | .scrubDone .. | .scrubTimeout .. | .switchBlockScrubDone .. | .sigGo .. | .waitArm .. | .waitCancel ..
  | .interruptDeliver .. | .incDone .. | .instDone .. | .incHoldWrite .. | .incSourceWrite .. | .mgrmbPop .. | .evrRecordWrite
  | .evrSpillWriteDone .. | .evrFreeze .. | .evrUnfreeze .. | .evrFreezeTimeout | .evrClear .. | .evrClearDone | .evrClrDigestWrite .. | .setGo ..
  | .aonChangeover | .aonEdgeLoss | .aonRediscipline | .timeEndOfRange | .nowDateRead .. | .nowLatchExpire .. | .pmuEnWrite .. | .pmuIntervalClose ..
  | .pmuSlotWriteDone .. | .engineWatchdog .. | .sbxWatchdogExpire | .sbxKick .. | .memoryPortSilence .. | .heartbeatMiss | .l1End .. | .l2End ..
  | .l3End .. | .l4DrainDone | .l4RetrainDone | .levelTimeout .. | .replayDryRunEnd .. | .wrcResume .. | .meshCheck .. | .tamperAlarm ..
  | .zeroiseRelease | .registerRead .. | .lockstepMismatch | .supplyLoss | .domainHeldOffEnd .. | .chunkRowsCleared .. => true

end Sys2Proof
end

