-- ==== Sys2Proof/Tests/Slice0.lean ====
section
/-!
SUPPORT. Tests of the model: a witness for each clause of each statement, ill-formed commands that the check refuses, and the spec's own examples.
-/
set_option maxRecDepth 100000
set_option linter.all false
set_option Elab.async false
open Sys2Proof Sys2Proof.Machine
namespace Sys2Proof.Tests

/-! ### States -/

/-- CRU in RUN with every domain on. -/
def tCru : Cru := { Cru.reset with st := .run, porst := false, dom := (List.range 13).map (fun d => (d, DomSt.on)), pswEn := 0x1FFF, pswAck := 0x1FFF }
/-- LCO after its decode, with every engine and span declared present. -/
def tLco : Lco := { Lco.reset with lc := .fielded, decoded := true, otp := [(6, 0x108FF#32), (7, 0x3FFFF#32)] }
/-- A running block: RUN, decoded, SBX running, nothing held. -/
def tRun : State := { State.reset with cru := tCru, held := false, sbx := { Sbx.reset with boot := .running }, lco := tLco }
/-- A running block with another CRU. -/
def tWith (c : Cru) : State := { tRun with cru := c }
/-- A running block with a domain in a step of its switching. -/
def tDom (d : Nat) (x : DomSt) : State := setDom tRun d x

/-- A running block with another SBX. -/
def tSbx (x : Sbx) : State := { tRun with sbx := x }
/-- A running block with its root, its binding nonce, a ready generator, and KTAB in use in pages of class S. -/
def tKeys : State :=
  setRegBit { tRun with
    kvt := { Kvt.reset with rootSt := .ready, root := some Masked.zero, dkek := some Masked.zero, bn := some (zeros 32), scramble := some 0, maskGen := some 0 }
    ent := { Ent.reset with st := .ready, drbg := some 0 }
    jct := { Jct.reset with active := [(0, ⟨true, 0, 0xFFFF, .s, 0xFF03, 0, 0, false, false, false⟩)] } } (pgKvt + 0x050) 31 true
/-- `tKeys` with a change of KVT. -/
def tKvt (f : Kvt → Kvt) : State := { tKeys with kvt := f tKeys.kvt }
/-- A LIVE slot of a KeyID. -/
def tSlot (k : Nat) : Slot := ⟨k, .live, some (Bank.empty, Bank.empty), false, false, .pool, 0, 1, 0, 0⟩
/-- A running block with KeyID 1 in a slot. -/
def tSlotted : State := tKvt (fun x => { x with slots := [(0, tSlot 1)] })
/-- A blob of a type, KeyID and epochs with a zero body. -/
def tBlob (ty k e d : Nat) : Bytes := [0x42, 0x4B, 0x01, BitVec.ofNat 8 ty] ++ leBytes 2 k ++ zeros 2 ++ leBytes 4 e ++ leBytes 4 d ++ zeros 96
/-- A KTAB entry with a key. -/
def tKent (k : Nat) : Bytes := [0x01, 0x00] ++ leBytes 2 k ++ leBytes 4 1 ++ leBytes 4 1 ++ zeros 4 ++ tBlob 1 k 1 0
/-- A running block whose LCO is in a state, with an operation. -/
def tLc (l : Lc) (op : Option LcoOp) : State := { tRun with lco := { tLco with lc := l, op := op } }

/-- Words stored in the register file. -/
def tRegs (s : State) (l : List (Nat × Word)) : State := l.foldl (fun t x => setReg t x.1 x.2) s
/-- A port that is up. -/
def tPort : Port := ⟨true, true, 100, false, false, true⟩
/-- The record of an instance that is ACTIVE. -/
def tInst : InstRec := { InstRec.free with st := .active }
/-- A JCT entry of class P over pages 0 to 0xFFFF. -/
def tEntry : JEntry := ⟨true, 0, 0xFFFF, .p, 0, 0, 0, true, true, false⟩
/-- `tKeys` with the units in service, the ports of MEA 0, MEA 1 and span 0 up, instance 0 ACTIVE with PASID 0, and pages in class P. -/
def tFab : State :=
  { tRegs tKeys [(0x0A000C, 1), (0x0C000C, 1), (0x0E000C, 1), (0x0E100C, 1), (0x12000C, 1), (0x14000C, 1), (0x14100C, 1), (0x16000C, 1), (0x18000C, 1),
      (0x1A000C, 1), (0x1C000C, 1), (0x1E000C, 1), (0x26000C, 1), (0x40000C, 1), (0x400048, 0x00080040), (0x40004C, 0x00101008)] with
    ports := [(0, tPort), (1, tPort), (40, tPort), (41, tPort), (58, tPort)]
    imu := { Imu.reset with inst := [(0, tInst)], pasids := [(0, 0)] }
    jct := { Jct.reset with active := [(0, tEntry)] } }
/-- `tFab` with a change of engine 0. -/
def tEng (f : Eng → Eng) : State := setEng tFab 0 (f (engAt tFab 0))
/-- A read of granule 0 of page 0 by PASID 0. -/
def tReq : Req := ⟨.fm, 0, 0, 0, 0, 0, 1, 0, 0, 0, 0, zeros 256, List.replicate 256 false, some 0, 0⟩
/-- An admitted read of class P that waits for its data. -/
def tAdm : Adm := ⟨tReq, ⟨some 0, 0, 0, 0, 0, .p, 0, 0, 0, 0⟩, [], [], [], [], .readWait, false, 0, 0⟩
/-- A resident counter line of page 0 of engine 0. -/
def tCtr : Line := ⟨0, .ctr, 0, 0, 1, 1, 0, false, 0, none, 0, false, .ctr 0 (List.replicate 32 0) false false⟩
/-- A re-seal of page 0 that has read everything and holds its five lines. -/
def tResl : Reseal := ⟨0, none, 0, 0, [], .granules, 0, [], [], [], (LineKind.ctr, 0) :: (List.range 4).map (fun k => (LineKind.tag, k))⟩
/-- A span whose memory-flow map reaches member 1, with flow 0. -/
def tSpan (s : State) : State := mapSpan s 0 (fun x => { x with mf := [(1, 0x80000000)] })
/-- A directory entry of page 0 of engine 0. -/
def tDir (st : DirSt) : DirEntry := ⟨0, 0, st, 1, [], none, 0, 0, [], 0, true⟩
/-- A home with the line of page 0, its directory entry, and a span to member 1. -/
def tHome (d : DirEntry) : State := { tSpan tFab with ctc := { Ctc.reset with lines := [tCtr] }, coh := { Coh.reset with dir := [d] } }
/-- A copy of a line of member 1. -/
def tCopy (owned recalled retained : Bool) : Copy := ⟨1, 0, 0, owned, 1, .ctr 0 (List.replicate 32 0) false false, 0, recalled, retained⟩
/-- A member that holds a copy of a line of member 1. -/
def tMember (c : Copy) : State := { tSpan tFab with coh := { Coh.reset with copies := [c] } }

/-- A flow of kind 0 to member 1. -/
def tFlow : Flow := { Flow.zero with valid := true, peerId := 1 }
/-- `tFab` in epoch 1 with flow 5 of span 0 open, both its keys held, and members 0 and 1 in the map. -/
def tLink : State :=
  mapSpan { setReg tFab (pgVdt 0 + 0x044) 0x1234 with dom := { tFab.dom with epoch := 1 }, kvt := { tFab.kvt with pos0 := some ⟨1, Masked.zero⟩ }, maps := [(0, 3)] } 0
    (fun x => { x with flows := [(5, tFlow)], keys := [⟨5, false, 1, zeros 32⟩, ⟨5, true, 1, zeros 32⟩], peers := [(1, ⟨0, 0, some 0⟩)] })
/-- `tLink` with a change of span 0. -/
def tLk (f : Span → Span) : State := mapSpan tLink 0 f
/-- `tLink` with a change of flow 5. -/
def tLf (f : Flow → Flow) : State := tLk (fun x => { x with flows := [(5, f tFlow)] })
/-- A sealed frame of a type from member 1 on flow 5 in epoch 1. -/
def tSeal (ty : Byte) : Bytes := [ty, 0, 0, 1, 0, 5] ++ zeros 8 ++ [0, 0, 0, 1, 0, 0, 0, 0, 0, 32, 0] ++ zeros 55
/-- That frame of type 1 in its Ethernet, IPv6 and UDP headers. -/
def tFrame : Bytes := zeros 12 ++ [0x86, 0xDD, 0x60, 0, 0, 0, 0, 88, 17, 0] ++ zeros 32 ++ [0, 0, 0x12, 0x34, 0, 88, 0, 0] ++ tSeal 0x11
/-- A payload for flow 5. -/
def tNi : NiItem := ⟨1, 5, 0, 0, 0, some 0, 0, 0, [], none⟩
/-- A dispatch entry of flow 5. -/
def tDsp : Dsp := ⟨5, 4, 100, 10, false, false, [], 0, [], none⟩
/-- `tLink` with a dispatch entry 3. -/
def tDs (d : Dsp) : State := tLk (fun x => { x with dsp := [(3, d)] })
/-- A request of an FM port that waits for its response. -/
def tOut : OutReq := ⟨tReq, 0, 5, 0, 0, 1, none⟩
/-- `tFab` with every accumulator lane in instance 0 and KeyID 1 bound to it. -/
def tRed : State := { setReg tFab (instPage 0 + 0x04C) 0xFF000000 with imu := { tFab.imu with binds := [(1, [0])] } }
/-- A descriptor of handle 9 that writes 32 elements of format 0 under KeyID 1, one contribution each. -/
def tDsc : BitVec 256 := BitVec.ofNat 256 (9 + 2 ^ 56 + 32 * 2 ^ 64 + 2 ^ 80 + 2 ^ 144)
/-- The chunk of `tDsc` after its clearing. -/
def tChunk (summed : Bool) : Chunk := ⟨7, 0, 0, tdesc tDsc, 0, 2, 0, [], 0, [], [], [], 0, summed⟩
/-- `tRed` with a TRS. -/
def tTrs (f : Trs → Trs) : State := { tRed with trs := f tRed.trs }

/-- A channel pair of instance 0 under KeyID 1 with rings of two records. -/
def tPair : Pair := ⟨0, 0, 1, 0, 15, ⟨0, 12, 1⟩, ⟨0x4000, 12, 1⟩, zeros 32, zeros 32, false, none, 0, 0, 0, 0, 0⟩
/-- `tFab` with a change of the HGT. -/
def tHg (f : Hgt → Hgt) : State := { tFab with hgt := f tFab.hgt }
/-- `tFab` with pair 63 open, its state, and a record of it. -/
def tPr (x : Pair) (l : List HgtRec) : State := tHg (fun h => { h with pairs := [(63, x)], recs := l })
/-- A record of pair 63 whose accesses are done. -/
def tRec (acking : Bool) : HgtRec := ⟨63, false, 4, 0, 0, 0, 0, acking, [], [], [], false⟩
/-- A session. -/
def tSes : Session := ⟨none, zeros 32, false, 0, none, 0, none, zeros 48, none⟩
/-- `tFab` at a time of STC. -/
def tAt (n : Nat) : State := { tFab with ttu := { tFab.ttu with c := n } }
/-- `tFab` with a change of the attestation state. -/
def tAtt (f : Att → Att) : State := { tFab with att := f tFab.att }
/-- `tFab` with session 7. -/
def tSn (x : Session) : State := tAtt (fun a => { a with sessions := [(7, x)] })
/-- A plan. -/
def tPlan (leader : Bool) : Plan := ⟨1, leader, 2, 0, zeros 48⟩
/-- A joiner in a stage. -/
def tJn (st : JoinStage) (polled : Option Nat) : Joiner := ⟨3, 0, st, zeros 48, zeros 1716, zeros 48, zeros 32, polled, true⟩
/-- A leader with one joiner, from `tFab` at a time. -/
def tLead (go : Bool) (j : Joiner) (n : Nat) : State := { tAt n with att := { tFab.att with plan := some (tPlan true), joiners := [j], going := go } }
/-- A policy of one measurement and one digest. -/
def tPol : Bytes := [1] ++ zeros 48 ++ [1] ++ zeros 48
/-- A joiner with session 7 and its plan. -/
def tJoin (x : Session) (leader : Bool) : State := { tKeys with att := { tKeys.att with sessions := [(7, x)], plan := some (tPlan leader) } }

/-- `tFab` with a change of instance 0. -/
def tMb (f : InstRec → InstRec) : State := { tFab with imu := { tFab.imu with inst := [(0, f tInst)] } }
/-- `tFab` with bindings. -/
def tBnd (l : List (Nat × List Nat)) : State := { tFab with imu := { tFab.imu with binds := l } }
/-- `tFab` with KeyID 1 bound to instance 0, page 0 in class S under it, and object 5 there. -/
def tObj (o : Obj) : State :=
  { tMb (fun x => { x with objPage := some 0, objs := [(5, o)] }) with
    imu := { (tMb (fun x => { x with objPage := some 0, objs := [(5, o)] })).imu with binds := [(1, [0])] }
    jct := { Jct.reset with active := [(0, { tEntry with cls := .s, ksrc := 1 })] } }
/-- A sequence of a command whose drain is over or not. -/
def tSeq (cmd : Nat) (d : Bool) : InstSeq := ⟨cmd, 7, d, [], none, false, [], [], false, zeros 48⟩
/-- `tFab` at a time with a sequence in instance 0. -/
def tSq (st : InstSt) (q : InstSeq) (n : Nat) : State :=
  { tMb (fun x => { x with st := st, seq := some q, mWait := some ⟨q.cmd, 7, 0, .unwritten⟩ }) with ttu := { tFab.ttu with c := n } }
/-- A job of a cipher queue in a stage. -/
def tJob (st : CceStage) : CceJob :=
  ⟨0, 0, st, zeros 128, 0, [], 0, [], [], [], [], 0, 0, [], [], [], [], [], 0, 0, false, false, 0, none, [], false, 0⟩
/-- An open queue of four entries of instance 0. -/
def tCq : CceQ := { CceQ.zero with opened := true, log2 := 2 }
/-- `tFab` with cipher queue 15. -/
def tCe (x : CceQ) : State := { tFab with cce := { tFab.cce with queues := [(15, x)] } }

/-- An act of a source in an instance, delivered or not. -/
def tAct (src : Nat) (inst : Option Nat) (d : Bool) : Act := ⟨src, inst, d, false, 0, 0, 0, 0, 0⟩
/-- `tFab` with acts. -/
def tInc (l : List Act) : State := { tFab with inc := { tFab.inc with acts := l } }
/-- A record of severity 0 at a time. -/
def tRc (time : Nat) : Rec := ⟨0x0101, 0, 0x06, 0, none, time, 0, 0, 0⟩
/-- `tFab` at 20 ms with a change of the recorder after its first record. -/
def tEv (f : Evr → Evr) : State := { tAt 20000000 with evr := f { tFab.evr with nextSeq := 1 } }
/-- A freeze that began at 10 ms. -/
def tFz : Freeze := ⟨0, 0, 0, 10000000⟩
/-- `tFab` with a change of the clock. -/
def tCk (f : Ttu → Ttu) : State := { tFab with ttu := f tFab.ttu }
/-- A PMU that counts, at a time. -/
def tPm (n : Nat) (f : Pmu → Pmu) : State := { tRegs (tAt n) [(pgPmu + 0x040, 1), (pgPmu + 0x044, 1000)] with pmu := f tFab.pmu }
/-- `tFab` at a time with a change of the WRC. -/
def tWr (n : Nat) (f : Wrc → Wrc) : State := { tAt n with wrc := f tFab.wrc }
/-- A recovery of a level in the MEA 0 engine. -/
def tRv (level : Nat) : Recov := ⟨level, uMea, 0, 0, 0, false⟩
/-- A replay of engine 0 with its suspects. -/
def tRp (l : List Suspect) : Replay := ⟨engPage 0, l, 0, [], true, none⟩

/-- The message of an array and of helper bits that are all zero. -/
def tMsg : Bytes := pufPack (List.replicate 524 false)
/-- A running block whose helper area holds zero helper bits and the check value of that message. -/
def tPuf (n : Nat) : State :=
  { tRun with
    kvt := { Kvt.reset with rootSt := .attempt n }
    lco := { tLco with otp := (0x100, helperHeader) :: (List.range 12).map (fun k => (0x100 + 2041 + k, wordAt (kPufCheck tMsg) k)) } }


theorem puf_otp (n a : Nat) : otpWord (tPuf n) a =
    (if a = 0x100 then some helperHeader else tblFind ((List.range 12).map (fun j => (0x100 + 2041 + j, wordAt (kPufCheck tMsg) j))) a).getD 0 := rfl

theorem find_check (a : Nat) (l : List Nat) :
    tblFind (l.map (fun j => (0x100 + 2041 + j, wordAt (kPufCheck tMsg) j))) a = if 2297 ≤ a ∧ a - 2297 ∈ l then some (wordAt (kPufCheck tMsg) (a - 2297)) else none := by
  induction l with
  | nil => simp [tblFind]
  | cons x l ih =>
    rw [List.map_cons, tblFind, ih]
    by_cases e : a = 0x100 + 2041 + x
    · subst e; simp
    · rw [if_neg e]
      have : a - 2297 = x → ¬ 2297 ≤ a := by omega
      by_cases g : 2297 ≤ a
      · have : a - 2297 ≠ x := by omega
        simp [g, this]
      · simp [g]

theorem helper_zero (n k : Nat) (h : k < 2040) : (helperWords (tPuf n)).getD (1 + k) 0 = 0 := by
  rw [helperWords_getD _ _ (by omega), puf_otp, find_check, if_neg (by omega), if_neg (by omega)]; rfl

theorem groupBit_zero (n g : Nat) (h : g < 1020) : groupBit [] (helperWords (tPuf n)) g = false := by
  have a : ∀ k, k < 2 → (helperWords (tPuf n)).getD (1 + 2 * g + k) 0 = 0 := fun k hk => by
    rw [Nat.add_assoc]; exact helper_zero n (2 * g + k) (by omega)
  simp only [groupBit, a 0 (by decide), a 1 (by decide), List.getD_nil]
  rfl

theorem groupWord_zero (n j : Nat) (h : j < 4) : groupWord [] (helperWords (tPuf n)) j = List.replicate 255 false := by
  apply List.ext_getElem (by simp [groupWord])
  intro i hi _
  have hi' : i < 255 := by simpa [groupWord] using hi
  rw [List.getElem_replicate]
  simp only [groupWord, List.getElem_map, List.getElem_range]
  exact groupBit_zero n _ (by omega)

theorem check_words (n : Nat) : ((helperWords (tPuf n)).drop 2041).take 12 = (List.range 12).map (wordAt (kPufCheck tMsg)) := by
  apply List.ext_getElem (by simp [helperWords])
  intro i hi _
  have hi' : i < 12 := by simp [helperWords] at hi; omega
  simp only [helperWords, List.getElem_take, List.getElem_drop, List.getElem_map, List.getElem_range]
  rw [puf_otp, find_check, if_neg (by omega), if_pos ⟨by omega, List.mem_range.mpr (by omega)⟩]
  show wordAt _ _ = _
  congr 1; omega

/-- 08 R200, R201: an array without errors against helper bits of the zero codewords gives their message, whose check value the helper area holds. -/
theorem test_puf_regenerates (n : Nat) : pufMessage [] (helperWords (tPuf n)) = some tMsg := by
  have hm : (List.replicate 255 false).drop 124 ++ (List.replicate 255 false).drop 124 ++ (List.replicate 255 false).drop 124 ++ (List.replicate 255 false).drop 124
      = List.replicate 524 false := by decide
  have hz : ∀ j, j < 4 → bchDecode (groupWord [] (helperWords (tPuf n)) j) = some (List.replicate 255 false) := fun j hj => by
    rw [groupWord_zero n j hj]; exact bchDecode_codeword _ List.length_replicate (bchSyndrome_zeros 255)
  have hl : (List.range 4).map (fun j => bchDecode (groupWord [] (helperWords (tPuf n)) j)) =
      [some (List.replicate 255 false), some (List.replicate 255 false), some (List.replicate 255 false), some (List.replicate 255 false)] := by
    simp only [show List.range 4 = [0, 1, 2, 3] from rfl, List.map_cons, List.map_nil, hz 0 (by decide), hz 1 (by decide), hz 2 (by decide), hz 3 (by decide)]
  have hh : (helperWords (tPuf n)).getD 0 0 = helperHeader := by rw [helperWords_getD _ _ (by decide), puf_otp, if_pos rfl]; rfl
  have h := pufMessage_of [] (helperWords (tPuf n)) _ _ _ _ hl hh (by rw [hm]; exact check_words n)
  rw [hm] at h
  exact h

/-! ### Witnesses: for each clause of each statement, a state and operands that meet its hypotheses -/

theorem test_witness_StepTakesTheFrontCommand :
    ∃ (s : State), s.pending = [] :=
  ⟨tRun, by decide⟩

theorem test_witness_FrameOfEveryCommand :
    ∃ (c : Instr), Part.otp ∈ touches c :=
  ⟨.porstNAssert, by decide⟩

theorem test_witness_OtpBitsStayProgrammed :
    ∃ (s t : State), step s = .next t :=
  ⟨tRun, tick tRun, rfl⟩

theorem test_witness_ClosedWindowTakesNoAccess :
    ∃ (c : Instr) (a : RegAcc) (s : State), accessOf c = some a ∧ windowOpen s = false :=
  ⟨.evrFreeze .m, ⟨.m, pgEvr + 0x04C, true, true⟩, State.reset, by decide⟩

theorem test_witness_UnreachedAccessIsDenied :
    (∃ (c : Instr) (a : RegAcc) (s : State), accessOf c = some a ∧ a.role.kind ≠ .x ∧ windowOpen s = true ∧ reaches s a.role a.off a.wr = false) ∧
    (∃ (c : Instr) (a : RegAcc) (s : State), accessOf c = some a ∧ a.role.kind = .x ∧ windowOpen s = true) :=
  ⟨⟨.sscCtrlWrite (.t 0) 0, ⟨.t 0, pgCru + 0x040, true, false⟩, tRun, by decide⟩,
   ⟨.sscCtrlWrite (.x 300) 0, ⟨.x 300, pgCru + 0x040, true, false⟩, tRun, by decide⟩⟩

theorem test_witness_GatedAndResettingPages :
    (∃ (c : Instr) (a : RegAcc) (s : State), accessOf c = some a ∧ windowOpen s = true ∧ reaches s a.role a.off a.wr = true ∧ a.off % 4 = 0 ∧
      (pageUp s (pageOf a.off) = false ∨ pageGated s (pageOf a.off) = true)) ∧
    (∃ (c : Instr) (a : RegAcc) (s : State), accessOf c = some a ∧ windowOpen s = true ∧ reaches s a.role a.off a.wr = true ∧ a.off % 4 = 0 ∧
      pageUp s (pageOf a.off) = true ∧ pageGated s (pageOf a.off) = false ∧ inReset12 s (pageOf a.off) = true ∧ (a.wr = true ∨ 0x40 ≤ a.off % 0x1000)) :=
  ⟨⟨.rcCounterRead .m 0x060024, ⟨.m, 0x060024, false, false⟩, tDom 1 .off, by decide⟩,
   ⟨.sscCtrlWrite .m 0, ⟨.m, pgCru + 0x040, true, false⟩, { tRun with wrc := { Wrc.reset with running := [⟨2, uCru, 0, 0, 0, false⟩] } }, by decide⟩⟩

theorem test_witness_OffsetsWithoutARegister :
    (∃ (r : Role) (off : BitVec 23) (wr : Bool) (v : Word) (kt : KtabRead) (wst : Status) (c : Instr) (s : State), regAt off.toNat = none ∧ c = (if wr
      then .registerWrite r off 4 v kt wst false false else .registerRead r off 4 false) ∧ windowOpen s = true) ∧
    (∃ (c : Instr) (a : RegAcc) (s : State), accessOf c = some a ∧ windowOpen s = true ∧ reaches s a.role a.off a.wr = true ∧ a.off % 4 = 0 ∧ pageUp s
      (pageOf a.off) = true ∧ pageGated s (pageOf a.off) = false ∧ inReset12 s (pageOf a.off) = false ∧ anyField a.role a.off = false) :=
  ⟨⟨.m, 0x280FFC, true, 7, .unwritten, .ok, .registerWrite .m 0x280FFC 4 7 .unwritten .ok false false, tRun, by and_intros <;> first | rfl | decide⟩,
   ⟨.mgrmbPop .f, ⟨.f, pgInc + 0x050, true, false⟩, tRun, by decide⟩⟩

theorem test_witness_StaleGuardedWriteIsRefused :
    ∃ (c : Instr) (a : RegAcc) (s : State), accessOf c = some a ∧ a.guarded = true ∧ passes s a.role a.off a.wr false = true ∧
      expEpoch s a.role (pageOf a.off) ≠ epochOf s (pageOf a.off) ∧ pageOf a.off ≠ pgEvr :=
  ⟨.setGo .f, ⟨.f, pgTtu + 0x06C, true, true⟩, setExpEpoch tRun .f pgTtu 1, by decide⟩

theorem test_witness_PowerOnResetCommands :
    (∃ (s : State), s.cru.porst = true ∧ s.cru.st = .reset) ∧
    (∃ (s : State), s.cru.st = .pllWait ∧ s.cru.pllHold = false) ∧
    (∃ (s : State), s.cru.porst = false ∧ s.lco.decoded = false) ∧
    (∃ (s : State), s.cru.porst = false) :=
  ⟨⟨State.reset, by decide⟩,
   ⟨tWith { tCru with st := .pllWait }, by decide⟩,
   ⟨{ State.reset with cru := { Cru.reset with porst := false } }, by decide⟩,
   ⟨tRun, by decide⟩⟩

theorem test_witness_PllSupervision :
    (∃ (s : State), s.cru.st = .pllCount ∧ s.lco.decoded = true) ∧
    (∃ (s : State), s.cru.st = .pllCount) ∧
    (∃ (s : State), s.cru.st ≠ .reset ∧ s.cru.st ≠ .pllWait ∧ s.cru.st ≠ .pllCount) ∧
    (∃ (s : State), s.cru.st = .pllWait ∧ s.cru.pllHold = false) :=
  ⟨⟨tWith { tCru with st := .pllCount, dom := [] }, by decide⟩,
   ⟨tWith { tCru with st := .pllCount }, by decide⟩,
   ⟨tRun, by decide⟩,
   ⟨tWith { tCru with st := .pllWait }, by decide⟩⟩

theorem test_witness_DomainSwitching :
    (∃ (d : Fin 13) (s : State), injArmed s pgCru 2 = false ∧ domSt s d = .waitAck) ∧
    (∃ (d : Fin 13) (s : State), injArmed s pgCru 2 = false ∧ domSt s d = .offAck) ∧
    (∃ (d : Fin 13) (s : State), injArmed s pgCru 2 = true ∧ (domSt s d = .waitAck ∨ domSt s d = .offAck)) ∧
    (∃ (d : Fin 13) (s : State), domSt s d = .offAck) ∧
    (∃ (d : Fin 13) (s : State), domSt s d = .waitAck) ∧
    (∃ (d : Fin 13) (s : State), domSt s d = .waitIso) ∧
    (∃ (d : Fin 13) (s : State), domSt s d = .waitReset) ∧
    (∃ (d : Fin 13) (s : State), domSt s d = .draining) ∧
    (∃ (d : Fin 13) (s : State), domSt s d = .writeback) ∧
    (∃ (d : Fin 13) (s : State), domSt s d = .heldOff) :=
  ⟨⟨6, tDom 6 .waitAck, by decide⟩,
   ⟨12, tDom 12 .offAck, by decide⟩,
   ⟨6, setRegBit (tDom 6 .waitAck) (pgCru + 0x020) 2 true, by decide⟩,
   ⟨12, tDom 12 .offAck, by decide⟩,
   ⟨6, tDom 6 .waitAck, by decide⟩,
   ⟨11, tDom 11 .waitIso, by decide⟩,
   ⟨12, tDom 12 .waitReset, by decide⟩,
   ⟨2, tDom 2 .draining, by decide⟩,
   ⟨6, tDom 6 .writeback, by decide⟩,
   ⟨0, tDom 0 .heldOff, by decide⟩⟩

theorem test_witness_SleepAndWake :
    (∃ (r : Role) (s : State), passes s r (pgCru + 0x064) true false = true ∧ maySleep s = true) ∧
    (∃ (r : Role) (s : State), passes s r (pgCru + 0x064) true false = true ∧ maySleep s = false) ∧
    (∃ (r : Role) (s : State), passes s r (pgCru + 0x064) true false = true ∧ s.cru.st = .sleep) ∧
    (∃ (r : Role) (s : State), passes s r (pgCru + 0x064) true false = true ∧ s.cru.st = .sleepEntry) ∧
    (∃ (s : State), s.cru.st = .sleepEntry ∧ enginesIdle s = true) ∧
    (∃ (s : State), s.cru.st = .sleepEntry ∧ enginesIdle s = false) ∧
    (∃ (s : State), s.cru.st = .wake) ∧
    (∃ (p : Fin 59) (s : State), s.cru.wakeHeld.contains p.val = true) :=
  ⟨⟨.m, tRun, by decide⟩,
   ⟨.m, setRegBit tRun (pgCru + 0x06C) 0 true, by decide⟩,
   ⟨.m, tWith { tCru with st := .sleep }, by decide⟩,
   ⟨.f, tWith { tCru with st := .sleepEntry }, by decide⟩,
   ⟨tWith { tCru with st := .sleepEntry }, by decide⟩,
   ⟨{ tWith { tCru with st := .sleepEntry } with hgt := { Hgt.reset with recs := [⟨0, false, 0, 0, 0, 0, 0, false, [], [], [], false⟩] } }, by decide⟩,
   ⟨tWith { tCru with st := .wake }, by decide⟩,
   ⟨40, setPort (tWith { tCru with wakeHeld := [40] }) 40 ⟨false, true, 100, false, false, true⟩, by decide⟩⟩

theorem test_witness_GatingAndPowerControl :
    (∃ (r : Role) (n : Fin 4) (v : Word) (s : State), passes s r (pgCru + 0x048 + 4 * n.val) true false = true) ∧
    (∃ (u : GateUnit) (s : State), s.cru.gating.contains u = true ∧ gateIdle s u = true ∧ injArmed s pgCru 1 = false) ∧
    (∃ (u : GateUnit) (s : State), s.cru.gating.contains u = true ∧ gateIdle s u = true ∧ injArmed s pgCru 1 = true) ∧
    (∃ (u : GateUnit) (s : State), s.cru.gating.contains u = true) ∧
    (∃ (r : Role) (v : Word) (s : State), passes s r (pgCru + 0x05C) true false = true) ∧
    (∃ (d : Fin 13) (s : State), s.cru.pwrReq.contains d.val = true ∧ pwrBusy s d = false ∧ injArmed s pgCru 1 = false) ∧
    (∃ (d : Fin 13) (s : State), s.cru.pwrReq.contains d.val = true ∧ (pwrBusy s d = true ∨ injArmed s pgCru 1 = true)) ∧
    (∃ (r : Role) (v : Word) (s : State), passes s r (pgCru + 0x040) true false = true ∧ injArmed s pgCru 0 = false ∧ getBits (writeFlds r (pgCru + 0x040)
      v (rawReg s (pgCru + 0x040))) 4 1 ≤ 10) ∧
    (∃ (r : Role) (v : Word) (s : State), passes s r (pgCru + 0x040) true false = true ∧ (injArmed s pgCru 0 = true ∨ 10 < getBits (writeFlds r (pgCru +
      0x040) v (rawReg s (pgCru + 0x040))) 4 1)) ∧
    (∃ (w : Word) (s : State), s.cru.sscPending = some w) :=
  ⟨⟨.m, 3, 0, tRun, by decide⟩,
   ⟨.trs, tWith { tCru with gating := [.trs] }, by decide⟩,
   ⟨.trs, setRegBit (tWith { tCru with gating := [.trs] }) (pgCru + 0x020) 1 true, by decide⟩,
   ⟨.cce, tWith { tCru with gating := [.cce] }, by decide⟩,
   ⟨.m, 0, tRun, by decide⟩,
   ⟨10, tWith { tCru with pwrReq := [10] }, by decide⟩,
   ⟨6, { tWith { tCru with pwrReq := [6] } with engs := [(32, { Eng.idle with slots := [(0, tAdm)] })] }, by decide⟩,
   ⟨.m, 0x15, tRun, by decide⟩,
   ⟨.m, 0x16, tRun, by decide⟩,
   ⟨0x13, tWith { tCru with sscPending := some 0x13 }, by decide⟩⟩

theorem test_witness_ThermalAndPorts :
    (∃ (temp : BitVec 8) (s : State), tWarn (setFld s (pgTmp + 0x040) 23 16 temp.toNat) ≤ tempInt temp ∧ regBit (setFld s (pgTmp + 0x040) 23 16
      temp.toNat) (pgTmp + 0x040) 1 = false) ∧
    (∃ (temp : BitVec 8) (s : State), tempInt temp < tWarn (setFld s (pgTmp + 0x040) 23 16 temp.toNat) - 5 ∧ regBit (setFld s (pgTmp + 0x040) 23 16
      temp.toNat) (pgTmp + 0x040) 1 = true) ∧
    (∃ (p : Fin 59) (s : State), sleepExempt s p = false) ∧
    (∃ (edges : List Nat) (p : Fin 59) (s : State), s.cru.porst = false ∧ clockGood p (edges.getD p 0) = false) ∧
    (∃ (edges : List Nat) (p : Fin 59) (s : State), s.cru.porst = false ∧ clockGood p (edges.getD p 0) = true ∧ injArmed s pgCru 4 = false) ∧
    (∃ (p : Fin 59) (s : State), (s.wrc.l4.map L4.step) = some 5) :=
  ⟨⟨105, tRun, by decide⟩,
   ⟨99, setRegBit tRun (pgTmp + 0x040) 1 true, by decide⟩,
   ⟨57, setPort tRun 57 ⟨true, true, 100, false, false, true⟩, by decide⟩,
   ⟨[], 58, setPort tRun 58 ⟨true, true, 100, false, false, true⟩, by decide⟩,
   ⟨[clockRange 0 |>.1], 0, setPort tRun 0 ⟨true, true, 99, false, false, false⟩, by decide⟩,
   ⟨39, { tRun with wrc := { Wrc.reset with l4 := some ⟨5, 0⟩ } }, by decide⟩⟩

theorem test_witness_GaugeRequests :
    (∃ (n : Fin 18) (g : Nat) (s : State), (spanAt s n.val).gauge.req = some g ∧ injArmed s (pgVdt n.val) 5 = false) ∧
    (∃ (n : Fin 18) (g : Nat) (s : State), (spanAt s n.val).gauge.req = some g ∧ injArmed s (pgVdt n.val) 5 = true) ∧
    (∃ (n : Fin 18) (g : Nat) (s : State), (spanAt s n.val).gauge.req = some g) ∧
    (∃ (n : Fin 18) (g : Nat) (s : State), (spanAt s n.val).gauge.repeats = some g ∧ (spanAt s n.val).gauge.req = none ∧ getFld s (pgVdt n.val + 0x040) 14
      13 ≠ g) ∧
    (∃ (n : Fin 18) (s : State), inService s (pgVdt n.val) = true) :=
  ⟨⟨17, 3, mapSpan tRun 17 (fun x => { x with gauge := { x.gauge with req := some 3 } }), by decide⟩,
   ⟨17, 3, setRegBit (mapSpan tRun 17 (fun x => { x with gauge := { x.gauge with req := some 3 } })) (pgVdt 17 + 0x020) 5 true, by decide⟩,
   ⟨17, 3, mapSpan tRun 17 (fun x => { x with gauge := { x.gauge with req := some 3 } }), by decide⟩,
   ⟨0, 2, mapSpan tRun 0 (fun x => { x with gauge := { x.gauge with repeats := some 2 } }), by decide⟩,
   ⟨17, setRegBit tRun (pgVdt 17 + 0x00C) 0 true, by decide⟩⟩

theorem test_witness_RegisterReadsAndWrites :
    (∃ (r : Role) (off : BitVec 23) (s : State), pairLow off.toNat = none ∧ off.toNat ≠ pgTtu + 0x044 ∧ off.toNat ≠ pgEnt + 0x040 ∧ off.toNat ≠ pgLco +
      0x088 ∧ passes s r off.toNat false false = true) ∧
    (∃ (r : Role) (off : BitVec 23) (v : Word) (kt : KtabRead) (wst : Status) (s : State), isInstOff off.toNat = false ∧ [uMea, uMeb, uTtb, uTrs, uImu,
      uTmp, uEnt].contains (unitOf off.toNat) = true ∧ 0x40 ≤ off.toNat % 0x1000 ∧ pairLow off.toNat = none ∧ legalWord (unitOf off.toNat) (off.toNat
      % 0x1000) v = true ∧ passes s r off.toNat true (hasGuard r off.toNat) = true) ∧
    (∃ (r : Role) (off : BitVec 23) (v : Word) (kt : KtabRead) (wst : Status) (s : State), isInstOff off.toNat = false ∧ [uMea, uMeb, uTtb, uTrs, uImu,
      uTmp, uEnt].contains (unitOf off.toNat) = true ∧ 0x40 ≤ off.toNat % 0x1000 ∧ pairLow off.toNat = none ∧ legalWord (unitOf off.toNat) (off.toNat
      % 0x1000) v = false ∧ passes s r off.toNat true (hasGuard r off.toNat) = true) ∧
    (∃ (r : Role) (off : BitVec 23) (len : Nat) (v : Word) (kt : KtabRead) (wst : Status) (s : State), windowOpen s = true ∧ reaches s r off.toNat true =
      true ∧ (len ≠ 4 ∨ off.toNat % 4 ≠ 0)) ∧
    (∃ (r : Role) (off : BitVec 23) (len : Nat) (v : Word) (kt : KtabRead) (wst : Status) (s : State), windowOpen s = true ∧ onHt r = true) ∧
    (∃ (r : Role) (off : BitVec 23) (len : Nat) (s : State), windowOpen s = true ∧ onHt r = true ∧ tblFind s.wrc.protoTimes pgHgt = none) ∧
    (∃ (r : Role) (off : BitVec 23) (len : Nat) (s : State), windowOpen s = true ∧ onHt r = true) ∧
    (∃ (r : Role) (off : BitVec 23) (len : Nat) (s : State), ∃ (v : Word) (kt : KtabRead) (wst : Status), windowOpen s = true ∧ onHt r = true) :=
  ⟨⟨.m, 0x280058, tRun, by decide⟩,
   ⟨.f, 0x2A0044, 115, .unwritten, .ok, tRun, by decide⟩,
   ⟨.m, 0x2A0044, 116, .unwritten, .ok, tRun, by decide⟩,
   ⟨.m, 0x2A0044, 2, 0, .unwritten, .ok, tRun, by decide⟩,
   ⟨.m, 0x2A0044, 2, 0, .unwritten, .ok, tRun, by decide⟩,
   ⟨.m, 0x2A0044, 4, tRun, by decide⟩,
   ⟨.m, 0x2A0044, 4, tRun, by decide⟩,
   ⟨.m, 0x2A0044, 4, tRun, 0, .unwritten, .ok, by decide⟩⟩

theorem test_witness_PairsAreReadAndWrittenTogether :
    (∃ (r : Role) (off : BitVec 23) (s : State), pairLow off.toNat = some off.toNat ∧ passes s r off.toNat false false = true) ∧
    (∃ (r : Role) (off : BitVec 23) (low : Nat) (w : Word) (s : State), pairLow off.toNat = some low ∧ off.toNat ≠ low ∧ tblFind s.latch (latchKey r low)
      = some w ∧ passes s r off.toNat false false = true) ∧
    (∃ (r : Role) (off : BitVec 23) (low : Nat) (v : Word) (s : State), pairLow off.toNat = some low ∧ off.toNat ≠ low ∧ passes s r off.toNat true
      (hasGuard r off.toNat) = true) ∧
    (∃ (r : Role) (off : BitVec 23) (v w : Word) (s : State), pairLow off.toNat = some off.toNat ∧ tblFind s.hold (latchKey r off.toNat) = some w ∧ passes
      s r off.toNat true (hasGuard r off.toNat) = true) ∧
    (∃ (r : Role) (off : BitVec 23) (v : Word) (s : State), pairLow off.toNat = some off.toNat ∧ tblFind s.hold (latchKey r off.toNat) = none ∧ passes s r
      off.toNat true (hasGuard r off.toNat) = true) ∧
    (∃ (r : Role) (off : BitVec 23) (low : Nat) (s : State), pairLow off.toNat = some low) :=
  ⟨⟨.m, 0x220050, tRun, by decide⟩,
   ⟨.d, 0x220054, 0x220050, 7, { tRun with latch := [(latchKey .d 0x220050, 7)], lco := { tLco with lc := .maker } }, by decide⟩,
   ⟨.m, 0x40030C, 0x400308, 9, tRun, by decide⟩,
   ⟨.m, 0x400308, 9, 7, { tRun with hold := [(latchKey .m 0x400308, 7)] }, by decide⟩,
   ⟨.m, 0x400308, 9, tRun, by decide⟩,
   ⟨.m, 0x220050, 0x220050, tRun, by decide⟩⟩

theorem test_witness_PageHeaderCommands :
    (∃ (r : Role) (pg : BitVec 11) (v : Word) (s : State), passes s r (pgBase pg + 0x00C) true false = true ∧ enableWritable s (pgBase pg) = true ∧
      enabled s (pgBase pg) ≠ getBit v 0 ∧ getBit v 1 = false ∧ getBits v 31 8 = epochOf s (pgBase pg)) ∧
    (∃ (r : Role) (pg : BitVec 11) (v : Word) (s : State), passes s r (pgBase pg + 0x00C) true false = true ∧ enableWritable s (pgBase pg) = true ∧
      enabled s (pgBase pg) ≠ getBit v 0 ∧ getBits v 31 8 ≠ epochOf s (pgBase pg)) ∧
    (∃ (r : Role) (pg : BitVec 11) (v : Word) (s : State), passes s r (pgBase pg + 0x00C) true false = true ∧ isEnginePage (pgBase pg) = false ∧ enabled s
      (pgBase pg) = getBit v 0) ∧
    (∃ (r : Role) (pg : BitVec 11) (v : Word) (s : State), passes s r (pgBase pg + 0x00C) true false = true ∧ isEnginePage (pgBase pg) = true ∧ r.kind ≠
      .t ∧ enabled s (pgBase pg) = getBit v 0 ∧ getBits v 31 8 = epochOf s (pgBase pg)) ∧
    (∃ (r : Role) (pg : BitVec 11) (v : Word) (s : State), passes s r (pgBase pg + 0x00C) true false = true) ∧
    (∃ (r : Role) (pg : BitVec 11) (v : Word) (s : State), passes s r (pgBase pg + 0x018) true false = true) ∧
    (∃ (r : Role) (pg : BitVec 11) (v : Word) (s : State), passes s r (pgBase pg + 0x020) true false = true ∧ isInstOff (pgBase pg) = false ∧ injStates
      s.lco.lc = true ∧ v.toNat &&& errBits (unitOf (pgBase pg)) &&& (0xFFFFFFFF ^^^ checkBits (unitOf (pgBase pg))) = 0) ∧
    (∃ (r : Role) (off : BitVec 23) (wr : Bool) (v : Word) (s : State), passes s r off.toNat wr false = true ∧ (wr = true → ∀ e, writeGuard s r off.toNat
      v = some e → e = epochOf s (pageOf off.toNat))) ∧
    (∃ (r : Role) (off : BitVec 23) (v : Word) (e : Nat) (s : State), passes s r off.toNat true false = true ∧ writeGuard s r off.toNat v = some e ∧ e ≠
      epochOf s (pageOf off.toNat)) :=
  ⟨⟨.m, 0x260, 1, tRun, by decide⟩,
   ⟨.m, 0x260, 0x101, tRun, by decide⟩,
   ⟨.m, 0x260, 0xFFFFFF02, tRun, by decide⟩,
   ⟨.m, 0x0E0, 2, tRun, by decide⟩,
   ⟨.m, 0x4FF, 0x700, tRun, by decide⟩,
   ⟨.d, 0x200, 0xFFFFFFFF, setReg { tRun with lco := { tLco with lc := .maker } } 0x200018 1, by decide⟩,
   ⟨.f, 0x2A0, 0, { tRun with lco := { tLco with lc := .maker } }, by decide⟩,
   ⟨.m, 0x0A0040, false, 0, tRun, by decide⟩,
   ⟨.m, 0x26000C, 0x101, 1, tRun, by decide⟩⟩

theorem test_witness_BootLeavesReset :
    (∃ (s : State), s.sbx.boot = .reset ∧ domUp s 0 = true ∧ s.wrc.l4 = none) ∧
    (∃ (s : State), s.sbx.boot = .rootWait ∧ s.wrc.l4 = none ∧ s.lco.decoded = true ∧ s.lco.lc ≠ .locked ∧ s.lco.lc ≠ .scrapped ∧ s.lco.lc ≠ .returned ∧
      s.kvt.rootSt = .ready ∧ getFld s (pgSbx + 0x040) 3 0 ≠ 8 ∧ s.sbx.afterPorst = true) ∧
    (∃ (n : Nat) (array : List Word) (m : Bytes) (s : State), s.kvt.rootSt = .attempt n ∧ pufMessage array (helperWords s) = some m ∧ (n = 3 → injArmed s
      pgKvt 2 = false)) ∧
    (∃ (n : Nat) (array : List Word) (m : Bytes) (s : State), s.kvt.rootSt = .attempt n ∧ pufMessage array (helperWords s) = some m ∧ (n = 3 → injArmed s
      pgKvt 2 = false) ∧ s.kvt.loads = [] ∧ s.ctc.fills = [] ∧ s.coh.cts = [] ∧ (∀ g ∈ s.engs, g.2.reseal = none)) ∧
    (∃ (array : List Word) (s : State), otpWord s 0x100 ≠ 0x40015055) ∧
    (∃ (n : Nat) (array : List Word) (s : State), s.kvt.rootSt = .attempt n ∧ n < 3 ∧ pufMessage array (helperWords s) = none) ∧
    (∃ (n : Nat) (array : List Word) (s : State), s.kvt.rootSt = .attempt n ∧ 3 ≤ n ∧ (pufMessage array (helperWords s) = none ∨ (n = 3 ∧ injArmed s pgKvt
      2 = true))) ∧
    (∃ (n : Nat) (s : State), s.kvt.rootSt = .offPeriod n) :=
  ⟨⟨tSbx Sbx.reset, by decide⟩,
   ⟨{ tSbx { Sbx.reset with boot := .rootWait, afterPorst := true } with kvt := { Kvt.reset with rootSt := .ready } }, by decide⟩,
   ⟨2, [], tMsg, tPuf 2, rfl, test_puf_regenerates 2, fun h => absurd h (by decide)⟩,
   ⟨2, [], tMsg, tPuf 2, rfl, test_puf_regenerates 2, (fun h => absurd h (by decide)), rfl, rfl, rfl, (fun g h => absurd h List.not_mem_nil)⟩,
   ⟨[], tRun, by decide⟩,
   ⟨2, [], { tRun with kvt := { Kvt.reset with rootSt := .attempt 2 } }, rfl, by decide, pufMessage_none _ _ (by decide)⟩,
   ⟨3, [], { tRun with kvt := { Kvt.reset with rootSt := .attempt 3 } }, rfl, by decide, Or.inl (pufMessage_none _ _ (by decide))⟩,
   ⟨1, { tRun with kvt := { Kvt.reset with rootSt := .offPeriod 1 } }, by decide⟩⟩

theorem test_witness_DownloadObjects :
    (∃ (vid : BitVec 16) (seq : BitVec 8) (len : Word) (s : State), doeOpen s = true ∧ vid.toNat = getBits (otpWord s 0x004) 15 0 ∧ (s.sbx.boot = .dlWait
      ∨ s.sbx.boot = .dlReceive) ∧ 9216 ≤ len.toNat ∧ len.toNat ≤ 926720 ∧ len.toNat % 4 = 0) ∧
    (∃ (vid : BitVec 16) (seq : BitVec 8) (off : Word) (data : Bytes) (s : State), doeOpen s = true ∧ vid.toNat = getBits (otpWord s 0x004) 15 0 ∧
      s.sbx.boot = .dlReceive ∧ off.toNat = s.sbx.image.length ∧ 4 ≤ data.length ∧ data.length ≤ 65536 ∧ data.length % 4 = 0) ∧
    (∃ (vid : BitVec 16) (seq : BitVec 8) (s : State), doeOpen s = true ∧ vid.toNat = getBits (otpWord s 0x004) 15 0 ∧ s.sbx.boot = .dlReceive ∧
      s.sbx.declared ≤ s.sbx.image.length) ∧
    (∃ (vid : BitVec 16) (seq : BitVec 8) (s : State), doeOpen s = true ∧ vid.toNat = getBits (otpWord s 0x004) 15 0 ∧ s.sbx.boot = .dlReceive ∧ s.wrc.l4
      = none) ∧
    (∃ (vid : BitVec 16) (cmd seq : BitVec 8) (len : Word) (extra : Bool) (s : State), doeOpen s = true ∧ vid.toNat = getBits (otpWord s 0x004) 15 0 ∧
      (s.sbx.boot = .dlWait ∨ s.sbx.boot = .dlReceive) ∧ (len.toNat < 9216 ∨ 926720 < len.toNat ∨ len.toNat % 4 ≠ 0 ∨ cmd ≠ 1 ∨ extra = true)) ∧
    (∃ (vid : BitVec 16) (seq : BitVec 8) (off : Word) (data : Bytes) (s : State), doeOpen s = true ∧ vid.toNat = getBits (otpWord s 0x004) 15 0 ∧
      s.sbx.boot = .dlReceive ∧ off.toNat ≠ s.sbx.image.length ∧ 4 ≤ data.length ∧ data.length ≤ 65536 ∧ data.length % 4 = 0) ∧
    (∃ (vid : BitVec 16) (seq : BitVec 8) (s : State), doeOpen s = true ∧ vid.toNat = getBits (otpWord s 0x004) 15 0 ∧ s.sbx.boot = .dlReceive ∧
      s.sbx.image.length < s.sbx.declared) ∧
    (∃ (vid : BitVec 16) (typ cmd seq : BitVec 8) (len off : Word) (data : Bytes) (extra : Bool) (s : State) (c : Instr), (c = .dlBegin vid typ cmd seq
      len extra ∨ c = .dlChunk vid typ seq off data extra ∨ c = .dlEnd vid typ seq extra ∨ c = .dlCancel vid typ seq extra) ∧ doeOpen s = true ∧
      (vid.toNat ≠ getBits (otpWord s 0x004) 15 0 ∨ typ ≠ 0x5A)) :=
  ⟨⟨0, 1, 9216, tSbx { Sbx.reset with boot := .dlWait }, by decide⟩,
   ⟨0, 1, 0, zeros 4, tSbx { Sbx.reset with boot := .dlReceive }, by decide⟩,
   ⟨0, 1, tSbx { Sbx.reset with boot := .dlReceive }, by decide⟩,
   ⟨0, 255, tSbx { Sbx.reset with boot := .dlReceive }, by decide⟩,
   ⟨0, 1, 1, 9212, false, tSbx { Sbx.reset with boot := .dlWait }, by decide⟩,
   ⟨0, 1, 4, zeros 4, tSbx { Sbx.reset with boot := .dlReceive }, by decide⟩,
   ⟨0, 1, tSbx { Sbx.reset with boot := .dlReceive, declared := 9216 }, by decide⟩,
   ⟨0, 0x5B, 1, 1, 9216, 0, [], false, tSbx { Sbx.reset with boot := .dlWait }, .dlEnd 0 0x5B 1 false, by decide⟩⟩

theorem test_witness_DownloadTimeoutsAndReload :
    (∃ (s : State), s.sbx.boot = .dlReceive ∧ s.wrc.l4 = none) ∧
    (∃ (data : Bytes) (s : State), s.sbx.boot = .reload) ∧
    (∃ (s : State), s.sbx.boot = .reload ∧ s.wrc.l4 = none) :=
  ⟨⟨tSbx { Sbx.reset with boot := .dlReceive }, by decide⟩,
   ⟨[], tSbx { Sbx.reset with boot := .reload }, by decide⟩,
   ⟨tSbx { Sbx.reset with boot := .reload }, by decide⟩⟩

theorem test_witness_VerificationAndMeasurement :
    (∃ (s : State), s.sbx.boot = .verify ∧ s.sbx.halted = false ∧ s.wrc.l4 = none) ∧
    (∃ (s : State), s.sbx.boot = .measure ∧ s.sbx.halted = false ∧ s.wrc.l4 = none) ∧
    (∃ (s : State), s.sbx.halted = true) ∧
    (∃ (v : Word) (s : State), passes s .f (pgSbx + 0x050) true false = true ∧ 2 ≤ getBits v 2 0 ∧ s.sbx.extend = none) ∧
    (∃ (i : Nat) (input : Bytes) (s : State), s.sbx.extend = some (i, input)) :=
  ⟨⟨tSbx { Sbx.reset with boot := .verify }, by decide⟩,
   ⟨tSbx { Sbx.reset with boot := .measure }, by decide⟩,
   ⟨tSbx { Sbx.reset with boot := .verify, halted := true }, by decide⟩,
   ⟨7, tRun, by decide⟩,
   ⟨2, [], tSbx { Sbx.reset with extend := some (2, []) }, by decide⟩⟩

theorem test_witness_EntropyCommands :
    (∃ (raw : Nat) (s : State), (s.ent.st = .startup ∨ s.ent.st = .instantiating ∨ s.ent.st = .ready)) ∧
    (∃ (s : State), s.ent.st = .startup ∧ s.ent.samples = 1024 ∧ injArmed s pgEnt 0 = false) ∧
    (∃ (pass : Bool) (s : State), s.ent.st = .startup ∧ s.ent.samples = 1024 ∧ (pass = false ∨ injArmed s pgEnt 0 = true)) ∧
    (∃ (s : State), s.ent.st = .instantiating ∧ s.kvt.queue = [] ∧ s.kvt.loads = [] ∧ idleUnits s) ∧
    (∃ (c : KCmd) (q : List KCmd) (s : State), s.kvt.queue = c :: q) ∧
    (∃ (r : Role) (s : State), passes s r (pgEnt + 0x040) false false = true) ∧
    (∃ (s : State), s.ent.st = .ready ∧ s.ent.reseeding = false) ∧
    (∃ (s : State), s.ent.st = .ready ∧ s.ent.reseeding = true ∧ s.ent.reseedSamples = 512) :=
  ⟨⟨0, { tRun with ent := { Ent.reset with st := .startup } }, by decide⟩,
   ⟨{ tRun with ent := { Ent.reset with st := .startup, samples := 1024 } }, by decide⟩,
   ⟨false, { tRun with ent := { Ent.reset with st := .startup, samples := 1024 } }, by decide⟩,
   ⟨{ tRun with ent := { Ent.reset with st := .instantiating } }, by unfold idleUnits; decide⟩,
   ⟨⟨0x10, 7, 0, 0, 0, []⟩, [], tKvt (fun x => { x with queue := [⟨0x10, 7, 0, 0, 0, []⟩] }), by decide⟩,
   ⟨.f, { tRun with ent := { Ent.reset with st := .ready } }, by decide⟩,
   ⟨{ tRun with ent := { Ent.reset with st := .ready } }, by decide⟩,
   ⟨{ tRun with ent := { Ent.reset with st := .ready, reseeding := true, reseedSamples := 512 } }, by decide⟩⟩

theorem test_witness_KeyBlobCommands :
    (∃ (seq : BitVec 8) (k : BitVec 16) (wst : Status) (dkek : Masked) (s : State), kvtTakes s .f = true ∧ isTenant k.toNat = true ∧ allZero (((xbuf s
      40).drop 8).take 32) = false ∧ blobField (xbuf s 40) 0 4 < 4 ∧ blobField (xbuf s 40) 4 4 = 0 ∧ ktabValid s = true ∧ s.kvt.dkek = some dkek ∧
      s.ent.st = .ready ∧ s.kvt.queue = [] ∧ resetRoom s k.toNat = true ∧ ktabOpen s k.toNat = true) ∧
    (∃ (seq : BitVec 8) (k : BitVec 16) (kt : KtabRead) (wst st : Status) (s : State), kvtTakes s .f = true ∧ isTenant k.toNat = true ∧ allZero (((xbuf s
      40).drop 8).take 32) = false ∧ blobField (xbuf s 40) 0 4 < 4 ∧ blobField (xbuf s 40) 4 4 = 0 ∧ ktabValid s = true ∧ s.kvt.dkek.isSome = true ∧
      serviceRefusal s (ktabAddr s k.toNat / 4096) 0xFF03 false = some st) ∧
    (∃ (seq : BitVec 8) (k : BitVec 16) (kt : KtabRead) (dkek : Masked) (x : Kent) (p : Nat) (e : EpochKey) (s : State), kvtTakes s .f = true ∧ isTenant
      k.toNat = true ∧ ktabValid s = true ∧ s.kvt.dkek = some dkek ∧ (kentRead s k.toNat kt).2 = .inr (some x) ∧ x.keyed = true ∧ gatewayOpen s =
      false ∧ blobOuterOk x.blob 1 = true ∧ loadedEpoch s (rawReg s (pgKvt + 0x044)).toNat = some (p, e)) ∧
    (∃ (seq : BitVec 8) (kt : KtabRead) (wst : Status) (b : Bytes) (dkek : Masked) (x : Option Kent) (p : Nat) (e : EpochKey) (s : State), kvtTakes s .f =
      true ∧ b = xbuf s 112 ∧ blobOuterOk b 2 = true ∧ isTenant (blobField b 4 2) = true ∧ gatewayOpen s = false ∧ ktabValid s = true ∧ s.kvt.dkek =
      some dkek ∧ (kentRead s (blobField b 4 2) kt).2 = .inr x ∧ (∀ y, x = some y → y.kidEpoch < blobField b 8 4) ∧ loadedEpoch s (blobField b 12 4) =
      some (p, e) ∧ resetRoom s (blobField b 4 2) = true ∧ ktabOpen s (blobField b 4 2) = true) :=
  ⟨⟨9, 0xFEFF, .ok, Masked.zero, putWords tKeys (pgKvt + 0x800) (leBytes 4 3 ++ zeros 4 ++ List.replicate 32 0xFF), by decide⟩,
   ⟨9, 0xFEFF, .unwritten, .ok, .denied, putWords { tKeys with jct := Jct.reset } (pgKvt + 0x800) (leBytes 4 3 ++ zeros 4 ++ List.replicate 32 0xFF), by decide⟩,
   ⟨1, 1, .entry (tKent 1), Masked.zero, ⟨true, 1, 1, tBlob 1 1 1 0⟩, 0, ⟨0, Masked.zero⟩, tKvt (fun x => { x with pos0 := some ⟨0, Masked.zero⟩ }), by decide⟩,
   ⟨1, .unwritten, .ok, tBlob 2 1 2 0, Masked.zero, none, 1, ⟨0, Masked.zero⟩,
     putWords (tKvt (fun x => { x with pos1 := some ⟨0, Masked.zero⟩ })) (pgKvt + 0x800) (tBlob 2 1 2 0),
     by refine ⟨by decide, by decide, by decide, by decide, by decide, by decide, by decide, by decide, ?_, by decide, by decide, by decide⟩; intro y h; cases h⟩⟩

theorem test_witness_KeyLoads :
    (∃ (seq : BitVec 8) (k : BitVec 16) (n : Nat) (x : Slot) (s : State), kvtTakes s .f = true ∧ isTenant k.toNat = true ∧ isRetiring s k.toNat = false ∧
      slotOf s k.toNat = some (n, x) ∧ x.st = .live) ∧
    (∃ (seq : BitVec 8) (k : BitVec 16) (s : State), kvtTakes s .f = true ∧ isTenant k.toNat = true ∧ isRetiring s k.toNat = false ∧ slotOf s k.toNat =
      none ∧ loadRefused s k.toNat = none ∧ ((loadOf s k.toNat).isSome = true ∨ allPinned s (loadCharge s k.toNat none) = false)) ∧
    (∃ (seq : BitVec 8) (k : BitVec 16) (s : State), kvtTakes s .f = true ∧ isTenant k.toNat = true ∧ isRetiring s k.toNat = false ∧ slotOf s k.toNat =
      none ∧ loadRefused s k.toNat = none ∧ loadOf s k.toNat = none ∧ allPinned s (loadCharge s k.toNat none) = true) ∧
    (∃ (seq : BitVec 8) (k : BitVec 16) (n : Nat) (x : Slot) (s : State), kvtTakes s .f = true ∧ slotOf s k.toNat = some (n, x) ∧ x.st = .live) ∧
    (∃ (k : BitVec 16) (kt : KtabRead) (l : Load) (n : Nat) (x : Kent) (s : State), s.kvt.loads = [l] ∧ l.keyId = k.toNat ∧ l.slot = some n ∧ idleUnits s
      ∧ hasDirty s k.toNat = false ∧ (kentRead s k.toNat kt).2 = .inr (some x) ∧ x.keyed = true ∧ gatewayOpen s = false ∧ injArmed s pgKvt 1 = false) ∧
    (∃ (k : BitVec 16) (l : Load) (s : State), s.kvt.loads = [l] ∧ l.keyId = k.toNat ∧ l.slot = none ∧ loadBlocked s = true ∧ idleUnits s) ∧
    (∃ (s : State), domUp s 1 = true ∧ s.kvt.maskGen.isSome = true) :=
  ⟨⟨3, 1, 0, tSlot 1, tSlotted, by decide⟩,
   ⟨3, 1, tKeys, by decide⟩,
   ⟨3, 1, tKvt (fun x => { x with slots := (List.range 8192).map (fun n => (n, { tSlot (n + 2) with pinned := true })) }), by decide⟩,
   ⟨3, 1, 0, tSlot 1, tSlotted, by decide⟩,
   ⟨1, .entry (tKent 1), ⟨1, some 0, .pool, true, false⟩, 0, ⟨true, 1, 1, tBlob 1 1 1 0⟩,
     tKvt (fun x => { x with loads := [⟨1, some 0, .pool, true, false⟩] }), by unfold idleUnits; decide⟩,
   ⟨1, ⟨1, none, .pool, false, false⟩, tKvt (fun x => { x with bn := none, loads := [⟨1, none, .pool, false, false⟩] }), by unfold idleUnits; decide⟩,
   ⟨tKeys, by decide⟩⟩

theorem test_witness_StepAndRetire :
    (∃ (seq : BitVec 8) (k : BitVec 16) (kt : KtabRead) (dkek : Masked) (x : Kent) (s : State), kvtTakes s .f = true ∧ isTenant k.toNat = true ∧ mapBit s
      k.toNat = true ∧ isRetiring s k.toNat = false ∧ ktabValid s = true ∧ s.kvt.dkek = some dkek ∧ (kentRead s k.toNat kt).2 = .inr (some x) ∧
      x.keyed = true ∧ x.stepEpoch ≠ 0xFFFFFFFF ∧ gatewayOpen s = false ∧ blobOuterOk x.blob 1 = true) ∧
    (∃ (st : Status) (c : KCmd) (n : Nat) (x : Slot) (s : State), s.kvt.cmd = some c ∧ c.op = 0x06 ∧ c.arg1 = 0 ∧ keyedSlot s c.keyId = some (n, x) ∧
      ktabOpen s c.keyId = true) ∧
    (∃ (seq : BitVec 8) (k : BitVec 16) (s : State), kvtTakes s .f = true ∧ isTenant k.toNat = true ∧ mapBit s k.toNat = true ∧ isRetiring s k.toNat =
      false) ∧
    (∃ (k : BitVec 16) (s : State), tblFind s.kvt.retiring k.toNat = some .drain ∧ admittedUnder s k.toNat = false) ∧
    (∃ (k : BitVec 16) (kt : KtabRead) (ep : Nat) (s : State), tblFind s.kvt.retiring k.toNat = some .writeback ∧ (match slotOf s k.toNat with | some (_, x) => ep = x.kidEpoch | none => ∃ x, (kentRead s k.toNat kt).2 = .inr (some x) ∧ ep = x.kidEpoch)) ∧
    (∃ (k : BitVec 16) (kt : KtabRead) (st : Nat) (s : State), tblFind s.kvt.retiring k.toNat = some .writeback ∧ slotOf s k.toNat = none ∧ (kentRead s
      k.toNat kt).2 = .inl st ∧ s.imu.inst.all (fun x => x.2.seq.all (fun q => q.retiring != some k.toNat)) = true) ∧
    (∃ (k : BitVec 16) (st : Status) (s : State), tblFind s.kvt.retiring k.toNat = some .ktab ∧ ktabOpen s k.toNat = true ∧ s.imu.inst.all (fun x =>
      x.2.seq.all (fun q => q.retiring != some k.toNat)) = true) :=
  ⟨⟨1, 1, .entry (tKent 1), Masked.zero, ⟨true, 1, 1, tBlob 1 1 1 0⟩, { tKeys with anchor := { Anchor.reset with kmap := [(1, true)] } }, by decide⟩,
   ⟨.ok, ⟨0x06, 7, 1, 0, 0, []⟩, 0, tSlot 1, { tSlotted with kvt := { tSlotted.kvt with cmd := some ⟨0x06, 7, 1, 0, 0, []⟩ } }, by decide⟩,
   ⟨1, 0xFEFF, { tKeys with anchor := { Anchor.reset with kmap := [(0xFEFF, true)] } }, by decide⟩,
   ⟨1, tKvt (fun x => { x with retiring := [(1, .drain)] }), by decide⟩,
   ⟨1, .unwritten, 1, { tSlotted with kvt := { tSlotted.kvt with retiring := [(1, .writeback)] } }, by decide, rfl⟩,
   ⟨1, .unwritten, Status.denied.code, { tKvt (fun x => { x with retiring := [(1, .writeback)] }) with jct := Jct.reset }, by decide⟩,
   ⟨1, .ok, tKvt (fun x => { x with retiring := [(1, .ktab)] }), by decide⟩⟩

theorem test_witness_JoinSlotCommands :
    (∃ (seq : BitVec 8) (s : State), kvtTakes s .f = true ∧ s.ent.st = .ready ∧ s.kvt.queue = []) ∧
    (∃ (seq : BitVec 8) (s : State), kvtTakes s .f = true ∧ s.ent.st ≠ .ready ∧ s.ent.st ≠ .failed ∧ s.kvt.queue.length < 64) ∧
    (∃ (seq : BitVec 8) (s : State), kvtTakes s .f = true ∧ s.ent.st ≠ .failed ∧ 64 ≤ s.kvt.queue.length) ∧
    (∃ (seq : BitVec 8) (s : State), kvtTakes s .f = true ∧ s.ent.st = .failed) ∧
    (∃ (seq : BitVec 8) (a b : Bytes) (s : State), kvtTakes s .f = true ∧ s.kvt.join.ecdh = some a ∧ s.kvt.join.kem = some b) ∧
    (∃ (seq : BitVec 8) (a b : Bytes) (s : State), kvtTakes s .f = true ∧ s.kvt.join.ssEcdh = some a ∧ s.kvt.join.ssKem = some b) :=
  ⟨⟨1, tKeys, by decide⟩,
   ⟨1, { tKeys with ent := { Ent.reset with st := .startup } }, by decide⟩,
   ⟨1, tKvt (fun x => { x with queue := List.replicate 64 ⟨0x10, 7, 0, 0, 0, []⟩ }), by decide⟩,
   ⟨1, { tKeys with ent := { Ent.reset with st := .failed } }, by decide⟩,
   ⟨1, [], [], tKvt (fun x => { x with join := { JoinSlot.empty with ecdh := some [], kem := some [] } }), by decide⟩,
   ⟨1, [], [], tKvt (fun x => { x with join := { JoinSlot.empty with ssEcdh := some [], ssKem := some [] } }), by decide⟩⟩

theorem test_witness_EpochKeyCommands :
    (∃ (seq : BitVec 8) (s : State), kvtTakes s .f = true ∧ s.ent.st = .ready ∧ s.kvt.queue = [] ∧ s.dom.epoch < (rawReg s (pgKvt + 0x044)).toNat) ∧
    (∃ (seq : BitVec 8) (s : State), kvtTakes s .f = true ∧ (rawReg s (pgKvt + 0x044)).toNat ≤ s.dom.epoch) ∧
    (∃ (seq : BitVec 8) (jtk : Masked) (e : EpochKey) (s : State), kvtTakes s .f = true ∧ s.kvt.join.jtk = some jtk ∧ heldEpoch s (rawReg s (pgKvt +
      0x044)).toNat = some e) ∧
    (∃ (seq : BitVec 8) (e : EpochKey) (s : State), kvtTakes s .f = true ∧ (s.kvt.pos0 = none ∨ s.kvt.pos1 = none) ∧ regBit s (pgKvt + 0x048) 1 = true ∧
      s.kvt.pendingKey = some e ∧ s.dom.epoch < e.num ∧ loadedEpoch s e.num = none) ∧
    (∃ (seq : BitVec 8) (jtk : Masked) (s : State), kvtTakes s .f = true ∧ (s.kvt.pos0 = none ∨ s.kvt.pos1 = none) ∧ regBit s (pgKvt + 0x048) 1 = false ∧
      s.dom.epoch < blobField (xbuf s 112) 8 4 ∧ loadedEpoch s (blobField (xbuf s 112) 8 4) = none ∧ s.kvt.join.jtk = some jtk ∧ blobOuterOk (xbuf s
      112) 3 = true) ∧
    (∃ (seq : BitVec 8) (p : Nat) (e : EpochKey) (s : State), kvtTakes s .f = true ∧ loadedEpoch s (rawReg s (pgKvt + 0x044)).toNat = some (p, e) ∧
      s.dom.epoch < e.num ∧ (s.dom.nextOwnId = s.dom.ownId ∨ s.anchor.kmap.any (fun x => x.2) = false)) ∧
    (∃ (seq : BitVec 8) (p : Nat) (e : EpochKey) (s : State), kvtTakes s .f = true ∧ loadedEpoch s (rawReg s (pgKvt + 0x044)).toNat = some (p, e) ∧ e.num
      ≤ s.dom.epoch) ∧
    (∃ (x y z : EpochKey) (s : State), s.kvt.pos0 = some x ∧ s.kvt.pos1 = some y ∧ sendKey s = some z ∧ (x.num < s.dom.epoch ∨ y.num < s.dom.epoch)) ∧
    (∃ (s : State), sendKey s = none) ∧
    (∃ (seq : BitVec 8) (s : State), kvtTakes s .m = true ∧ s.lco.lc = .maker ∧ (∀ w, w < 2053 → otpWord s (0x100 + w) = 0) ∧ s.ent.st = .ready ∧
      s.kvt.queue = [] ∧ s.lco.op = none) ∧
    (∃ (ok : Bool) (c : KCmd) (s : State), s.lco.op = some (.enrolEnd ok) ∧ s.kvt.cmd = some c ∧ c.op = 0x08 ∧ s.kvt.queue = []) :=
  ⟨⟨1, setReg tKeys (pgKvt + 0x044) 1, by decide⟩,
   ⟨1, tKeys, by decide⟩,
   ⟨1, Masked.zero, ⟨0, Masked.zero⟩, tKvt (fun x => { x with pos0 := some ⟨0, Masked.zero⟩, join := { JoinSlot.empty with jtk := some Masked.zero } }), by decide⟩,
   ⟨1, ⟨1, Masked.zero⟩, setRegBit (tKvt (fun x => { x with pendingKey := some ⟨1, Masked.zero⟩ })) (pgKvt + 0x048) 1 true, by decide⟩,
   ⟨1, Masked.zero, putWords (tKvt (fun x => { x with join := { JoinSlot.empty with jtk := some Masked.zero } })) (pgKvt + 0x800) (tBlob 3 0 1 0), by decide⟩,
   ⟨1, 0, ⟨1, Masked.zero⟩, setReg (tKvt (fun x => { x with pos0 := some ⟨1, Masked.zero⟩ })) (pgKvt + 0x044) 1, by decide⟩,
   ⟨1, 0, ⟨0, Masked.zero⟩, tKvt (fun x => { x with pos0 := some ⟨0, Masked.zero⟩ }), by decide⟩,
   ⟨⟨1, Masked.zero⟩, ⟨2, Masked.zero⟩, ⟨2, Masked.zero⟩, { tKvt (fun x => { x with pos0 := some ⟨1, Masked.zero⟩, pos1 := some ⟨2, Masked.zero⟩, sendPos := 1 }) with
       dom := { tKeys.dom with epoch := 2 } }, by decide⟩,
   ⟨tKeys, by decide⟩,
   ⟨1, { tKeys with lco := { Lco.reset with lc := .maker, decoded := true } }, by decide⟩,
   ⟨true, ⟨0x08, 1, 0, 0, 0, []⟩,
     { tKvt (fun x => { x with cmd := some ⟨0x08, 1, 0, 0, 0, []⟩ }) with lco := { tLco with op := some (.enrolEnd true) } }, by decide⟩⟩

theorem test_witness_LifeCycleCommands :
    (∃ (r : Role) (v : Word) (b : Lc) (s : State), passes s r (pgLco + 0x044) true true = true ∧ getBit v 10 = false ∧ goRefusal s r (getBits v 7 0) = none ∧
      lcOfCode (getBits v 7 0) = some b) ∧
    (∃ (r : Role) (v : Word) (st : Status) (s : State), passes s r (pgLco + 0x044) true true = true ∧ getBit v 10 = false ∧
      goRefusal s r (getBits v 7 0) = some st) ∧
    (∃ (r : Role) (v : Word) (s : State), passes s r (pgLco + 0x044) true true = true ∧ getBit v 10 = false ∧ unlockRefusal s = none) ∧
    (∃ (r : Role) (v : Word) (st : Status) (s : State), passes s r (pgLco + 0x044) true true = true ∧ getBit v 10 = false ∧ unlockRefusal s = some st) ∧
    (∃ (r : Role) (v : Word) (s : State), passes s r (pgLco + 0x044) true false = true ∧ getBits v 7 0 = 0 ∧ (r.kind = .m ∨ r.kind = .f)) ∧
    (∃ (s : State), s.lco.op = some .compareUnlock) ∧
    (∃ (b : Lc) (s : State), s.lco.op = some (.compareGo b)) :=
  ⟨⟨.m, 0x102, .integrator, tLc .maker none, by decide⟩,
   ⟨.m, 0x100, .denied, tLc .maker none, by decide⟩,
   ⟨.d, 0x200, { setReg (tLc .integrator none) 0 0 with sbx := { Sbx.reset with boot := .dlWait }, lco := { tLco with lc := .integrator, otp := [(6, 0xFF), (0x50, 1)] } }, by decide⟩,
   ⟨.d, 0x200, .denied, tLc .integrator none, by decide⟩,
   ⟨.m, 0x400, tRun, by decide⟩,
   ⟨tLc .integrator (some .compareUnlock), by decide⟩,
   ⟨.integrator, tLc .maker (some (.compareGo .integrator)), by decide⟩⟩

theorem test_witness_OtpProgramming :
    (∃ (w : Nat) (v : Word) (p : Nat) (s : State), s.lco.op = some (.prog w v p)) ∧
    (∃ (w : Nat) (v : Word) (p : Nat) (s : State), s.lco.op = some (.prog w v p) ∧ p < 7) ∧
    (∃ (w : Nat) (v : Word) (p : Nat) (s : State), s.lco.op = some (.prog w v p) ∧ 7 ≤ p) ∧
    (∃ (b : Lc) (c y p : Nat) (s : State), s.lco.op = some (.transition b c y p)) ∧
    (∃ (b : Lc) (c y p : Nat) (s : State), s.lco.op = some (.transition b c y p) ∧ p < 7) ∧
    (∃ (b : Lc) (c y p : Nat) (s : State), s.lco.op = some (.transition b c y p) ∧ 7 ≤ p) ∧
    (∃ (r : Role) (tgt cell p : Nat) (s : State), s.lco.op = some (.arb r tgt cell p)) ∧
    (∃ (r : Role) (tgt cell p : Nat) (s : State), s.lco.op = some (.arb r tgt cell p) ∧ p < 7) ∧
    (∃ (r : Role) (tgt cell p : Nat) (s : State), s.lco.op = some (.arb r tgt cell p) ∧ 7 ≤ p) ∧
    (∃ (cell p : Nat) (s : State), s.lco.op = some (.wdrSet cell p)) ∧
    (∃ (cell p : Nat) (s : State), s.lco.op = some (.wdrClr cell p)) ∧
    (∃ (w p n : Nat) (s : State), s.lco.op = some (.wipe w p n)) ∧
    (∃ (w p : Nat) (x : Word) (h : List Word) (s : State), s.lco.op = some (.enrol w p (x :: h))) ∧
    (∃ (r : Role) (w : Nat) (s : State), passes s r (pgLco + 0x074) true true = true ∧ w = getFld s (pgLco + 0x068) 11 0 ∧ s.lco.op = none ∧ mayProg s r
      (otpField w) (rawReg s (pgLco + 0x06C)) = true ∧ (otpWord s w = 0 ∨ otpField w = .revoke) ∧ s.lco.pendingLc = false) ∧
    (∃ (r : Role) (w : Nat) (s : State), passes s r (pgLco + 0x074) true false = true ∧ w = getFld s (pgLco + 0x068) 11 0) ∧
    (∃ (r : Role) (v : Word) (s : State), passes s r (pgLco + 0x0C4) true true = true ∧ s.lco.op = none) :=
  ⟨⟨4095, 1, 7, tLc .maker (some (.prog 4095 1 7)), by decide⟩,
   ⟨0, 1, 6, tLc .maker (some (.prog 0 1 6)), by decide⟩,
   ⟨0x00F, 1, 7, tLc .maker (some (.prog 0x00F 1 7)), by decide⟩,
   ⟨.integrator, 0, 0, 0, tLc .maker (some (.transition .integrator 0 0 0)), by decide⟩,
   ⟨.fielded, 2, 3, 6, tLc .integrator (some (.transition .fielded 2 3 6)), by decide⟩,
   ⟨.fielded, 2, 3, 7, tLc .integrator (some (.transition .fielded 2 3 7)), by decide⟩,
   ⟨.f, 5, 4, 0, tLc .fielded (some (.arb .f 5 4 0)), by decide⟩,
   ⟨.f, 5, 4, 6, tLc .fielded (some (.arb .f 5 4 6)), by decide⟩,
   ⟨.f, 5, 4, 7, tLc .fielded (some (.arb .f 5 4 7)), by decide⟩,
   ⟨63, 0, tLc .fielded (some (.wdrSet 63 0)), by decide⟩,
   ⟨62, 7, tLc .fielded (some (.wdrClr 62 7)), by decide⟩,
   ⟨0x100, 0, 0, tLc .returned (some (.wipe 0x100 0 0)), by decide⟩,
   ⟨0, 0, 1, [], tLc .maker (some (.enrol 0 0 [1])), by decide⟩,
   ⟨.m, 0x020, setReg (setReg (tLc .maker none) (pgLco + 0x068) 0x020) (pgLco + 0x06C) 1, by decide⟩,
   ⟨.m, 4095, setReg tRun (pgLco + 0x068) 4095, by decide⟩,
   ⟨.f, 0, tRun, by decide⟩⟩

theorem test_witness_DebugAccess :
    (∃ (r : Role) (w : Word) (u : State) (s : State), passes s r (pgLco + 0x088) false false = true ∧ gateServes s (getFld s (pgLco + 0x080) 7 0) = true ∧
      pageUp s (gateMemPage (getFld s (pgLco + 0x080) 7 0)) = true ∧ pageGated s (gateMemPage (getFld s (pgLco + 0x080) 7 0)) = false ∧ gateWord s r
      (getFld s (pgLco + 0x080) 7 0) (rawReg s (pgLco + 0x084)).toNat = some (w, u)) ∧
    (∃ (r : Role) (s : State), passes s r (pgLco + 0x088) false false = true ∧ (gateServes s (getFld s (pgLco + 0x080) 7 0) = false ∨ (pageUp s
      (gateMemPage (getFld s (pgLco + 0x080) 7 0)) = true ∧ pageGated s (gateMemPage (getFld s (pgLco + 0x080) 7 0)) = false ∧ gateWord s r (getFld s
      (pgLco + 0x080) 7 0) (rawReg s (pgLco + 0x084)).toNat = none))) ∧
    (∃ (s : State), passes s .d (pgSbx + 0x0C0) true false = true ∧ s.sbx.halted = false ∧ mayHalt s = true) ∧
    (∃ (s : State), passes s .d (pgSbx + 0x0C0) true false = true ∧ s.sbx.halted = false ∧ mayHalt s = false) ∧
    (∃ (s : State), passes s .d (pgSbx + 0x0C0) true false = true ∧ s.sbx.halted = true) :=
  ⟨⟨.d, Config.bootRom 0, setReg (tLc .maker none) (pgLco + 0x080) 4,
    setReg (tLc .maker none) (pgLco + 0x080) 4, by decide, by decide, by decide, by decide, rfl⟩,
   ⟨.d, setReg (tLc .maker none) (pgLco + 0x080) 0x0B, by decide⟩,
   ⟨tLc .maker none, by decide⟩,
   ⟨tSbx { Sbx.reset with boot := .running } |> fun s => { s with lco := { tLco with lc := .integrator, unlocked := true } }, by decide⟩,
   ⟨{ tLc .maker none with sbx := { Sbx.reset with boot := .running, halted := true } }, by decide⟩⟩

theorem test_witness_JunctionCommands :
    (∃ (r : Role) (v : Word) (s : State), passes s r (pgJct + 0x060) true true = true ∧ s.jct.judging = false ∧ enabled s pgJct = true) ∧
    (∃ (r : Role) (v : Word) (s : State), passes s r (pgJct + 0x060) true true = true ∧ s.jct.judging = true) ∧
    (∃ (r : Role) (v : Word) (s : State), passes s r (pgJct + 0x060) true true = true ∧ s.jct.judging = false ∧ enabled s pgJct = false) ∧
    (∃ (r : Role) (v : Word) (s : State), passes s r (pgJct + 0x060) true false = true ∧ s.jct.judging = false) ∧
    (∃ (s : State), s.jct.judging = true) ∧
    (∃ (upsets : List CopyUpset) (ecc : Bool) (s : State), domUp s 12 = true) ∧
    (∃ (r : ResetRange) (rest : List ResetRange) (s : State), s.anchor.resets = r :: rest) :=
  ⟨⟨.f, 0x100, tFab, by decide⟩,
   ⟨.f, 0x100, { tFab with jct := { tFab.jct with judging := true } }, by decide⟩,
   ⟨.f, 0x100, setReg tFab (pgJct + 0x00C) 0, by decide⟩,
   ⟨.f, 0x200, tFab, by decide⟩,
   ⟨{ tFab with jct := { tFab.jct with judging := true } }, by decide⟩,
   ⟨[], false, tFab, by decide⟩,
   ⟨⟨0, 0, 1, false⟩, [], { tFab with anchor := { Anchor.reset with resets := [⟨0, 0, 1, false⟩] } }, by decide⟩⟩

theorem test_witness_RequestsOfTheFabric :
    (∃ (e : Fin 40) (op aop : BitVec 4) (addr : BitVec 35) (home : BitVec 14) (link : BitVec 5) (gmask : BitVec 2) (keyId : BitVec 16) (pasid : BitVec 20)
      (ctx : BitVec 24) (tag : BitVec 10) (wdata : Bytes) (wbe : BitVec 256) (perr : Bool) (s : State), (engAt s e.val).ingress = none ∧ regBit s
      (engPage e.val + 0x010) 9 = false ∧ windowOpen s = true ∧ s.held = true ∧ s.withdrawn = false) ∧
    (∃ (e : Fin 40) (op aop : BitVec 4) (addr : BitVec 35) (home : BitVec 14) (link : BitVec 5) (gmask : BitVec 2) (keyId : BitVec 16) (pasid : BitVec 20)
      (ctx : BitVec 24) (tag : BitVec 10) (wdata : Bytes) (wbe : BitVec 256) (q : Req) (s : State), q = fmReq op.toNat aop.toNat addr.toNat home.toNat
      link.toNat gmask.toNat keyId.toNat pasid.toNat ctx.toNat tag.toNat wdata wbe none 0 ∧ fmOpen s e.val = true ∧ tagBusy s e.val tag.toNat = true) ∧
    (∃ (e : Fin 40) (op aop : BitVec 4) (addr : BitVec 35) (home : BitVec 14) (link : BitVec 5) (gmask : BitVec 2) (keyId : BitVec 16) (pasid : BitVec 20)
      (ctx : BitVec 24) (tag : BitVec 10) (wdata : Bytes) (wbe : BitVec 256) (q : Req) (s : State), q = fmReq op.toNat aop.toNat addr.toNat home.toNat
      link.toNat gmask.toNat keyId.toNat pasid.toNat ctx.toNat tag.toNat wdata wbe none 0 ∧ fmOpen s e.val = true ∧ tagBusy s e.val tag.toNat = false
      ∧ (q.malformed = true ∨ q.op ≠ 4 ∧ q.home = s.dom.ownId ∧ (∃ x, engineOfPage q.page = some x ∧ x ≠ e.val))) ∧
    (∃ (e : Fin 40) (op aop : BitVec 4) (addr : BitVec 35) (home : BitVec 14) (link : BitVec 5) (gmask : BitVec 2) (keyId : BitVec 16) (pasid : BitVec 20)
      (ctx : BitVec 24) (tag : BitVec 10) (wdata : Bytes) (wbe : BitVec 256) (i : Option Nat) (q : Req) (s : State), i = instOfPasid s pasid.toNat ∧ q
      = fmReq op.toNat aop.toNat addr.toNat home.toNat link.toNat gmask.toNat keyId.toNat pasid.toNat ctx.toNat tag.toNat wdata wbe i (i.elim 0
      (instGen s)) ∧ fmOpen s e.val = true ∧ tagBusy s e.val tag.toNat = false ∧ q.malformed = false ∧ q.op = 4 ∧ fmServes s e.val = true ∧
      admissionStopped s (engPage e.val) = false ∧ orderRoom s i = true ∧ s.ttb.stores = []) ∧
    (∃ (e : Fin 40) (op aop : BitVec 4) (addr : BitVec 35) (home : BitVec 14) (link : BitVec 5) (gmask : BitVec 2) (keyId : BitVec 16) (pasid : BitVec 20) (ctx : BitVec 24) (tag : BitVec 10) (wdata : Bytes) (wbe : BitVec 256) (q : Req) (i : Option Nat) (v : State) (j : Nat) (x : JEntry) (s : State), i = instOfPasid s pasid.toNat ∧ q = fmReq op.toNat aop.toNat addr.toNat home.toNat link.toNat gmask.toNat keyId.toNat pasid.toNat ctx.toNat tag.toNat wdata wbe i (i.elim 0 (instGen s)) ∧ fmOpen s e.val = true ∧ tagBusy s e.val tag.toNat = false ∧ q.malformed = false ∧ q.isRead = true ∧ q.home = s.dom.ownId ∧ engineOfPage q.page = some e.val ∧ v = holdIngress s e.val { q with inst := none, gen := 0 } 0 ∧ judgeLocal v e.val q = (v, .ok j x i) ∧ unmet v e.val q x i = none ∧ x.cls = .p ∧ (engAt s e.val).sets = [] ∧ portTakes s e.val (.slotRead (firstGap (engAt s e.val).slots 0)) false q = true) ∧
    (∃ (e : Fin 40) (h q : Req) (j : Nat) (x : JEntry) (i : Option Nat) (s : State), (engAt s e.val).service = [] ∧ (engAt s e.val).ingress = some h ∧ q =
      renew s h ∧ quietPort s e.val ∧ s.cru.st = .run ∧ blockStatus s = none ∧ q.src = .fm ∧ tagBusy s e.val q.tag = false ∧ q.malformed = false ∧
      q.granules ≠ [] ∧ q.isRead = true ∧ q.home = s.dom.ownId ∧ engineOfPage q.page = some e.val ∧ judgeLocal s e.val q = (s, .ok j x i) ∧ unmet s
      e.val q x i = none ∧ x.cls = .p ∧ (engAt s e.val).sets = [] ∧ portTakes s e.val (.slotRead (firstGap (engAt s e.val).slots 0)) false q = true) ∧
    (∃ (e : Fin 40) (q : Req) (r : List Req) (j : Nat) (x : JEntry) (i : Option Nat) (v : State) (s : State), (engAt s e.val).service = [] ∧ (engAt s e.val).ingress = none ∧ (engAt s e.val).remoteQ = q :: r ∧ (engAt s e.val).sets = [] ∧ quietPort s e.val ∧ s.cru.st = .run ∧ blockStatus s = none ∧ q.src ≠ .fm ∧ q.op = 0 ∧ q.malformed = false ∧ q.granules ≠ [] ∧ v = setEng s e.val { engAt s e.val with remoteQ := r, ingress := some q, hold := 0, turn := !(engAt s e.val).turn } ∧ judgeLocal v e.val q = (v, .ok j x i) ∧ unmet v e.val q x i = none ∧ x.cls = .p ∧ portTakes s e.val (.slotRead (firstGap (engAt s e.val).slots 0)) false q = true) ∧
    (∃ (e : Fin 40) (h q : Req) (j : Nat) (x : JEntry) (i : Option Nat) (v : State) (s : State), (engAt s e.val).service = [] ∧ (engAt s e.val).ingress =
      some h ∧ q = renew s h ∧ quietPort s e.val ∧ s.cru.st = .run ∧ blockStatus s = none ∧ q.src = .fm ∧ tagBusy s e.val q.tag = false ∧ q.malformed
      = false ∧ q.op = 1 ∧ q.fullWrite = true ∧ q.home = s.dom.ownId ∧ engineOfPage q.page = some e.val ∧ v = noteStore s e.val q ∧ judgeLocal v e.val
      q = (v, .ok j x i) ∧ unmet v e.val q x i = none ∧ x.cls = .p) :=
  ⟨⟨39, 0, 0, 0, 0, 0, 1, 0, 0, 0, 0, [], 0, false, { tFab with held := true }, by decide⟩,
   ⟨0, 5, 0, 0, 0, 0, 1, 0, 1, 0, 0, [], 0, fmReq 5 0 0 0 0 1 0 1 0 0 [] 0 none 0, tEng (fun g => { g with slots := [(0, tAdm)] }), by and_intros <;> first | rfl | decide⟩,
   ⟨0, 5, 0, 0, 0, 0, 1, 0, 1, 0, 0, [], 0, fmReq 5 0 0 0 0 1 0 1 0 0 [] 0 none 0, tFab, rfl, by decide, by decide, Or.inl (by decide)⟩,
   ⟨0, 4, 0, 0, 0, 0, 1, 0, 0, 0, 0, [], 0, some 0, fmReq 4 0 0 0 0 1 0 0 0 0 [] 0 (some 0) 0, tFab, by and_intros <;> first | rfl | decide⟩,
   ⟨0, 0, 0, 0, 0, 0, 1, 0, 0, 0, 0, [], 0, tReq, some 0, holdIngress tFab 0 { tReq with inst := none, gen := 0 } 0, 0, tEntry, tFab, by and_intros <;> first | rfl | decide⟩,
   ⟨0, tReq, tReq, 0, tEntry, some 0, tEng (fun g => { g with ingress := some tReq }), by unfold quietPort; and_intros <;> first | rfl | decide⟩,
   ⟨0, { tReq with src := .hgt 0 }, [], 0, tEntry, some 0,
     setEng (tEng (fun g => { g with remoteQ := [{ tReq with src := .hgt 0 }] })) 0
     { engAt (tEng (fun g => { g with remoteQ := [{ tReq with src := .hgt 0 }] })) 0 with remoteQ := [], ingress := some { tReq with src := .hgt 0 }, hold := 0, turn := true }, tEng (fun g => { g with remoteQ := [{ tReq with src := .hgt 0 }] }), by unfold quietPort; and_intros <;> first | rfl | decide⟩,
   ⟨0, { tReq with op := 1, wbe := List.replicate 256 true }, { tReq with op := 1, wbe := List.replicate 256 true }, 0, tEntry, some 0,
     noteStore (tEng (fun g => { g with ingress := some { tReq with op := 1, wbe := List.replicate 256 true } })) 0
     { tReq with op := 1, wbe := List.replicate 256 true },
     tEng (fun g => { g with ingress := some { tReq with op := 1, wbe := List.replicate 256 true } }), by unfold quietPort; and_intros <;> first | rfl | decide⟩⟩

theorem test_witness_MemoryPortCommands :
    (∃ (e : Fin 40) (id : BitVec 8) (data : Bytes) (n off len : Nat) (wr : Bool) (a : Adm) (parts : List (Nat × Bytes)) (s : State), tblFind (engAt s
      e.val).txs id.toNat = some ⟨.slotRead n, off, wr, len⟩ ∧ (engAt s e.val).txq = [] ∧ tblFind (engAt s e.val).slots n = some a ∧ a.req.src = .fm ∧
      a.stage = .readWait ∧ a.responded = false ∧ genFresh s a.snap.inst a.snap.gen = true ∧ injArmed s (engPage e.val) 0 = false ∧ injArmed s
      (engPage e.val) 3 = false ∧ injArmed s (engPage e.val) 4 = false ∧ (a.snap.cls = .p ∨ a.snap.cls = .e ∨ ∀ c ∈ a.ctrs, c.2.2 ≠ 0) ∧ verifyRead s
      e.val a data = (parts, none)) ∧
    (∃ (e : Fin 40) (n : Fin 128) (a : Adm) (s : State), tblFind (engAt s e.val).slots n.val = some a ∧ a.stage = .writeReady ∧ (∀ b ∈ (engAt s
      e.val).slots, b.2.stage = .writeReady → lineOf b.2.req = lineOf a.req → a.order ≤ b.2.order) ∧ portTakes s e.val .writeback true a.req = true) ∧
    (∃ (e : Fin 40) (id : BitVec 8) (x : Tx) (s : State), tblFind (engAt s e.val).txs id.toNat = some x ∧ x.wr = true ∧ x.purpose ≠ .checkpoint ∧ (engAt s
      e.val).txq = [] ∧ s.kvt.loads = []) ∧
    (∃ (e : Fin 40) (id : BitVec 8) (data : Bytes) (v idx off len : Nat) (wr : Bool) (f : Fill) (p : State) (s : State), tblFind (engAt s e.val).txs id.toNat = some ⟨.fill (.node v) idx, off, wr, len⟩ ∧ (engAt s e.val).txq = [] ∧ s.ctc.fills = [f] ∧ f.tree = e.val ∧ f.kind = .node v ∧ f.idx = idx ∧ f.merge = false ∧ f.wb = none ∧ s.kvt.loads = [] ∧ s.coh.cts = [] ∧ s.coh.dir = [] ∧ (∀ g ∈ s.engs, g.2.reseal = none) ∧ injArmed s (engPage e.val) 3 = false ∧ injArmed s (engPage e.val) 4 = false ∧ injArmed s pgCtc 0 = false ∧ p = setEng s e.val { engAt s e.val with txs := tblDel (engAt s e.val).txs id.toNat }) :=
  ⟨⟨0, 5, zeros 128, 3, 0, 128, false, tAdm, [(0, zeros 128)],
    tEng (fun g => { g with slots := [(3, tAdm)], txs := [(5, ⟨.slotRead 3, 0, false, 128⟩)] }), by and_intros <;> first | rfl | decide⟩,
   ⟨0, 95, { tAdm with stage := .writeReady }, tEng (fun g => { g with slots := [(95, { tAdm with stage := .writeReady })] }), by decide⟩,
   ⟨0, 255, ⟨.writeback, 0, true, 128⟩, tEng (fun g => { g with txs := [(255, ⟨.writeback, 0, true, 128⟩)] }), by decide⟩,
   ⟨0, 5, zeros 256, 1, 0, 0, 256, false, ⟨0, .node 1, 0, 0, 1, false, none, false, false, none, none⟩,
     { setEng (tEng (fun g => { g with txs := [(5, ⟨.fill (.node 1) 0, 0, false, 256⟩)] })) 0
        { engAt (tEng (fun g => { g with txs := [(5, ⟨.fill (.node 1) 0, 0, false, 256⟩)] })) 0 with txs := [] } with
       ctc := { Ctc.reset with fills := [⟨0, .node 1, 0, 0, 1, false, none, false, false, none, none⟩] } },
     { tEng (fun g => { g with txs := [(5, ⟨.fill (.node 1) 0, 0, false, 256⟩)] }) with
       ctc := { Ctc.reset with fills := [⟨0, .node 1, 0, 0, 1, false, none, false, false, none, none⟩] } }, by and_intros <;> first | rfl | decide⟩⟩

theorem test_witness_OrderingAndReseal :
    (∃ (f : OrdFlag) (s : State), s.ttb.flags.find? (fun f => f.preds = []) = some f ∧ genFresh s f.req.inst f.req.gen = true ∧ f.failed = none ∧
      f.req.pure = true ∧ f.req.src = .fm) ∧
    (∃ (f : OrdFlag) (o st : Nat) (s : State), s.ttb.flags.find? (fun f => f.preds = []) = some f ∧ genFresh s f.req.inst f.req.gen = true ∧ f.failed =
      some (o, st) ∧ st ≠ 0 ∧ f.req.src = .fm) ∧
    (∃ (f : OrdFlag) (s : State), s.ttb.flags.find? (fun f => f.preds = []) = some f ∧ genFresh s f.req.inst f.req.gen = true ∧ f.failed = none ∧
      f.req.pure = false ∧ f.req.home = s.dom.ownId ∧ engineOfPage f.req.page = some f.engine) ∧
    (∃ (e : Fin 40) (data : Bytes) (r : Reseal) (k : Nat × Tx) (x : Line) (a : Nat) (m : List Nat) (i f : Bool) (s : State), (engAt s e.val).reseal = some
      r ∧ (engAt s e.val).txs.find? (fun t => t.2.purpose = .checkpoint) = some k ∧ (engAt s e.val).txq = [] ∧ findLine s e.val .ctr r.page = some x ∧
      x.data = .ctr a m i f ∧ injArmed s (engPage e.val) 6 = false ∧ data.take 56 ++ [data.getD 63 0] = ctrAad a m i f) ∧
    (∃ (e : Fin 40) (r : Reseal) (x : Line) (a : Nat) (m : List Nat) (i f : Bool) (b : Adm) (s : State), (engAt s e.val).reseal = some r ∧ findLine s
      e.val .ctr r.page = some x ∧ x.data = .ctr a m i f ∧ (r.step = .granules ∨ r.step = .resume) ∧ r.left = [] ∧ r.pins = (LineKind.ctr, r.page) ::
      (List.range 4).map (fun k => (LineKind.tag, r.page * 4 + k)) ∧ resealAdm s e.val r x = some b ∧ resealReady s e.val r b = true) :=
  ⟨⟨⟨{ tReq with op := 4, gmask := 1 }, 0, 0, [], none⟩, { tFab with ttb := ⟨0, [], [⟨{ tReq with op := 4, gmask := 1 }, 0, 0, [], none⟩], []⟩ }, by decide⟩,
   ⟨⟨{ tReq with op := 4, gmask := 1 }, 0, 0, [], some (1, 0x06)⟩, 1, 6,
     { tFab with ttb := ⟨0, [], [⟨{ tReq with op := 4, gmask := 1 }, 0, 0, [], some (1, 0x06)⟩], []⟩ }, by decide⟩,
   ⟨⟨{ tReq with op := 4, gmask := 1, wbe := List.replicate 256 true }, 0, 0, [], none⟩,
     { tFab with ttb := ⟨0, [], [⟨{ tReq with op := 4, gmask := 1, wbe := List.replicate 256 true }, 0, 0, [], none⟩], []⟩ }, by decide⟩,
   ⟨0, (ctrAad 0 (List.replicate 32 0) false false).take 56 ++ zeros 7 ++ [0], ⟨0, none, 0, 0, [], .checkpoint, 0, [], [], [], []⟩, (7, ⟨.checkpoint, 0, true, 64⟩),
     tCtr, 0, List.replicate 32 0, false, false,
     { tEng (fun g => { g with reseal := some ⟨0, none, 0, 0, [], .checkpoint, 0, [], [], [], []⟩, txs := [(7, ⟨.checkpoint, 0, true, 64⟩)] }) with ctc := { Ctc.reset with lines := [tCtr] } }, by and_intros <;> first | rfl | decide⟩,
   ⟨0, tResl, tCtr, 0, List.replicate 32 0, false, false,
     (resealAdm ({ tEng (fun g => { g with reseal := some tResl }) with ctc := { Ctc.reset with lines := [tCtr] }, kvt := tSlotted.kvt }) 0 tResl tCtr).getD tAdm,
     { tEng (fun g => { g with reseal := some tResl }) with ctc := { Ctc.reset with lines := [tCtr] }, kvt := tSlotted.kvt }, by and_intros <;> first | rfl | decide⟩⟩

theorem test_witness_CtcControls :
    (∃ (s : State), 4096 ≤ s.ctc.counted ∧ regBit s (pgCtc + 0x048) 8 = false) ∧
    (∃ (s : State), s.ctc.overrideAuth = true) ∧
    (∃ (r : Role) (v : Word) (s : State), passes s r (pgCtc + 0x040) true true = true ∧ 1 ≤ getBits v 6 4 ∧ getBits v 6 4 ≤ 4 ∧ getBits v 3 0 ≤ 8 ∧
      getBits v 6 4 + getBits v 3 0 ≤ 12) ∧
    (∃ (r : Role) (v : Word) (s : State), passes s r (pgCtc + 0x040) true true = true ∧ (getBits v 6 4 < 1 ∨ 4 < getBits v 6 4 ∨ 8 < getBits v 3 0 ∨ 12 <
      getBits v 6 4 + getBits v 3 0)) ∧
    (∃ (v : Word) (s : State), s.ctc.partChange = some v ∧ (∀ x ∈ s.ctc.lines, wayPart (rawReg s (pgCtc + 0x040)) x.way = wayPart v x.way) ∧ (∀ f ∈
      s.ctc.fills, wayPart (rawReg s (pgCtc + 0x040)) f.way = wayPart v f.way)) ∧
    (∃ (r : Role) (v : Word) (s : State), passes s r (pgCtc + 0x044) true true = true ∧ getBits v 4 0 ≤ getBits v 9 5 ∧ getBits v 9 5 ≤ 16) ∧
    (∃ (r : Role) (v : Word) (s : State), passes s r (pgCtc + 0x044) true true = true ∧ (16 < getBits v 9 5 ∨ getBits v 9 5 < getBits v 4 0)) :=
  ⟨⟨{ tFab with ctc := { Ctc.reset with counted := 4096 } }, by decide⟩,
   ⟨{ tFab with ctc := { Ctc.reset with overrideAuth := true } }, by decide⟩,
   ⟨.f, 0x48, tFab, by decide⟩,
   ⟨.f, 0x50, tFab, by decide⟩,
   ⟨0x41, { tFab with ctc := { Ctc.reset with partChange := some 0x41 } }, by decide⟩,
   ⟨.f, 0x210, tFab, by decide⟩,
   ⟨.f, 0x220, tFab, by decide⟩⟩

theorem test_witness_CoherenceAtTheHome :
    (∃ (m : BitVec 14) (tree : Fin 40) (idx : BitVec 32) (d : DirEntry) (x : Line) (n : Nat) (s : State), s.cru.st = .run ∧ injArmed s pgCtc 2 = false ∧
      (engAt s tree.val).reseal = none ∧ d.pinned = true ∧ dirOf s tree.val idx.toNat = some d ∧ d.queue = [] ∧ findLine s tree.val .ctr idx.toNat =
      some x ∧ m.toNat ≠ s.dom.ownId ∧ spanFor s m.toNat = some n ∧ d.st = .u) ∧
    (∃ (m : BitVec 14) (tree : Fin 40) (idx : BitVec 32) (d : DirEntry) (x : Line) (n : Nat) (s : State), ∃ l, s.cru.st = .run ∧ injArmed s pgCtc 2 =
      false ∧ (engAt s tree.val).reseal = none ∧ d.pinned = true ∧ dirOf s tree.val idx.toNat = some d ∧ d.queue = [] ∧ findLine s tree.val .ctr
      idx.toNat = some x ∧ m.toNat ≠ s.dom.ownId ∧ spanFor s m.toNat = some n ∧ d.st = .s l ∧ d.invs = []) ∧
    (∃ (m : BitVec 14) (tree : Fin 40) (idx : BitVec 32) (d : DirEntry) (x : Line) (n : Nat) (s : State), ∃ (w k : Nat) (c : Instr), s.cru.st = .run ∧
      injArmed s pgCtc 2 = false ∧ (engAt s tree.val).reseal = none ∧ d.pinned = true ∧ dirOf s tree.val idx.toNat = some d ∧ d.queue = [] ∧ findLine
      s tree.val .ctr idx.toNat = some x ∧ m.toNat ≠ s.dom.ownId ∧ spanFor s m.toNat = some n ∧ (c = .getsReceive m tree idx ∨ c = .getoReceive m tree
      idx) ∧ d.st = .o w ∧ w ≠ m.toNat ∧ d.recalls = 0 ∧ spanFor s w = some k) ∧
    (∃ (m : BitVec 14) (tree : Fin 40) (idx : BitVec 32) (v : Word) (d : DirEntry) (l : List Nat) (s : State), s.cru.st = .run ∧ injArmed s pgCtc 2 =
      false ∧ d.pinned = true ∧ s.coh.late = [] ∧ dirOf s tree.val idx.toNat = some d ∧ d.st = .s l ∧ d.v = v.toNat ∧ d.queue = [] ∧ d.heldWb = none ∧
      d.invs.any (fun i => i.1 = m.toNat) = true) ∧
    (∃ (m : BitVec 14) (tree : Fin 40) (idx : BitVec 32) (v count : Word) (line : Bytes) (d : DirEntry) (x : Line) (n : Nat) (s : State), s.cru.st = .run
      ∧ injArmed s pgCtc 2 = false ∧ s.coh.late = [] ∧ dirOf s tree.val idx.toNat = some d ∧ d.st = .o m.toNat ∧ d.v = v.toNat ∧ d.queue = [] ∧ d.invs
      = [] ∧ findLine s tree.val .ctr idx.toNat = some x ∧ spanFor s m.toNat = some n ∧ count.toNat ≤ d.wct) ∧
    (∃ (m : BitVec 14) (tree : Fin 40) (idx : BitVec 32) (v count : Word) (line : Bytes) (d : DirEntry) (x : Line) (n : Nat) (s : State), s.cru.st = .run
      ∧ injArmed s pgCtc 2 = false ∧ s.coh.late = [] ∧ dirOf s tree.val idx.toNat = some d ∧ d.st = .o m.toNat ∧ d.v = v.toNat ∧ d.queue = [] ∧ d.invs
      = [] ∧ findLine s tree.val .ctr idx.toNat = some x ∧ spanFor s m.toNat = some n ∧ d.wct < count.toNat) ∧
    (∃ (m : BitVec 14) (g : BitVec 35) (v : Word) (major : BitVec 64) (minor : BitVec 12) (tag data : Bytes) (e j : Nat) (x : JEntry) (d : DirEntry) (ks :
      KeySet) (s : State), s.cru.st = .run ∧ injArmed s pgCtc 2 = false ∧ engineOfPage (g.toNat / 32) = some e ∧ winner (copyTable s ((spanFor s
      m.toNat).elim 0 islandOfSpan)) (g.toNat / 32) = some (j, x) ∧ (tagLine s e ((channelPage (g.toNat / 32) * 32 + g.toNat % 32) / 8) x.ksrc).isSome
      = true ∧ mayPresent s e (engAt s e).txq ⟨.writeback, granuleOff (channelPage (g.toNat / 32)) (g.toNat % 32), true, 128⟩ = true ∧ dirOf s e
      (channelPage (g.toNat / 32)) = some d ∧ d.st = .o m.toNat ∧ d.v = v.toNat ∧ d.heldWb = none ∧ keysOf s x.ksrc = some ks) ∧
    (∃ (tree : Fin 40) (idx : BitVec 32) (d : DirEntry) (w : HeldWb) (n : Nat) (s : State), dirOf s tree.val idx.toNat = some d ∧ d.heldWb = some w ∧
      d.queue = [] ∧ d.invs = [] ∧ s.coh.late = [] ∧ spanFor s w.src = some n) ∧
    (∃ (tree : Fin 40) (idx : BitVec 32) (d : DirEntry) (w n : Nat) (s : State), dirOf s tree.val idx.toNat = some d ∧ d.st = .o w ∧ 1 ≤ d.recalls ∧
      d.recalls < 3 ∧ spanFor s w = some n) ∧
    (∃ (tree : Fin 40) (idx : BitVec 32) (m : BitVec 14) (d : DirEntry) (k n : Nat) (s : State), dirOf s tree.val idx.toNat = some d ∧ d.invs.find? (fun i
      => i.1 = m.toNat) = some (m.toNat, k) ∧ k < 3 ∧ spanFor s m.toNat = some n) :=
  ⟨⟨1, 0, 0, tDir (.u), tCtr, 0, tHome (tDir (.u)), by decide⟩,
   ⟨1, 0, 0, tDir (.s [2]), tCtr, 0, tHome (tDir (.s [2])), [2], by decide⟩,
   ⟨2, 0, 0, tDir (.o 1), tCtr, 0, mapSpan (tHome (tDir (.o 1))) 0 (fun x => { x with mf := [(1, 0x80000000), (2, 0x80000000)] }), 1, 0,
     .getoReceive 2 0 0, by decide⟩,
   ⟨1, 0, 0, 1, { tDir (.s [1]) with invs := [(1, 0)] }, [1], tHome { tDir (.s [1]) with invs := [(1, 0)] }, by decide⟩,
   ⟨1, 0, 0, 1, 0, zeros 64, tDir (.o 1), tCtr, 0, tHome (tDir (.o 1)), by decide⟩,
   ⟨1, 0, 0, 1, 1, zeros 64, tDir (.o 1), tCtr, 0, tHome (tDir (.o 1)), by decide⟩,
   ⟨1, 0, 1, 0, 0, zeros 16, zeros 128, 0, 0, ⟨true, 0, 0xFFFF, .s, 1, 0, 0, true, true, false⟩, tDir (.o 1), (tSlot 1).keys.getD ⟨[], [], [], []⟩,
     { tHome (tDir (.o 1)) with
       kvt := tSlotted.kvt, ctc := { Ctc.reset with lines := [⟨0, .tag, 0, 0, 1, 1, 0, false, 0, none, 0, false, .tag []⟩] }
       jct := { Jct.reset with active := [(0, ⟨true, 0, 0xFFFF, .s, 1, 0, 0, true, true, false⟩)] } }, by and_intros <;> first | rfl | decide⟩,
   ⟨0, 0, { tDir (.o 1) with heldWb := some ⟨1, 1, 1, .tag []⟩ }, ⟨1, 1, 1, .tag []⟩, 0,
     tHome { tDir (.o 1) with heldWb := some ⟨1, 1, 1, .tag []⟩ }, by decide⟩,
   ⟨0, 0, { tDir (.o 1) with recalls := 2 }, 1, 0, tHome { tDir (.o 1) with recalls := 2 }, by decide⟩,
   ⟨0, 0, 1, { tDir (.s [1]) with invs := [(1, 2)] }, 2, 0, tHome { tDir (.s [1]) with invs := [(1, 2)] }, by decide⟩⟩

theorem test_witness_CoherenceAtTheMember :
    (∃ (h : BitVec 14) (tree : Fin 40) (idx : BitVec 32) (owned : Bool) (v : Word) (line : Bytes) (s : State), s.cru.st = .run ∧ injArmed s pgCtc 2 =
      false ∧ s.coh.reqs.any (fun r => r.home = h.toNat && r.tree = tree.val && r.idx = idx.toNat) = true) ∧
    (∃ (h : BitVec 14) (tree : Fin 40) (idx : BitVec 32) (owned : Bool) (v : Word) (line : Bytes) (s : State), s.cru.st = .run ∧ injArmed s pgCtc 2 =
      false ∧ s.coh.reqs.any (fun r => r.home = h.toNat && r.tree = tree.val && r.idx = idx.toNat) = false) ∧
    (∃ (h : BitVec 14) (tree : Fin 40) (idx : BitVec 32) (v : Word) (n : Nat) (s : State), s.cru.st = .run ∧ injArmed s pgCtc 2 = false ∧ spanFor s
      h.toNat = some n) ∧
    (∃ (h : BitVec 14) (tree : Fin 40) (idx : BitVec 32) (v : Word) (c : Copy) (s : State), s.cru.st = .run ∧ injArmed s pgCtc 2 = false ∧ copyOf s
      h.toNat tree.val idx.toNat = some c ∧ c.owned = true ∧ c.v = v.toNat) ∧
    (∃ (h : BitVec 14) (tree : Fin 40) (idx : BitVec 32) (c : Copy) (n : Nat) (s : State), copyOf s h.toNat tree.val idx.toNat = some c ∧ c.owned = true ∧
      c.recalled = true ∧ writeCtWaits s h.toNat tree.val idx.toNat = false ∧ spanFor s h.toNat = some n) ∧
    (∃ (h : BitVec 14) (tree : Fin 40) (idx : BitVec 32) (v : Word) (c : Copy) (s : State), s.cru.st = .run ∧ injArmed s pgCtc 2 = false ∧ copyOf s
      h.toNat tree.val idx.toNat = some c ∧ c.retained = true) ∧
    (∃ (h : BitVec 14) (tree : Fin 40) (idx : BitVec 32) (reason : BitVec 8) (s : State), s.cru.st = .run ∧ injArmed s pgCtc 2 = false) :=
  ⟨⟨1, 39, 7, true, 1, zeros 64, { tSpan tFab with coh := { Coh.reset with reqs := [⟨1, 39, 7, true, false⟩] } }, by decide⟩,
   ⟨1, 0, 0, true, 1, zeros 64, tSpan tFab, by decide⟩,
   ⟨1, 0, 0, 1, 0, tMember (tCopy false false false), by decide⟩,
   ⟨1, 0, 0, 1, tCopy true false false, tMember (tCopy true false false), by decide⟩,
   ⟨1, 0, 0, tCopy true true false, 0, tMember (tCopy true true false), by decide⟩,
   ⟨1, 0, 0, 1, tCopy false false true, tMember (tCopy false false true), by decide⟩,
   ⟨1, 0, 0, 3, { tSpan tFab with coh := { Coh.reset with reqs := [⟨1, 0, 0, true, true⟩] } }, by decide⟩⟩

theorem test_witness_FlowAndDispatchTableCommands :
    (∃ (r : Role) (n : Fin 18) (i : Nat) (x : Flow) (s : State), passes s r (pgVdt n.val + 0x088) true true = true ∧ i = flowIdx s n.val ∧
      x = stagedFlow s n.val ∧ (flowAt s n.val i).valid = false ∧ x.kind ≠ 3 ∧ x.dest ≠ 3 ∧ (x.kind = 0 → x.peerId ≠ s.dom.ownId) ∧ (x.kind ≠ 0 →
      isTenant x.keyId = true) ∧ (x.kind = 2 → x.dest = 2) ∧ (∀ f ∈ (spanAt s n.val).rx, f.flow ≠ i) ∧ (spanAt s n.val).memQ = []) ∧
    (∃ (r : Role) (n : Fin 18) (s : State), passes s r (pgVdt n.val + 0x088) true true = true ∧ (flowAt s n.val (flowIdx s n.val)).valid = true) ∧
    (∃ (r : Role) (n : Fin 18) (i : Nat) (s : State), passes s r (pgVdt n.val + 0x088) true true = true ∧ i = flowIdx s n.val ∧ dspOfFlow s n.val i = none) ∧
    (∃ (r : Role) (n : Fin 18) (x : Flow) (s : State), passes s r (pgVdt n.val + 0x088) true true = true ∧ x = flowAt s n.val (flowIdx s n.val)) ∧
    (∃ (r : Role) (n : Fin 18) (d : Dsp) (s : State), passes s r (pgVdt n.val + 0x10C) true true = true ∧ d = stagedDsp s n.val ∧
      tblFind (spanAt s n.val).dsp (dspIdx s n.val) = none ∧ (flowAt s n.val d.flow).valid = true ∧ (flowAt s n.val d.flow).kind = 0 ∧
      (∀ x ∈ (spanAt s n.val).dsp, x.2.flow ≠ d.flow) ∧ 1 ≤ d.frames ∧ d.frames ≤ 64 ∧ 1 ≤ d.fsize ∧ d.fsize ≤ 9070 ∧ d.period ≠ 0 ∧
      (d :: (spanAt s n.val).dsp.map Prod.snd).foldl (fun a x => a + x.frames * x.fsize) 0 ≤ 65536 ∧
      (dspLoad s n.val (d :: (spanAt s n.val).dsp.map Prod.snd)).1 * 100 ≤ gaugeCap (getFld s (pgVdt n.val + 0x070) 1 0) * 8 * (dspLoad s n.val (d :: (spanAt
      s n.val).dsp.map Prod.snd)).2) ∧
    (∃ (r : Role) (n : Fin 18) (s : State), passes s r (pgVdt n.val + 0x10C) true true = true ∧ (tblFind (spanAt s n.val).dsp (dspIdx s n.val)).isSome = true) ∧
    (∃ (r : Role) (n : Fin 18) (s : State), passes s r (pgVdt n.val + 0x10C) true true = true) ∧
    (∃ (r : Role) (n : Fin 18) (d : Dsp) (s : State), passes s r (pgVdt n.val + 0x10C) true true = true ∧
      tblFind (spanAt s n.val).dsp (dspIdx s n.val) = some d) :=
  ⟨⟨.f, 0, 6, stagedFlow (tRegs tLink [(pgVdt 0 + 0x078, 6), (pgVdt 0 + 0x07C, 0x00010000)]) 0, tRegs tLink [(pgVdt 0 + 0x078, 6), (pgVdt 0 + 0x07C,
    0x00010000)], by and_intros <;> first | rfl | decide⟩,
   ⟨.f, 0, tRegs tLink [(pgVdt 0 + 0x078, 5)], by decide⟩,
   ⟨.f, 0, 5, tRegs tLink [(pgVdt 0 + 0x078, 5)], by decide⟩,
   ⟨.f, 17, flowAt tFab 17 0, setReg tFab (pgVdt 17 + 0x00C) 1, by and_intros <;> first | rfl | decide⟩,
   ⟨.f, 0, tDsp, tRegs tLink [(pgVdt 0 + 0x100, 3), (pgVdt 0 + 0x104, 5 + 4 * 0x1000), (pgVdt 0 + 0x108,
     100 + 10 * 0x10000)], by and_intros <;> first | rfl | decide⟩,
   ⟨.f, 0, tRegs (tDs tDsp) [(pgVdt 0 + 0x100, 3)], by decide⟩,
   ⟨.f, 0, tRegs (tDs tDsp) [(pgVdt 0 + 0x100, 3)], by decide⟩,
   ⟨.f, 0, tDsp, tRegs (tDs tDsp) [(pgVdt 0 + 0x100, 3)], by decide⟩⟩

theorem test_witness_ReceivedFrames :
    (∃ (n : Fin 18) (frame : Bytes) (perr : Bool) (s : State), (blockStatus s).isSome = true) ∧
    (∃ (n : Fin 18) (frame : Bytes) (s : State), blockStatus s = none ∧ inService s (pgVdt n.val) = true ∧ injArmed s (pgVdt n.val) 3 = false ∧ (9216 <
      frame.length ∨ wellFormedFrame s n.val frame = false)) ∧
    (∃ (n : Fin 18) (frame h : Bytes) (p f sq ep : Nat) (r0 : RxFrame) (s : State), h = sealPart frame ∧ f = bfld h 4 2 ∧ sq = bfld h 6 8 ∧ ep = bfld h 14
      4 ∧ blockStatus s = none ∧ inService s (pgVdt n.val) = true ∧ injArmed s (pgVdt n.val) 3 = false ∧ injArmed s (pgVdt n.val) 4 = false ∧
      frame.length ≤ 9216 ∧ wellFormedFrame s n.val frame = true ∧ (ingressPart s n.val h = 1 → partHeld s n.val 1 + frame.length ≤ 24576) ∧
      (ingressPart s n.val h = 2 → partHeld s n.val 2 + frame.length ≤ 8192) ∧ (loadedEpoch s ep).map Prod.fst = some p ∧ s.dom.epoch ≠ 0 ∧ inMap s p
      (bfld h 2 2) = true ∧ flowFits s n.val h = true ∧ (windowTake (flowAt s n.val f) sq ep).isSome = true ∧ (∀ r ∈ (spanAt s n.val).rx, r.flow = f →
      r.seq ≠ sq) ∧ r0 = ⟨h, f, sq, ep, frame.length, none, false, none, none, none, none⟩ ∧ (bfld h 0 1 % 16 = 5 → ∃ ks, busRead s (bfld h 18 2) =
      .keys ks) ∧ (∀ k, fwdKey s n.val r0 = some k → ∃ ks, busRead s k = .keys ks)) ∧
    (∃ (n : Fin 18) (r : RxFrame) (err : Bool) (s : State), (spanAt s n.val).rx = [r] ∧ r.ended = none ∧ bfld r.body 0 1 % 16 ≠ 5 ∧ r.key = none ∧ fwdKey
      s n.val r = none ∧ heldKey s n.val r.flow true r.epoch = none) ∧
    (∃ (n : Fin 18) (r : RxFrame) (err : Bool) (k h body tag : Bytes) (s : State), (spanAt s n.val).rx = [r] ∧ r.ended = none ∧ bfld r.body 0 1 % 16 = 2 ∧
      (r.key = some k ∨ r.key = none ∧ heldKey s n.val r.flow true r.epoch = some k) ∧ injArmed s (pgVdt n.val) 0 = false ∧ h = r.body.take 32 ∧ body
      = (r.body.drop 32).take (bfld h 22 2) ∧ tag = (r.body.drop (32 + bfld h 22 2)).take 16 ∧ (peerAt s n.val (bfld h 2 2)).st = 0 ∧ (peerAt s n.val
      (bfld h 2 2)).inc = some (bfld h 20 1)) ∧
    (∃ (n : Fin 18) (pos peer d : Nat) (rest : List (Nat × Nat × Nat × Nat)) (ek : EpochKey) (s : State), s.kvt.pairWait = (n.val, pos, peer, d) :: rest ∧
      epochKeyAt s pos = some ek ∧ (spanAt s n.val).rx = []) ∧
    (∃ (n : Fin 18) (q : Req) (z e : Nat) (rest : List (Req × Nat)) (k : Nat) (s : State), (spanAt s n.val).memQ = (q, z) :: rest ∧ engineOfPage q.page = some e ∧ engineOut s e = false ∧ (engAt s e).remoteQ.length < 32 ∧ k = (match q.src with | .remote _ _ _ _ _ _ (some _) => 578 | _ => 450) ∧ respHeld s n.val + k ≤ 65536) :=
  ⟨⟨0, tFrame, false, { tLink with held := true }, by decide⟩,
   ⟨0, zeros 9217, tLink, by decide⟩,
   ⟨0, tFrame, tSeal 0x11, 0, 5, 0, 1, ⟨tSeal 0x11, 5, 0, 1, tFrame.length, none, false, none, none, none, none⟩, tLink, by
     and_intros <;> first | rfl | decide | exact fun h => absurd h (by decide) | exact fun k h => nomatch (show (none : Option Nat) = some k from h)⟩,
   ⟨0, ⟨tSeal 0x11, 5, 0, 1, 174, none, false, none, none, none, none⟩, false, tLk (fun x => { x with rx := [⟨tSeal 0x11, 5, 0, 1, 174, none, false, none, none, none, none⟩], keys := [] }), by decide⟩,
   ⟨0, ⟨tSeal 0x12, 5, 0, 1, 174, none, false, none, none, none, none⟩, false, zeros 32, (tSeal 0x12).take 32, ((tSeal 0x12).drop 32).take 32, ((tSeal 0x12).drop 64).take 16,
     tLk (fun x => { x with rx := [⟨tSeal 0x12, 5, 0, 1, 174, none, false, none, none, none, none⟩] }), by decide⟩,
   ⟨0, 0, 1, 11, [], ⟨1, Masked.zero⟩, { tLink with kvt := { tLink.kvt with pairWait := [(0, 0, 1, 11)] } }, by decide⟩,
   ⟨0, { tReq with src := .remote 0 1 5 0 0 0 none }, 0, 0, [], 450,
     tLk (fun x => { x with memQ := [({ tReq with src := .remote 0 1 5 0 0 0 none }, 0)] }), by decide⟩⟩

theorem test_witness_PayloadsAndEgress :
    (∃ (n : Fin 18) (hdr : BitVec 128) (x : NiItem) (s : State), x = ntItem s hdr.toNat ∧ (spanAt s n.val).nt = none ∧ blockStatus s = none ∧ injArmed s
      (pgVdt n.val) 3 = false ∧ pageGated s (pgVdt n.val) = false ∧ admissionStopped s (pgVdt n.val) = false ∧ hdr.toNat / 2 ^ 88 ≠ 0) ∧
    (∃ (n : Fin 18) (hdr : BitVec 128) (x : NiItem) (s : State), x = ntItem s hdr.toNat ∧ (spanAt s n.val).nt = none ∧ blockStatus s = none ∧ injArmed s
      (pgVdt n.val) 3 = false ∧ pageGated s (pgVdt n.val) = false ∧ admissionStopped s (pgVdt n.val) = false ∧ hdr.toNat / 2 ^ 88 = 0 ∧ dspOfFlow s
      n.val x.flow = none ∧ niRefusal s n.val x = none ∧ holdsSendKey s n.val x.flow = true ∧ replaying s (pgVdt n.val) = false ∧ hasCredit s n.val
      (flowAt s n.val x.flow) = true) ∧
    (∃ (n : Fin 18) (payload : Bytes) (x : NiItem) (s : State), ∃ st, x.trs = none ∧ genFresh s x.inst x.gen = true ∧ (spanAt s n.val).nt = some (.refused
      x st) ∧ blockStatus s = none) ∧
    (∃ (n : Fin 18) (payload : Bytes) (x : NiItem) (s : State), ∃ q ep key, x.trs = none ∧ genFresh s x.inst x.gen = true ∧ (spanAt s n.val).nt = some
      (.admitted x q ep key) ∧ payload.length ≤ ntLimit s n.val) ∧
    (∃ (n : Fin 18) (payload : Bytes) (x : NiItem) (s : State), ∃ e d, x.trs = none ∧ genFresh s x.inst x.gen = true ∧ (spanAt s n.val).nt = some
      (.dispatch x e) ∧ tblFind (spanAt s n.val).dsp e = some d ∧ payload.length ≤ d.fsize ∧ payload.length ≤ ntLimit s n.val) ∧
    (∃ (n : Fin 18) (x : NiItem) (s : State), ∃ st, (spanAt s n.val).outQ = [.ni x] ∧ admissionStopped s (pgVdt n.val) = false ∧ genFresh s x.inst x.gen =
      true ∧ x.trs = none ∧ niRefusal s n.val x = some st) ∧
    (∃ (n : Fin 18) (x : NiItem) (s : State), (spanAt s n.val).outQ = [.ni x] ∧ admissionStopped s (pgVdt n.val) = false ∧ genFresh s x.inst x.gen = true
      ∧ x.trs = none ∧ niRefusal s n.val x = none ∧ holdsSendKey s n.val x.flow = true ∧ replaying s (pgVdt n.val) = false ∧ hasCredit s n.val (flowAt
      s n.val x.flow) = true) ∧
    (∃ (n : Fin 18) (x : NiItem) (s : State), (spanAt s n.val).outQ = [.ni x] ∧ admissionStopped s (pgVdt n.val) = false ∧ genFresh s x.inst x.gen = true
      ∧ x.trs = none ∧ niRefusal s n.val x = none ∧ holdsSendKey s n.val x.flow = true ∧ replaying s (pgVdt n.val) = false ∧ hasCredit s n.val (flowAt
      s n.val x.flow) = false) ∧
    (∃ (n : Fin 18) (f : BitVec 12) (x : Flow) (s : State), x = flowAt s n.val f.toNat ∧ x.valid = true ∧ x.kind = 0 ∧ freedThrough s n.val f.toNat ≠
      x.told ∧ (spanAt s n.val).outQ.contains (.credit f.toNat) = false ∧ exhausted x = false ∧ spanServes s n.val = true ∧ blockStatus s = none ∧
      holdsSendKey s n.val f.toNat = true) ∧
    (∃ (n : Fin 18) (f : BitVec 12) (x : Flow) (s : State), x = flowAt s n.val f.toNat ∧ x.valid = true ∧ x.kind = 0 ∧ windowOf s n.val x ≠ 0 ∧ windowOf s
      n.val x ≤ x.sent - x.freed) ∧
    (∃ (n : Fin 18) (e : Fin 16) (d : Dsp) (s : State), tblFind (spanAt s n.val).dsp e.val = some d ∧ d.stopping = true) ∧
    (∃ (n : Fin 18) (e : Fin 16) (d : Dsp) (s : State), tblFind (spanAt s n.val).dsp e.val = some d ∧ d.stopping = false ∧ dspRuns s n.val = true) ∧
    (∃ (n : Fin 18) (e : Fin 16) (d : Dsp) (s : State), tblFind (spanAt s n.val).dsp e.val = some d ∧ d.running = true ∧ d.slot < d.frames ∧ dspRuns s
      n.val = true ∧ replaying s (pgVdt n.val) = false ∧ niRefusal s n.val (dspDummy d) = none ∧ d.queue = [] ∧ d.late = [] ∧ holdsSendKey s n.val d.flow = true ∧
      hasCredit s n.val (flowAt s n.val d.flow) = true) ∧
    (∃ (n : Fin 18) (e : Fin 16) (d : Dsp) (s : State), ∃ x q, tblFind (spanAt s n.val).dsp e.val = some d ∧ d.running = true ∧ d.slot < d.frames ∧
      dspRuns s n.val = true ∧ replaying s (pgVdt n.val) = false ∧ niRefusal s n.val (dspDummy d) = none ∧ d.queue = x :: q ∧ x.flow = d.flow ∧
      genFresh s x.inst x.gen = true ∧ niRefusal s n.val x = none ∧ x.trs = none ∧ d.late = [] ∧ holdsSendKey s n.val d.flow = true ∧ hasCredit s n.val (flowAt s
      n.val d.flow) = true) ∧
    (∃ (n : Fin 18) (e : Fin 16) (d : Dsp) (s : State), tblFind (spanAt s n.val).dsp e.val = some d ∧ d.running = true ∧ d.slot < d.frames ∧ dspRuns s
      n.val = true ∧ replaying s (pgVdt n.val) = false ∧ niRefusal s n.val (dspDummy d) = none ∧ d.queue = [] ∧ (d.late ≠ [] ∨
      hasCredit s n.val (flowAt s n.val d.flow) = false)) ∧
    (∃ (n : Fin 18) (e : Fin 16) (d : Dsp) (s : State), ∃ rest, tblFind (spanAt s n.val).dsp e.val = some d ∧ d.late = none :: rest ∧ dspRuns s n.val =
      true ∧ replaying s (pgVdt n.val) = false ∧ niRefusal s n.val (dspDummy d) = none ∧ holdsSendKey s n.val d.flow = true ∧ hasCredit s n.val
      (flowAt s n.val d.flow) = true) ∧
    (∃ (n : Fin 18) (i : Fin 1024) (o : OutReq) (s : State), tblFind (spanAt s n.val).outst i.val = some o ∧ o.req.src = .fm ∧ genFresh s o.req.inst
      o.req.gen = true) ∧
    (∃ (n : Fin 18) (p : BitVec 14) (i : Nat) (o : OutReq) (s : State), (peerAt s n.val p.toNat).st = 1 ∧ s.coh.dir = [] ∧ s.coh.late = [] ∧ (spanAt s
      n.val).outst = [(i, o)] ∧ o.peer = p.toNat ∧ o.req.src = .fm ∧ genFresh s o.req.inst o.req.gen = true) :=
  ⟨⟨0, 0x10000000000000000000000#128, ntItem tLink 0x10000000000000000000000, tLink, by and_intros <;> first | rfl | decide⟩,
   ⟨0, 81920, ntItem tLink 81920, tLink, by and_intros <;> first | rfl | decide⟩,
   ⟨0, [1, 2], tNi, tLk (fun x => { x with nt := some (.refused tNi 3) }), 3, by decide⟩,
   ⟨0, [1, 2], tNi, tLk (fun x => { x with nt := some (.admitted tNi 0 1 (zeros 32)) }), 0, 1, zeros 32, by decide⟩,
   ⟨0, [1, 2], tNi, mapSpan (tDs tDsp) 0 (fun x => { x with nt := some (.dispatch tNi 3) }), 3, tDsp, by decide⟩,
   ⟨0, { tNi with data := [1, 2] }, tLk (fun y => { y with outQ := [.ni { tNi with data := [1, 2] }], flows := [] }), Status.denied.code, by decide⟩,
   ⟨0, { tNi with data := [1, 2] }, tLk (fun x => { x with outQ := [.ni { tNi with data := [1, 2] }] }), by decide⟩,
   ⟨0, { tNi with data := [1, 2] },
     setReg (tLk (fun x => { x with outQ := [.ni { tNi with data := [1, 2] }], flows := [(5, { tFlow with sent := 1 })] })) (pgVdt 0 + 0x140)
     0x0101, by decide⟩,
   ⟨0, 5, { tFlow with high := some 3 }, tLf (fun x => { x with high := some 3 }), by and_intros <;> first | rfl | decide⟩,
   ⟨0, 5, { tFlow with sent := 1 }, setReg (tLf (fun x => { x with sent := 1 })) (pgVdt 0 + 0x140) 0x0101, by and_intros <;> first | rfl | decide⟩,
   ⟨0, 3, { tDsp with stopping := true }, tDs { tDsp with stopping := true }, by decide⟩,
   ⟨0, 3, tDsp, tDs tDsp, by decide⟩,
   ⟨0, 3, { tDsp with running := true }, tDs { tDsp with running := true }, by decide⟩,
   ⟨0, 3, { tDsp with running := true, queue := [tNi] }, tDs { tDsp with running := true, queue := [tNi] }, tNi, [], by decide⟩,
   ⟨0, 3, { tDsp with running := true },
     setReg (mapSpan (tDs { tDsp with running := true }) 0 (fun x => { x with flows := [(5, { tFlow with sent := 1 })] })) (pgVdt 0 + 0x140) 0x0101, by decide⟩,
   ⟨0, 3, { tDsp with late := [none] }, tDs { tDsp with late := [none] }, [], by decide⟩,
   ⟨0, 1023, tOut, tLk (fun x => { x with outst := [(1023, tOut)] }), by decide⟩,
   ⟨0, 1, 1023, tOut, tLk (fun x => { x with outst := [(1023, tOut)], peers := [(1, ⟨1, 0, none⟩)] }), by decide⟩⟩

theorem test_witness_ReductionCommands :
    (∃ (w : BitVec 256) (s : State), ∃ st, trsSettle s = s ∧ s.trs.desc = none ∧ s.cru.st = .run ∧ regBit s (pgTrs + 0x010) 9 = false ∧ injArmed s pgTrs 3
      = false ∧ replaying s pgTrs = false ∧ admissionStopped s pgTrs = false ∧ trsRefusal s w = some st) ∧
    (∃ (w : BitVec 256) (s : State), ∃ i g, trsSettle s = s ∧ s.trs.desc = none ∧ s.cru.st = .run ∧ regBit s (pgTrs + 0x010) 9 = false ∧ injArmed s pgTrs
      3 = false ∧ replaying s pgTrs = false ∧ admissionStopped s pgTrs = false ∧ trsRefusal s w = none ∧ instOfPasid s (tdesc w).pasid = some i ∧
      trsPlace s i (((tdesc w).elems + 15) / 16) = some g ∧ (tdesc w).loc = false) ∧
    (∃ (w : BitVec 256) (s : State), ∃ i, trsSettle s = s ∧ s.trs.desc = none ∧ s.cru.st = .run ∧ regBit s (pgTrs + 0x010) 9 = false ∧ injArmed s pgTrs 3
      = false ∧ replaying s pgTrs = false ∧ admissionStopped s pgTrs = false ∧ trsRefusal s w = none ∧ instOfPasid s (tdesc w).pasid = some i ∧
      trsPlace s i (((tdesc w).elems + 15) / 16) = none) ∧
    (∃ (w : BitVec 256) (s : State), trsSettle s = s ∧ s.trs.desc = none ∧ s.cru.st = .run ∧ regBit s (pgTrs + 0x010) 9 = false ∧ injArmed s pgTrs 3 =
      false ∧ replaying s pgTrs = false ∧ admissionStopped s pgTrs = false ∧ blockStatus s = none ∧ enabled s pgTrs = true ∧ pageGated s pgTrs = false
      ∧ pageUp s pgTrs = true) ∧
    (∃ (n : Fin 18) (x : NiItem) (q i : Nat) (rest : List (NiItem × Nat)) (c : Chunk) (off w : Nat) (v : List Elem) (s : State), trsSettle s = s ∧
      inService s pgTrs = true ∧ blockStatus s = none ∧ injArmed s pgTrs 0 = false ∧ (spanAt s n.val).trsQ = (x, q) :: rest ∧ x.inst = some i ∧
      genFresh s x.inst x.gen = true ∧ trsHeader s i x.keyId x.data = .ok c off w v ∧ fits c off v.length w = true ∧ stagedIn s c.group < 4 ∧ c.total
      + w * v.length ≠ c.desc.expect * c.desc.elems) ∧
    (∃ (i : Fin 256) (h : BitVec 48) (c : Chunk) (s : State), s.trs.desc = none ∧ s.trs.chunks.find? (fun c => c.inst = i.val && c.desc.handle = h.toNat)
      = some c ∧ trsSettle s = s ∧ c.summed = true ∧ c.todo = [] ∧ c.waits = [] ∧ c.payloads = 0) ∧
    (∃ (i : Fin 256) (h : BitVec 48) (c : Chunk) (s : State), s.trs.desc = none ∧ s.trs.chunks.find? (fun c => c.inst = i.val && c.desc.handle = h.toNat)
      = some c) ∧
    (∃ (n : Fin 18) (q : NiItem × Nat) (s : State), (spanAt s n.val).trsQ.find? (fun q => trsHeader s (q.1.inst.getD 0) q.1.keyId q.1.data = .unmatched) =
      some q) ∧
    (∃ (g : Fin 8) (c : Clearing) (s : State), s.trs.clearing.find? (fun c => c.group = g.val) = some c ∧ s.trs.desc = none) :=
  ⟨⟨tDsc, tFab, Status.denied.code, by and_intros <;> first | rfl | decide⟩,
   ⟨tDsc, tRed, 0, 0, by and_intros <;> first | rfl | decide⟩,
   ⟨tDsc, tTrs (fun x => { x with clearing := (List.range 8).map (fun g => ⟨g, 0, 1024⟩) }), 0, by and_intros <;> first | rfl | decide⟩,
   ⟨tDsc, tRed, by and_intros <;> first | rfl | decide⟩,
   ⟨0, { tNi with keyId := 1, data := [9, 0, 0, 0, 0, 0, 0, 0, 0, 0, 1, 0, 1, 0, 0, 0] ++ zeros (fmtSize 0 1) }, 4, 0, [], tChunk false, 0, 1,
     elemsOf 0 1 (zeros (fmtSize 0 1)),
     mapSpan (tTrs (fun x => { x with chunks := [tChunk false] })) 0 (fun x =>
     { x with trsQ := [({ tNi with keyId := 1, data := [9, 0, 0, 0, 0, 0, 0, 0, 0, 0, 1, 0, 1, 0, 0, 0] ++ zeros (fmtSize 0 1) }, 4)] }), by and_intros <;> first | rfl | decide⟩,
   ⟨0, 9, tChunk true, tTrs (fun x => { x with chunks := [tChunk true] }), by and_intros <;> first | rfl | decide⟩,
   ⟨0, 9, tChunk false, tTrs (fun x => { x with chunks := [tChunk false] }), by decide⟩,
   ⟨0, ({ tNi with keyId := 1, data := [9, 0, 0, 0, 0, 0, 0, 0, 0, 0, 1, 0, 1, 0, 0, 0] ++ zeros (fmtSize 0 1) }, 4),
     mapSpan tRed 0 (fun x =>
     { x with trsQ := [({ tNi with keyId := 1, data := [9, 0, 0, 0, 0, 0, 0, 0, 0, 0, 1, 0, 1, 0, 0, 0] ++ zeros (fmtSize 0 1) }, 4)] }), by decide⟩,
   ⟨7, ⟨7, 0, 1024⟩, tTrs (fun x => { x with clearing := [⟨7, 0, 1024⟩] }), by decide⟩⟩

theorem test_witness_HostGateCommands :
    (∃ (f : BitVec 9) (wr : Bool) (a : BitVec 42) (len : BitVec 8) (data : Bytes) (n : Nat) (inst : Option Nat) (s : State), ∃ st, s.cru.st = .run ∧ n =
      (if len = 0 then 1024 else len.toNat * 4) ∧ inst = (if f = 0 then none else some (f.toNat - 1)) ∧ (s.withdrawn = true ∧ st = Status.unitGone ∨
      s.withdrawn = false ∧ s.held = true ∧ st = Status.notReady)) ∧
    (∃ (f : BitVec 9) (wr : Bool) (a : BitVec 42) (len : BitVec 8) (data : Bytes) (n : Nat) (inst : Option Nat) (s : State), s.cru.st = .run ∧ n = (if len
      = 0 then 1024 else len.toNat * 4) ∧ inst = (if f = 0 then none else some (f.toNat - 1)) ∧ blockStatus s = none ∧ 0x100 < f.toNat) ∧
    (∃ (f : BitVec 9) (wr : Bool) (a : BitVec 42) (len : BitVec 8) (data : Bytes) (n : Nat) (inst : Option Nat) (s : State), ∃ q e, s.cru.st = .run ∧ n =
      (if len = 0 then 1024 else len.toNat * 4) ∧ inst = (if f = 0 then none else some (f.toNat - 1)) ∧ blockStatus s = none ∧ f.toNat ≤ 0x100 ∧
      inService s pgHgt = true ∧ injArmed s pgHgt 3 = false ∧ (∀ h ∈ s.hgt.hosts, h.id ≠ s.hgt.nextId) ∧ hostReq s inst wr a.toNat n data = [q] ∧
      engineOfPage q.page = some e ∧ engineOut s e = false ∧ (engAt s e).remoteQ.length < 32) ∧
    (∃ (r : Role) (p : Fin 64) (v : Word) (x : Pair) (s : State), pairAt s p.val = some x ∧ passes s r (pgHgt + 0x200 + 8 * p.val) true false = true ∧ 0 ≤
      (v - BitVec.ofNat 32 x.prodH).toInt ∧ (v - BitVec.ofNat 32 x.takenH).toInt ≤ 2 ^ x.h2d.count) ∧
    (∃ (r : Role) (p : Fin 64) (v : Word) (x : Pair) (s : State), pairAt s p.val = some x ∧ passes s r (pgHgt + 0x200 + 8 * p.val + 4) true false = true ∧
      0 ≤ (v - BitVec.ofNat 32 x.consD).toInt ∧ (v - BitVec.ofNat 32 x.prodD).toInt ≤ 2 ^ x.d2h.count) ∧
    (∃ (r : Role) (p : Fin 64) (v : Word) (x : Pair) (s : State), pairAt s p.val = some x ∧ passes s r (pgHgt + 0x200 + 8 * p.val) true false = true ∧ (v
      - BitVec.ofNat 32 x.prodH).toInt < 0) ∧
    (∃ (p : Fin 64) (data : Bytes) (x : Pair) (s : State), pairAt s p.val = some x ∧ inService s pgHgt = true ∧ blockStatus s = none ∧ s.cru.st ≠ .sleep ∧
      x.prodH % 2 ^ 32 ≠ x.takenH % 2 ^ 32 ∧ d2hFull x = false ∧ s.hgt.recs.length < 4 ∧ (∀ r ∈ s.hgt.recs, r.pair ≠ p.val) ∧ injArmed s pgHgt 3 =
      false ∧ injArmed s pgHgt 0 = false) ∧
    (∃ (p : Fin 64) (r : HgtRec) (x : Pair) (s : State), hgtSettle s = s ∧ pairAt s p.val = some x ∧ r.st = 0 ∧ s.hgt.recs.find? (fun r => r.pair = p.val
      && !r.acking && r.todo = [] && r.waits = []) = some r) ∧
    (∃ (p : Fin 64) (r : HgtRec) (x : Pair) (s : State), pairAt s p.val = some x ∧ s.hgt.recs.find? (fun r => r.pair = p.val && r.acking) = some r ∧
      injArmed s pgHgt 4 = false) ∧
    (∃ (r : Role) (p : Nat) (s : State), passes s r (pgHgt + 0x05C) true true = true ∧ p = chPair s ∧ pairAt s p = none ∧ ringOk (chRing s (2 * p)) = true
      ∧ ringOk (chRing s (2 * p + 1)) = true) ∧
    (∃ (r : Role) (p : Nat) (s : State), passes s r (pgHgt + 0x05C) true true = true ∧ p = chPair s ∧ (pairAt s p).isSome = true) ∧
    (∃ (r : Role) (p : Nat) (s : State), passes s r (pgHgt + 0x05C) true true = true ∧ p = chPair s) ∧
    (∃ (c : HiCmd) (rest : List HiCmd) (s : State), s.hgt.hi = c :: rest ∧ injArmed s pgHgt 5 = false) ∧
    (∃ (c : HiCmd) (rest : List HiCmd) (s : State), s.hgt.hi = c :: rest) ∧
    (∃ (r : MbRec) (rest : List MbRec) (s : State), s.hgt.eq = r :: rest ∧ regBit s (pgHgt + 0x0A8) 8 = true ∧ injArmed s pgHgt 6 = false) ∧
    (∃ (r : Role) (v : Word) (s : State), passes s r (pgHgt + 0x0AC) true false = true ∧ 0 ≤ (v - rawReg s (pgHgt + 0x0AC)).toInt ∧ 0 ≤ (rawReg s (pgHgt +
      0x0B0) - v).toInt) ∧
    (∃ (r : Role) (v : Word) (s : State), passes s r (pgHgt + 0x0AC) true false = true ∧ ((v - rawReg s (pgHgt + 0x0AC)).toInt < 0 ∨ (rawReg s (pgHgt +
      0x0B0) - v).toInt < 0)) ∧
    (∃ (s : State), s.hgt.gap = true) :=
  ⟨⟨0x101, false, 0, 1, [], 4, some 256, { tFab with held := true }, .notReady, by decide⟩,
   ⟨0x101, false, 0, 1, [], 4, some 256, tFab, by decide⟩,
   ⟨0x100, false, 0, 1, [], 4, some 255, tFab, (hostReq tFab (some 255) false 0 4 []).headD tReq, 0, by and_intros <;> first | rfl | decide⟩,
   ⟨.m, 63, 2, tPair, tPr tPair [], by decide⟩,
   ⟨.m, 63, 2, tPair, tPr tPair [], by decide⟩,
   ⟨.m, 63, 0xFFFFFFFF, tPair, tPr tPair [], by decide⟩,
   ⟨63, [1, 1, 63, 0, 4, 0, 0, 0] ++ zeros 44, { tPair with prodH := 1 }, tPr { tPair with prodH := 1 } [], by decide⟩,
   ⟨63, tRec false, tPair, tPr tPair [tRec false], by and_intros <;> first | rfl | decide⟩,
   ⟨63, tRec true, tPair, tPr tPair [tRec true], by decide⟩,
   ⟨.f, 63, { setReg tFab (pgHgt + 0x040) 63 with hgt := { tFab.hgt with cfg := [(126 * 256 + 0x04C, 12 + 32), (127 * 256 + 0x04C, 12 + 32)] } }, by decide⟩,
   ⟨.f, 63, setReg (tPr tPair []) (pgHgt + 0x040) 63, by decide⟩,
   ⟨.f, 63, setReg (tPr tPair [tRec true]) (pgHgt + 0x040) 63, by decide⟩,
   ⟨⟨0, 1, 0, 0, 0, [], [], false⟩, [], tHg (fun h => { h with hi := [⟨0, 1, 0, 0, 0, [], [], false⟩] }), by decide⟩,
   ⟨⟨0, 1, 0, 0, 0, [], [], false⟩, [], tHg (fun h => { h with hi := [⟨0, 1, 0, 0, 0, [], [], false⟩] }), by decide⟩,
   ⟨⟨⟨1, none, false, false, 0, 0, 0, 0, 0⟩, 0⟩, [],
     setRegBit (tHg (fun h => { h with eq := [⟨⟨1, none, false, false, 0, 0, 0, 0, 0⟩, 0⟩] })) (pgHgt + 0x0A8) 8 true, by decide⟩,
   ⟨.m, 2, tRegs tFab [(pgHgt + 0x0AC, 1), (pgHgt + 0x0B0, 2)], by decide⟩,
   ⟨.m, 3, tRegs tFab [(pgHgt + 0x0AC, 1), (pgHgt + 0x0B0, 2)], by decide⟩,
   ⟨tHg (fun h => { h with gap := true }), by decide⟩⟩

theorem test_witness_SpdmResponder :
    (∃ (i : BitVec 8) (s : State), doeOpen s = true ∧ s.sbx.boot = .running) ∧
    (∃ (req : Bytes) (s : State), doeOpen s = true ∧ (s.sbx.boot ≠ .running ∨ 16384 < req.length + 8)) ∧
    (∃ (sid : Option Word) (ask : SpdmAsk) (req : Bytes) (e : Nat) (s : State), spdmHeard s sid true req.length = true ∧ (ask, e) ∈ [(SpdmAsk.version,
      0x41), (.unsupported, 0x07), (.tooLarge, 0x0E), (.slot, 0x01), (.sessionRequired, 0x0B)]) ∧
    (∃ (sid : Option Word) (req : Bytes) (s : State), spdmHeard s sid true req.length = true) ∧
    (∃ (sid : Option Word) (off len : BitVec 16) (c b p : Bytes) (s : State), spdmHeard s sid true 8 = true ∧ s.att.ecdsa = some c ∧ b = slot0 s c ∧ p =
      (b.drop off.toNat).take len.toNat) ∧
    (∃ (i : BitVec 8) (signed : Bool) (req : Bytes) (s : State), doeTakes s req.length = true ∧ signed = false ∧ i ≠ 0 ∧ measList s none i.toNat ≠ [] ∧
      entropyUp s = true) ∧
    (∃ (i : BitVec 8) (signed : Bool) (req : Bytes) (s : State), doeTakes s req.length = true ∧ signed = true ∧ s.att.ecdsa.isSome = true ∧ i ≠ 0 ∧
      measList s none i.toNat ≠ [] ∧ entropyUp s = true) ∧
    (∃ (i : BitVec 8) (signed : Bool) (req : Bytes) (s : State), doeTakes s req.length = true ∧ signed = true ∧ s.att.ecdsa = none) ∧
    (∃ (sid : Word) (dh req : Bytes) (leaf : Option Bytes) (s : State), doeTakes s req.length = true ∧ s.att.ecdsa.isSome = true ∧ entropyUp s = true ∧
      s.att.sessions.length < 64 ∧ tblFind s.att.sessions sid.toNat = none) ∧
    (∃ (sid : Word) (x : Session) (s : State), tblFind s.att.sessions sid.toNat = some x ∧ doeTakes s 8 = true) ∧
    (∃ (sid : Word) (x : Session) (s : State), tblFind s.att.sessions sid.toNat = some x ∧ x.last + 120000000000 ≤ now s) ∧
    (∃ (sid : Word) (x : Session) (s : State), tblFind s.att.sessions sid.toNat = some x ∧ now s < x.last + 120000000000) ∧
    (∃ (nonce : Bytes) (off : Word) (len : BitVec 16) (s : State), doeTakes s nonce.length = true ∧ s.att.m = none) ∧
    (∃ (nonce : Bytes) (off : Word) (len : BitVec 16) (s : State), ∃ m, doeTakes s nonce.length = true ∧ s.att.m = some m) ∧
    (∃ (nonce : Bytes) (off : Word) (len : BitVec 16) (s : State), ∃ c, doeTakes s 7 = true ∧ s.att.mldsa = some c ∧ len.toNat ≤ 16000) ∧
    (∃ (nonce : Bytes) (off : Word) (len : BitVec 16) (s : State), doeTakes s 7 = true ∧ s.att.mldsa = none) ∧
    (∃ (c : BitVec 8) (off : Word) (b have_ : Bytes) (s : State), doeTakes s (7 + b.length) = true ∧ c.toNat ≤ 1 ∧ have_ = (if off = 0 then [] else
      (tblFind s.att.put c.toNat).getD []) ∧ off.toNat = have_.length) :=
  ⟨⟨0, tFab, by decide⟩,
   ⟨zeros 16384, tFab, by decide⟩,
   ⟨none, .slot, [0, 1], 0x01, tFab, by and_intros <;> first | rfl | decide⟩,
   ⟨some 7, [], tSn tSes, by decide⟩,
   ⟨none, 2, 8, zeros 4, Config.spdmCertChain (zeros 4) (aliasEcdsa (tAtt (fun a => { a with ecdsa := some (zeros 4) }))),
     ((Config.spdmCertChain (zeros 4) (aliasEcdsa (tAtt (fun a => { a with ecdsa := some (zeros 4) })))).drop 2).take 8,
     tAtt (fun a => { a with ecdsa := some (zeros 4) }), by and_intros <;> first | rfl | decide⟩,
   ⟨0xFF, false, [], tFab, by decide⟩,
   ⟨13, true, [], tAtt (fun a => { a with ecdsa := some (zeros 4) }), by decide⟩,
   ⟨1, true, [], tFab, by decide⟩,
   ⟨7, zeros 96, [], none, tAtt (fun a => { a with ecdsa := some (zeros 4) }), by decide⟩,
   ⟨7, tSes, tSn tSes, by decide⟩,
   ⟨7, tSes, { tAt 120000000000 with att := (tSn tSes).att }, by decide⟩,
   ⟨7, tSes, { tAt 119999999999 with att := (tSn tSes).att }, by decide⟩,
   ⟨[], 0, 0, tFab, by decide⟩,
   ⟨[], 0, 0, tAtt (fun a => { a with m := some (zeros 48) }), zeros 48, by decide⟩,
   ⟨[], 4, 16000, tAtt (fun a => { a with mldsa := some (zeros 4) }), zeros 4, by decide⟩,
   ⟨[], 0, 0, tFab, by decide⟩,
   ⟨1, 2, [5], [3, 4], tAtt (fun a => { a with put := [(1, [3, 4])] }), by decide⟩⟩

theorem test_witness_SessionsChannelsAndIde :
    (∃ (sid : Word) (i : Fin 256) (x : Session) (s : State), doeTakes s 2 = true ∧ tblFind s.att.sessions sid.toNat = some x ∧ x.inst = none ∧ x.leaf =
      some (instRec s i.val).owner ∧ (instRec s i.val).st ≠ .free ∧ (∀ y ∈ s.att.sessions, y.2.inst ≠ some i.val)) ∧
    (∃ (sid : Word) (i : Fin 256) (x : Session) (s : State), doeTakes s 2 = true ∧ tblFind s.att.sessions sid.toNat = some x ∧ x.inst ≠ none) ∧
    (∃ (sid : Word) (f : Bytes) (x : Session) (i p : Nat) (s : State), doeTakes s f.length = true ∧ tblFind s.att.sessions sid.toNat = some x ∧ i < 256 ∧
      judgeChannel s sid.toNat x f = .inr i ∧ pageUp s pgHgt = true ∧ inReset12 s pgHgt = false ∧ (List.range 64).find? (fun p => (pairAt s p).isNone)
      = some p) ∧
    (∃ (sid : Word) (f : Bytes) (x : Session) (st : Status) (s : State), doeTakes s f.length = true ∧ tblFind s.att.sessions sid.toNat = some x ∧
      judgeChannel s sid.toNat x f = .inl st) ∧
    (∃ (sid : Word) (p : BitVec 8) (x : Session) (s : State), doeTakes s 2 = true ∧ tblFind s.att.sessions sid.toNat = some x ∧ (sessionPairs s
      sid.toNat).contains p.toNat = true) ∧
    (∃ (sid : Word) (p : BitVec 8) (x : Session) (s : State), doeTakes s 2 = true ∧ tblFind s.att.sessions sid.toNat = some x ∧ (sessionPairs s
      sid.toNat).contains p.toNat = false) ∧
    (∃ (sid : Word) (peer : BitVec 14) (flow : BitVec 16) (kind sport rport inst : BitVec 8) (keyId : BitVec 16) (group : Word) (n : Nat) (x : Session) (s
      : State), doeTakes s 13 = true ∧ tblFind s.att.sessions sid.toNat = some x ∧ n = rport.toNat ∧ n < 18 ∧ sport.toNat < 32 ∧ flow.toNat < 4096 ∧
      kind.toNat < 3 ∧ pageUp s (pgVdt n) = true ∧ pageGated s (pgVdt n) = false ∧ inReset12 s (pgVdt n) = false ∧ (flowAt s n flow.toNat).valid =
      false ∧ (kind = 0 → peer.toNat ≠ s.dom.ownId) ∧ (kind ≠ 0 → isTenant keyId.toNat = true) ∧ (spanAt s n).rx = [] ∧ (spanAt s n).memQ = []) ∧
    (∃ (sid : Word) (blob : Bytes) (kt : KtabRead) (wst : Status) (x : Session) (s : State), doeTakes s blob.length = true ∧ tblFind s.att.sessions
      sid.toNat = some x) ∧
    (∃ (sid : Word) (port stream : BitVec 8) (sub : BitVec 2) (dir kset : Bool) (key iv : Bytes) (n : Nat) (c : HiCmd) (x : Session) (s : State), tblFind
      s.att.sessions sid.toNat = some x ∧ doeTakes s n = true ∧ x.inst = none ∧ (s.att.ide = none ∨ s.att.ide = some sid.toNat) ∧ n = 4) ∧
    (∃ (sid : Word) (port stream : BitVec 8) (sub : BitVec 2) (dir kset : Bool) (key iv : Bytes) (n : Nat) (c : HiCmd) (x : Session) (s : State), tblFind
      s.att.sessions sid.toNat = some x ∧ doeTakes s n = true ∧ x.inst = none ∧ (s.att.ide = none ∨ s.att.ide = some sid.toNat) ∧ n = 8 + key.length +
      iv.length ∧ port = 0 ∧ key.length = 32 ∧ ((ideStreams s).contains stream.toNat = true ∨ (ideStreams s).length < 8) ∧ c = ⟨0, stream.toNat,
      sub.toNat, b2n dir, b2n kset, key, iv, true⟩) ∧
    (∃ (sid : Word) (port stream : BitVec 8) (sub : BitVec 2) (dir kset : Bool) (key iv : Bytes) (n : Nat) (c : HiCmd) (x : Session) (s : State), tblFind
      s.att.sessions sid.toNat = some x ∧ doeTakes s n = true ∧ x.inst = none ∧ (s.att.ide = none ∨ s.att.ide = some sid.toNat) ∧ n = 8 + key.length +
      iv.length ∧ port ≠ 0) ∧
    (∃ (sid : Word) (port stream : BitVec 8) (sub : BitVec 2) (dir kset : Bool) (key iv : Bytes) (n : Nat) (c : HiCmd) (x : Session) (s : State), tblFind
      s.att.sessions sid.toNat = some x ∧ doeTakes s n = true ∧ x.inst = none ∧ (s.att.ide = none ∨ s.att.ide = some sid.toNat) ∧ n = 8) ∧
    (∃ (sid : Word) (port stream : BitVec 8) (sub : BitVec 2) (dir kset : Bool) (key iv : Bytes) (n : Nat) (c : HiCmd) (x : Session) (s : State), tblFind
      s.att.sessions sid.toNat = some x ∧ doeTakes s n = true ∧ x.inst ≠ none ∧ n = 8) :=
  ⟨⟨7, 0, { tSes with leaf := some (zeros 48) },
    { tSn { tSes with leaf := some (zeros 48) } with imu := { tFab.imu with inst := [(0, { tInst with owner := zeros 48 })] } }, by decide⟩,
   ⟨7, 0, { tSes with inst := some 0 }, tSn ({ tSes with inst := some 0 }), by decide⟩,
   ⟨7, zeros 16 ++ [12, 1, 12, 1, 1, 0] ++ zeros 10, { tSes with inst := some 0 }, 0, 0,
     { tSn ({ tSes with inst := some 0 }) with imu := { tFab.imu with binds := [(1, [0])] } }, by and_intros <;> first | rfl | decide⟩,
   ⟨7, zeros 16 ++ [12, 1, 12, 1, 1, 0] ++ zeros 10, tSes, .denied, tSn tSes, by and_intros <;> first | rfl | decide⟩,
   ⟨7, 63, tSes, { tSn tSes with hgt := { tFab.hgt with pairs := [(63, { tPair with session := some 7 })] } }, by decide⟩,
   ⟨7, 62, tSes, { tSn tSes with hgt := { tFab.hgt with pairs := [(63, { tPair with session := some 7 })] } }, by decide⟩,
   ⟨7, 1, 4095, 0, 31, 0, 0, 0, 0, 0, tSes, tSn tSes, by decide⟩,
   ⟨7, zeros 112, .unwritten, .ok, tSes, tSn tSes, by decide⟩,
   ⟨7, 0, 5, 0, true, false, zeros 32, zeros 8, 4, ⟨0, 5, 0, 1, 0, zeros 32, zeros 8, true⟩, tSes, tSn (tSes), by decide⟩,
   ⟨7, 0, 5, 0, true, false, zeros 32, zeros 8, 48, ⟨0, 5, 0, 1, 0, zeros 32, zeros 8, true⟩, tSes, tSn (tSes), by decide⟩,
   ⟨7, 1, 5, 0, true, false, zeros 32, zeros 8, 48, ⟨0, 5, 0, 1, 0, zeros 32, zeros 8, true⟩, tSes, tSn (tSes), by decide⟩,
   ⟨7, 0, 5, 0, true, false, zeros 32, zeros 8, 8, ⟨0, 5, 0, 1, 0, zeros 32, zeros 8, true⟩, tSes, tSn (tSes), by decide⟩,
   ⟨7, 0, 5, 0, true, false, zeros 32, zeros 8, 8, ⟨0, 5, 0, 1, 0, zeros 32, zeros 8, true⟩, { tSes with inst := some 0 },
     tSn ({ tSes with inst := some 0 }), by decide⟩⟩

theorem test_witness_DomainJoin :
    (∃ (epoch : Word) (plan : BitVec 8) (own pod : BitVec 16) (policy : Bytes) (s : State), doeTakes s (10 + policy.length) = true ∧ s.att.going = false ∧
      plan.toNat ≤ 1 ∧ own.toNat < 0x4000 ∧ pod.toNat < 0x800 ∧ policyOk policy = true) ∧
    (∃ (epoch : Word) (plan : BitVec 8) (own pod : BitVec 16) (policy : Bytes) (s : State), doeTakes s (10 + policy.length) = true ∧ s.att.going = true) ∧
    (∃ (epoch : Word) (plan : BitVec 8) (own pod : BitVec 16) (policy : Bytes) (s : State), doeTakes s (10 + policy.length) = true ∧ s.att.going = false ∧
      policyOk policy = false) ∧
    (∃ (peer pod : BitVec 16) (p : Plan) (s : State), doeTakes s 5 = true ∧ s.att.plan = some p ∧ p.leader = true ∧ s.att.going = false ∧ peer.toNat <
      0x4000 ∧ pod.toNat < 0x800 ∧ p.ownId ≠ peer.toNat ∧ (∀ j ∈ s.att.joiners, j.id ≠ peer.toNat) ∧ (s.att.joiners.filter (fun j => j.pod =
      pod.toNat)).length + b2n (p.pod = pod.toNat) < 8) ∧
    (∃ (peer pod : BitVec 16) (p : Plan) (s : State), doeTakes s 5 = true ∧ s.att.plan = some p ∧ p.leader = true ∧ s.att.going = false ∧ peer.toNat <
      0x4000 ∧ pod.toNat < 0x800 ∧ p.ownId = peer.toNat) ∧
    (∃ (p : Plan) (s : State), doeTakes s 1 = true ∧ s.att.plan = some p ∧ p.leader = true ∧ s.att.going = false ∧ entropyUp s = false) ∧
    (∃ (p : Plan) (s : State), doeTakes s 1 = true ∧ s.att.plan = some p ∧ p.leader = true ∧ s.att.going = false) ∧
    (∃ (s : State), doeTakes s 1 = true ∧ s.att.outbox = []) ∧
    (∃ (s : State), ∃ id b rest, doeTakes s 1 = true ∧ s.att.outbox = (id, b) :: rest ∧ s.att.going = false) ∧
    (∃ (peer : BitVec 16) (b : Bytes) (s : State), doeTakes s (3 + b.length) = true) ∧
    (∃ (peer : BitVec 14) (p : Plan) (j : Joiner) (v : State) (f key : Bytes) (st : BitVec 8) (s : State), s.att.plan = some p ∧ sbxRuns s = true ∧ s.att.outbox.length < 64 ∧ s.att.joiners = [j] ∧ j.id = peer.toNat ∧ j.answered = true ∧ v = putJoiner s { j with answered := false } ∧ j.stage = .offered) ∧
    (∃ (peer : BitVec 14) (p : Plan) (j : Joiner) (v : State) (f key : Bytes) (st : BitVec 8) (s : State), ∃ bad : Fin 4, s.att.plan = some p ∧ sbxRuns s = true ∧ s.att.outbox.length < 64 ∧ s.att.joiners = [j] ∧ j.id = peer.toNat ∧ j.answered = true ∧ v = putJoiner s { j with answered := false } ∧ j.stage = .offered ∧ bad ≠ 0) ∧
    (∃ (peer : BitVec 14) (p : Plan) (j : Joiner) (v : State) (f key : Bytes) (st : BitVec 8) (s : State), s.att.plan = some p ∧ sbxRuns s = true ∧ s.att.outbox.length < 64 ∧ s.att.joiners = [j] ∧ j.id = peer.toNat ∧ j.answered = true ∧ v = putJoiner s { j with answered := false } ∧ j.stage = .confirmed) ∧
    (∃ (peer : BitVec 14) (p : Plan) (j : Joiner) (v : State) (f key : Bytes) (st : BitVec 8) (s : State), s.att.plan = some p ∧ sbxRuns s = true ∧ s.att.outbox.length < 64 ∧ s.att.joiners = [j] ∧ j.id = peer.toNat ∧ j.answered = true ∧ v = putJoiner s { j with answered := false } ∧ j.stage = .epochSent ∧ s.att.going = true ∧ st = 0 ∧ s.att.outbox.length < 63) ∧
    (∃ (peer : BitVec 14) (p : Plan) (j : Joiner) (v : State) (f key : Bytes) (st : BitVec 8) (s : State), s.att.plan = some p ∧ sbxRuns s = true ∧ s.att.outbox.length < 64 ∧ s.att.joiners = [j] ∧ j.id = peer.toNat ∧ j.answered = true ∧ v = putJoiner s { j with answered := false } ∧ j.stage = .epochSent ∧ st ≠ 0) ∧
    (∃ (peer : BitVec 14) (p : Plan) (j : Joiner) (v : State) (f key : Bytes) (st : BitVec 8) (s : State), s.att.plan = some p ∧ sbxRuns s = true ∧ s.att.outbox.length < 64 ∧ s.att.joiners = [j] ∧ j.id = peer.toNat ∧ j.answered = true ∧ v = putJoiner s { j with answered := false } ∧ j.stage = .sendSent ∧ s.att.going = true ∧ st = 0) ∧
    (∃ (peer : BitVec 14) (j : Joiner) (z : Nat) (s : State), s.att.joiners.find? (fun j => j.id = peer.toNat) = some j ∧ j.polled = some z ∧ z +
      10000000000 ≤ now s) ∧
    (∃ (peer : BitVec 14) (j : Joiner) (z : Nat) (s : State), s.att.joiners.find? (fun j => j.id = peer.toNat) = some j ∧ j.polled = some z ∧ now s < z +
      10000000000) ∧
    (∃ (sid : Word) (x : Session) (p : Plan) (f key : Bytes) (v : State) (s : State), tblFind s.att.sessions sid.toNat = some x ∧ s.att.plan = some p ∧ v
      = sessionHeard s sid x ∧ doeTakes s f.length = true ∧ p.leader = true) ∧
    (∃ (sid : Word) (x : Session) (p : Plan) (f key : Bytes) (v : State) (s : State), ∃ bad : Fin 4, tblFind s.att.sessions sid.toNat = some x ∧
      s.att.plan = some p ∧ v = sessionHeard s sid x ∧ doeTakes s f.length = true ∧ p.leader = false ∧ x.leaf ≠ none ∧ f.length = 1716 ∧ bad ≠ 0) ∧
    (∃ (sid : Word) (x : Session) (p : Plan) (f key : Bytes) (v : State) (s : State), tblFind s.att.sessions sid.toNat = some x ∧ s.att.plan = some p ∧ v
      = sessionHeard s sid x ∧ doeTakes s f.length = true ∧ p.leader = false ∧ x.leaf ≠ none ∧ f.length = 1716 ∧ (f.drop 4).take 48 = p.digest ∧
      entropyUp s = true) ∧
    (∃ (sid : Word) (x : Session) (p : Plan) (f key : Bytes) (v : State) (s : State), ∃ j, tblFind s.att.sessions sid.toNat = some x ∧ s.att.plan = some p
      ∧ v = sessionHeard s sid x ∧ doeTakes s f.length = true ∧ x.join = some j) ∧
    (∃ (sid : Word) (x : Session) (p : Plan) (f key : Bytes) (v : State) (s : State), tblFind s.att.sessions sid.toNat = some x ∧ s.att.plan = some p ∧ v
      = sessionHeard s sid x ∧ doeTakes s f.length = true ∧ x.join.any JoinIn.confirmed = true ∧ f.length = 2180) ∧
    (∃ (sid : Word) (x : Session) (p : Plan) (f key : Bytes) (v : State) (s : State), tblFind s.att.sessions sid.toNat = some x ∧ s.att.plan = some p ∧ v
      = sessionHeard s sid x ∧ doeTakes s f.length = true ∧ x.join.any JoinIn.confirmed = false) ∧
    (∃ (sid epoch : Word) (x : Session) (s : State), tblFind s.att.sessions sid.toNat = some x ∧ doeTakes s 5 = true ∧ x.join.any JoinIn.confirmed = true) ∧
    (∃ (sid epoch : Word) (x : Session) (s : State), tblFind s.att.sessions sid.toNat = some x ∧ doeTakes s 5 = true ∧ x.join.any JoinIn.confirmed =
      false) :=
  ⟨⟨1, 0, 2, 0, tPol, tFab, by decide⟩,
   ⟨1, 0, 2, 0, tPol, tAtt (fun a => { a with going := true }), by decide⟩,
   ⟨1, 0, 2, 0, [0], tFab, by decide⟩,
   ⟨3, 0, tPlan true, tAtt (fun a => { a with plan := some (tPlan true) }), by decide⟩,
   ⟨2, 0, tPlan true, tAtt (fun a => { a with plan := some (tPlan true) }), by decide⟩,
   ⟨tPlan true, { tAtt (fun a => { a with plan := some (tPlan true) }) with ent := Ent.reset }, by decide⟩,
   ⟨tPlan true, tAtt (fun a => { a with plan := some (tPlan true) }), by decide⟩,
   ⟨tFab, by decide⟩,
   ⟨tAtt (fun a => { a with outbox := [(3, [1])] }), 3, [1], [], by decide⟩,
   ⟨3, [1], tFab, by decide⟩,
   ⟨3, tPlan true, tJn .offered none, putJoiner (tLead true (tJn .offered none) 0) { tJn .offered none with answered := false }, zeros 1092, zeros 32, 0,
     tLead true (tJn .offered none) 0, by and_intros <;> first | rfl | decide⟩,
   ⟨3, tPlan true, tJn .offered none, putJoiner (tLead true (tJn .offered none) 0) { tJn .offered none with answered := false }, zeros 1092, zeros 32, 0,
     tLead true (tJn .offered none) 0, 3, by and_intros <;> first | rfl | decide⟩,
   ⟨3, tPlan true, tJn .confirmed none, putJoiner (tLead true (tJn .confirmed none) 0) { tJn .confirmed none with answered := false }, zeros 1092, zeros 32,
     0, tLead true (tJn .confirmed none) 0, by and_intros <;> first | rfl | decide⟩,
   ⟨3, tPlan true, tJn .epochSent none, putJoiner (tLead true (tJn .epochSent none) 0) { tJn .epochSent none with answered := false }, zeros 1092, zeros 32,
     0, tLead true (tJn .epochSent none) 0, by and_intros <;> first | rfl | decide⟩,
   ⟨3, tPlan true, tJn .epochSent none, putJoiner (tLead true (tJn .epochSent none) 0) { tJn .epochSent none with answered := false }, zeros 1092, zeros 32,
     3, tLead true (tJn .epochSent none) 0, by and_intros <;> first | rfl | decide⟩,
   ⟨3, tPlan true, tJn .sendSent none, putJoiner (tLead true (tJn .sendSent none) 0) { tJn .sendSent none with answered := false }, zeros 1092, zeros 32, 0,
     tLead true (tJn .sendSent none) 0, by and_intros <;> first | rfl | decide⟩,
   ⟨3, tJn .offered (some 5), 5, tLead true (tJn .offered (some 5)) 10000000005, by decide⟩,
   ⟨3, tJn .offered (some 5), 5, tLead true (tJn .offered (some 5)) 10000000004, by decide⟩,
   ⟨7, tSes, tPlan true, zeros 1716, zeros 32, sessionHeard (tJoin (tSes) true) 7 (tSes), tJoin (tSes) true, by and_intros <;> first | rfl | decide⟩,
   ⟨7, { tSes with leaf := some (zeros 48) }, tPlan false, zeros 1716, zeros 32,
     sessionHeard (tJoin ({ tSes with leaf := some (zeros 48) }) false) 7 ({ tSes with leaf := some (zeros 48) }),
     tJoin ({ tSes with leaf := some (zeros 48) }) false, 1, by and_intros <;> first | rfl | decide⟩,
   ⟨7, { tSes with leaf := some (zeros 48) }, tPlan false, zeros 1716, zeros 32,
     sessionHeard (tJoin ({ tSes with leaf := some (zeros 48) }) false) 7 ({ tSes with leaf := some (zeros 48) }),
     tJoin ({ tSes with leaf := some (zeros 48) }) false, by and_intros <;> first | rfl | decide⟩,
   ⟨7, { tSes with join := some ⟨zeros 32, zeros 1716, zeros 48, false⟩ }, tPlan false, [], zeros 32,
     sessionHeard (tJoin ({ tSes with join := some ⟨zeros 32, zeros 1716, zeros 48, false⟩ }) false) 7
     ({ tSes with join := some ⟨zeros 32, zeros 1716, zeros 48, false⟩ }), tJoin ({ tSes with join := some ⟨zeros 32, zeros 1716, zeros 48, false⟩ }) false,
     ⟨zeros 32, zeros 1716, zeros 48, false⟩, by and_intros <;> first | rfl | decide⟩,
   ⟨7, { tSes with join := some ⟨zeros 32, zeros 1716, zeros 48, true⟩ }, tPlan false, zeros 2180, zeros 32,
     sessionHeard (tJoin ({ tSes with join := some ⟨zeros 32, zeros 1716, zeros 48, true⟩ }) false) 7
     ({ tSes with join := some ⟨zeros 32, zeros 1716, zeros 48, true⟩ }),
     tJoin ({ tSes with join := some ⟨zeros 32, zeros 1716, zeros 48, true⟩ }) false, by and_intros <;> first | rfl | decide⟩,
   ⟨7, { tSes with join := some ⟨zeros 32, zeros 1716, zeros 48, false⟩ }, tPlan false, zeros 2180, zeros 32,
     sessionHeard (tJoin ({ tSes with join := some ⟨zeros 32, zeros 1716, zeros 48, false⟩ }) false) 7
     ({ tSes with join := some ⟨zeros 32, zeros 1716, zeros 48, false⟩ }),
     tJoin ({ tSes with join := some ⟨zeros 32, zeros 1716, zeros 48, false⟩ }) false, by and_intros <;> first | rfl | decide⟩,
   ⟨7, 1, { tSes with join := some ⟨zeros 32, zeros 1716, zeros 48, true⟩ },
     tSn ({ tSes with join := some ⟨zeros 32, zeros 1716, zeros 48, true⟩ }), by decide⟩,
   ⟨7, 1, tSes, tSn tSes, by decide⟩⟩

theorem test_witness_InstanceMailboxCommands :
    (∃ (i : Fin 256) (seq gen : BitVec 8) (d : BitVec 384) (b256 : BitVec 256) (w1 w2 : Word) (v64 : BitVec 64) (kt : KtabRead) (c : Instr) (tenant :
      Bool) (cmd st : Nat) (s : State), (c, tenant, cmd) ∈ [(.create i seq gen d, false, 0x01), (.pasidAdd i seq gen w1, false, 0x02), (.pasidDel i
      seq gen w1, false, 0x03), (.slice i seq gen w1 w2, false, 0x04), (.scratch i seq gen b256, false, 0x05), (.bind i seq gen w1 kt, false, 0x06),
      (.unbind i seq gen w1, false, 0x07), (.instanceReset i seq gen, false, 0x08), (.switch i seq gen d, false, 0x09), (.destroy i seq gen, false,
      0x0A), (.mbStep i seq gen w1 kt, true, 0x10), (.ctxLose i seq gen w1, true, 0x11), (.objPage i seq gen w1, true, 0x12), (.objCreate i seq gen w1
      v64, true, 0x13), (.objDestroy i seq gen v64, true, 0x14)] ∧ mbTakes s i tenant gen = true ∧ mbRefused s i.val tenant cmd = some st) ∧
    (∃ (i : Fin 256) (seq gen : BitVec 8) (d : BitVec 384) (b256 : BitVec 256) (w1 w2 : Word) (v64 : BitVec 64) (kt : KtabRead) (c : Instr) (tenant :
      Bool) (cmd st : Nat) (s : State), (c, tenant, cmd) ∈ [(.create i seq gen d, false, 0x01), (.pasidAdd i seq gen w1, false, 0x02), (.pasidDel i
      seq gen w1, false, 0x03), (.slice i seq gen w1 w2, false, 0x04), (.scratch i seq gen b256, false, 0x05), (.bind i seq gen w1 kt, false, 0x06),
      (.unbind i seq gen w1, false, 0x07), (.instanceReset i seq gen, false, 0x08), (.switch i seq gen d, false, 0x09), (.destroy i seq gen, false,
      0x0A), (.mbStep i seq gen w1 kt, true, 0x10), (.ctxLose i seq gen w1, true, 0x11), (.objPage i seq gen w1, true, 0x12), (.objCreate i seq gen w1
      v64, true, 0x13), (.objDestroy i seq gen v64, true, 0x14)] ∧ passes s (mbRole i tenant) (mbCtrl i.val tenant) true false = true ∧ regBit s
      (mbCtrl i.val tenant + 4) 16 = false ∧ enabled s pgImu = false) ∧
    (∃ (i : Fin 256) (seq gen : BitVec 8) (d : BitVec 384) (b256 : BitVec 256) (w1 w2 : Word) (v64 : BitVec 64) (kt : KtabRead) (c : Instr) (tenant :
      Bool) (cmd st : Nat) (s : State), (c, tenant, cmd) ∈ [(.create i seq gen d, false, 0x01), (.pasidAdd i seq gen w1, false, 0x02), (.pasidDel i
      seq gen w1, false, 0x03), (.slice i seq gen w1 w2, false, 0x04), (.scratch i seq gen b256, false, 0x05), (.bind i seq gen w1 kt, false, 0x06),
      (.unbind i seq gen w1, false, 0x07), (.instanceReset i seq gen, false, 0x08), (.switch i seq gen d, false, 0x09), (.destroy i seq gen, false,
      0x0A), (.mbStep i seq gen w1 kt, true, 0x10), (.ctxLose i seq gen w1, true, 0x11), (.objPage i seq gen w1, true, 0x12), (.objCreate i seq gen w1
      v64, true, 0x13), (.objDestroy i seq gen v64, true, 0x14)] ∧ passes s (mbRole i tenant) (mbCtrl i.val tenant) true false = true ∧ regBit s
      (mbCtrl i.val tenant + 4) 16 = false ∧ enabled s pgImu = true ∧ sbxRuns s = false) ∧
    (∃ (i : Fin 256) (seq gen : BitVec 8) (d : BitVec 384) (s : State), mbTakes s i false gen = true ∧ (instRec s i.val).st = .free) ∧
    (∃ (i : Fin 256) (seq gen : BitVec 8) (p : Word) (s : State), mbTakes s i false gen = true ∧ (instRec s i.val).st = .active ∧ p.toNat < 2 ^ 20 ∧
      tblFind s.imu.pasids p.toNat = none ∧ (s.imu.pasids.filter (fun x => x.2 = i.val)).length < 64 ∧ s.imu.pasids.length < 4096) ∧
    (∃ (i : Fin 256) (seq gen : BitVec 8) (p : Word) (s : State), mbTakes s i false gen = true ∧ (instRec s i.val).st = .active ∧ (tblFind s.imu.pasids
      p.toNat).isSome = true) ∧
    (∃ (i : Fin 256) (seq gen : BitVec 8) (p : Word) (s : State), mbTakes s i false gen = true ∧ (instRec s i.val).st = .active ∧ tblFind s.imu.pasids
      p.toNat = some i.val) ∧
    (∃ (i : Fin 256) (seq gen : BitVec 8) (a b : Word) (s : State), mbTakes s i false gen = true ∧ (instRec s i.val).st = .active ∧ s.kvt.loads = [] ∧
      sliceOk s i.val a b = true) ∧
    (∃ (i : Fin 256) (seq gen : BitVec 8) (a b : Word) (s : State), mbTakes s i false gen = true ∧ (instRec s i.val).st = .active ∧ s.kvt.loads = [] ∧
      sliceOk s i.val a b = false) ∧
    (∃ (i : Fin 256) (seq gen : BitVec 8) (v : BitVec 256) (rs : List ScRange) (s : State), mbTakes s i false gen = true ∧ (instRec s i.val).st = .active
      ∧ rs = (List.range 4).map (fun k => ⟨v.toNat / 2 ^ (64 * k) % 2 ^ 8, v.toNat / 2 ^ (64 * k + 8) % 2 ^ 24, v.toNat / 2 ^ (64 * k + 32) % 2 ^ 32⟩)
      ∧ (∀ r ∈ rs, r.len < 2 ^ 24 ∧ (r.len ≠ 0 → r.tgt < scratchCount s)) ∧ anyOverlap rs = false ∧ (∀ x ∈ s.imu.inst, x.1 ≠ i.val → ∀ q ∈
      x.2.scratch, ∀ r ∈ rs, scOverlap r q = false)) ∧
    (∃ (i : Fin 256) (seq gen : BitVec 8) (k : Word) (kt : KtabRead) (s : State), mbTakes s i false gen = true ∧ (instRec s i.val).st = .active) ∧
    (∃ (i : Fin 256) (seq gen : BitVec 8) (k : Word) (l : List Nat) (s : State), mbTakes s i false gen = true ∧ (instRec s i.val).st = .active ∧ l =
      (tblFind s.imu.binds k.toNat).getD [] ∧ l.contains i.val = false) ∧
    (∃ (i : Fin 256) (seq gen : BitVec 8) (k : Word) (l : List Nat) (s : State), mbTakes s i false gen = true ∧ (instRec s i.val).st = .active ∧ l =
      (tblFind s.imu.binds k.toNat).getD [] ∧ l.contains i.val = true ∧ l.filter (· != i.val) ≠ []) ∧
    (∃ (i : Fin 256) (seq gen : BitVec 8) (k : Word) (l : List Nat) (s : State), mbTakes s i false gen = true ∧ (instRec s i.val).st = .active ∧ l =
      (tblFind s.imu.binds k.toNat).getD [] ∧ l.contains i.val = true ∧ l.filter (· != i.val) = [] ∧ loadOf s k.toNat = none ∧ slotOf s k.toNat = none
      ∧ s.trs.chunks = [] ∧ s.hgt.pairs = [] ∧ s.cce.queues = [] ∧ isRetiring s k.toNat = false) ∧
    (∃ (i : Fin 256) (seq gen : BitVec 8) (d : BitVec 384) (s : State), mbTakes s i false gen = true ∧ (instRec s i.val).st = .active) ∧
    (∃ (i : Fin 256) (seq gen : BitVec 8) (k : Word) (kt : KtabRead) (s : State), mbTakes s i true gen = true ∧ (instRec s i.val).st = .active ∧ boundTo s
      k.toNat i.val = false ∧ ((tblFind s.imu.leaving k.toNat).getD []).contains i.val = false) ∧
    (∃ (i : Fin 256) (seq gen : BitVec 8) (k : Word) (kt : KtabRead) (s : State), mbTakes s i true gen = true ∧ (instRec s i.val).st = .active ∧ boundTo s
      k.toNat i.val = true ∧ isRetiring s k.toNat = false ∧ regBit s (pgKvt + 0x04C) 16 = false ∧ s.kvt.cmd = none ∧ s.kvt.refuseAll = false ∧
      s.kvt.zeroised = false) ∧
    (∃ (i : Fin 256) (seq gen : BitVec 8) (c : Word) (s : State), mbTakes s i true gen = true ∧ (instRec s i.val).st = .active ∧ 2 ^ 24 ≤ c.toNat) ∧
    (∃ (i : Fin 256) (seq gen : BitVec 8) (c : Word) (s : State), mbTakes s i true gen = true ∧ (instRec s i.val).st = .active ∧ c.toNat < 2 ^ 24 ∧ regBit
      s (instPage i.val + 0x040) 9 = false ∧ (instRec s i.val).lost.contains c.toNat = false ∧ (instRec s i.val).lost.length < 64 ∧ s.imu.inst.foldl
      (fun n y => n + y.2.lost.length) 0 < 4096 ∧ s.trs.chunks = [] ∧ s.cce.queues = []) ∧
    (∃ (i : Fin 256) (seq gen : BitVec 8) (pg : Word) (j : Nat) (x : JEntry) (s : State), mbTakes s i true gen = true ∧ (instRec s i.val).st = .active ∧
      pg.toNat < 2 ^ 30 ∧ (engineOfPage pg.toNat).isSome = true ∧ winner s.jct.active pg.toNat = some (j, x) ∧ x.cls = .s ∧ x.ro = false ∧ boundTo s
      x.ksrc i.val = true ∧ (instRec s i.val).objPage = none ∧ objPageOwner s pg.toNat = none) ∧
    (∃ (i : Fin 256) (seq gen : BitVec 8) (w : Word) (v : BitVec 64) (pg e : Nat) (s : State), mbTakes s i true gen = true ∧ (instRec s i.val).st =
      .active ∧ (instRec s i.val).objPage = some pg ∧ w.toNat < 512 ∧ (objAt s i.val (w.toNat % 256)).valid = false ∧ imuRoom s pg e = true) ∧
    (∃ (i : Fin 256) (seq gen : BitVec 8) (h : BitVec 64) (n : Nat) (s : State), mbTakes s i true gen = true ∧ (instRec s i.val).st = .active ∧ n =
      h.toNat / 2 ^ 16 % 2 ^ 16 ∧ n / 256 = i.val ∧ (objAt s i.val (n % 256)).valid = true ∧ h.toNat = objHandle s i.val (n % 256)) ∧
    (∃ (i : Fin 256) (seq gen : BitVec 8) (h : BitVec 64) (n : Nat) (s : State), mbTakes s i true gen = true ∧ (instRec s i.val).st = .active ∧ n =
      h.toNat / 2 ^ 16 % 2 ^ 16 ∧ n / 256 ≠ i.val) :=
  ⟨⟨0, 3, 0, 0, 0, 0, 0, 0, .unwritten, .create 0 3 0 0, false, 1, Status.denied.code, tFab, by and_intros <;> first | rfl | decide⟩,
   ⟨0, 3, 0, 0, 0, 0, 0, 0, .unwritten, .create 0 3 0 0, false, 1, Status.denied.code, setReg tFab (pgImu + 0x00C) 0, by and_intros <;> first | rfl | decide⟩,
   ⟨0, 3, 0, 0, 0, 0, 0, 0, .unwritten, .create 0 3 0 0, false, 1, Status.denied.code, { tFab with sbx := { tFab.sbx with halted := true } }, by and_intros <;> first | rfl | decide⟩,
   ⟨255, 3, 0, 0, tFab, by decide⟩,
   ⟨0, 3, 0, 0xFFFFF, tFab, by decide⟩,
   ⟨0, 3, 0, 0, tFab, by decide⟩,
   ⟨0, 3, 0, 0, tFab, by decide⟩,
   ⟨0, 3, 0, 0x00000040, 0x00101008, tFab, by decide⟩,
   ⟨0, 3, 0, 0, 0xFFFFFFFF, tFab, by decide⟩,
   ⟨0, 3, 0, 0x1000000000#256, [⟨0, 0, 16⟩, ⟨0, 0, 0⟩, ⟨0, 0, 0⟩, ⟨0, 0, 0⟩], tFab, by and_intros <;> first | rfl | decide⟩,
   ⟨0, 3, 0, 1, .unwritten, tFab, by decide⟩,
   ⟨0, 3, 0, 1, [], tFab, by decide⟩,
   ⟨0, 3, 0, 1, [0, 5], tBnd [(1, [0, 5])], by decide⟩,
   ⟨0, 3, 0, 1, [0], tBnd [(1, [0])], by decide⟩,
   ⟨0, 3, 0, 0, tFab, by decide⟩,
   ⟨0, 3, 0, 1, .unwritten, tFab, by decide⟩,
   ⟨0, 3, 0, 1, .unwritten, tBnd [(1, [0])], by decide⟩,
   ⟨0, 3, 0, 0x1000000, tFab, by decide⟩,
   ⟨0, 3, 0, 0xFFFFFF, tFab, by decide⟩,
   ⟨0, 3, 0, 0, 0, { tEntry with cls := .s, ksrc := 1 },
     { tBnd [(1, [0])] with jct := { Jct.reset with active := [(0, { tEntry with cls := .s, ksrc := 1 })] } }, by decide⟩,
   ⟨0, 3, 0, 511, 9, 0, 0, tObj ⟨true, 1, true⟩, by decide⟩,
   ⟨0, 3, 0, 0x100054000, 5, tObj ⟨true, 1, true⟩, by decide⟩,
   ⟨0, 3, 0, 0x1000000, 256, tFab, by decide⟩⟩

theorem test_witness_InstanceSequencesAndObjects :
    (∃ (i : Fin 256) (q : InstSeq) (s : State), domUp s 12 = true ∧ drained s i.val = true ∧ (instRec s i.val).seq = some q ∧ q.drained = false ∧ q.cmd =
      0x08 ∧ q.seq < 256) ∧
    (∃ (i : Fin 256) (q : InstSeq) (s : State), ∃ r, domUp s 12 = true ∧ drained s i.val = true ∧ (instRec s i.val).seq = some q ∧ q.drained = false ∧
      q.cmd ≠ 0x08 ∧ q.scrubbed = false ∧ (∀ b ∈ s.imu.binds, b.2.contains i.val = false) ∧ (instRec s i.val).scratch = [r] ∧ scTags s = [] ∧ q.out =
      []) ∧
    (∃ (g : BitVec 4) (i : Fin 256) (q : InstSeq) (r : ScRange) (z : Nat) (s : State), scHolder s g.toNat = some i.val ∧ (instRec s i.val).seq = some q ∧
      q.out = [(g.toNat, r, z)] ∧ (∀ x ∈ s.imu.inst, x.2.seq.elim [] InstSeq.ranges = []) ∧ injArmed s pgImu 3 = false ∧ q.scrubbed = false) ∧
    (∃ (g : BitVec 4) (i : Fin 256) (q : InstSeq) (r : ScRange) (z : Nat) (s : State), scHolder s g.toNat = some i.val ∧ (instRec s i.val).seq = some q ∧
      q.out = [(g.toNat, r, z)] ∧ (∀ x ∈ s.imu.inst, x.2.seq.elim [] InstSeq.ranges = []) ∧ injArmed s pgImu 3 = false ∧ q.scrubbed = false ∧ z +
      scBound s r ≤ now s) ∧
    (∃ (g : BitVec 4) (i : Fin 256) (q : InstSeq) (r : ScRange) (z : Nat) (s : State), scHolder s g.toNat = some i.val ∧ (instRec s i.val).seq = some q ∧
      q.out = [(g.toNat, r, z)] ∧ (∀ x ∈ s.imu.inst, x.2.seq.elim [] InstSeq.ranges = []) ∧ injArmed s pgImu 3 = false ∧ now s < z + scBound s r) ∧
    (∃ (g : BitVec 4) (i : Fin 256) (q : InstSeq) (r : ScRange) (z : Nat) (s : State), scHolder s g.toNat = some i.val ∧ (instRec s i.val).seq = some q ∧
      q.out = [(g.toNat, r, z)] ∧ (∀ x ∈ s.imu.inst, x.2.seq.elim [] InstSeq.ranges = []) ∧ injArmed s pgImu 3 = false ∧ q.scrubbed = true ∧ q.drained
      = true ∧ q.keys = [] ∧ q.retiring = none ∧ q.seq < 256 ∧ q.aborted = false ∧ q.cmd = 0x09) ∧
    (∃ (g : BitVec 4) (i : Fin 256) (q : InstSeq) (r : ScRange) (z : Nat) (s : State), scHolder s g.toNat = some i.val ∧ (instRec s i.val).seq = some q ∧
      q.out = [(g.toNat, r, z)] ∧ (∀ x ∈ s.imu.inst, x.2.seq.elim [] InstSeq.ranges = []) ∧ injArmed s pgImu 3 = false ∧ q.scrubbed = true ∧ q.drained
      = true ∧ q.keys = [] ∧ q.retiring = none ∧ q.seq < 256 ∧ q.cmd ≠ 0x08) ∧
    (∃ (i : Fin 256) (q : InstSeq) (s : State), (instRec s i.val).seq = some q ∧ q.cmd ≠ 0x08 ∧ q.drained = true ∧ q.keys = [] ∧ q.retiring = none ∧
      q.scrubbed = false ∧ (q.ranges ≠ [] ∨ q.out ≠ [])) ∧
    (∃ (i : Fin 256) (q : InstSeq) (s : State), (instRec s i.val).seq = some q ∧ q.cmd ≠ 0x08 ∧ q.drained = true ∧ q.keys = [] ∧ q.retiring = none ∧
      q.scrubbed = false ∧ q.ranges = [] ∧ q.out = [] ∧ q.aborted = false ∧ q.cmd = 0x0A ∧ q.seq < 256) ∧
    (∃ (r : Role) (i : Fin 256) (h : Nat) (s : State), ∃ n a k e, passes s r (instPage i.val + 0x230) true false = true ∧ enabled s pgImu = true ∧ h =
      pairWord s (instPage i.val + 0x220) ∧ regBit s (instPage i.val + 0x234) 8 = false ∧ objOf s i.val h = some (n, a, k) ∧ imuRoom s (a / 4096) e =
      true) ∧
    (∃ (r : Role) (i : Fin 256) (h : Nat) (s : State), passes s r (instPage i.val + 0x230) true false = true ∧ enabled s pgImu = true ∧ h = pairWord s
      (instPage i.val + 0x220) ∧ regBit s (instPage i.val + 0x234) 8 = false ∧ objOf s i.val h = none) ∧
    (∃ (r : Role) (i : Fin 256) (h : Nat) (s : State), passes s r (instPage i.val + 0x230) true false = true ∧ enabled s pgImu = true ∧ h = pairWord s
      (instPage i.val + 0x220) ∧ regBit s (instPage i.val + 0x234) 8 = true) ∧
    (∃ (r : Role) (i : Fin 256) (s : State), enabled s pgImu = false ∧ passes s r (instPage i.val + 0x230) true false = true ∧ regBit s (instPage i.val +
      0x234) 8 = false) ∧
    (∃ (r : Role) (i : Fin 256) (s : State), enabled s pgImu = false ∧ passes s r (instPage i.val + 0x214) true false = true) ∧
    (∃ (r : Role) (i : Fin 256) (m : Nat) (s : State), ∃ n a k e, passes s r (instPage i.val + 0x214) true false = true ∧ m = getFld s (instPage i.val +
      0x200) 3 0 ∧ enabled s pgImu = true ∧ objOf s i.val (pairWord s (instPage i.val + 0x204)) = some (n, a, k) ∧ regBit s (instPage i.val + 0x218)
      (16 + m) = false ∧ imuRoom s (a / 4096) e = true ∧ (s.imu.watches.filter (fun w => w.engine = e)).length < 32) ∧
    (∃ (r : Role) (i : Fin 256) (m : Nat) (s : State), passes s r (instPage i.val + 0x214) true false = true ∧ m = getFld s (instPage i.val + 0x200) 3 0 ∧
      enabled s pgImu = true ∧ objOf s i.val (pairWord s (instPage i.val + 0x204)) = none) ∧
    (∃ (r : Role) (i : Fin 256) (m : Nat) (s : State), passes s r (instPage i.val + 0x214) true false = true ∧ m = getFld s (instPage i.val + 0x200) 3 0 ∧
      regBit s (instPage i.val + 0x218) (16 + m) = true) ∧
    (∃ (r : Role) (i : Fin 256) (m : Nat) (s : State), passes s r (instPage i.val + 0x214) true false = true ∧ m = getFld s (instPage i.val + 0x200) 3 0 ∧
      regBit s (instPage i.val + 0x218) (16 + m) = false) :=
  ⟨⟨0, tSeq 8 false, tSq .resetting (tSeq 8 false) 0, by decide⟩,
   ⟨0, tSeq 9 false, { tSq .switching (tSeq 9 false) 0 with imu := { tFab.imu with inst := [(0, { tInst with st := .switching, seq := some (tSeq 9 false), scratch := [⟨0, 0, 16⟩] })] } }, ⟨0, 0, 16⟩, by decide⟩,
   ⟨15, 0, { tSeq 9 true with out := [(15, ⟨0, 0, 16⟩, 0)] }, ⟨0, 0, 16⟩, 0, tSq .switching { tSeq 9 true with out := [(15, ⟨0, 0, 16⟩, 0)] } 0, by decide⟩,
   ⟨15, 0, { tSeq 9 true with out := [(15, ⟨0, 0, 16⟩, 0)] }, ⟨0, 0, 16⟩, 0,
     tSq .switching { tSeq 9 true with out := [(15, ⟨0, 0, 16⟩, 0)] } 1000000000, by decide⟩,
   ⟨15, 0, { tSeq 9 true with out := [(15, ⟨0, 0, 16⟩, 0)] }, ⟨0, 0, 16⟩, 0, tSq .switching { tSeq 9 true with out := [(15, ⟨0, 0, 16⟩, 0)] } 0, by decide⟩,
   ⟨15, 0, { tSeq 9 true with out := [(15, ⟨0, 0, 16⟩, 0)], scrubbed := true }, ⟨0, 0, 16⟩, 0,
     tSq .switching { tSeq 9 true with out := [(15, ⟨0, 0, 16⟩, 0)], scrubbed := true } 0, by decide⟩,
   ⟨15, 0, { tSeq 10 true with out := [(15, ⟨0, 0, 16⟩, 0)], scrubbed := true }, ⟨0, 0, 16⟩, 0,
     tSq .switching { tSeq 10 true with out := [(15, ⟨0, 0, 16⟩, 0)], scrubbed := true } 0, by decide⟩,
   ⟨0, { tSeq 9 true with out := [(15, ⟨0, 0, 16⟩, 0)] }, tSq .switching { tSeq 9 true with out := [(15, ⟨0, 0, 16⟩, 0)] } 0, by decide⟩,
   ⟨0, tSeq 10 true, tSq .destroying (tSeq 10 true) 0, by decide⟩,
   ⟨.t 0, 0, 0x100054000, tRegs (tObj ⟨true, 1, true⟩) [(instPage 0 + 0x220, 0x00054000), (instPage 0 + 0x224, 1)], 5, 40, 1, 0, by decide⟩,
   ⟨.t 0, 0, 0, tFab, by decide⟩,
   ⟨.t 0, 0, 0, setRegBit tFab (instPage 0 + 0x234) 8 true, by decide⟩,
   ⟨.t 0, 0, setReg tFab (pgImu + 0x00C) 0, by decide⟩,
   ⟨.t 0, 0, setReg tFab (pgImu + 0x00C) 0, by decide⟩,
   ⟨.t 0, 0, 15, tRegs (tObj ⟨true, 1, true⟩) [(instPage 0 + 0x200, 15), (instPage 0 + 0x204, 0x00054000), (instPage 0 + 0x208, 1)], 5, 40, 1, 0, by decide⟩,
   ⟨.t 0, 0, 15, setReg tFab (instPage 0 + 0x200) 15, by decide⟩,
   ⟨.t 0, 0, 15, setRegBit (setReg tFab (instPage 0 + 0x200) 15) (instPage 0 + 0x218) 31 true, by decide⟩,
   ⟨.t 0, 0, 15, setReg tFab (instPage 0 + 0x200) 15, by decide⟩⟩

theorem test_witness_CipherEngineCommands :
    (∃ (r : Role) (q i : Nat) (w : Word) (s : State), passes s r (pgCce + 0x054) true true = true ∧ q = cceSel s ∧ w = cceReg s q 0x044 ∧
      i = getBits w 15 8 ∧ cceOpenOk s q = true ∧ ((cceQ s q).opened = false ∨ (cceQ s q).stopped = true) ∧ (cceQ s q).job = none) ∧
    (∃ (r : Role) (q i : Nat) (w : Word) (s : State), passes s r (pgCce + 0x054) true true = true ∧ q = cceSel s ∧ w = cceReg s q 0x044 ∧
      i = getBits w 15 8 ∧ (cceOpenOk s q = false ∨ (cceQ s q).opened = true ∧ (cceQ s q).stopped = false)) ∧
    (∃ (r : Role) (q i : Nat) (w : Word) (s : State), passes s r (pgCce + 0x054) true true = true ∧ q = cceSel s ∧ w = cceReg s q 0x044 ∧ i = getBits w 15 8) ∧
    (∃ (i : Fin 256) (q : Fin 16) (v : Word) (x : CceQ) (off : Nat) (s : State), off = instPage i.val + 0x400 + 4 * q.val ∧
      passes s (.t i) off true false = true ∧ s.cru.st = .run ∧ x = cceQ s q.val ∧ x.opened = true ∧ x.fw = false ∧ x.inst = i.val ∧ x.prod < v.toNat ∧
      v.toNat ≤ x.done + 2 ^ x.log2 ∧ inService s pgCce = true) ∧
    (∃ (i : Fin 256) (q : Fin 16) (v : Word) (x : CceQ) (off : Nat) (s : State), off = instPage i.val + 0x400 + 4 * q.val ∧
      passes s (.t i) off true false = true ∧ s.cru.st = .run ∧ x = cceQ s q.val ∧ x.opened = true ∧ x.fw = false ∧ x.inst = i.val ∧
      (v.toNat ≤ x.prod ∨ x.done + 2 ^ x.log2 < v.toNat)) ∧
    (∃ (q : Fin 16) (x : CceQ) (j : CceJob) (s : State), ∃ st, cceSettle s = s ∧ pageUp s pgCce = true ∧ x = cceQ s q.val ∧ x.job = some j ∧
      injArmed s pgCce 2 = false ∧ j.stage = .fetched ∧ j.st = 0 ∧ cceJudge s q.val x j = some st) ∧
    (∃ (q : Fin 16) (x : CceQ) (j : CceJob) (s : State), cceSettle s = s ∧ pageUp s pgCce = true ∧ x = cceQ s q.val ∧ x.job = some j ∧
      injArmed s pgCce 2 = false ∧ j.stage = .fetched ∧ j.st = 0 ∧ cceJudge s q.val x j = none) ∧
    (∃ (q : Fin 16) (x : CceQ) (j : CceJob) (s : State), cceSettle s = s ∧ pageUp s pgCce = true ∧ x = cceQ s q.val ∧ x.job = some j ∧
      injArmed s pgCce 2 = false ∧ j.stage = .fetched ∧ j.st ≠ 0 ∧ x.closing = false) ∧
    (∃ (q : Fin 16) (x : CceQ) (j : CceJob) (s : State), cceSettle s = s ∧ pageUp s pgCce = true ∧ x = cceQ s q.val ∧ x.job = some j ∧
      injArmed s pgCce 2 = false ∧ j.stage = .done ∧ j.ringSt = 0 ∧ x.opened = true ∧ x.closing = false) :=
  ⟨⟨.f, 15, 0, 0x00020000,
    { setReg (tBnd [(1, [0])]) (pgCce + 0x040) 15 with cce := { tFab.cce with cfg := [(15 * 256 + 0x044, 0x00020000), (15 * 256 + 0x050, 1)] } }, by and_intros <;> first | rfl | decide⟩,
   ⟨.f, 15, 0, 0, setReg tFab (pgCce + 0x040) 15, by decide⟩,
   ⟨.f, 15, 0, 0x00020000,
     { setReg (tBnd [(1, [0])]) (pgCce + 0x040) 15 with cce := { tFab.cce with cfg := [(15 * 256 + 0x044, 0x00020000), (15 * 256 + 0x050, 1)], queues := [(15, tCq)] } }, by decide⟩,
   ⟨0, 15, 4, tCq, instPage 0 + 0x43C, tCe tCq, by decide⟩,
   ⟨0, 15, 5, tCq, instPage 0 + 0x43C, tCe tCq, by decide⟩,
   ⟨15, { tCq with prod := 1, job := some (tJob .fetched) }, tJob .fetched, tCe { tCq with prod := 1, job := some (tJob .fetched) },
     Status.denied.code, by and_intros <;> first | rfl | decide⟩,
   ⟨15, { tCq with prod := 1, job := some { tJob .fetched with desc := [1, 0, 1, 0, 0, 0, 0, 0, 16] ++ zeros 119 } },
     { tJob .fetched with desc := [1, 0, 1, 0, 0, 0, 0, 0, 16] ++ zeros 119 },
     { tBnd [(1, [0])] with cce := (tCe { tCq with prod := 1, job := some { tJob .fetched with desc := [1, 0, 1, 0, 0, 0, 0, 0, 16] ++ zeros 119 } }).cce }, by and_intros <;> first | rfl | decide⟩,
   ⟨15, { tCq with prod := 1, job := some { tJob .fetched with st := 3 } }, { tJob .fetched with st := 3 },
     tCe { tCq with prod := 1, job := some { tJob .fetched with st := 3 } }, by and_intros <;> first | rfl | decide⟩,
   ⟨15, { tCq with prod := 1, job := some (tJob .done) }, tJob .done,
     tCe { tCq with prod := 1, job := some (tJob .done) }, by and_intros <;> first | rfl | decide⟩⟩

theorem test_witness_InterruptController :
    (∃ (x : Fin 4) (s : State), (domUp s 12 = false ∨ regBit s (pgInc + 0x040) 0 = true ∨ sinkTakes s x.val = false ∨ (∀ a ∈ s.inc.acts, a.delivered =
      false → actTarget s a ≠ x.val))) ∧
    (∃ (x : Fin 4) (a : Act) (s : State), nextAct s x.val a ∧ domUp s 12 = true ∧ regBit s (pgInc + 0x040) 0 = false ∧ sinkTakes s x.val = true ∧ s.cru.st
      = .run) ∧
    (∃ (x : Fin 4) (a : Act) (s : State), nextAct s x.val a ∧ domUp s 12 = true ∧ regBit s (pgInc + 0x040) 0 = false ∧ sinkTakes s x.val = true ∧ s.cru.st
      = .sleep) ∧
    (∃ (r : Role) (c : Instr) (off : Nat) (v : Word) (src : Nat) (inst : Option Nat) (s : State), ∃ a, ((c = .incDone r v ∧ off = pgInc + 0x044 ∧ inst =
      (if isInstSource src && getBit v 16 then some (getBits v 15 8) else none)) ∨ (∃ i : Fin 256, c = .instDone r i v ∧ off = instPage i.val + 0x304
      ∧ inst = some i.val ∧ isInstSource src = true)) ∧ src = getBits v 7 0 ∧ passes s r off true false = true ∧ completes s r src inst a ∧ srcLevel s
      src = false) ∧
    (∃ (r : Role) (c : Instr) (off : Nat) (v : Word) (src : Nat) (inst : Option Nat) (s : State), ∃ a, ((c = .incDone r v ∧ off = pgInc + 0x044 ∧ inst =
      (if isInstSource src && getBit v 16 then some (getBits v 15 8) else none)) ∨ (∃ i : Fin 256, c = .instDone r i v ∧ off = instPage i.val + 0x304
      ∧ inst = some i.val ∧ isInstSource src = true)) ∧ src = getBits v 7 0 ∧ passes s r off true false = true ∧ completes s r src inst a ∧ srcLevel s
      src = true) ∧
    (∃ (r : Role) (c : Instr) (off : Nat) (v : Word) (src : Nat) (inst : Option Nat) (s : State), ((c = .incDone r v ∧ off = pgInc + 0x044 ∧ inst = (if
      isInstSource src && getBit v 16 then some (getBits v 15 8) else none)) ∨ (∃ i : Fin 256, c = .instDone r i v ∧ off = instPage i.val + 0x304 ∧
      inst = some i.val ∧ isInstSource src = true)) ∧ src = getBits v 7 0 ∧ passes s r off true false = true ∧ (∀ a, ¬ completes s r src inst a)) ∧
    (∃ (r : Role) (v : Word) (a : Act) (s : State), passes s r (pgInc + 0x044) true false = true ∧ isInstSource (getBits v 7 0) = false ∧ completes s r
      (getBits v 7 0) none a ∧ srcLevel s (getBits v 7 0) = false) ∧
    (∃ (r : Role) (i : Fin 256) (v : Word) (s : State), passes s r (instPage i.val + 0x304) true false = true ∧ isInstSource (getBits v 7 0) = false) ∧
    (∃ (r : Role) (v : Word) (s : State), passes s r (pgInc + 0x040) true false = true) ∧
    (∃ (r : Role) (src : Fin 256) (v : Word) (s : State), passes s r (srcReg src.val) true (srcChanges s r src.val v) = true ∧ isSource src.val = true ∧
      srcChanges s r src.val v = true ∧ (∀ a ∈ s.inc.acts, a.src ≠ src.val) ∧ (getBits v 1 0 = 3 → isInstSource src.val = true)) ∧
    (∃ (r : Role) (src : Fin 256) (v : Word) (s : State), passes s r (srcReg src.val) true (srcChanges s r src.val v) = true ∧ isSource src.val = true ∧
      srcChanges s r src.val v = true ∧ ((∃ a ∈ s.inc.acts, a.src = src.val) ∨ (getBits v 1 0 = 3 ∧ isInstSource src.val = false))) ∧
    (∃ (r : Role) (src : Fin 256) (v : Word) (s : State), passes s r (srcReg src.val) true (srcChanges s r src.val v) = true ∧ isSource src.val = true ∧
      srcChanges s r src.val v = false) ∧
    (∃ (r : Role) (src : Fin 256) (v : Word) (s : State), passes s r (srcReg src.val) true (srcChanges s r src.val v) = true ∧ isSource src.val = false) ∧
    (∃ (r : Role) (s : State), passes s r (pgInc + 0x050) true false = true ∧ s.inc.mailbox.length ≤ 32) :=
  ⟨⟨3, tFab, by decide⟩,
   ⟨0, tAct 0x84 none false, tInc [tAct 0x84 none false], by and_intros <;> first | rfl | decide | (unfold nextAct; decide)⟩,
   ⟨0, tAct 0x84 none false,
     { tInc [tAct 0x84 none false] with cru := { tCru with st := .sleep } }, by and_intros <;> first | rfl | decide | (unfold nextAct; decide)⟩,
   ⟨.f, .incDone .f 0x84, pgInc + 0x044, 0x84, 0x84, none, tInc [tAct 0x84 none true],
     tAct 0x84 none true, by and_intros <;> first | rfl | decide | exact Or.inl ⟨rfl, rfl, by decide⟩ | (unfold completes; decide)⟩,
   ⟨.f, .incDone .f 0x50, pgInc + 0x044, 0x50, 0x50, none, setRegBit (tInc [tAct 0x50 none true]) (pgVdt 0 + 0x018) 0 true,
     tAct 0x50 none true, by and_intros <;> first | rfl | decide | exact Or.inl ⟨rfl, rfl, by decide⟩ | (unfold completes; decide)⟩,
   ⟨.f, .incDone .f 0x84, pgInc + 0x044, 0x84, 0x84, none, tFab, Or.inl ⟨rfl, rfl, by decide⟩, by decide, by decide, fun _ h => List.not_mem_nil h.1⟩,
   ⟨.f, 0x84, tAct 0x84 none true, tInc [tAct 0x84 none true], by and_intros <;> first | rfl | decide | (unfold completes; decide)⟩,
   ⟨.t 0, 0, 0xDF, tFab, by decide⟩,
   ⟨.f, 1, tFab, by decide⟩,
   ⟨.f, 0xE0, 0, tFab, by decide⟩,
   ⟨.f, 0x84, 7, tFab, by decide⟩,
   ⟨.f, 0x84, 0, setReg tFab (srcReg 0x84) 0x400, by decide⟩,
   ⟨.f, 0xFF, 7, tFab, by decide⟩,
   ⟨.m, tFab, by decide⟩⟩

theorem test_witness_RecorderCommands :
    (∃ (s : State), (clocksRun s = false ∨ s.evr.frozen.isSome = true ∨ s.evr.clearing = true)) ∧
    (∃ (s : State), clocksRun s = true ∧ s.evr.frozen = none ∧ s.evr.clearing = false ∧ injArmed s pgEvr 1 = false ∧ s.evr.nextSeq = 0 ∧ s.lco.decoded =
      true) ∧
    (∃ (s : State), clocksRun s = true ∧ s.evr.frozen = none ∧ s.evr.clearing = false ∧ injArmed s pgEvr 1 = false ∧ s.evr.nextSeq = 0 ∧ s.lco.decoded =
      false) ∧
    (∃ (s : State), clocksRun s = true ∧ s.evr.frozen = none ∧ s.evr.clearing = false ∧ injArmed s pgEvr 1 = false ∧ s.evr.nextSeq ≠ 0 ∧ waitingRecs s =
      []) ∧
    (∃ (s : State), ∃ k b x rest, clocksRun s = true ∧ s.evr.frozen = none ∧ s.evr.clearing = false ∧ injArmed s pgEvr 1 = false ∧ s.evr.nextSeq ≠ 0 ∧
      tblFind s.evr.bufs k = some b ∧ b.recs = x :: rest ∧ b.lost = 0 ∧ (∀ y ∈ waitingRecs s, y = (some k, x) ∨ recBefore x y.2 = true)) ∧
    (∃ (s : State), ∃ k b x rest, clocksRun s = true ∧ s.evr.frozen = none ∧ s.evr.clearing = false ∧ injArmed s pgEvr 1 = false ∧ s.evr.nextSeq ≠ 0 ∧
      tblFind s.evr.bufs k = some b ∧ b.recs = x :: rest ∧ b.lost ≠ 0 ∧ (∀ y ∈ waitingRecs s, y = (some k, x) ∨ recBefore x y.2 = true)) ∧
    (∃ (s : State), ∃ x, clocksRun s = true ∧ s.evr.frozen = none ∧ s.evr.clearing = false ∧ injArmed s pgEvr 1 = false ∧ s.evr.nextSeq ≠ 0 ∧ x ∈
      s.evr.handed ∧ (∀ y ∈ waitingRecs s, y = (none, x) ∨ recBefore x y.2 = true)) ∧
    (∃ (st : Status) (k : Nat) (rest : List Nat) (s : State), s.evr.spilling = []) ∧
    (∃ (st : Status) (k : Nat) (rest : List Nat) (s : State), s.evr.spilling = k :: rest ∧ (st ≠ .ok ∨ (serviceRefusal s (spillAddr s k / 4096) 0xFF01
      true).isSome = true)) ∧
    (∃ (st : Status) (k : Nat) (rest : List Nat) (s : State), s.evr.spilling = k :: rest ∧ st = .ok ∧ serviceRefusal s (spillAddr s k / 4096) 0xFF01 true
      = none ∧ injArmed s pgEvr 0 = false) ∧
    (∃ (r : Role) (sq : Word) (rd : KtabRead) (s : State), passes s r (rdSeqOff r) true false = true ∧ (65536 < (2 ^ 32 + s.evr.nextSeq - sq.toNat) % 2 ^
      32 → serviceRefusal s (spillAddr s ((s.evr.nextSeq - (2 ^ 32 + s.evr.nextSeq - sq.toNat) % 2 ^ 32) / 128) / 4096) 0xFF01 false = none)) ∧
    (∃ (r : Role) (s : State), passes s r (pgEvr + 0x04C) true true = true ∧ s.evr.frozen = none ∧ s.evr.clearing = false ∧ (∀ e, s.evr.lastFreezeEnd =
      some e → e + 10000000 ≤ now s)) ∧
    (∃ (r : Role) (s : State), passes s r (pgEvr + 0x04C) true true = true ∧ (s.evr.frozen.isSome = true ∨ s.evr.clearing = true ∨ ∃ e,
      s.evr.lastFreezeEnd = some e ∧ now s < e + 10000000)) ∧
    (∃ (r : Role) (s : State), passes s r (pgEvr + 0x04C) true true = true) ∧
    (∃ (f : Freeze) (s : State), s.evr.frozen = some f ∧ f.start + 10000000 ≤ now s) ∧
    (∃ (f : Freeze) (s : State), s.evr.frozen = some f ∧ now s < f.start + 10000000) ∧
    (∃ (r : Role) (s : State), passes s r (pgEvr + 0x04C) true true = true ∧ r ≠ .m) ∧
    (∃ (r : Role) (s : State), passes s r (pgEvr + 0x04C) true true = true ∧ r = .m ∧ (s.evr.frozen.isSome = true ∨ s.evr.clearing = true)) ∧
    (∃ (r : Role) (s : State), passes s r (pgEvr + 0x04C) true true = true ∧ r = .m ∧ s.evr.frozen = none ∧ s.evr.clearing = false ∧ s.dom.config =
      .fullDomain) ∧
    (∃ (r : Role) (s : State), passes s r (pgEvr + 0x04C) true true = true ∧ r = .m ∧ s.evr.frozen = none ∧ s.evr.clearing = false ∧ s.dom.config ≠
      .fullDomain ∧ (s.evr.digestWritten.length < 12 ∨ allZero (evrDigest s) = true ∨ 8 ≤ s.evr.tokenFails)) ∧
    (∃ (r : Role) (s : State), passes s r (pgEvr + 0x04C) true true = true ∧ r = .m ∧ s.evr.frozen = none ∧ s.evr.clearing = false ∧ s.dom.config ≠
      .fullDomain ∧ 12 ≤ s.evr.digestWritten.length ∧ allZero (evrDigest s) = false ∧ s.evr.tokenFails < 8) ∧
    (∃ (s : State), s.evr.clearing = true) ∧
    (∃ (r : Role) (k : Fin 12) (v : Word) (s : State), passes s r (pgEvr + 0x0A0 + 4 * k.val) true false = true) :=
  ⟨⟨tEv (fun e => { e with clearing := true }), by decide⟩,
   ⟨tFab, by decide⟩,
   ⟨{ tFab with lco := Lco.reset }, by decide⟩,
   ⟨tEv id, by decide⟩,
   ⟨tEv (fun e => { e with bufs := [(5, ⟨[tRc 1], 0, false⟩)], handed := [tRc 2] }), 5, ⟨[tRc 1], 0, false⟩, tRc 1, [], by decide⟩,
   ⟨tEv (fun e => { e with bufs := [(5, ⟨[tRc 1], 3, false⟩)], handed := [tRc 2] }), 5, ⟨[tRc 1], 3, false⟩, tRc 1, [], by decide⟩,
   ⟨tEv (fun e => { e with bufs := [(5, ⟨[tRc 1], 3, false⟩)], handed := [tRc 0] }), tRc 0, by decide⟩,
   ⟨.ok, 0, [], tFab, by decide⟩,
   ⟨.denied, 5, [6], tEv (fun e => { e with spilling := [5, 6] }), by decide⟩,
   ⟨.ok, 5, [6], { tEv (fun e => { e with spilling := [5, 6] }) with jct := { Jct.reset with active := [(0, { tEntry with cls := .s, ksrc := 0xFF01 })] } }, by decide⟩,
   ⟨.f, 0, .unwritten, tFab, by decide⟩,
   ⟨.f, tEv (fun e => { e with lastFreezeEnd := some 10000000 }), by decide, rfl, rfl, fun _ h => by cases h; decide⟩,
   ⟨.f, tEv (fun e => { e with lastFreezeEnd := some 10000001 }), by decide, Or.inr (Or.inr ⟨10000001, rfl, by decide⟩)⟩,
   ⟨.f, tEv (fun e => { e with frozen := some tFz }), by decide⟩,
   ⟨tFz, tEv (fun e => { e with frozen := some tFz }), by decide⟩,
   ⟨tFz, { tEv (fun e => { e with frozen := some tFz }) with ttu := { tFab.ttu with c := 19999999 } }, by decide⟩,
   ⟨.f, tFab, by decide⟩,
   ⟨.m, tEv (fun e => { e with clearing := true }), by decide⟩,
   ⟨.m, { tEv id with dom := { tFab.dom with config := .fullDomain } }, by decide⟩,
   ⟨.m, tEv id, by decide⟩,
   ⟨.m, setReg (tEv (fun e => { e with digestWritten := List.range 12 })) (pgEvr + 0x0A0) 1, by decide⟩,
   ⟨tEv (fun e => { e with clearing := true }), by decide⟩,
   ⟨.f, 11, 5, tFab, by decide⟩⟩

theorem test_witness_StationClock :
    (∃ (r : Role) (d t0 n : Word) (s : State), passes s r (pgTtu + 0x06C) true true = true ∧ d = rawReg s (pgTtu + 0x060) ∧ t0 = rawReg s (pgTtu + 0x064)
      ∧ n = rawReg s (pgTtu + 0x068) ∧ dateOk d t0 n = true ∧ injArmed s pgTtu 0 = false) ∧
    (∃ (r : Role) (d t0 n : Word) (s : State), passes s r (pgTtu + 0x06C) true true = true ∧ d = rawReg s (pgTtu + 0x060) ∧ t0 = rawReg s (pgTtu + 0x064)
      ∧ n = rawReg s (pgTtu + 0x068) ∧ (dateOk d t0 n = false ∨ injArmed s pgTtu 0 = true)) ∧
    (∃ (s : State), regBit s (pgCru + 0x044) 2 = true ∧ s.ttu.disciplined = false ∧ s.ttu.lost = false) ∧
    (∃ (s : State), s.ttu.disciplined = true) ∧
    (∃ (s : State), s.ttu.lost = true ∧ 16384 ≤ s.ttu.edges) ∧
    (∃ (s : State), s.ttu.c = 12622780799999999999 ∧ s.ttu.ended = false) ∧
    (∃ (r : Role) (y m d h mi sec ns : Nat) (s : State), passes s r (pgTtu + 0x044) false false = true ∧ 2000 ≤ y ∧ y ≤ 2399 ∧ 1 ≤ m ∧ m ≤ 12 ∧ 1 ≤ d ∧ d
      ≤ monthDays y m ∧ h < 24 ∧ mi < 60 ∧ sec < 60 ∧ ns < 1000000000 ∧ s.ttu.c = countOf y m d (h * 3600 + mi * 60 + sec) ns) :=
  ⟨⟨.f, 0x0FE821, 0, 0, tRegs tFab [(pgTtu + 0x060, 0x0FE821), (pgTtu + 0x064, 0), (pgTtu + 0x068, 0)], by decide⟩,
   ⟨.f, 0, 0, 0, tRegs tFab [(pgTtu + 0x060, 0), (pgTtu + 0x064, 0), (pgTtu + 0x068, 0)], by decide⟩,
   ⟨setRegBit tFab (pgCru + 0x044) 2 true, by decide⟩,
   ⟨tCk (fun x => { x with disciplined := true }), by decide⟩,
   ⟨tCk (fun x => { x with lost := true, edges := 16384 }), by decide⟩,
   ⟨tCk (fun x => { x with c := 12622780799999999999 }), by decide⟩,
   ⟨.f, 2399, 12, 31, 23, 59, 59, 999999999, tCk (fun x => { x with c := 12622780799999999999 }), by decide⟩⟩

theorem test_witness_PerformanceMonitor :
    (∃ (r : Role) (v : Word) (s : State), passes s r (pgPmu + 0x040) true true = true ∧ getBit v 0 = false) ∧
    (∃ (r : Role) (v : Word) (s : State), passes s r (pgPmu + 0x040) true true = true ∧ getBit v 0 = true ∧ regBit s (pgPmu + 0x040) 0 = true) ∧
    (∃ (r : Role) (v : Word) (s : State), passes s r (pgPmu + 0x040) true true = true ∧ getBit v 0 = true ∧ regBit s (pgPmu + 0x040) 0 = false ∧ ringLegal
      s = true) ∧
    (∃ (r : Role) (v : Word) (s : State), passes s r (pgPmu + 0x040) true true = true ∧ getBit v 0 = true ∧ regBit s (pgPmu + 0x040) 0 = false ∧ ringLegal
      s = false) ∧
    (∃ (ecc : Bool) (s : State), (pmuSamples s = false ∨ now s < s.pmu.start + getFld s (pgPmu + 0x044) 19 0 * 1000)) ∧
    (∃ (ecc : Bool) (s : State), pmuSamples s = true ∧ s.pmu.start + getFld s (pgPmu + 0x044) 19 0 * 1000 ≤ now s ∧ ecc = false ∧ injArmed s pgPmu 1 =
      false ∧ s.pmu.buf = none) ∧
    (∃ (ecc : Bool) (s : State), pmuSamples s = true ∧ s.pmu.start + getFld s (pgPmu + 0x044) 19 0 * 1000 ≤ now s ∧ (ecc = true ∨ s.pmu.buf.isSome =
      true)) ∧
    (∃ (st : Status) (n i : Nat) (b : Bytes) (jd : Option Status) (s : State), jd = serviceRefusal s (slotAddr s (slotOfSet s n i) / 4096) 0xFF02 true ∧
      s.pmu.buf = none) ∧
    (∃ (st : Status) (n i : Nat) (b : Bytes) (jd : Option Status) (s : State), jd = serviceRefusal s (slotAddr s (slotOfSet s n i) / 4096) 0xFF02 true ∧
      s.pmu.buf = some (n, i, b) ∧ (st ≠ .ok ∨ jd.isSome = true)) ∧
    (∃ (st : Status) (n i : Nat) (b : Bytes) (jd : Option Status) (s : State), jd = serviceRefusal s (slotAddr s (slotOfSet s n i) / 4096) 0xFF02 true ∧
      s.pmu.buf = some (n, i, b) ∧ st = .ok ∧ jd = none ∧ injArmed s pgPmu 0 = false ∧ i ≠ 8) ∧
    (∃ (st : Status) (n i : Nat) (b : Bytes) (jd : Option Status) (s : State), jd = serviceRefusal s (slotAddr s (slotOfSet s n i) / 4096) 0xFF02 true ∧
      s.pmu.buf = some (n, 8, b) ∧ i = 8 ∧ st = .ok ∧ jd = none ∧ injArmed s pgPmu 0 = false) ∧
    (∃ (r : Role) (v : Word) (rd : KtabRead) (k n : Nat) (x : Bytes × Nat) (s : State), passes s r (pgPmu + 0x05C) true false = true ∧ enabled s pgPmu = true ∧ k = getBits v 6 0 ∧ n = (rawReg s (pgPmu + 0x058)).toNat ∧ x = (if s.pmu.lost.contains n ∨ (s.pmu.last.isSome = true ∧ n < (rawReg s (pgPmu + 0x054)).toNat) then (zeros 32, Status.denied.code) else match s.pmu.last with | none => (zeros 32, Status.notReady.code) | some m => if m < n then (zeros 32, Status.notReady.code) else match rd with | .entry b => (b, 0) | .unwritten => (zeros 32, Status.unwritten.code) | .fail st => (zeros 32, st.code)) ∧ (∀ m, s.pmu.last = some m → n ≤ m → serviceRefusal s (slotAddr s (slotOfSet s n (k / 8)) / 4096) 0xFF02 false = none) ∧ k ≤ 71) ∧
    (∃ (r : Role) (v : Word) (rd : KtabRead) (k n : Nat) (x : Bytes × Nat) (s : State), passes s r (pgPmu + 0x05C) true false = true ∧ enabled s pgPmu = true ∧ k = getBits v 6 0 ∧ n = (rawReg s (pgPmu + 0x058)).toNat ∧ x = (if s.pmu.lost.contains n ∨ (s.pmu.last.isSome = true ∧ n < (rawReg s (pgPmu + 0x054)).toNat) then (zeros 32, Status.denied.code) else match s.pmu.last with | none => (zeros 32, Status.notReady.code) | some m => if m < n then (zeros 32, Status.notReady.code) else match rd with | .entry b => (b, 0) | .unwritten => (zeros 32, Status.unwritten.code) | .fail st => (zeros 32, st.code)) ∧ (∀ m, s.pmu.last = some m → n ≤ m → serviceRefusal s (slotAddr s (slotOfSet s n (k / 8)) / 4096) 0xFF02 false = none) ∧ 71 < k) :=
  ⟨⟨.f, 0, tPm 0 id, by decide⟩,
   ⟨.f, 1, tPm 0 id, by decide⟩,
   ⟨.f, 1, { tFab with jct := { Jct.reset with active := [(0, { tEntry with cls := .s, ksrc := 0xFF02 })] } }, by decide⟩,
   ⟨.f, 1, tFab, by decide⟩,
   ⟨false, tPm 999999 id, by decide⟩,
   ⟨false, tPm 1000000 id, by decide⟩,
   ⟨false, tPm 1000000 (fun x => { x with buf := some (0, 8, zeros 2304) }), by decide⟩,
   ⟨.ok, 0, 0, [], serviceRefusal tFab (slotAddr tFab (slotOfSet tFab 0 0) / 4096) 0xFF02 true, tFab, rfl, rfl⟩,
   ⟨.denied, 4, 8, zeros 2304, _, tPm 0 (fun x => { x with buf := some (4, 8, zeros 2304) }), rfl, rfl, Or.inl (by decide)⟩,
   ⟨.ok, 4, 7, zeros 2304, none, { tPm 0 (fun x => { x with buf := some (4, 7, zeros 2304) }) with jct := { Jct.reset with active := [(0, { tEntry with cls := .s, ksrc := 0xFF02 })] } }, by and_intros <;> first | rfl | decide⟩,
   ⟨.ok, 4, 8, zeros 2304, none, { tPm 0 (fun x => { x with buf := some (4, 8, zeros 2304) }) with jct := { Jct.reset with active := [(0, { tEntry with cls := .s, ksrc := 0xFF02 })] } }, by and_intros <;> first | rfl | decide⟩,
   ⟨.f, 71, .unwritten, 71, 0, (zeros 32, Status.notReady.code), tFab, by decide⟩,
   ⟨.f, 72, .unwritten, 72, 0, (zeros 32, Status.notReady.code), tFab, by decide⟩⟩

theorem test_witness_HangsAndWatchdogs :
    (∃ (x : Watched) (s : State), inService s x.page = false) ∧
    (∃ (x : Watched) (s : State), inService s x.page = true ∧ dryRun s x.page = none ∧ x ≠ .imu ∧ mayStart s 1 x.page) ∧
    (∃ (x : Watched) (s : State), inService s x.page = true ∧ dryRun s x.page = none ∧ x = .imu ∧ mayStart s 2 pgImu) ∧
    (∃ (x : Watched) (s : State), inService s x.page = true ∧ dryRun s x.page = none ∧ (s.withdrawn = true ∨ s.wrc.l4.isSome = true)) ∧
    (∃ (x : Watched) (r : Replay) (y : Suspect) (rest : List Suspect) (s : State), inService s x.page = true ∧ dryRun s x.page = some r ∧ r.suspects = y
      :: rest) ∧
    (∃ (s : State), (s.wrc.sbxWdArmed = false ∨ s.sbx.boot ≠ .running ∨ s.sbx.halted = true)) ∧
    (∃ (s : State), s.wrc.sbxWdArmed = true ∧ s.sbx.boot = .running ∧ s.sbx.halted = false ∧ mayStart s 2 pgSbx) ∧
    (∃ (r : Role) (v : Word) (s : State), passes s r (pgWrc + 0x058) true false = true) ∧
    (∃ (e : Fin 40) (s : State), (engAt s e.val).txs = []) ∧
    (∃ (e : Fin 40) (s : State), (engAt s e.val).txs ≠ [] ∧ mayStart s 1 (engPage e.val)) ∧
    (∃ (e : Fin 40) (s : State), (engAt s e.val).txs ≠ [] ∧ (s.withdrawn = true ∨ s.wrc.l4.isSome = true)) ∧
    (∃ (s : State), s.cru.porst = true) ∧
    (∃ (s : State), s.cru.porst = false ∧ s.withdrawn = false ∧ s.wrc.l4 = none) ∧
    (∃ (s : State), s.cru.porst = false ∧ s.wrc.l4.isSome = true) ∧
    (∃ (s : State), s.sbx.boot = .reset) ∧
    (∃ (s : State), s.sbx.boot ≠ .reset ∧ s.withdrawn = false) ∧
    (∃ (s : State), s.sbx.boot ≠ .reset ∧ s.withdrawn = true) :=
  ⟨⟨.eng 39, tRun, by decide⟩,
   ⟨.eng 0, tFab, by and_intros <;> first | rfl | decide | (unfold mayStart; decide)⟩,
   ⟨.imu, tFab, by and_intros <;> first | rfl | decide | (unfold mayStart; decide)⟩,
   ⟨.cce, { tFab with withdrawn := true }, by decide⟩,
   ⟨.eng 0, tRp [⟨0, 0, 0, 1⟩, ⟨0, 0, 0, 1⟩], ⟨0, 0, 0, 1⟩, [⟨0, 0, 0, 1⟩],
     tWr 0 (fun w => { w with replays := [tRp [⟨0, 0, 0, 1⟩, ⟨0, 0, 0, 1⟩]] }), by and_intros <;> first | rfl | decide | (unfold mayStart; decide)⟩,
   ⟨tFab, by decide⟩,
   ⟨tWr 0 (fun w => { w with sbxWdArmed := true }), by and_intros <;> first | rfl | decide | (unfold mayStart; decide)⟩,
   ⟨.f, 1, tFab, by decide⟩,
   ⟨39, tFab, by decide⟩,
   ⟨0, tEng (fun g => { g with txs := [(5, ⟨.writeback, 0, true, 128⟩)] }), by and_intros <;> first | rfl | decide | (unfold mayStart; decide)⟩,
   ⟨0, { tEng (fun g => { g with txs := [(5, ⟨.writeback, 0, true, 128⟩)] }) with withdrawn := true }, by decide⟩,
   ⟨State.reset, by decide⟩,
   ⟨tFab, by decide⟩,
   ⟨tWr 0 (fun w => { w with l4 := some ⟨5, 0⟩ }), by decide⟩,
   ⟨{ tFab with sbx := Sbx.reset }, by decide⟩,
   ⟨tFab, by decide⟩,
   ⟨{ tFab with withdrawn := true }, by decide⟩⟩

theorem test_witness_EndsOfRecoveries :
    (∃ (u : Fin 22) (n : Fin 32) (s : State), runningAt s 1 u.val n.val = none) ∧
    (∃ (u : Fin 22) (n : Fin 32) (r : Recov) (s : State), runningAt s 1 u.val n.val = some r ∧ injArmed s pgWrc 0 = false) ∧
    (∃ (u : Fin 22) (n : Fin 32) (s : State), runningAt s 2 u.val n.val = none) ∧
    (∃ (u : Fin 22) (n : Fin 32) (r : Recov) (s : State), runningAt s 2 u.val n.val = some r ∧ injArmed s pgWrc 1 = false) ∧
    (∃ (u : Fin 22) (n : Fin 32) (s : State), injArmed s pgWrc 0 = true) ∧
    (∃ (u : Fin 22) (n : Fin 32) (s : State), injArmed s pgWrc 1 = true) ∧
    (∃ (d : Fin 13) (s : State), ((∀ q ∈ s.wrc.running, ¬ (q.level = 3 ∧ q.inst = d.val)) ∨ domSt s d.val ≠ .on)) ∧
    (∃ (d : Fin 13) (r : Recov) (s : State), r ∈ s.wrc.running ∧ r.level = 3 ∧ r.inst = d.val ∧ (∀ q ∈ s.wrc.running, q.level = 3 → q = r) ∧ domSt s d.val
      = .on ∧ injArmed s pgWrc 2 = false) ∧
    (∃ (l : Fin 5) (u : Fin 22) (n : Fin 32) (s : State), l.val ≠ 4 ∧ runningAt s l.val u.val n.val = none) ∧
    (∃ (u : Fin 22) (n : Fin 32) (r : Recov) (s : State), runningAt s 1 u.val n.val = some r) ∧
    (∃ (u : Fin 22) (n : Fin 32) (r : Recov) (s : State), runningAt s 2 u.val n.val = some r ∧ s.withdrawn = false) ∧
    (∃ (u : Fin 22) (n : Fin 32) (r : Recov) (s : State), runningAt s 3 u.val n.val = some r ∧ s.withdrawn = false) ∧
    (∃ (u : Fin 22) (n : Fin 32) (s : State), s.wrc.l4 = none) ∧
    (∃ (u : Fin 22) (n : Fin 32) (s : State), s.wrc.l4.isSome = true ∧ s.withdrawn = false) ∧
    (∃ (u : Fin 22) (n : Fin 32) (r : Replay) (y : Suspect) (s : State), dryRun s (recPage u n) = none) ∧
    (∃ (u : Fin 22) (n : Fin 32) (r : Replay) (y : Suspect) (s : State), ∃ z rest, dryRun s (recPage u n) = some r ∧ r.suspects = y :: z :: rest ∧ instGen
      s z.inst = z.gen) ∧
    (∃ (u : Fin 22) (n : Fin 32) (r : Replay) (y : Suspect) (s : State), dryRun s (recPage u n) = some r ∧ r.suspects = [y]) :=
  ⟨⟨7, 0, tFab, by decide⟩,
   ⟨7, 0, tRv 1, tWr 0 (fun w => { w with running := [tRv 1] }), by decide⟩,
   ⟨7, 0, tFab, by decide⟩,
   ⟨7, 0, tRv 2, tWr 0 (fun w => { w with running := [tRv 2] }), by decide⟩,
   ⟨7, 0, setReg tFab (pgWrc + 0x020) 1, by decide⟩,
   ⟨7, 0, setReg tFab (pgWrc + 0x020) 2, by decide⟩,
   ⟨12, tFab, by decide⟩,
   ⟨0, tRv 3, tWr 0 (fun w => { w with running := [tRv 3] }), by decide⟩,
   ⟨0, 21, 31, tFab, by decide⟩,
   ⟨7, 0, tRv 1, tWr 0 (fun w => { w with running := [tRv 1] }), by decide⟩,
   ⟨7, 0, tRv 2, tWr 0 (fun w => { w with running := [tRv 2] }), by decide⟩,
   ⟨7, 0, tRv 3, tWr 0 (fun w => { w with running := [tRv 3] }), by decide⟩,
   ⟨7, 0, tFab, by decide⟩,
   ⟨7, 0, tWr 0 (fun w => { w with l4 := some ⟨5, 0⟩ }), by decide⟩,
   ⟨7, 0, tRp [], ⟨0, 0, 0, 1⟩, tFab, by decide⟩,
   ⟨7, 0, tRp [⟨0, 0, 0, 1⟩, ⟨0, 1, 0, 1⟩], ⟨0, 0, 0, 1⟩, tWr 0 (fun w => { w with replays := [tRp [⟨0, 0, 0, 1⟩, ⟨0, 1, 0, 1⟩]] }), ⟨0, 1, 0, 1⟩, [], by decide⟩,
   ⟨7, 0, tRp [⟨0, 0, 0, 1⟩], ⟨0, 0, 0, 1⟩, tWr 0 (fun w => { w with replays := [tRp [⟨0, 0, 0, 1⟩]] }), by decide⟩⟩

theorem test_witness_BlockRecoveryAndTamper :
    (∃ (s : State), s.wrc.l4.map L4.step ≠ some 2) ∧
    (∃ (l : L4) (s : State), s.wrc.l4 = some l ∧ l.step = 2 ∧ s.cru.dead.contains 1 = false) ∧
    (∃ (s : State), s.wrc.l4.map L4.step ≠ some 5) ∧
    (∃ (l : L4) (s : State), s.wrc.l4 = some l ∧ l.step = 5) ∧
    (∃ (l : L4) (s : State), s.wrc.l4 = some l ∧ l.step = 5 ∧ (∀ p, p < 58 → (portAt s p).training = false) ∧ s.sbx.boot ≠ .rootWait) ∧
    (∃ (l : L4) (s : State), s.wrc.l4 = some l ∧ l.step = 5 ∧ (∀ p, p < 58 → (portAt s p).training = false) ∧ s.sbx.boot = .rootWait ∧ s.lco.decoded =
      true ∧ s.lco.lc ≠ .locked ∧ s.lco.lc ≠ .scrapped ∧ s.lco.lc ≠ .returned ∧ s.kvt.rootSt = .ready ∧ getFld s (pgSbx + 0x040) 3 0 ≠ 8 ∧
      s.sbx.afterPorst = false ∧ reloadAddr s ≠ 0) ∧
    (∃ (r : Role) (v : Word) (clr : Nat) (s : State), passes s r (pgWrc + 0x05C) true true = true ∧ clr = getFld s (pgWrc + 0x060) 22 16 ∧ getBit v 0 =
      false) ∧
    (∃ (r : Role) (v : Word) (clr : Nat) (s : State), passes s r (pgWrc + 0x05C) true true = true ∧ clr = getFld s (pgWrc + 0x060) 22 16 ∧ getBit v 0 =
      true ∧ regBit s (pgWrc + 0x040) 7 = true ∧ s.wrc.withdrawnAgain = false ∧ clr < 63) ∧
    (∃ (r : Role) (v : Word) (clr : Nat) (s : State), passes s r (pgWrc + 0x05C) true true = true ∧ clr = getFld s (pgWrc + 0x060) 22 16 ∧ getBit v 0 =
      true ∧ (regBit s (pgWrc + 0x040) 7 = false ∨ s.wrc.withdrawnAgain = true ∨ 63 ≤ clr)) ∧
    (∃ (bad : BitVec 16) (s : State), s.cru.porst = true) ∧
    (∃ (bad : BitVec 16) (s : State), s.cru.porst = false ∧ (s.tmp.mismatches &&& bad.toNat = 0 ∨ s.tmp.present.getLsbD 0 = true)) ∧
    (∃ (bad : BitVec 16) (s : State), s.cru.porst = false ∧ s.tmp.mismatches &&& bad.toNat ≠ 0 ∧ s.tmp.present.getLsbD 0 = false) ∧
    (∃ (bits : BitVec 6) (s : State), (s.cru.porst = true ∨ bits &&& ~~~ s.tmp.present = 0)) ∧
    (∃ (bits : BitVec 6) (s : State), s.cru.porst = false ∧ bits &&& ~~~ s.tmp.present ≠ 0) ∧
    (∃ (s : State), (regBit s (pgTmp + 0x040) 0 = false ∨ clocksRun s = false)) ∧
    (∃ (s : State), regBit s (pgTmp + 0x040) 0 = true ∧ clocksRun s = true ∧ s.withdrawn = true) ∧
    (∃ (s : State), regBit s (pgTmp + 0x040) 0 = true ∧ clocksRun s = true ∧ s.withdrawn = false) :=
  ⟨⟨tFab, by decide⟩,
   ⟨⟨2, 0⟩, { tWr 0 (fun w => { w with l4 := some ⟨2, 0⟩ }) with sbx := (tFab).sbx }, by decide⟩,
   ⟨tFab, by decide⟩,
   ⟨⟨5, 0⟩, { tWr 0 (fun w => { w with l4 := some ⟨5, 0⟩ }) with sbx := (tFab).sbx }, by decide⟩,
   ⟨⟨5, 0⟩, { tWr 0 (fun w => { w with l4 := some ⟨5, 0⟩ }) with sbx := (tFab).sbx }, by decide⟩,
   ⟨⟨5, 0⟩, setReg { { tWr 0 (fun w => { w with l4 := some ⟨5, 0⟩ }) with sbx := (tFab).sbx } with lco := tLco, sbx := { tFab.sbx with boot := .rootWait, afterPorst := false } } (pgSbx + 0x048) 0x1000, by decide⟩,
   ⟨.m, 0, 0, tFab, by decide⟩,
   ⟨.m, 1, 62, setRegBit (setFld tFab (pgWrc + 0x060) 22 16 62) (pgWrc + 0x040) 7 true, by decide⟩,
   ⟨.m, 1, 63, setRegBit (setFld tFab (pgWrc + 0x060) 22 16 63) (pgWrc + 0x040) 7 true, by decide⟩,
   ⟨0x8000, State.reset, by decide⟩,
   ⟨0x8000, tFab, by decide⟩,
   ⟨0x8000, { tFab with tmp := { tFab.tmp with mismatches := 0x8000 } }, by decide⟩,
   ⟨0, tFab, by decide⟩,
   ⟨0x20, tFab, by decide⟩,
   ⟨tFab, by decide⟩,
   ⟨{ setRegBit tFab (pgTmp + 0x040) 0 true with withdrawn := true }, by decide⟩,
   ⟨setRegBit tFab (pgTmp + 0x040) 0 true, by decide⟩⟩

theorem test_witness_InstancePagesReportTheirNumber :
    ∃ (r : Role) (i : Fin 256) (s : State), passes s r (instPage i.val) false false = true :=
  ⟨.t 255, 255, tFab, by decide⟩

theorem test_witness_RecordsRaiseSource84 :
    ∃ (k : Option Nat) (x : Rec) (s : State), clocksRun s = true ∧ s.evr.frozen = none ∧ s.evr.clearing = false ∧ injArmed s pgEvr 1 = false ∧
      ((s.evr.nextSeq = 0 ∧ s.lco.decoded = true ∧ x = powerOnRec s) ∨ (s.evr.nextSeq ≠ 0 ∧ firstRec (waitingRecs s) = some (k, x))) :=
  ⟨none, powerOnRec tFab, tFab, by and_intros <;> first | rfl | decide | exact Or.inl ⟨rfl, rfl, rfl⟩⟩

theorem test_witness_HoldKeepsThePendingStates :
    (∃ (x : Fin 4) (s : State), regBit s (pgInc + 0x040) 0 = true) ∧
    (∃ (s : State) (src : Nat) (i k : Option Nat) (st p1 p2 p3 : Nat), regBit s (pgInc + 0x040) 0 = true ∧ isSource src = true ∧ srcAbsent s src = false ∧
      domUp s 12 = true ∧ enabled s pgInc = true ∧ regBit s (srcReg src) 2 = true ∧ k = (if isInstSource src then i else none) ∧ (∀ a ∈ s.inc.acts, ¬
      (a.src = src ∧ a.inst = k))) ∧
    (∃ (s : State) (src : Nat) (i k : Option Nat) (st p1 p2 p3 : Nat), regBit s (pgInc + 0x040) 0 = true ∧ isSource src = true ∧ srcAbsent s src = false ∧
      domUp s 12 = true ∧ enabled s pgInc = true ∧ regBit s (srcReg src) 2 = true ∧ k = (if isInstSource src then i else none) ∧ (∃ a ∈ s.inc.acts,
      a.src = src ∧ a.inst = k)) ∧
    (∃ (r : Role) (v : Word) (s : State), passes s r (pgInc + 0x040) true false = true ∧ getBit v 0 = false) ∧
    (∃ (r : Role) (v : Word) (s : State), (r = .m ∨ r = .f) ∧ windowOpen s = true ∧ pageUp s pgInc = true ∧ pageGated s pgInc = false ∧ inReset12 s pgInc
      = false ∧ getBit v 0 = true) :=
  ⟨⟨3, setRegBit tFab (pgInc + 0x040) 0 true, by decide⟩,
   ⟨setRegBit tFab (pgInc + 0x040) 0 true, 0xE0, some 5, some 5, 1, 2, 3, 4, by decide⟩,
   ⟨setRegBit (tInc [tAct 0xE0 (some 5) true]) (pgInc + 0x040) 0 true, 0xE0, some 5, some 5, 1, 2, 3, 4, by and_intros <;> first | decide | exact ⟨_, List.mem_singleton_self _, rfl, rfl⟩⟩,
   ⟨.m, 0, setRegBit (tInc [tAct 0xE0 (some 5) false]) (pgInc + 0x040) 0 true, by decide⟩,
   ⟨.f, 1, tFab, by decide⟩⟩

/-- The two inner cases of HoldKeepsThePendingStates, and the state that is delivered after HOLD. -/
theorem test_cases_HoldKeepsThePendingStates :
    (∀ a ∈ (setRegBit tFab (pgInc + 0x040) 0 true).inc.acts, ¬ (a.src = 0xE0 ∧ a.inst = some 5)) ∧
    (∃ a ∈ (setRegBit (tInc [tAct 0xE0 (some 5) true]) (pgInc + 0x040) 0 true).inc.acts, a.src = 0xE0 ∧ a.inst = some 5) ∧
    nextAct (tInc [tAct 0x84 none false]) 0 (tAct 0x84 none false) ∧ sinkTakes (tInc [tAct 0x84 none false]) 0 = true :=
  ⟨by decide, by decide, by unfold nextAct; decide, by decide⟩

/-- The two inner cases of OffsetsWithoutARegister: an offset beyond the role's reach, and one of a live page. -/
theorem test_cases_OffsetsWithoutARegister :
    reaches tRun (.t 0) 0x280FFC true = false ∧ reaches tRun .m 0x280FFC true = true ∧ pageUp tRun pgCru = true ∧ pageGated tRun pgCru = false ∧
      inReset12 tRun pgCru = false := by decide

/-! ### Well-formedness: an ill-formed term for each check -/

theorem test_ill_formed_refused :
    ([.portClockWindow [3, 3], .rootAttemptDone (List.replicate 2047 0), .dlBegin 0 0 2 0 0 false,
      .registerWrite .m 0 4 0 (.entry (zeros 64)) .ok false false, .generate .m 0 1 (.entry (zeros 32)) .ok, .keyExport .m 0 1 (.entry []),
      .keyImport .m 0 (.entry (zeros 127)) .ok, .kvtStep .m 0 1 (.entry (zeros 129)), .retireWritebackDone 1 (.fail .ok), .keyLoadDone 1 (.entry (zeros 32)),
      .fmRequestSample 0 0 0 0 0 0 1 0 0 0 0 (zeros 255) 0 false false, .memReadData 0 0 (zeros 513) false false,
      .metadataFillReturn 0 0 (zeros 513) false false, .resealCheckpointAck 0 (zeros 63), .cohDataReceive 0 0 0 true 0 (zeros 63),
      .wbReceive 0 0 0 0 0 (zeros 65), .writeCtReceive 0 0 0 0 0 (zeros 8) (zeros 127), .hostMemAccess 0 true 0 1 (zeros 8) false false,
      .hostMemAccess 0 true 0 0 [] false false, .keyShare 0 true (zeros 112) (.entry (zeros 64)) .ok, .joinConfirm 0 true [], .joinConfirmed 0 [],
      .bind 0 0 0 1 (.entry (zeros 32)), .mbStep 0 0 0 1 (.fail .unwritten), .evrRecordLoad .m 0 (.entry (zeros 128)),
      .pmuRecordLoad .m 0 (.entry (zeros 31))] : List Instr).all (fun i => !i.wellFormed) = true := by decide

theorem test_well_formed_taken :
    ([.portClockWindow (zeros 59 |>.map BitVec.toNat), .registerWrite .m 0 4 0 .unwritten .ok false false,
      .registerWrite .m 0 4 0 (.entry (zeros 32)) .denied false false, .generate .m 0 1 (.entry (zeros 128)) .ok, .keyLoadDone 1 (.fail .authFail),
      .memReadData 0 0 (zeros 512) false false, .resealCheckpointAck 0 (zeros 64), .hostMemAccess 0 true 0 1 (zeros 4) false false,
      .hostMemAccess 0 true 0 0 (zeros 1024) false false, .hostMemAccess 0 false 0 0 [] false false, .evrRecordLoad .m 0 (.fail .retry), .poll] :
        List Instr).all Instr.wellFormed = true := by decide

/-! ### The spec's own examples -/

/-- 00 R11 to R15 and 05: MEA engine 9, VDT span 4, instances 5 and 255; 22: INC_SRC of source 0x54 and the D2H doorbell of pair 2. -/
theorem test_page_addresses :
    (engPage 9, pgVdt 4, instPage 5, instPage 255, srcReg 0x54, pgHgt + 0x200 + 8 * 2 + 4, pgCru + 0x040) =
      (0x0E9000, 0x144000, 0x405000, 0x4FF000, 0x1E0550, 0x180214, 0x280040) := by decide

/-- 03: INT_SCRUB_RATE 16 and a range of 192 MiB give a bound of 403.216 µs. -/
theorem test_scrub_bound : scBound { tRun with lco := { tLco with otp := [(6, 0x01100F)] } } ⟨3, 0x4000, 0xC000⟩ = 403216 := by decide

/-- 09 "resolving one granule": page 0x401 in channel 1, channel page 32; its data, tag line, counter line and nodes. -/
theorem test_one_granule :
    (engineOfPage 0x401, granuleOff 32 21, metaOff 1 .tag (1045 / 8), metaOff 1 .ctr 32, metaOff 1 (.node 1) 4, metaOff 1 (.node 2) 0, metaOff 1 (.node 6) 0) =
      (some 1, 0x20A80, 0x211802080, 0x235800800, 0x23E800100, 0x23FA00000, 0x23FC92200) := by decide

/-- 09 "resolving one granule": DA[55:7] and X_7 with major 2 and minor 0x01F. -/
theorem test_cipher_input :
    da7 5 0xA3 0x401 21 = 0x2800008035 ∧ xBlock 0x2800008035 7 2 0x01F = beBytes 16 (0x2800008035 * 2 ^ 79 + 7 * 2 ^ 76 + 2 * 2 ^ 12 + 0x01F) := by decide

/-- 13 Table 13.13: what the BF16 elements add. -/
theorem test_bf16_elements :
    (elemsOf 1 2 [0x80, 0x43, 0xC1, 0x7F]).map (fun e => (e.acc, e.nan)) = [(BitVec.ofNat 320 (2 ^ 157), false), (0, true)] ∧
    (elemsOf 1 2 [0x80, 0x3F, 0x03, 0x00]).map (fun e => (e.acc, e.nan)) = [(BitVec.ofNat 320 (2 ^ 149), false), (BitVec.ofNat 320 0x30000, false)] ∧
    (elemsOf 1 2 [0x80, 0xC3, 0xC2, 0xFF]).map (fun e => (accWord e.acc 4, accWord e.acc 9, e.nan)) = [(0xE0000000, 0xFFFFFFFF, false), (0, 0,
      true)] := by decide

/-- 13: the payload of SEND_X for the two sums of the example. -/
theorem test_exact_partials :
    xpBytes [{ Elem.zero with acc := BitVec.ofNat 320 (2 ^ 149) }, { Elem.zero with acc := 0x30000, nan := true }] = [0x14, 0xF1, 0, 0, 0, 0, 0x20,
      0] := by decide

/-- 13: the bytes written at OUT_ADDR for those sums. -/
theorem test_rounded_sums : roundFp 1 16 false (2 ^ 149) = (0x3F80, false) := by decide

/-- 12 "24 fetch-adds": ADD of 1 to 1,000 in a word of 8 bytes. -/
theorem test_fetch_add : atomicNew 2 8 1000 1 0 = 1001 ∧ atomicNew 2 8 0xFFFFFFFFFFFFFFFF 1 0 = 0 := by decide

/-- 20 "a refused leap day": the count of 2100-02-28 23:59:59, and SET_DATE of 29 and 30 February 2100. -/
theorem test_leap_day :
    countOf 2100 2 28 86399 0 = 3160857599000000000 ∧ dateOk 0x10685D 0 0 = false ∧ dateOk 0x10685E 0 0 = false ∧ dateOk 0x10685C 0 0 = true := by decide

end Sys2Proof.Tests
end

/-! ## Reads of PAGE_ID (05 R130)

The addresses `instPage`, the common register at the base of every page, and a read that takes no latch and clears nothing. -/
section
namespace Sys2Proof.Machine

/-! ### The addresses `instPage` -/

theorem instPage_mod_page (i : Nat) : instPage i % 0x1000 = 0 := by unfold instPage; omega

@[simp] theorem pageOf_instPage (i : Nat) : pageOf (instPage i) = instPage i := by unfold pageOf instPage; omega

@[simp] theorem instOf_instPage (i : Nat) : instOf (instPage i) = i := by unfold instOf instPage; omega

theorem isInstOff_instPage (i : Fin 256) : isInstOff (instPage i.val) = true := by
  have hlt : instPage i.val < 0x500000 := by unfold instPage; omega
  have hle : 0x400000 ≤ instPage i.val := Nat.le_add_right _ _
  simp [isInstOff, hlt, hle]

/-- The register window has room for all 256 of these pages (05 R128). -/
theorem toNat_ofNat_instPage (i : Fin 256) : (BitVec.ofNat 23 (instPage i.val)).toNat = instPage i.val := by
  rw [BitVec.toNat_ofNat]
  exact Nat.mod_eq_of_lt (by unfold instPage; omega)

/-! ### PAGE_ID, the word at the base of a page -/

/-- PAGE_ID of the common page header (05 Table 05.4). -/
def pageIdReg : Reg := ⟨0x000, 1, [⟨"UNIT", 15, 0, .ro, mtfd, false, 0⟩, ⟨"UINST", 23, 16, .ro, mtfd, false, 0⟩]⟩

theorem regAt_page_base {off : Nat} (h : off % 0x1000 = 0) : regAt off = some pageIdReg := by
  simp [regAt, h, headerRegs, regCovers, pageIdReg]

/-- PAGE_ID is no half of a pair, so a read of it takes no latch (05 R136). -/
theorem pairLow_page_base {off : Nat} (h : off % 0x1000 = 0) : pairLow off = none := by
  have hlow : ∀ a ∈ namedPairs, a % 0x1000 ≠ 0 ∧ (a + 4) % 0x1000 ≠ 0 := by decide
  simp only [pairLow, regAt_page_base h, pageIdReg]
  refine List.find?_eq_none.2 fun a ha => ?_
  obtain ⟨h0, h4⟩ := hlow a ha
  simp only [Bool.or_eq_true, decide_eq_true_eq, not_or]
  exact ⟨fun he => h0 (he ▸ h), fun he => h4 (he ▸ h)⟩

/-- PAGE_ID has no field that a read clears. -/
theorem clearRc_page_base (r : Role) {off : Nat} (h : off % 0x1000 = 0) (w : Word) : clearRc r off w = w := by
  simp [clearRc, regAt_page_base h, pageIdReg]

/-- Every field of PAGE_ID lists each of the four roles. -/
theorem listsRole_pageIdReg {r : Role} (h : r.kind ≠ .x) : ∀ f ∈ pageIdReg.flds, listsRole r f = true := by
  cases r <;> simp [pageIdReg, listsRole, mtfd, Role.kind] at h ⊢

/-- The fields [15:0] and [23:16] make up a word of 24 bits. -/
theorem putBits_unit_uinst {w : Word} (h : w.toNat < 2 ^ 24) : putBits (putBits 0 15 0 (getBits w 15 0)) 23 16 (getBits w 23 16) = w := by
  refine BitVec.eq_of_getLsbD_eq fun j hj => ?_
  have high : 24 ≤ j → w.getLsbD j = false := fun hle =>
    Nat.testBit_lt_two_pow (Nat.lt_of_lt_of_le h (Nat.pow_le_pow_right (by decide) hle))
  simp only [getLsbD_putBits, testBit_getBits, hj, decide_true, Bool.true_and]
  by_cases h16 : j < 16
  · simp [h16, show ¬ 16 ≤ j by omega]
  · by_cases h24 : j < 24
    · simp [h24, show 16 ≤ j by omega, show j - 16 < 8 by omega, show 16 + (j - 16) = j by omega]
    · simp [h16, h24, high (by omega)]

/-- Each role reads the two fields of PAGE_ID as they stand. -/
theorem readFlds_page_base {r : Role} {off : Nat} {w : Word} (hr : r.kind ≠ .x) (h : off % 0x1000 = 0) (hw : w.toNat < 2 ^ 24) :
    readFlds r off w = w := by
  have hl := listsRole_pageIdReg hr
  simp only [pageIdReg, List.forall_mem_cons] at hl
  obtain ⟨hunit, huinst, -⟩ := hl
  simpa [readFlds, regAt_page_base h, pageIdReg, hunit, huinst] using putBits_unit_uinst hw

/-- PAGE_ID of page `instPage i` shows unit code 0x0100 and the number `i` (05 R130). -/
theorem viewWord_instPage (s : State) (r : Role) (i : Fin 256) :
    viewWord s r (instPage i.val) = BitVec.ofNat 32 (0x0100 + i.val * 0x10000) := by
  simp [viewWord, instPage_mod_page, headerWord, isInstOff_instPage]

/-! ### Plain reads -/

/-- Storing in a register the word that it holds changes no register. -/
theorem rawReg_setReg_self (s : State) (a b : Nat) : rawReg (setReg s a (rawReg s a)) b = rawReg s b := by
  by_cases h : b = a
  · subst h; exact rawReg_setReg_same s b _
  · exact rawReg_setReg_ne s _ h

/-- What a read of PAGE_ID does once it is judged: none of the reads with a function of their own is at the base of a page. -/
theorem doRead_page_base (s : State) (r : Role) {off : Nat} (h : off % 0x1000 = 0) :
    doRead r off s = regDone (setReg s off (rawReg s off)) r off .ok (readFlds r off (viewWord s r off)) := by
  have hoff : ∀ a, a % 0x1000 ≠ 0 → off ≠ a := fun a ha he => ha (he ▸ h)
  rw [doRead, if_neg (hoff _ (by decide)), if_neg (hoff _ (by decide)), if_neg (hoff _ (by decide))]
  simp only [pairRead, pairLow_page_base h, clearRc_page_base r h, if_neg (hoff (pgTtu + 0x04C) (by decide))]

/-- A register read that keeps the handshake and meets no refusal does what the read of its register does. -/
theorem exec_registerRead_passes {s : State} {r : Role} {off : BitVec 23} (h : passes s r off.toNat false false = true) :
    exec (.registerRead r off 4 false) s = .next (doRead r off.toNat s) := by
  have hread : exec (.registerRead r off 4 false) s = .next (regRead (htBreach s r false) r off.toNat 4) := rfl
  rw [hread, regRead, show htBreach s r false = s from rfl, judge_passes s r off.toNat false none _ false h rfl]

/-- An access that meets no refusal is of one of the four roles (03 R86). -/
theorem kind_of_passes {s : State} {r : Role} {off : Nat} {wr guarded : Bool} (h : passes s r off wr guarded = true) : r.kind ≠ .x := by
  simp only [passes, Bool.and_eq_true] at h
  obtain ⟨⟨⟨⟨⟨⟨⟨-, hreach⟩, -⟩, -⟩, -⟩, -⟩, -⟩, -⟩ := h
  exact kind_of_reaches s r off wr hreach

/-- Settles O58: the read goes through `judge` to `doRead`, which stores back the word that PAGE_ID holds and completes with the word of R130. -/
theorem instancePagesReportTheirNumber : Obligations.InstancePagesReportTheirNumber := by
  intro r i s hp
  have hbase := instPage_mod_page i.val
  have hlt : 0x0100 + i.val * 0x10000 < 2 ^ 24 := by omega
  have hword : (BitVec.ofNat 32 (0x0100 + i.val * 0x10000)).toNat = 0x0100 + i.val * 0x10000 :=
    (BitVec.toNat_ofNat ..).trans (Nat.mod_eq_of_lt (by omega))
  have hread : readFlds r (instPage i.val) (viewWord s r (instPage i.val)) = BitVec.ofNat 32 (0x0100 + i.val * 0x10000) := by
    rw [viewWord_instPage]
    exact readFlds_page_base (kind_of_passes hp) hbase (by rw [hword]; exact hlt)
  have hexec := exec_registerRead_passes (s := s) (r := r) (off := BitVec.ofNat 23 (instPage i.val)) (by rwa [toNat_ofNat_instPage])
  rw [toNat_ofNat_instPage, doRead_page_base s r hbase, hread] at hexec
  refine ⟨_, hexec, ?_, ?_, ?_⟩
  · rw [regDone_out, setReg_out, hword]
  · exact fun a _ => (rawReg_of_regs _ (regDone_regs ..) a).trans (rawReg_setReg_self s _ a)
  · exact keeps_of_view fun prt hprt => by simp at hprt; simp [hprt]

end Sys2Proof.Machine
end

/-! ## Events at INC, the records of EVR, and HOLD (20 R507 to R514, R526)

What an event does at INC while its source is active and while it is not, what EVR raises for a record that it writes, and what INTERRUPT_DELIVER takes. -/
section
namespace Sys2Proof.Machine

/-! ### Reading a register file that two states share -/

theorem getFld_of_regs {s t : State} (h : t.regs = s.regs) (a hi lo : Nat) : getFld t a hi lo = getFld s a hi lo := by
  unfold getFld; rw [rawReg_of_regs s h]

theorem regBit_of_regs {s t : State} (h : t.regs = s.regs) (a n : Nat) : regBit t a n = regBit s a n := by
  unfold regBit; rw [getFld_of_regs h]

theorem enabled_of_regs {s t : State} (h : t.regs = s.regs) (pg : Nat) : enabled t pg = enabled s pg := regBit_of_regs h _ 0

theorem domUp_of_cru {s t : State} (h : t.cru = s.cru) (d : Nat) : domUp t d = domUp s d := by
  unfold domUp domSt; rw [h]

/-- A saturating counter of a whole word counts one up to its all-ones value. -/
theorem getFld_incSat_word (s : State) (a : Nat) : getFld (incSat s a 31 0 1) a 31 0 = min 0xFFFFFFFF (getFld s a 31 0 + 1) := by
  rw [incSat, getFld_setFld_same s a 0 _ (by decide), satAdd]
  omega

/-! ### An event reaches INC (20 R509) -/

theorem any_isAct_iff (src : Nat) (k : Option Nat) (l : List Act) : l.any (isAct src k) = true ↔ ∃ a ∈ l, a.src = src ∧ a.inst = k := by
  simp [isAct]

/-- The negative of `any_isAct_iff`, as a claim about every state. -/
theorem any_isAct_eq_false_iff (src : Nat) (k : Option Nat) (l : List Act) :
    l.any (isAct src k) = false ↔ ∀ a ∈ l, ¬ (a.src = src ∧ a.inst = k) := by
  simp [isAct]

theorem srcReg_ne_overruns (src : Nat) : srcReg src ≠ pgInc + 0x084 := by unfold srcReg; omega

@[simp] theorem refreshSrc_inc (s : State) (src : Nat) : (refreshSrc s src).inc = s.inc := rfl

@[simp] theorem irqEvent_evr (s : State) (src : Nat) (i : Option Nat) (st p1 p2 p3 : Nat) : (irqEvent s src i st p1 p2 p3).evr = s.evr :=
  view_irqEvent (prt := .evr) s src i st p1 p2 p3 (by decide)

/-- While ENABLE of INC is 0 an event is discarded (05 R141). -/
theorem irqEvent_of_not_enabled {s : State} (h : enabled s pgInc = false) (src : Nat) (i : Option Nat) (st p1 p2 p3 : Nat) :
    irqEvent s src i st p1 p2 p3 = s := by
  simp [irqEvent, h]

section Taken
variable {s : State} {src : Nat} {i : Option Nat} {st p1 p2 p3 : Nat} (hsrc : isSource src = true) (hpresent : srcAbsent s src = false)
  (hup : domUp s 12 = true) (hen : enabled s pgInc = true) (hsen : regBit s (srcReg src) 2 = true)
include hsrc hpresent hup hen hsen

/-- An event of an inactive state makes it pending. -/
theorem irqEvent_of_inactive (h : ∀ a ∈ s.inc.acts, ¬ (a.src = src ∧ a.inst = if isInstSource src then i else none)) :
    irqEvent s src i st p1 p2 p3 = refreshSrc { s with inc := { s.inc with acts := s.inc.acts ++
      [⟨src, if isInstSource src then i else none, false, false, st, BitVec.ofNat 32 p1, BitVec.ofNat 32 p2, BitVec.ofNat 32 p3, now s⟩] } } src := by
  have hany := (any_isAct_eq_false_iff src _ _).2 h
  simp only [irqEvent, hsrc, hpresent, hup, hen, hsen, hany]
  rfl

/-- An event of an active state is lost: OVERRUN is set and OVERRUNS counts it. -/
theorem irqEvent_of_active (h : ∃ a ∈ s.inc.acts, a.src = src ∧ a.inst = if isInstSource src then i else none) :
    irqEvent s src i st p1 p2 p3 = incSat (setRegBit s (srcReg src) 10 true) (pgInc + 0x084) 31 0 1 := by
  have hany := (any_isAct_iff src _ _).2 h
  simp only [irqEvent, hsrc, hpresent, hup, hen, hsen, hany]
  rfl

/-- OVERRUN and OVERRUNS after a lost event. -/
theorem irqEvent_overrun (h : ∃ a ∈ s.inc.acts, a.src = src ∧ a.inst = if isInstSource src then i else none) :
    regBit (irqEvent s src i st p1 p2 p3) (srcReg src) 10 = true ∧
      getFld (irqEvent s src i st p1 p2 p3) (pgInc + 0x084) 31 0 = min 0xFFFFFFFF (getFld s (pgInc + 0x084) 31 0 + 1) := by
  rw [irqEvent_of_active hsrc hpresent hup hen hsen h]
  constructor
  · rw [incSat, regBit_setFld_ne _ _ _ _ _ (srcReg_ne_overruns src)]
    exact regBit_setRegBit_same s _ true (by decide)
  · rw [getFld_incSat_word, setRegBit, getFld_setFld_ne s _ _ _ _ _ (srcReg_ne_overruns src).symm]

end Taken

/-! ### The records that EVR writes (20 R519, R526) -/

/-- EVR first keeps a record in the ring, which touches no register and nothing of INC; it then raises source 0x84 where the severity asks for it. -/
theorem evrWrite_keeps_then_raises (s : State) (x : Rec) :
    ∃ k, keeps [.evr, .out] s k ∧ (∃ w, tblFind k.evr.ring (s.evr.nextSeq % 65536) = some w ∧ w.body = x) ∧
      evrWrite s x = if getFld k (pgEvr + 0x108) 3 0 ≤ x.sev then
        irqEvent k 0x84 none 0 (x.code + x.sev * 0x10000) (s.evr.nextSeq % 2 ^ 32) (x.unit + x.uinst * 0x100) else k := by
  refine ⟨_, ?_, ?_, rfl⟩
  · refine keeps_of_view fun prt hprt => ?_
    simp at hprt
    simp [hprt]
  · split <;> exact ⟨_, tblFind_put_same _ _ _, rfl⟩

/-- What `raises84` says of the state before holds of any state with the same sequence number, registers, INC and power domains. -/
theorem raises84_of_same {s s' t : State} {x : Rec} (hseq : s'.evr.nextSeq = s.evr.nextSeq) (hregs : s'.regs = s.regs) (hinc : s'.inc = s.inc)
    (hcru : s'.cru = s.cru) (h : raises84 s' t x) : raises84 s t x := by
  simpa only [raises84, hseq, hinc, getFld_of_regs hregs, regBit_of_regs hregs, enabled_of_regs hregs, domUp_of_cru hcru] using h

/-- A record that EVR writes raises source 0x84 as R526 states: OTP never declares its unit absent, and its one state names source 0x84 alone. -/
theorem raises84_evrWrite (s : State) (x : Rec) : raises84 s (evrWrite s x) x := by
  obtain ⟨k, hkeep, hring, hwrite⟩ := evrWrite_keeps_then_raises s x
  have hregs : k.regs = s.regs := hkeep .regs (by decide)
  have hinc : k.inc = s.inc := hkeep .inc (by decide)
  have hcru : k.cru = s.cru := hkeep .cru (by decide)
  have hsrc : isSource 0x84 = true := by decide
  have hpresent : srcAbsent k 0x84 = false := rfl
  rw [hwrite, getFld_of_regs hregs]
  refine ⟨?_, fun hlow => ?_, fun hoff => ?_, fun hhigh hup hen hsen => ?_⟩
  · split
    · rwa [irqEvent_evr]
    · exact hring
  · rw [if_neg (Nat.not_le.2 hlow), hinc]
  · rw [irqEvent_of_not_enabled ((enabled_of_regs hregs _).trans hoff), ite_self, hinc]
  · rw [← domUp_of_cru hcru] at hup
    rw [← enabled_of_regs hregs] at hen
    rw [← regBit_of_regs hregs] at hsen
    rw [if_pos hhigh, ← hinc, ← getFld_of_regs hregs (pgInc + 0x084)]
    refine ⟨fun hnone => ?_, fun hact => ?_⟩
    · rw [irqEvent_of_inactive hsrc hpresent hup hen hsen fun a ha he => hnone a ha he.1]
      exact ⟨_, rfl, rfl, rfl, rfl, rfl, rfl, rfl, rfl⟩
    · refine ⟨?_, irqEvent_overrun hsrc hpresent hup hen hsen hact⟩
      rw [irqEvent_of_active hsrc hpresent hup hen hsen hact]
      rfl

/-- Taking a record from its buffer leaves the numbers of the records as they were. -/
@[simp] theorem takeRec_nextSeq (s : State) (x : Option Nat × Rec) : (takeRec s x).evr.nextSeq = s.evr.nextSeq := by
  unfold takeRec
  split <;> rfl

/-- A record that EVR takes from its buffer and writes. -/
theorem raises84_evrWrite_takeRec (s : State) (y : Option Nat × Rec) (x : Rec) : raises84 s (evrWrite (takeRec s y) x) x :=
  raises84_of_same (takeRec_nextSeq s y) (view_takeRec (prt := .regs) s y (by decide)) (view_takeRec (prt := .inc) s y (by decide))
    (view_takeRec (prt := .cru) s y (by decide)) (raises84_evrWrite _ x)

section RecordWrite
variable {s : State} (hclk : clocksRun s = true) (hfrz : s.evr.frozen = none) (hclr : s.evr.clearing = false) (hinj : injArmed s pgEvr 1 = false)
include hclk hfrz hclr hinj

/-- The first record after PORST_N is POWER_ON. -/
theorem exec_evrRecordWrite_first (hseq : s.evr.nextSeq = 0) (hdec : s.lco.decoded = true) :
    exec .evrRecordWrite s = .next (evrWrite s (powerOnRec s)) := by
  have hexec : exec .evrRecordWrite s = execEvrRecordWrite s := rfl
  simp [hexec, execEvrRecordWrite, onlyIf, hclk, hfrz, hclr, hinj, hseq, hdec]

/-- Later ones are the waiting records, the first of R560's order at once. -/
theorem exec_evrRecordWrite_waiting {y : Option Nat × Rec} (hseq : s.evr.nextSeq ≠ 0) (hy : firstRec (waitingRecs s) = some y) :
    exec .evrRecordWrite s = .next (evrWrite (takeRec s y) y.2) := by
  have hexec : exec .evrRecordWrite s = execEvrRecordWrite s := rfl
  simp [hexec, execEvrRecordWrite, onlyIf, hclk, hfrz, hclr, hinj, hseq, hy]

end RecordWrite

/-- Settles O59: whatever writes a record goes through `evrWrite`, which keeps it and then raises source 0x84; EVR_RECORD_WRITE does so for POWER_ON and
for the next waiting record. -/
theorem recordsRaiseSource84 : Obligations.RecordsRaiseSource84 := by
  refine ⟨raises84_evrWrite, fun k x s hclk hfrz hclr hinj hrec => ?_⟩
  obtain ⟨hseq, hdec, rfl⟩ | ⟨hseq, hnext⟩ := hrec
  · refine ⟨_, exec_evrRecordWrite_first hclk hfrz hclr hinj hseq hdec, raises84_evrWrite s _, keeps_of_view fun prt hprt => ?_⟩
    simp at hprt
    simp [hprt]
  · refine ⟨_, exec_evrRecordWrite_waiting hclk hfrz hclr hinj hseq hnext, raises84_evrWrite_takeRec s _ x, keeps_of_view fun prt hprt => ?_⟩
    simp at hprt
    simp [hprt]

/-! ### Delivery order (20 R511) -/

theorem actBefore_iff (a b : Act) : actBefore a b = true ↔ a.src < b.src ∨ a.src = b.src ∧ a.inst.getD 256 < b.inst.getD 256 := by
  simp [actBefore]

theorem firstAct_eq_none {l : List Act} (h : firstAct l = none) : l = [] := by
  cases l with
  | nil => rfl
  | cons a l =>
    rw [firstAct] at h
    split at h
    · split at h <;> cases h
    · cases h

/-- The first of a list is in it, and none of the list comes before it. -/
theorem firstAct_least {l : List Act} {c : Act} (h : firstAct l = some c) : c ∈ l ∧ ∀ b ∈ l, ¬ actBefore b c = true := by
  induction l generalizing c with
  | nil => cases h
  | cons a l ih =>
    rw [firstAct] at h
    split at h
    next d hd =>
      obtain ⟨hmem, hleast⟩ := ih hd
      split at h
      next hlt =>
        cases h
        refine ⟨List.mem_cons_of_mem _ hmem, List.forall_mem_cons.2 ⟨?_, hleast⟩⟩
        rw [actBefore_iff] at hlt ⊢
        omega
      next hge =>
        cases h
        refine ⟨List.mem_cons_self, List.forall_mem_cons.2 ⟨?_, fun b hb => ?_⟩⟩
        · rw [actBefore_iff]
          omega
        · have hbd := hleast b hb
          rw [actBefore_iff] at hge hbd ⊢
          omega
    next hnone =>
      cases h
      rw [firstAct_eq_none hnone]
      refine ⟨List.mem_cons_self, List.forall_mem_cons.2 ⟨?_, by simp⟩⟩
      rw [actBefore_iff]
      omega

/-- A state that comes before every other one of a list is its first. -/
theorem firstAct_eq_some {l : List Act} {a : Act} (ha : a ∈ l) (hmin : ∀ b ∈ l, b = a ∨ actBefore a b = true) : firstAct l = some a := by
  cases hf : firstAct l with
  | none => rw [firstAct_eq_none hf] at ha; cases ha
  | some c =>
    obtain ⟨hc, hleast⟩ := firstAct_least hf
    rw [(hmin c hc).resolve_right (hleast a ha)]

/-- INTERRUPT_DELIVER looks at the pending states of its target; the first of them is the one that `nextAct` names. -/
theorem firstAct_pending_of_nextAct {s : State} {t : Nat} {a : Act} (h : nextAct s t a) :
    firstAct (s.inc.acts.filter fun b => !b.delivered && actTarget s b = t) = some a := by
  obtain ⟨hmem, hpend, htgt, hmin⟩ := h
  refine firstAct_eq_some (List.mem_filter.2 ⟨hmem, by simp [hpend, htgt]⟩) fun b hb => ?_
  obtain ⟨hb, hpb⟩ := List.mem_filter.1 hb
  simp only [Bool.and_eq_true, Bool.not_eq_true', decide_eq_true_eq] at hpb
  exact hmin b hb hpb.1 hpb.2

/-! ### Events only add activation states (20 R509)

A delivery can wake the block (04 R126), and the wake raises records and an event of its own: none of them takes a state away. -/

/-- INC as it was, from its view. -/
theorem inc_of_view {s t : State} (h : view .inc t = view .inc s) : t.inc = s.inc := h

theorem acts_foldl {β : Type} (f : State → β → State) (h : ∀ s x, s.inc.acts ⊆ (f s x).inc.acts) (l : List β) (s : State) :
    s.inc.acts ⊆ (l.foldl f s).inc.acts := by
  induction l generalizing s with
  | nil => exact List.Subset.refl _
  | cons x l ih => exact List.Subset.trans (h s x) (ih (f s x))

theorem acts_irqEvent (s : State) (src : Nat) (i : Option Nat) (st p1 p2 p3 : Nat) : s.inc.acts ⊆ (irqEvent s src i st p1 p2 p3).inc.acts := by
  simp only [irqEvent]
  generalize (if isInstSource src = true then i else none) = k
  split
  · simp
  · split
    · simp
    · split <;> simp

theorem acts_errEvent (s : State) (pg : Nat) : s.inc.acts ⊆ (errEvent s pg).inc.acts := by
  unfold errEvent
  split
  · exact acts_irqEvent ..
  · simp

theorem acts_fireBit (s : State) (pg bit : Nat) : s.inc.acts ⊆ (fireBit s pg bit).inc.acts := by
  simp only [fireBit]
  split
  · refine List.Subset.trans ?_ (acts_errEvent _ _)
    simp
  · simp

theorem acts_pushRec (s : State) (key : Nat) (r : Rec) : s.inc.acts ⊆ (pushRec s key r).inc.acts := by
  unfold pushRec
  split
  · simp
  · dsimp only
    split
    · simp
    · refine List.Subset.trans ?_ (acts_fireBit _ _ _)
      simp

theorem acts_record (s : State) (pg : Nat) (c : RecCode) (p1 p2 p3 : Nat) : s.inc.acts ⊆ (record s pg c p1 p2 p3).inc.acts :=
  acts_pushRec ..

theorem acts_gaugeOverride (s : State) (n kind : Nat) (on : Bool) : s.inc.acts ⊆ (gaugeOverride s n kind on).inc.acts := by
  unfold gaugeOverride
  refine List.Subset.trans ?_ (acts_record _ _ _ _ _ _)
  simp

@[simp] theorem gaugeDrive_inc (s : State) (n g : Nat) : (gaugeDrive s n g).inc = s.inc := by
  unfold gaugeDrive
  split <;> simp

theorem acts_gaugeWake (s : State) : s.inc.acts ⊆ (gaugeWake s).inc.acts := by
  unfold gaugeWake
  refine acts_foldl _ (fun t n => ?_) _ s
  dsimp only
  split
  · rw [gaugeDrive_inc]
    refine List.Subset.trans ?_ (acts_gaugeOverride _ _ _ _)
    simp
  · simp

theorem acts_sleepIrq (s : State) : s.inc.acts ⊆ (sleepIrq s).inc.acts := acts_irqEvent ..

@[simp] theorem setCru_inc (s : State) (x : CruSt) : (setCru s x).inc = s.inc := inc_of_view (view_setCru (prt := .inc) s x (by decide))

theorem acts_wake (s : State) (cause : Nat) : s.inc.acts ⊆ (wake s cause).inc.acts := by
  unfold wake
  split
  · refine List.Subset.trans ?_ (List.Subset.trans (acts_record _ _ _ _ _ _) (acts_sleepIrq _))
    simp
  · refine List.Subset.trans ?_ (List.Subset.trans (acts_gaugeWake _) (acts_sleepIrq _))
    simp
  · simp

/-! ### Delivery to a sink (20 R511, R512) -/

@[simp] theorem hmWrite_inc (s : State) (id addr : Nat) (b : Bytes) : (hmWrite s id addr b).inc = s.inc :=
  inc_of_view (view_hmWrite (prt := .inc) s id addr b (by decide))
@[simp] theorem msiDue_inc (s : State) : (msiDue s).inc = s.inc := inc_of_view (view_msiDue (prt := .inc) s (by decide))
@[simp] theorem eqWrite_inc (s : State) (a : Act) : (eqWrite s a).inc = s.inc := inc_of_view (view_eqWrite (prt := .inc) s a (by decide))
@[simp] theorem mgrRefresh_inc (s : State) : (mgrRefresh s).inc = s.inc := rfl

/-- What a delivery puts into a sink is no activation state. -/
theorem sinkPut_acts (s : State) (t : Nat) (a : Act) : (sinkPut s t a).inc.acts = s.inc.acts := by
  simp only [sinkPut]
  split
  · simp
  · split
    · split <;> simp
    · split
      · split <;> simp
      · rfl

/-- While HOLD is 1 no delivery is made. -/
theorem exec_interruptDeliver_of_hold (x : Fin 4) {s : State} (h : regBit s (pgInc + 0x040) 0 = true) : exec (.interruptDeliver x) s = .next s := by
  have hexec : exec (.interruptDeliver x) s = execInterruptDeliver x s := rfl
  simp [hexec, execInterruptDeliver, h]

/-- With HOLD 0 and a free sink the next pending state of a target is delivered. -/
theorem exec_interruptDeliver_of_nextAct {x : Fin 4} {s : State} {a : Act} (hnext : nextAct s x.val a) (hup : domUp s 12 = true)
    (hhold : regBit s (pgInc + 0x040) 0 = false) (hsink : sinkTakes s x.val = true) :
    ∃ u, exec (.interruptDeliver x) s = .next u ∧ ∃ b ∈ u.inc.acts, b.src = a.src ∧ b.inst = a.inst ∧ b.delivered = true := by
  have hfirst := firstAct_pending_of_nextAct hnext
  have hexec : exec (.interruptDeliver x) s = execInterruptDeliver x s := rfl
  simp only [execInterruptDeliver, hup, hhold, hsink, hfirst, Bool.not_true, Bool.or_false, Bool.false_eq_true, if_false] at hexec
  obtain ⟨hmem, -, -, -⟩ := hnext
  refine ⟨_, hexec, { a with delivered := true }, acts_wake _ 6 ?_, rfl, rfl, rfl⟩
  rw [sinkPut_acts, incSat_inc, refreshSrc_inc]
  exact List.mem_map.2 ⟨a, hmem, by simp [isAct]⟩

/-! ### A write of HOLD (20 R510) -/

/-- INC_CTRL, whose one field M and F write. -/
theorem regAt_incCtrl : regAt (pgInc + 0x040) = some ⟨0x040, 1, [⟨"HOLD", 0, 0, .rw, mf, false, 0⟩]⟩ := by decide

/-- A role that a field of INC_CTRL lists writes HOLD. -/
theorem regBit_storeReg_hold (s : State) {r : Role} (v : Word) (h : anyField r (pgInc + 0x040) = true) :
    regBit (storeReg s r (pgInc + 0x040) v) (pgInc + 0x040) 0 = getBit v 0 := by
  have hl : listsRole r ⟨"HOLD", 0, 0, .rw, mf, false, 0⟩ = true := by simpa [anyField, regAt_incCtrl] using h
  have hlt : getBits v 0 0 < 2 := getBits_lt v 0 0
  simp [regBit, getFld, storeReg, writeFlds, regAt_incCtrl, writeFld, hl, getBits_putBits_same, getBit, Nat.mod_eq_of_lt hlt]

/-- An access that meets no refusal is to a register that lists the role. -/
theorem anyField_of_passes {s : State} {r : Role} {off : Nat} {wr guarded : Bool} (h : passes s r off wr guarded = true) : anyField r off = true := by
  simp only [passes, Bool.and_eq_true] at h
  obtain ⟨⟨-, hfield⟩, -⟩ := h
  exact hfield

/-- A write of INC_CTRL that meets no refusal stores HOLD and completes with OK. -/
theorem exec_incHoldWrite_passes {s : State} {r : Role} (v : Word) (h : passes s r (pgInc + 0x040) true false = true) :
    exec (.incHoldWrite r v) s = .next (regDone (storeReg s r (pgInc + 0x040) v) r (pgInc + 0x040) .ok 0) :=
  congrArg Host.Outcome.next (judgeWrite_passes s r (pgInc + 0x040) (doIncHold r v) h)

/-- The manager and firmware reach INC_CTRL wherever the INC page answers. -/
theorem passes_incCtrl {s : State} {r : Role} (hr : r = .m ∨ r = .f) (hw : windowOpen s = true) (hup : pageUp s pgInc = true)
    (hgate : pageGated s pgInc = false) (hreset : inReset12 s pgInc = false) : passes s r (pgInc + 0x040) true false = true := by
  have hpage : pageOf (pgInc + 0x040) = pgInc := by decide
  have hmap : isMapped (pgInc + 0x040) = true := by decide
  have halign : (pgInc + 0x040) % 4 = 0 := by decide
  have hreach : reaches s r (pgInc + 0x040) true = true := by rcases hr with rfl | rfl <;> simp [reaches, hmap]
  have hfield : anyField r (pgInc + 0x040) = true := by rcases hr with rfl | rfl <;> decide
  simp [passes, hpage, hw, hreach, hup, hgate, hreset, hfield, halign]

/-- A write of HOLD and its completion, as the bit reads afterwards. -/
theorem regBit_hold_written {s : State} {r : Role} (v : Word) (h : passes s r (pgInc + 0x040) true false = true) :
    regBit (regDone (storeReg s r (pgInc + 0x040) v) r (pgInc + 0x040) .ok 0) (pgInc + 0x040) 0 = getBit v 0 :=
  (regBit_of_regs (regDone_regs ..) _ 0).trans (regBit_storeReg_hold s v (anyField_of_passes h))

/-- Settles O60: `execInterruptDeliver` looks at HOLD and `irqEvent` does not; after a write of HOLD 0 the first pending state of a target with a free sink
is delivered, and no event of the wake that follows takes it away. -/
theorem holdKeepsThePendingStates : Obligations.HoldKeepsThePendingStates := by
  refine ⟨fun x s => exec_interruptDeliver_of_hold x, ?_, ?_, ?_⟩
  · intro s src i k st p1 p2 p3 _ hsrc hpresent hup hen hsen hk
    subst hk
    refine ⟨fun hnone => ⟨?_, ?_⟩, fun hact => ?_⟩
    · rw [irqEvent_of_inactive hsrc hpresent hup hen hsen hnone]
      rfl
    · refine keeps_of_view fun prt hprt => ?_
      simp at hprt
      simp [hprt]
    · obtain ⟨hbit, hcount⟩ := irqEvent_overrun (st := st) (p1 := p1) (p2 := p2) (p3 := p3) hsrc hpresent hup hen hsen hact
      refine ⟨hbit, hcount, ?_⟩
      rw [irqEvent_of_active hsrc hpresent hup hen hsen hact]
      refine keeps_of_view fun prt hprt => ?_
      simp at hprt
      simp [hprt]
  · intro r v s hp hv
    have hzero := (regBit_hold_written v hp).trans hv
    exact ⟨_, exec_incHoldWrite_passes v hp, hzero, rfl, fun x a hnext hup hsink => exec_interruptDeliver_of_nextAct hnext hup hzero hsink⟩
  · intro r v s hr hw hup hgate hreset hv
    have hp := passes_incCtrl hr hw hup hgate hreset
    refine ⟨_, exec_incHoldWrite_passes v hp, (regBit_hold_written v hp).trans hv, fun a ha => ?_, keeps_of_view fun prt hprt => ?_⟩
    · rw [rawReg_of_regs _ (regDone_regs ..) a]
      exact rawReg_setReg_ne s _ (List.ne_of_not_mem_cons ha)
    · simp at hprt
      simp [hprt]

end Sys2Proof.Machine
end

/-! ## Offsets without a register (22 R548)

The statuses that 05 R139 places before the Roles columns, the answer of an access whose register lists the role in no field, and the rows of a register
read and a register write, each of which is one judged access. -/
section
namespace Sys2Proof.Machine

/-! ### A saturating count in a part of a word -/

/-- A saturating counter field counts up to its all-ones value. -/
theorem getFld_incSat_field (s : State) (a : Nat) {hi : Nat} (lo n : Nat) (h : hi < 32) :
    getFld (incSat s a hi lo n) a hi lo = min (2 ^ (hi + 1 - lo) - 1) (getFld s a hi lo + n) := by
  have hpos : 0 < 2 ^ (hi + 1 - lo) := Nat.two_pow_pos _
  rw [incSat, getFld_setFld_same s a lo _ h, satAdd]
  exact Nat.mod_eq_of_lt (by omega)

/-! ### The answers of 05 R139, up to the Roles columns -/

/-- The completion with DENIED of an access whose register has no field for the role, counted in ERR_COUNT.ROLE_DENIED of the page (05 R134). -/
def roleDenied (s : State) (r : Role) (off : Nat) : State := regDone (incSat s (pageOf off + 0x024) 31 24 1) r off .denied 0

/-- The status that 05 R139 gives a 32-bit access ahead of the Roles columns, if any. -/
def earlyStatus (s : State) (r : Role) (off : Nat) (wr : Bool) : Option Status :=
  if reaches s r off wr = false ∨ off % 4 ≠ 0 then some .denied
  else if pageUp s (pageOf off) = false ∨ pageGated s (pageOf off) = true then some .ok
  else if inReset12 s (pageOf off) = true ∧ (wr = true ∨ 0x40 ≤ off % 0x1000) then some .retry else none

/-- Such an access adds its completion to the outputs, adds one to ROLE_DENIED and changes nothing else. -/
theorem roleDenied_effect (s : State) (r : Role) (off : Nat) :
    (roleDenied s r off).out = s.out ++ [⟨.reg, r.key, 0, Status.denied.code, off, leBytes 4 0⟩] ∧
      getFld (roleDenied s r off) (pageOf off + 0x024) 31 24 = min 255 (getFld s (pageOf off + 0x024) 31 24 + 1) ∧
      keeps [.regs, .out] s (roleDenied s r off) ∧ regsKept [pageOf off + 0x024] s (roleDenied s r off) := by
  unfold roleDenied
  refine ⟨rfl, ?_, keeps_of_view fun prt hprt => ?_, fun a ha => ?_⟩
  · rw [getFld_of_regs (regDone_regs ..)]
    exact getFld_incSat_field s _ 24 1 (by decide)
  · simp at hprt
    simp [hprt]
  · rw [rawReg_of_regs _ (regDone_regs ..)]
    exact rawReg_setFld_ne s 31 24 _ (List.ne_of_not_mem_cons ha)

/-- A refusal of an unreached access goes to EVR and leaves the outputs alone (05 R133). -/
@[simp] theorem recordDenied_out (s : State) (r : Role) (off : Nat) : (recordDenied s r off).out = s.out :=
  view_recordDenied (prt := .out) s r off (by decide)

section
variable {s : State} {r : Role} {off : Nat} {wr : Bool}

theorem earlyStatus_eq_none_iff : earlyStatus s r off wr = none ↔ reaches s r off wr = true ∧ off % 4 = 0 ∧ pageUp s (pageOf off) = true ∧
    pageGated s (pageOf off) = false ∧ ¬ (inReset12 s (pageOf off) = true ∧ (wr = true ∨ 0x40 ≤ off % 0x1000)) := by
  unfold earlyStatus
  split
  case isTrue hdenied =>
    refine iff_of_false (Option.some_ne_none _) ?_
    rintro ⟨hreach, halign, -⟩
    exact hdenied.elim (by simp [hreach]) (absurd halign)
  case isFalse hserved =>
  obtain ⟨hreach, halign⟩ : reaches s r off wr = true ∧ off % 4 = 0 := by simpa using hserved
  split
  case isTrue hgated =>
    refine iff_of_false (Option.some_ne_none _) ?_
    rintro ⟨-, -, hup, hclock, -⟩
    exact hgated.elim (by simp [hup]) (by simp [hclock])
  case isFalse hlive =>
  obtain ⟨hup, hclock⟩ : pageUp s (pageOf off) = true ∧ pageGated s (pageOf off) = false := by simpa using hlive
  split
  case isTrue hreset => exact iff_of_false (Option.some_ne_none _) fun ⟨_, _, _, _, hrun⟩ => hrun hreset
  case isFalse hrun => exact iff_of_true rfl ⟨hreach, halign, hup, hclock, hrun⟩

variable (g : Option Nat) (k : State → State)

/-- An access beyond the role's reach completes with DENIED and zero data, of whatever function it is (03 R86, 05 R133). -/
theorem judge_out_of_unreached (hopen : windowOpen s = true) (hreach : reaches s r off wr = false) :
    (judge s r off 4 wr g k).out = s.out ++ [⟨.reg, r.key, 0, Status.denied.code, off, leBytes 4 0⟩] := by
  by_cases hx : r.kind = .x
  · rw [judge_noRole s r off 4 wr g k hopen hx]
    rfl
  · rw [judge_unreached s r off 4 wr g k hopen hx hreach, regDone_out, recordDenied_out]
    rfl

/-- An access to a page that is unpowered or gated completes with OK and is counted in GATED_HITS (04 R121). -/
theorem judge_gated (hopen : windowOpen s = true) (hreach : reaches s r off wr = true) (halign : off % 4 = 0)
    (hgated : pageUp s (pageOf off) = false ∨ pageGated s (pageOf off) = true) :
    judge s r off 4 wr g k = regDone (incSat s (pgCru + 0x058) 31 0 1) r off .ok 0 := by
  have hrole := kind_of_reaches s r off wr hreach
  simp [judge, hopen, hrole, hreach, halign, hgated]

/-- An access that a reset of its page holds off completes with RETRY (05 R139). -/
theorem judge_resetting (hopen : windowOpen s = true) (hreach : reaches s r off wr = true) (halign : off % 4 = 0)
    (hlive : ¬ (pageUp s (pageOf off) = false ∨ pageGated s (pageOf off) = true))
    (hreset : inReset12 s (pageOf off) = true ∧ (wr = true ∨ 0x40 ≤ off % 0x1000)) :
    judge s r off 4 wr g k = regDone s r off .retry 0 := by
  have hrole := kind_of_reaches s r off wr hreach
  simp [judge, hopen, hrole, hreach, halign, hlive, hreset]

/-- An access that has an early status completes with it and with zero data. -/
theorem judge_out_of_earlyStatus {x : Status} (hopen : windowOpen s = true) (hx : earlyStatus s r off wr = some x) :
    (judge s r off 4 wr g k).out = s.out ++ [⟨.reg, r.key, 0, x.code, off, leBytes 4 0⟩] := by
  cases hreach : reaches s r off wr with
  | false =>
    obtain rfl : Status.denied = x := by simpa [earlyStatus, hreach] using hx
    exact judge_out_of_unreached g k hopen hreach
  | true =>
    unfold earlyStatus at hx
    split at hx
    case isTrue hdenied =>
      cases hx
      have halign : off % 4 ≠ 0 := hdenied.resolve_left (by simp [hreach])
      rw [judge_shape s r off 4 wr g k hopen hreach (.inr halign)]
      rfl
    case isFalse hserved =>
    have halign : off % 4 = 0 := Decidable.byContradiction fun h => hserved (.inr h)
    split at hx
    case isTrue hgated =>
      cases hx
      rw [judge_gated g k hopen hreach halign hgated]
      rfl
    case isFalse hlive =>
    split at hx
    case isTrue hreset =>
      cases hx
      rw [judge_resetting g k hopen hreach halign hlive hreset]
      rfl
    case isFalse => cases hx

/-- An access that has no early status, to a register with no field for the role, is denied and counted. -/
theorem judge_of_noField (hopen : windowOpen s = true) (hearly : earlyStatus s r off wr = none) (hfield : anyField r off = false) :
    judge s r off 4 wr g k = roleDenied s r off := by
  obtain ⟨hreach, halign, hup, hgated, hreset⟩ := earlyStatus_eq_none_iff.1 hearly
  have hrole := kind_of_reaches s r off wr hreach
  simp [judge, roleDenied, hopen, hrole, hreach, halign, hup, hgated, hreset, hfield]

end

/-! ### A register read or write is one judged access -/

/-- A source's word stands at its place in the table of INC's sources (20 Table 20.6). -/
theorem srcReg_of_offset {off : Nat} (halign : off % 4 = 0) (hlo : pgInc + 0x400 ≤ off) : srcReg ((off - pgInc - 0x400) / 4) = off := by
  have hpage : pgInc % 4 = 0 := by decide
  unfold srcReg
  omega

/-- A write of an aligned word is judged before it does anything; the words whose guard depends on the value differ in the guard alone (05 R139, R147). -/
theorem writeWord_judge (s : State) (r : Role) {off : Nat} (v : Word) (kt : KtabRead) (wst : Status) (halign : off % 4 = 0) :
    ∃ g k, writeWord s r off v kt wst = judge s r off 4 true g k := by
  unfold writeWord
  split
  case isTrue hlc =>
    subst hlc
    unfold lcCtrlWrite
    split <;> exact ⟨_, _, rfl⟩
  case isFalse =>
  split
  case isTrue hotp =>
    subst hotp
    unfold otpCmdWrite
    dsimp only
    split <;> exact ⟨_, _, rfl⟩
  case isFalse =>
  split
  case isTrue hkvt =>
    subst hkvt
    exact ⟨_, kvtCmd_judge ..⟩
  case isFalse =>
  split
  case isTrue hjct =>
    subst hjct
    unfold jctCtrlWrite
    split <;> exact ⟨_, _, rfl⟩
  case isFalse =>
  split
  case isTrue hsrc =>
    obtain ⟨hlo, -⟩ := hsrc
    unfold writeIncSource
    rw [srcReg_of_offset halign hlo]
    split <;> exact ⟨_, _, rfl⟩
  case isFalse => split <;> exact ⟨_, _, rfl⟩

/-- A write of 32 bits is judged, at any offset. -/
theorem regWrite_judge (s : State) (r : Role) (off : Nat) (v : Word) (kt : KtabRead) (wst : Status) :
    ∃ g k, regWrite s r off 4 v kt wst = judge s r off 4 true g k := by
  unfold regWrite
  split
  case isTrue => exact ⟨_, _, rfl⟩
  case isFalse h => exact writeWord_judge s r v kt wst (by simpa using h)

/-- A read or write of 32 bits that keeps the handshake is judged, at any offset. -/
theorem exec_registerAccess_judge (r : Role) (off : BitVec 23) (wr : Bool) (v : Word) (kt : KtabRead) (wst : Status) (s : State) :
    ∃ g k, exec (if wr then .registerWrite r off 4 v kt wst false false else .registerRead r off 4 false) s =
      .next (judge s r off.toNat 4 wr g k) := by
  cases wr with
  | true =>
    obtain ⟨g, k, hwrite⟩ := regWrite_judge s r off.toNat v kt wst
    exact ⟨g, k, congrArg Host.Outcome.next hwrite⟩
  | false => exact ⟨none, doRead r off.toNat, rfl⟩

/-- Where no table places a register there is no field for any role. -/
theorem anyField_of_regAt_none (r : Role) {off : Nat} (h : regAt off = none) : anyField r off = false := by simp [anyField, h]

/-- Settles O8: every such command is one judged access, whose answer is its early status or else that of a register with no field for the role. -/
theorem offsetsWithoutARegister : Obligations.OffsetsWithoutARegister := by
  refine ⟨?_, ?_⟩
  · intro r off wr v kt wst c s hnone hc hopen
    obtain ⟨g, k, hexec⟩ := exec_registerAccess_judge r off wr v kt wst s
    rw [← hc] at hexec
    have hfield := anyField_of_regAt_none r hnone
    refine ⟨hfield, fun x hx => ⟨_, hexec, judge_out_of_earlyStatus g k hopen hx⟩, fun hearly => ⟨_, hexec, ?_⟩⟩
    rw [judge_of_noField g k hopen hearly hfield]
    exact roleDenied_effect s r off.toNat
  · intro c a s hacc hopen hreach halign hup hgated hreset hfield
    obtain ⟨k, hexec⟩ := access_judge c s a hacc
    have hearly : earlyStatus s a.role a.off a.wr = none :=
      earlyStatus_eq_none_iff.2 ⟨hreach, halign, hup, hgated, by simp [hreset]⟩
    rw [judge_of_noField _ k hopen hearly hfield] at hexec
    exact ⟨_, hexec, roleDenied_effect s a.role a.off⟩

end Sys2Proof.Machine
end
